-- ==== Sys2Proof/Word.lean ====
section
/-! DEFINITION. Sys2Proof/Word.lean: the word types of the A5 and their plainest arithmetic (R3, R10). -/

namespace Sys2Proof

/-- A byte of any memory (R4). -/
abbrev Byte := BitVec 8
/-- A scalar register or a 64-bit system register (R26, R32). -/
abbrev Word := BitVec 64
/-- A predicate: one bit per lane, lane 0 the least significant (R26, R123). -/
abbrev Lanes := BitVec 128
/-- A queue entry (R122). -/
abbrev Entry := BitVec 1024

end Sys2Proof
end

