-- ==== Sys2Proof/Config.lean ====
section
/-! DEFINITION. Sys2Proof/Config.lean: what the spec leaves to the part, and the values it leaves open. An opaque constant
has no body: no proof can see its value. -/

namespace Sys2Proof.Config

/-- Whether the translation unit still holds the entry that draw `n` looks for (R351 fixes its capacity and leaves open
what it replaces). -/
opaque stillCached (n : Nat) : Bool

/-- Which of several poisoned operands gives a sum its origin, by draw (R188 names one token's origin and not which). -/
opaque poisonPick (n : Nat) : Nat

/-- What a byte of another package holds when the front end reads it, by draw and address. -/
opaque remoteByte (n va : Nat) : Byte

/-- The SLH-DSA signature of an attestation report, made with a key that never leaves the package (R446). -/
opaque sign (report : List Byte) : List Byte

/-- The identity public key and its vendor certificate (R446). -/
opaque identity : List Byte

/-- An image that the vendor has signed with the key whose digest is fused (log entry 151). -/
opaque firmware : List Byte

/-- Whether another image, whose header gives key and signature, verifies (R444). -/
opaque verifiesToo (image : List Byte) : Bool

/-- R444: whether the signature of an image verifies. -/
def verifies (image : List Byte) : Bool := image == firmware || verifiesToo image

/-- The boot ROM version that MEAS0 starts with (R445). -/
opaque romVersion : List Byte

/-- The pseudo-channel of its stack that an HBM address lies in; R431 names the channels and gives no map. -/
opaque pseudoChannel (pa : Nat) : Nat

/-- Which of `n` live ports the adaptive tables choose, by draw (R422). -/
opaque spray (draw n : Nat) : Nat

/-- Where the up to four ports that a node's packets go by begin among the live ones; the adaptive tables' own (R422). -/
opaque pathSet (node : Nat) : Nat

/-- Whether a key that no node-map write has named stands in the routers' key tables; R435 does not say who installs a key. -/
opaque partitionKey (key : Nat) : Bool

/-- Whether an address lies in the recovery window that R444 names; the spec does not say where it lies. -/
opaque recoveryWindow (a : Nat) : Bool

/-- The units that a REINT BPT walk takes through an entry whose type has no BPT storage form: R157 names the plane count of the
type, and R285 gives this one none. -/
opaque strayPlanes (type : Nat) : Nat

end Sys2Proof.Config
end

