-- ==== Sys2Proof/Syntax.lean ====
section
/-! DEFINITION. Sys2Proof/Syntax.lean: the instructions and events of the A5, one constructor per row of
spec/opcode_table.json (R53, R58, R65-R69 for the words; 95_what_each_step_holds for the events). -/

namespace Sys2Proof

/-- Bits 23:19 of a control-core word (R53): S the rendezvous bit (R55), G the guard predicate, N its negation (R54). -/
structure Hdr where
  s : Bool
  g : BitVec 3
  n : Bool
  deriving DecidableEq, Repr

/-- Bits 22:19 of a word whose S bit is fixed: zero in a copy-engine or front-end word (R55), one in MODE (R173). -/
structure Grd where
  g : BitVec 3
  n : Bool
  deriving DecidableEq, Repr

/-- One constructor per row of the opcode table: the words of every engine, then the part's events.
Field letters are those of the table; `h` holds the guard bits and `t` (or `u`) a tile or channel handle. -/
inductive Instr where
  | nop (h : Hdr) -- NOP (R85)
  | endStream (h : Hdr) -- END (R86)
  | br (h : Hdr) (o : BitVec 19) -- BR (R90)
  | call (h : Hdr) (o : BitVec 19) -- CALL (R90)
  | ret (h : Hdr) -- RET (R90)
  | jmpr (h : Hdr) (d a : BitVec 5) -- JMPR (R90)
  | loop (h : Hdr) (c : BitVec 2) (l : BitVec 9) (x : BitVec 8) -- LOOP (R94)
  | loopx (h : Hdr) (c : BitVec 2) (l : BitVec 9) (x : BitVec 8) -- LOOPX (R94)
  | add (h : Hdr) (d a b : BitVec 5) -- ADD (R99)
  | addW (h : Hdr) (d a b : BitVec 5) -- ADD_W (R99)
  | sub (h : Hdr) (d a b : BitVec 5) -- SUB (R99)
  | subW (h : Hdr) (d a b : BitVec 5) -- SUB_W (R99)
  | addi (h : Hdr) (d a : BitVec 5) (i : BitVec 9) -- ADDI (R99)
  | lui (h : Hdr) (d : BitVec 5) (i : BitVec 14) -- LUI (R100)
  | li32 (h : Hdr) (d : BitVec 5) (i : BitVec 32) -- LI32 (R99)
  | and (h : Hdr) (d a b : BitVec 5) -- AND (R99)
  | or (h : Hdr) (d a b : BitVec 5) -- OR (R99)
  | xor (h : Hdr) (d a b : BitVec 5) -- XOR (R99)
  | andi (h : Hdr) (d a : BitVec 5) (i : BitVec 9) -- ANDI (R99)
  | ori (h : Hdr) (d a : BitVec 5) (i : BitVec 9) -- ORI (R99)
  | xori (h : Hdr) (d a : BitVec 5) (i : BitVec 9) -- XORI (R99)
  | shl (h : Hdr) (d a b : BitVec 5) -- SHL (R99)
  | shlW (h : Hdr) (d a b : BitVec 5) -- SHL_W (R99)
  | shr (h : Hdr) (d a b : BitVec 5) -- SHR (R99)
  | shrW (h : Hdr) (d a b : BitVec 5) -- SHR_W (R99)
  | sra (h : Hdr) (d a b : BitVec 5) -- SRA (R99)
  | sraW (h : Hdr) (d a b : BitVec 5) -- SRA_W (R99)
  | shli (h : Hdr) (d a : BitVec 5) (i : BitVec 6) -- SHLI (R99)
  | shri (h : Hdr) (d a : BitVec 5) (i : BitVec 6) -- SHRI (R99)
  | srai (h : Hdr) (d a : BitVec 5) (i : BitVec 6) -- SRAI (R99)
  | min (h : Hdr) (d a b : BitVec 5) -- MIN (R99)
  | minW (h : Hdr) (d a b : BitVec 5) -- MIN_W (R99)
  | max (h : Hdr) (d a b : BitVec 5) -- MAX (R99)
  | maxW (h : Hdr) (d a b : BitVec 5) -- MAX_W (R99)
  | minn (h : Hdr) (d a b : BitVec 5) -- MINN (R99)
  | minnW (h : Hdr) (d a b : BitVec 5) -- MINN_W (R99)
  | maxn (h : Hdr) (d a b : BitVec 5) -- MAXN (R99)
  | maxnW (h : Hdr) (d a b : BitVec 5) -- MAXN_W (R99)
  | sel (h : Hdr) (d a b : BitVec 5) (k : BitVec 3) -- SEL (R99)
  | mov (h : Hdr) (d a : BitVec 5) -- MOV (R99)
  | addsh (h : Hdr) (d a b : BitVec 5) (t : BitVec 4) -- ADDSH (R99)
  | agen2 (h : Hdr) (d a b : BitVec 5) -- AGEN2 (R101)
  | clz (h : Hdr) (d a : BitVec 5) -- CLZ (R99)
  | clzW (h : Hdr) (d a : BitVec 5) -- CLZ_W (R99)
  | popc (h : Hdr) (d a : BitVec 5) -- POPC (R99)
  | popcW (h : Hdr) (d a : BitVec 5) -- POPC_W (R99)
  | cmpEq (h : Hdr) (m : BitVec 2) (p : BitVec 3) (a b : BitVec 5) (e : BitVec 3) -- CMP_EQ (R103)
  | cmpNe (h : Hdr) (m : BitVec 2) (p : BitVec 3) (a b : BitVec 5) (e : BitVec 3) -- CMP_NE (R103)
  | cmpLt (h : Hdr) (m : BitVec 2) (p : BitVec 3) (a b : BitVec 5) (e : BitVec 3) -- CMP_LT (R103)
  | cmpGe (h : Hdr) (m : BitVec 2) (p : BitVec 3) (a b : BitVec 5) (e : BitVec 3) -- CMP_GE (R103)
  | cmpLtn (h : Hdr) (m : BitVec 2) (p : BitVec 3) (a b : BitVec 5) (e : BitVec 3) -- CMP_LTN (R103)
  | cmpGen (h : Hdr) (m : BitVec 2) (p : BitVec 3) (a b : BitVec 5) (e : BitVec 3) -- CMP_GEN (R103)
  | cmpTst (h : Hdr) (m : BitVec 2) (p : BitVec 3) (a b : BitVec 5) (e : BitVec 3) -- CMP_TST (R103)
  | cmpNtst (h : Hdr) (m : BitVec 2) (p : BitVec 3) (a b : BitVec 5) (e : BitVec 3) -- CMP_NTST (R103)
  | cmpiEq (h : Hdr) (m : BitVec 2) (p : BitVec 3) (a : BitVec 5) (i : BitVec 6) (e : BitVec 3) -- CMPI_EQ (R103)
  | cmpiNe (h : Hdr) (m : BitVec 2) (p : BitVec 3) (a : BitVec 5) (i : BitVec 6) (e : BitVec 3) -- CMPI_NE (R103)
  | cmpiLt (h : Hdr) (m : BitVec 2) (p : BitVec 3) (a : BitVec 5) (i : BitVec 6) (e : BitVec 3) -- CMPI_LT (R103)
  | cmpiGe (h : Hdr) (m : BitVec 2) (p : BitVec 3) (a : BitVec 5) (i : BitVec 6) (e : BitVec 3) -- CMPI_GE (R103)
  | cmpiLtn (h : Hdr) (m : BitVec 2) (p : BitVec 3) (a : BitVec 5) (i : BitVec 6) (e : BitVec 3) -- CMPI_LTN (R103)
  | cmpiGen (h : Hdr) (m : BitVec 2) (p : BitVec 3) (a : BitVec 5) (i : BitVec 6) (e : BitVec 3) -- CMPI_GEN (R103)
  | cmpiTst (h : Hdr) (m : BitVec 2) (p : BitVec 3) (a : BitVec 5) (i : BitVec 6) (e : BitVec 3) -- CMPI_TST (R103)
  | pand (h : Hdr) (p q r : BitVec 3) -- PAND (R104)
  | por (h : Hdr) (p q r : BitVec 3) -- POR (R104)
  | pxor (h : Hdr) (p q r : BitVec 3) -- PXOR (R104)
  | pnot (h : Hdr) (p q : BitVec 3) -- PNOT (R104)
  | pmov (h : Hdr) (p q : BitVec 3) -- PMOV (R104)
  | pandn (h : Hdr) (p q r : BitVec 3) -- PANDN (R104)
  | bfx (h : Hdr) (d a b : BitVec 5) -- BFX (R105)
  | bfxn (h : Hdr) (d a b : BitVec 5) -- BFXN (R105)
  | bfi (h : Hdr) (d a b : BitVec 5) -- BFI (R105)
  | fshr (h : Hdr) (d a b : BitVec 5) (r : Bool) (k : BitVec 6) -- FSHR (R106)
  | mul (h : Hdr) (d a b : BitVec 5) -- MUL (R107)
  | mulW (h : Hdr) (d a b : BitVec 5) -- MUL_W (R107)
  | mulh (h : Hdr) (d a b : BitVec 5) -- MULH (R107)
  | mulhn (h : Hdr) (d a b : BitVec 5) -- MULHN (R107)
  | div (h : Hdr) (d a b : BitVec 5) -- DIV (R107)
  | divW (h : Hdr) (d a b : BitVec 5) -- DIV_W (R107)
  | divn (h : Hdr) (d a b : BitVec 5) -- DIVN (R107)
  | divnW (h : Hdr) (d a b : BitVec 5) -- DIVN_W (R107)
  | rem (h : Hdr) (d a b : BitVec 5) -- REM (R107)
  | remW (h : Hdr) (d a b : BitVec 5) -- REM_W (R107)
  | remn (h : Hdr) (d a b : BitVec 5) -- REMN (R107)
  | remnW (h : Hdr) (d a b : BitVec 5) -- REMN_W (R107)
  | pfd (h : Hdr) (d a : BitVec 5) (i : BitVec 9) -- PFD (R79)
  | pfi (h : Hdr) (d a : BitVec 5) (i : BitVec 9) -- PFI (R79)
  | hint2 (h : Hdr) (d a b : BitVec 5) (f : BitVec 4) -- HINT2 (R79)
  | hint3 (h : Hdr) (d a b : BitVec 5) (f : BitVec 4) -- HINT3 (R79)
  | hint4 (h : Hdr) (d a b : BitVec 5) (f : BitVec 4) -- HINT4 (R79)
  | hint5 (h : Hdr) (d a b : BitVec 5) (f : BitVec 4) -- HINT5 (R79)
  | hint6 (h : Hdr) (d a b : BitVec 5) (f : BitVec 4) -- HINT6 (R79)
  | hint7 (h : Hdr) (d a b : BitVec 5) (f : BitVec 4) -- HINT7 (R79)
  | ldB (h : Hdr) (d a : BitVec 5) (i : BitVec 9) -- LD_B (R111)
  | ldBn (h : Hdr) (d a : BitVec 5) (i : BitVec 9) -- LD_BN (R111)
  | ldH (h : Hdr) (d a : BitVec 5) (i : BitVec 9) -- LD_H (R111)
  | ldHn (h : Hdr) (d a : BitVec 5) (i : BitVec 9) -- LD_HN (R111)
  | ldW (h : Hdr) (d a : BitVec 5) (i : BitVec 9) -- LD_W (R111)
  | ldWn (h : Hdr) (d a : BitVec 5) (i : BitVec 9) -- LD_WN (R111)
  | ldD (h : Hdr) (d a : BitVec 5) (i : BitVec 9) -- LD_D (R111)
  | stB (h : Hdr) (d a : BitVec 5) (i : BitVec 9) -- ST_B (R111)
  | stH (h : Hdr) (d a : BitVec 5) (i : BitVec 9) -- ST_H (R111)
  | stW (h : Hdr) (d a : BitVec 5) (i : BitVec 9) -- ST_W (R111)
  | stD (h : Hdr) (d a : BitVec 5) (i : BitVec 9) -- ST_D (R111)
  | ldaD (h : Hdr) (d a : BitVec 5) (i : BitVec 9) -- LDA_D (R117)
  | stlD (h : Hdr) (d a : BitVec 5) (i : BitVec 9) -- STL_D (R117)
  | getx (h : Hdr) (d : BitVec 5) (x : BitVec 14) -- GETX (R119)
  | setx (h : Hdr) (d : BitVec 5) (x : BitVec 14) -- SETX (R120)
  | vadd (h : Hdr) (d a b t : BitVec 4) (y x : Bool) -- VADD (R130)
  | vaddSat (h : Hdr) (d a b t : BitVec 4) (y x : Bool) -- VADD_SAT (R130)
  | vsub (h : Hdr) (d a b t : BitVec 4) (y x : Bool) -- VSUB (R130)
  | vsubSat (h : Hdr) (d a b t : BitVec 4) (y x : Bool) -- VSUB_SAT (R130)
  | vmul (h : Hdr) (d a b t : BitVec 4) (y x : Bool) -- VMUL (R130)
  | vmulHi (h : Hdr) (d a b t : BitVec 4) (y x : Bool) -- VMUL_HI (R130)
  | vfma (h : Hdr) (d a b t : BitVec 4) (y x : Bool) -- VFMA (R131)
  | vfms (h : Hdr) (d a b t : BitVec 4) (y x : Bool) -- VFMS (R131)
  | vfnma (h : Hdr) (d a b t : BitVec 4) (y x : Bool) -- VFNMA (R131)
  | vmin (h : Hdr) (d a b t : BitVec 4) (y x : Bool) -- VMIN (R130)
  | vmax (h : Hdr) (d a b t : BitVec 4) (y x : Bool) -- VMAX (R130)
  | vabs (h : Hdr) (d a t : BitVec 4) (x : Bool) -- VABS (R132)
  | vneg (h : Hdr) (d a t : BitVec 4) (x : Bool) -- VNEG (R132)
  | vcmpEq (h : Hdr) (k m : BitVec 2) (a b t : BitVec 4) (y x : Bool) -- VCMP_EQ (R136)
  | vcmpNe (h : Hdr) (k m : BitVec 2) (a b t : BitVec 4) (y x : Bool) -- VCMP_NE (R136)
  | vcmpLt (h : Hdr) (k m : BitVec 2) (a b t : BitVec 4) (y x : Bool) -- VCMP_LT (R136)
  | vcmpLe (h : Hdr) (k m : BitVec 2) (a b t : BitVec 4) (y x : Bool) -- VCMP_LE (R136)
  | vcmpGt (h : Hdr) (k m : BitVec 2) (a b t : BitVec 4) (y x : Bool) -- VCMP_GT (R136)
  | vcmpGe (h : Hdr) (k m : BitVec 2) (a b t : BitVec 4) (y x : Bool) -- VCMP_GE (R136)
  | vcmpUn (h : Hdr) (k m : BitVec 2) (a b t : BitVec 4) (y x : Bool) -- VCMP_UN (R136)
  | vcmpOrd (h : Hdr) (k m : BitVec 2) (a b t : BitVec 4) (y x : Bool) -- VCMP_ORD (R136)
  | vsel (h : Hdr) (d a b t : BitVec 4) (y x : Bool) -- VSEL (R137)
  | vcvt (h : Hdr) (d a v t : BitVec 4) (x : Bool) (f : BitVec 4) -- VCVT (R138)
  | vscl (h : Hdr) (d a b t : BitVec 4) (y x : Bool) -- VSCL (R133)
  | vsclS (h : Hdr) (d a k t : BitVec 4) (x : Bool) -- VSCL_S (R133)
  | vrcp (h : Hdr) (d a t : BitVec 4) (x : Bool) -- VRCP (R134)
  | vrsq (h : Hdr) (d a t : BitVec 4) (x : Bool) -- VRSQ (R134)
  | vredAdd (h : Hdr) (d a t : BitVec 4) (x : Bool) -- VRED_ADD (R139)
  | vredMin (h : Hdr) (d a t : BitVec 4) (x : Bool) -- VRED_MIN (R139)
  | vredMax (h : Hdr) (d a t : BitVec 4) (x : Bool) -- VRED_MAX (R139)
  | vredAnd (h : Hdr) (d a t : BitVec 4) (x : Bool) -- VRED_AND (R139)
  | vredOr (h : Hdr) (d a t : BitVec 4) (x : Bool) -- VRED_OR (R139)
  | vredXor (h : Hdr) (d a t : BitVec 4) (x : Bool) -- VRED_XOR (R139)
  | vpermIdx (h : Hdr) (d a b t : BitVec 4) (y x : Bool) -- VPERM_IDX (R140)
  | vpermRot (h : Hdr) (d a b t : BitVec 4) (y x : Bool) -- VPERM_ROT (R140)
  | vpermRev (h : Hdr) (d a t : BitVec 4) (x : Bool) -- VPERM_REV (R140)
  | vpermZip (h : Hdr) (d a b t : BitVec 4) (y x : Bool) -- VPERM_ZIP (R140)
  | vpermUnzip (h : Hdr) (d a b t : BitVec 4) (y x : Bool) -- VPERM_UNZIP (R140)
  | vbcast (h : Hdr) (d a b t : BitVec 4) (y x : Bool) -- VBCAST (R140)
  | vbcastS (h : Hdr) (d k t : BitVec 4) -- VBCAST_S (R140)
  | vlut (h : Hdr) (d a b t : BitVec 4) (y x : Bool) -- VLUT (R140)
  | vand (h : Hdr) (d a b t : BitVec 4) (y x : Bool) -- VAND (R135)
  | vor (h : Hdr) (d a b t : BitVec 4) (y x : Bool) -- VOR (R135)
  | vxor (h : Hdr) (d a b t : BitVec 4) (y x : Bool) -- VXOR (R135)
  | vshl (h : Hdr) (d a b t : BitVec 4) (y x : Bool) -- VSHL (R135)
  | vshr (h : Hdr) (d a b t : BitVec 4) (y x : Bool) -- VSHR (R135)
  | vshrA (h : Hdr) (d a b t : BitVec 4) (y x : Bool) -- VSHR_A (R135)
  | vmad (h : Hdr) (d a b t : BitVec 4) (y x : Bool) -- VMAD (R131)
  | vpopc (h : Hdr) (d a t : BitVec 4) (x : Bool) -- VPOPC (R135)
  | vmovq (h : Hdr) (d a t : BitVec 4) (x : Bool) -- VMOVQ (R135)
  | qrd (h : Hdr) (q : BitVec 4) (a : BitVec 5) (i : BitVec 9) -- QRD (R150)
  | qrdS (h : Hdr) (q : BitVec 4) (a b : BitVec 5) -- QRD_S (R150)
  | qwr (h : Hdr) (k : Bool) (q : BitVec 4) (a : BitVec 5) (i : BitVec 9) -- QWR (R150)
  | qwrS (h : Hdr) (k : Bool) (q : BitVec 4) (a b : BitVec 5) -- QWR_S (R150)
  | tdef (h : Hdr) (u : BitVec 6) (k : BitVec 5) (l : BitVec 2) (t : BitVec 5) (p : BitVec 16) -- TDEF (R154)
  | tfree (h : Hdr) (t : BitVec 6) -- TFREE (R154)
  | tmov (h : Hdr) (u : BitVec 6) (k : BitVec 5) (l : BitVec 2) (t : BitVec 5) -- TMOV (R159)
  | tmovK (h : Hdr) (u : BitVec 6) (k : BitVec 5) (l : BitVec 2) (t : BitVec 5) -- TMOV_K (R159)
  | tqryW0 (h : Hdr) (t : BitVec 6) (d : BitVec 5) -- TQRY_W0 (R154)
  | tqryW1 (h : Hdr) (t : BitVec 6) (d : BitVec 5) -- TQRY_W1 (R154)
  | cpl (h : Hdr) (t : BitVec 6) (k : BitVec 5) (r : Bool) (l : BitVec 2) -- CPL (R157)
  | cps (h : Hdr) (t : BitVec 6) (k : BitVec 5) (r : Bool) (l : BitVec 2) -- CPS (R157)
  | cpacc (h : Hdr) (d a b : BitVec 5) (o : BitVec 4) -- CPACC (R163)
  | cpaccr (h : Hdr) (d a : BitVec 5) (o : BitVec 4) -- CPACCR (R163)
  | cpcasW (h : Hdr) (d a b : BitVec 5) -- CPCAS_W (R163)
  | cpcasD (h : Hdr) (d a b : BitVec 5) -- CPCAS_D (R163)
  | cpmeta (h : Hdr) (t : BitVec 6) (k : BitVec 5) (o : BitVec 8) -- CPMETA (R160)
  | cpmc (h : Hdr) (t : BitVec 6) (k : BitVec 5) (m : BitVec 8) -- CPMC (R161)
  | resp (h : Hdr) (d : BitVec 5) -- RESP (R164)
  | respPk (h : Hdr) (d : BitVec 5) -- RESP_PK (R164)
  | chpush (h : Hdr) (t : BitVec 6) (k : BitVec 5) (y q : Bool) -- CHPUSH (R166)
  | chpop (h : Hdr) (t : BitVec 6) (k : BitVec 5) (q : Bool) -- CHPOP (R166)
  | chpopPk (h : Hdr) (t : BitVec 6) (k : BitVec 5) (q : Bool) -- CHPOP_PK (R166)
  | chqry (h : Hdr) (t : BitVec 6) (k : BitVec 5) -- CHQRY (R167)
  | tstep (h : Hdr) (t : BitVec 6) (k : BitVec 5) (e a : Bool) -- TSTEP (R186)
  | tstepSp (h : Hdr) (t : BitVec 6) (k : BitVec 5) (e a : Bool) -- TSTEP_SP (R189)
  | tcfg (h : Hdr) (m i : BitVec 4) -- TCFG (R195)
  | tswap (h : Hdr) (m : BitVec 4) -- TSWAP (R196)
  | tdrain (h : Hdr) (o : Bool) (m : BitVec 4) -- TDRAIN (R197)
  | tresumeRepl (h : Hdr) (a b : BitVec 5) -- TRESUME_REPL (R202)
  | tresumeDisc (h : Hdr) (a : BitVec 5) -- TRESUME_DISC (R202)
  | tresumeAbort (h : Hdr) (a : BitVec 5) -- TRESUME_ABORT (R202)
  | tcbk (h : Hdr) (t : BitVec 6) (k x : BitVec 5) -- TCBK (R205)
  | scaccRow (h : Hdr) (t : BitVec 6) (k : BitVec 5) (e : Bool) -- SCACC_ROW (R194)
  | scaccCol (h : Hdr) (t : BitVec 6) (k : BitVec 5) (e : Bool) -- SCACC_COL (R194)
  | scaccBlk (h : Hdr) (t : BitVec 6) (k : BitVec 5) (e : Bool) -- SCACC_BLK (R194)
  | tsoundOn (h : Hdr) -- TSOUND_ON (R206)
  | tsoundOff (h : Hdr) -- TSOUND_OFF (R206)
  | tsoundNow (h : Hdr) -- TSOUND_NOW (R206)
  | fenceAcq (h : Hdr) (e : BitVec 3) -- FENCE_ACQ (R168)
  | fenceRel (h : Hdr) (e : BitVec 3) -- FENCE_REL (R168)
  | fenceSc (h : Hdr) (e : BitVec 3) -- FENCE_SC (R168)
  | waitc (h : Hdr) (a b c d : BitVec 4) (e : BitVec 3) -- WAITC (R169)
  | gbar (h : Hdr) (m : BitVec 8) -- GBAR (R170)
  | gbarArr (h : Hdr) (m : BitVec 8) -- GBAR_ARR (R170)
  | signal (h : Hdr) (d a : BitVec 5) -- SIGNAL (R171)
  | signalW (h : Hdr) (d a : BitVec 5) -- SIGNAL_W (R171)
  | spawn (h : Hdr) (d a : BitVec 5) -- SPAWN (R172)
  | modeGuarded (h : Grd) -- MODE_GUARDED (R173)
  | modeExposed (h : Grd) -- MODE_EXPOSED (R173)
  | cairnSet (h : Hdr) (d a b : BitVec 5) -- CAIRN_SET (R175)
  | cairnRoll (h : Hdr) (a : BitVec 5) -- CAIRN_ROLL (R175)
  | cairnDrop (h : Hdr) (a : BitVec 5) -- CAIRN_DROP (R175)
  | lfdone (h : Hdr) (d : BitVec 5) -- LFDONE (R176)
  | trap (h : Hdr) (i : BitVec 14) -- TRAP (R235)
  | eret (h : Hdr) (k : Bool) -- ERET (R236)
  | bkpt (h : Hdr) (i : BitVec 14) -- BKPT (R235)
  | haltx (h : Hdr) (d : BitVec 5) -- HALTX (R235)
  | cpy1d (h : Grd) (d a b : BitVec 5) -- CPY_1D (R218)
  | cpy2d (h : Grd) (d a b c p : BitVec 5) -- CPY_2D (R218)
  | cpy3d (h : Grd) (d a b c p : BitVec 5) -- CPY_3D (R218)
  | zero (h : Grd) (d b c p : BitVec 5) -- ZERO (R219)
  | fill (h : Grd) (d a b : BitVec 5) (z : BitVec 2) (c p : BitVec 5) -- FILL (R219)
  | acc (h : Grd) (d a b : BitVec 5) (o : BitVec 4) -- ACC (R220)
  | accr (h : Grd) (d a b : BitVec 5) (o : BitVec 4) -- ACCR (R220)
  | casW (h : Grd) (d a b : BitVec 5) -- CAS_W (R220)
  | casD (h : Grd) (d a b : BitVec 5) -- CAS_D (R220)
  | gather (h : Grd) (d a b : BitVec 5) (z : BitVec 2) (x : Bool) (c : BitVec 5) -- GATHER (R221)
  | scatter (h : Grd) (d a b : BitVec 5) (z : BitVec 2) (x : Bool) (c : BitVec 5) -- SCATTER (R221)
  | mcast (h : Grd) (d a b : BitVec 5) (m : BitVec 8) -- MCAST (R222)
  | wake (h : Grd) (d a : BitVec 5) -- WAKE (R220)
  | seq (h : Grd) (d : BitVec 5) -- SEQ (R223)
  | link (h : Grd) (d : BitVec 5) (c : BitVec 17) -- LINK (R223)
  | pkgetW (h : Grd) (d : BitVec 5) (i : BitVec 14) -- PKGET_W (R225)
  | pkgetD (h : Grd) (d : BitVec 5) (i : BitVec 14) -- PKGET_D (R225)
  | shdr (h : Grd) (d : BitVec 5) (i : BitVec 14) -- SHDR (R225)
  | shdw (h : Grd) (d : BitVec 5) (i : BitVec 14) -- SHDW (R225)
  | emtask (h : Grd) (d a b : BitVec 5) -- EMTASK (R228)
  | emlaunch (h : Grd) (d a : BitVec 5) -- EMLAUNCH (R373)
  | emlaunchCfg (h : Grd) (d a b : BitVec 5) -- EMLAUNCH_CFG (R376)
  | sigwaitLe (h : Grd) (d a : BitVec 5) -- SIGWAIT_LE (R229)
  | sigwaitLt (h : Grd) (d a : BitVec 5) -- SIGWAIT_LT (R229)
  | sigwaitEq (h : Grd) (d a : BitVec 5) -- SIGWAIT_EQ (R229)
  | sigwaitNe (h : Grd) (d a : BitVec 5) -- SIGWAIT_NE (R229)
  | delta (h : Grd) (d a b : BitVec 5) -- DELTA (R226)
  | abortPkt (h : Grd) -- ABORT_PKT (R230)
  | abortQueue (h : Grd) -- ABORT_QUEUE (R390)
  | complete (h : Grd) (d a b : BitVec 5) -- COMPLETE (R230)
  | barrier  -- BARRIER (R230)
  | bundleIssue  -- BUNDLE_ISSUE (R241)
  | queueWaitTimeout  -- QUEUE_WAIT_TIMEOUT (R251)
  | loadDataReturn  -- LOAD_DATA_RETURN (R116)
  | storePerformed  -- STORE_PERFORMED (R115)
  | qrdLanding  -- QRD_LANDING (R150)
  | lateAccessRefusal  -- LATE_ACCESS_REFUSAL (R454)
  | waitcComplete  -- WAITC_COMPLETE (R169)
  | fenceComplete  -- FENCE_COMPLETE (R168)
  | modeDrainDone  -- MODE_DRAIN_DONE (R258)
  | gbarPhaseComplete  -- GBAR_PHASE_COMPLETE (R170)
  | taskEndDrained  -- TASK_END_DRAINED (R383)
  | copyStart  -- COPY_START (R144)
  | copyGranule  -- COPY_GRANULE (R158)
  | copyComplete  -- COPY_COMPLETE (R146)
  | copyTranslationFault  -- COPY_TRANSLATION_FAULT (R354)
  | slotTranslationFault  -- SLOT_TRANSLATION_FAULT (R356)
  | chainRegister  -- CHAIN_REGISTER (R211)
  | chainEntryRead  -- CHAIN_ENTRY_READ (R212)
  | chainCommandComplete  -- CHAIN_COMMAND_COMPLETE (R213)
  | taskCancelAtHead  -- TASK_CANCEL_AT_HEAD (R380)
  | bindFresh  -- BIND_FRESH (R383)
  | bindRestore  -- BIND_RESTORE (R388)
  | bindPreempt  -- BIND_PREEMPT (R383)
  | slotStopped  -- SLOT_STOPPED (R383)
  | slotSaveDone  -- SLOT_SAVE_DONE (R383)
  | tenantScrub  -- TENANT_SCRUB (R391)
  | stepArm  -- STEP_ARM (R188)
  | stepRowWritten  -- STEP_ROW_WRITTEN (R190)
  | stepComplete  -- STEP_COMPLETE (R190)
  | scaccDone  -- SCACC_DONE (R179)
  | tcfgLoadDone  -- TCFG_LOAD_DONE (R195)
  | segmentSwitch  -- SEGMENT_SWITCH (R196)
  | drainEmpty  -- DRAIN_EMPTY (R198)
  | siteFire  -- SITE_FIRE (R298)
  | collarTrapDelivery  -- COLLAR_TRAP_DELIVERY (R292)
  | hardwareRollback  -- HARDWARE_ROLLBACK (R310)
  | channelPark  -- CHANNEL_PARK (R404)
  | channelWake  -- CHANNEL_WAKE (R404)
  | sumpRefill  -- SUMP_REFILL (R402)
  | sumpGrant  -- SUMP_GRANT (R407)
  | sumpDecline  -- SUMP_DECLINE (R407)
  | sumpSpillFault  -- SUMP_SPILL_FAULT (R408)
  | deadlockScan  -- DEADLOCK_SCAN (R406)
  | landfall  -- LANDFALL (R413)
  | deadlineHardStop  -- DEADLINE_HARD_STOP (R416)
  | packetStart  -- PACKET_START (R369)
  | packetBudget  -- PACKET_BUDGET (R224)
  | sigwaitReread  -- SIGWAIT_REREAD (R229)
  | emlaunchGroupsFree  -- EMLAUNCH_GROUPS_FREE (R373)
  | cfgTrapTimeout  -- CFG_TRAP_TIMEOUT (R376)
  | launchRetire  -- LAUNCH_RETIRE (R385)
  | packetRetire  -- PACKET_RETIRE (R359)
  | hostWrite  -- HOST_WRITE (R438)
  | hostRead  -- HOST_READ (R438)
  | hostTail  -- HOST_TAIL (R368)
  | hostAck  -- HOST_ACK (R439)
  | hostFaultRetry  -- HOST_FAULT_RETRY (R441)
  | hostFaultAbort  -- HOST_FAULT_ABORT (R441)
  | hostRetransmit  -- HOST_RETRANSMIT (R439)
  | hostLinkLoss  -- HOST_LINK_LOSS (R439)
  | hostLinkUp  -- HOST_LINK_UP (R439)
  | mgmtStatus  -- MGMT_STATUS (R443)
  | mgmtQdesc  -- MGMT_QDESC (R367)
  | mgmtQprog  -- MGMT_QPROG (R371)
  | mgmtQtear  -- MGMT_QTEAR (R390)
  | mgmtChopen  -- MGMT_CHOPEN (R400)
  | mgmtChclose  -- MGMT_CHCLOSE (R400)
  | mgmtNodemap  -- MGMT_NODEMAP (R419)
  | mgmtTxinv  -- MGMT_TXINV (R352)
  | mgmtPtpdom  -- MGMT_PTPDOM (R411)
  | mgmtCounters  -- MGMT_COUNTERS (R423)
  | mgmtLinktrain  -- MGMT_LINKTRAIN (R434)
  | mgmtFence  -- MGMT_FENCE (R435)
  | mgmtAttest  -- MGMT_ATTEST (R446)
  | mgmtBaseimg  -- MGMT_BASEIMG (R445)
  | mgmtPower  -- MGMT_POWER (R447)
  | mgmtSensors  -- MGMT_SENSORS (R442)
  | txinvPages  -- TXINV_PAGES (R352)
  | txinvChart  -- TXINV_CHART (R352)
  | txinvAsid  -- TXINV_ASID (R352)
  | txinvAll  -- TXINV_ALL (R352)
  | txinvDone  -- TXINV_DONE (R352)
  | registerWrite  -- REGISTER_WRITE (R36)
  | ptpMessage  -- PTP_MESSAGE (R411)
  | ptpHoldover  -- PTP_HOLDOVER (R411)
  | remotePacketArrival  -- REMOTE_PACKET_ARRIVAL (R422)
  | remoteAckArrival  -- REMOTE_ACK_ARRIVAL (R422)
  | remoteResendTimeout  -- REMOTE_RESEND_TIMEOUT (R422)
  | remoteRefusal  -- REMOTE_REFUSAL (R435)
  | destinationUnreachable  -- DESTINATION_UNREACHABLE (R436)
  | flitCrcRetry  -- FLIT_CRC_RETRY (R433)
  | linkLossOfLock  -- LINK_LOSS_OF_LOCK (R433)
  | linkFlitErrorRate  -- LINK_FLIT_ERROR_RATE (R433)
  | linkRemoved  -- LINK_REMOVED (R423)
  | correctedError  -- CORRECTED_ERROR (R426)
  | uncorrectableError  -- UNCORRECTABLE_ERROR (R428)
  | backgroundScrub  -- BACKGROUND_SCRUB (R429)
  | channelRemap  -- CHANNEL_REMAP (R431)
  | tileRetire  -- TILE_RETIRE (R430)
  | throttleStep  -- THROTTLE_STEP (R450)
  | carrierThrottle  -- CARRIER_THROTTLE (R450)
  | thermalTrip  -- THERMAL_TRIP (R451)
  | coldReset  -- COLD_RESET (R452)
  | illegalWord  -- ILLEGAL_WORD (R73)
  | resultLands  -- RESULT_LANDS (R125)
  | stepPreloadDone  -- STEP_PRELOAD_DONE (R190)
  | stepRowEnters  -- STEP_ROW_ENTERS (R188)
  | spareTakeoverDone  -- SPARE_TAKEOVER_DONE (R430)
  | linkTrained  -- LINK_TRAINED (R434)
  | railOutOfRange  -- RAIL_OUT_OF_RANGE (R426)
  deriving DecidableEq, Repr

end Sys2Proof
end

