-- ==== Sys2Proof/WellFormed.lean ====
section
/-! DEFINITION. Sys2Proof/WellFormed.lean: which operand values the spec makes an instruction of (R59, R60, R71 and the
pages' illegal combinations); every other value of a field is an illegal word. -/

namespace Sys2Proof

/-- The three float types of F-Q (R60, R129). -/
def vecF (t : BitVec 4) : Bool := decide (t.toNat ≤ 2)
/-- The six integer types of F-Q (R60, R129). -/
def vecI (t : BitVec 4) : Bool := decide (4 ≤ t.toNat) && decide (t.toNat ≤ 9)
/-- The MASK type (R60). -/
def vecMask (t : BitVec 4) : Bool := t == 10#4
/-- The narrow type, legal only in VCVT (R60). -/
def vecNF (t : BitVec 4) : Bool := t == 3#4

/-- R138: neither type MASK or reserved, at most one narrow, and no format register without a narrow type. -/
def vcvtOk (v t f : BitVec 4) : Bool :=
  (vecF v || vecI v || vecNF v) && (vecF t || vecI t || vecNF t) && !(vecNF v && vecNF t) &&
    (vecNF v || vecNF t || f == 0#4)

/-- R92: with CSRC = 1, bits 6:5 of the count field are zero. -/
def loopCountOk (x : BitVec 8) : Bool := decide (x.toNat < 128) || decide (x.toNat < 160)

/-- R156, R217: a register that opens a pair has an even number. -/
def evenReg (k : BitVec 5) : Bool := k.toNat % 2 == 0

/-- R32: the listed system-register indices. -/
def sysReadable (x : Nat) : Bool :=
  decide (x ≤ 6) || (decide (8 ≤ x) && decide (x ≤ 0x0B)) || (decide (0x10 ≤ x) && decide (x ≤ 0x22)) ||
    (decide (0x40 ≤ x) && decide (x ≤ 0x7F))

/-- R32: the indices of the registers SETX may write. -/
def sysWritable (x : Nat) : Bool :=
  x == 1 || (decide (0x10 ≤ x) && decide (x ≤ 0x1F)) || (decide (0x40 ≤ x) && decide (x ≤ 0x7F))

/-- Every operand lies in its field's legal range. Events are not words and have no encoding to be illegal. -/
def Instr.wf : Instr → Bool
  | .nop _ => true
  | .endStream _ => true
  | .br _ _ => true
  | .call _ _ => true
  | .ret _ => true
  | .jmpr _ _ _ => true
  | .loop _ _ l x => l != 0 && loopCountOk x
  | .loopx _ _ l x => l != 0 && loopCountOk x
  | .add _ _ _ _ => true
  | .addW _ _ _ _ => true
  | .sub _ _ _ _ => true
  | .subW _ _ _ _ => true
  | .addi _ _ _ _ => true
  | .lui _ _ _ => true
  | .li32 _ _ _ => true
  | .and _ _ _ _ => true
  | .or _ _ _ _ => true
  | .xor _ _ _ _ => true
  | .andi _ _ _ _ => true
  | .ori _ _ _ _ => true
  | .xori _ _ _ _ => true
  | .shl _ _ _ _ => true
  | .shlW _ _ _ _ => true
  | .shr _ _ _ _ => true
  | .shrW _ _ _ _ => true
  | .sra _ _ _ _ => true
  | .sraW _ _ _ _ => true
  | .shli _ _ _ _ => true
  | .shri _ _ _ _ => true
  | .srai _ _ _ _ => true
  | .min _ _ _ _ => true
  | .minW _ _ _ _ => true
  | .max _ _ _ _ => true
  | .maxW _ _ _ _ => true
  | .minn _ _ _ _ => true
  | .minnW _ _ _ _ => true
  | .maxn _ _ _ _ => true
  | .maxnW _ _ _ _ => true
  | .sel _ _ _ _ _ => true
  | .mov _ _ _ => true
  | .addsh _ _ _ _ _ => true
  | .agen2 _ _ _ _ => true
  | .clz _ _ _ => true
  | .clzW _ _ _ => true
  | .popc _ _ _ => true
  | .popcW _ _ _ => true
  | .cmpEq _ _ _ _ _ _ => true
  | .cmpNe _ _ _ _ _ _ => true
  | .cmpLt _ _ _ _ _ _ => true
  | .cmpGe _ _ _ _ _ _ => true
  | .cmpLtn _ _ _ _ _ _ => true
  | .cmpGen _ _ _ _ _ _ => true
  | .cmpTst _ _ _ _ _ _ => true
  | .cmpNtst _ _ _ _ _ _ => true
  | .cmpiEq _ _ _ _ _ _ => true
  | .cmpiNe _ _ _ _ _ _ => true
  | .cmpiLt _ _ _ _ _ _ => true
  | .cmpiGe _ _ _ _ _ _ => true
  | .cmpiLtn _ _ _ _ _ _ => true
  | .cmpiGen _ _ _ _ _ _ => true
  | .cmpiTst _ _ _ _ _ _ => true
  | .pand _ _ _ _ => true
  | .por _ _ _ _ => true
  | .pxor _ _ _ _ => true
  | .pnot _ _ _ => true
  | .pmov _ _ _ => true
  | .pandn _ _ _ _ => true
  | .bfx _ _ _ _ => true
  | .bfxn _ _ _ _ => true
  | .bfi _ _ _ _ => true
  | .fshr _ _ _ _ r k => !r || decide (k.toNat < 32)
  | .mul _ _ _ _ => true
  | .mulW _ _ _ _ => true
  | .mulh _ _ _ _ => true
  | .mulhn _ _ _ _ => true
  | .div _ _ _ _ => true
  | .divW _ _ _ _ => true
  | .divn _ _ _ _ => true
  | .divnW _ _ _ _ => true
  | .rem _ _ _ _ => true
  | .remW _ _ _ _ => true
  | .remn _ _ _ _ => true
  | .remnW _ _ _ _ => true
  | .pfd _ _ _ _ => true
  | .pfi _ _ _ _ => true
  | .hint2 _ _ _ _ _ => true
  | .hint3 _ _ _ _ _ => true
  | .hint4 _ _ _ _ _ => true
  | .hint5 _ _ _ _ _ => true
  | .hint6 _ _ _ _ _ => true
  | .hint7 _ _ _ _ _ => true
  | .ldB _ _ _ _ => true
  | .ldBn _ _ _ _ => true
  | .ldH _ _ _ _ => true
  | .ldHn _ _ _ _ => true
  | .ldW _ _ _ _ => true
  | .ldWn _ _ _ _ => true
  | .ldD _ _ _ _ => true
  | .stB _ _ _ _ => true
  | .stH _ _ _ _ => true
  | .stW _ _ _ _ => true
  | .stD _ _ _ _ => true
  | .ldaD _ _ _ _ => true
  | .stlD _ _ _ _ => true
  | .getx _ _ x => sysReadable x.toNat
  | .setx _ _ x => sysWritable x.toNat
  | .vadd _ _ _ _ t _ _ => vecF t || vecI t
  | .vaddSat _ _ _ _ t _ _ => vecI t
  | .vsub _ _ _ _ t _ _ => vecF t || vecI t
  | .vsubSat _ _ _ _ t _ _ => vecI t
  | .vmul _ _ _ _ t _ _ => vecF t || vecI t
  | .vmulHi _ _ _ _ t _ _ => vecI t
  | .vfma _ _ _ _ t _ _ => vecF t
  | .vfms _ _ _ _ t _ _ => vecF t
  | .vfnma _ _ _ _ t _ _ => vecF t
  | .vmin _ _ _ _ t _ _ => vecF t || vecI t
  | .vmax _ _ _ _ t _ _ => vecF t || vecI t
  | .vabs _ _ _ t _ => vecF t || vecI t
  | .vneg _ _ _ t _ => vecF t || vecI t
  | .vcmpEq _ _ _ _ _ t _ _ => vecF t || vecI t
  | .vcmpNe _ _ _ _ _ t _ _ => vecF t || vecI t
  | .vcmpLt _ _ _ _ _ t _ _ => vecF t || vecI t
  | .vcmpLe _ _ _ _ _ t _ _ => vecF t || vecI t
  | .vcmpGt _ _ _ _ _ t _ _ => vecF t || vecI t
  | .vcmpGe _ _ _ _ _ t _ _ => vecF t || vecI t
  | .vcmpUn _ _ _ _ _ t _ _ => vecF t
  | .vcmpOrd _ _ _ _ _ t _ _ => vecF t
  | .vsel _ _ _ _ t _ _ => vecF t || vecI t || vecMask t
  | .vcvt _ _ _ v t _ f => vcvtOk v t f
  | .vscl _ _ _ _ t _ _ => vecF t
  | .vsclS _ _ _ _ t _ => vecF t
  | .vrcp _ _ _ t _ => vecF t
  | .vrsq _ _ _ t _ => vecF t
  | .vredAdd _ _ _ t _ => vecF t || vecI t
  | .vredMin _ _ _ t _ => vecF t || vecI t
  | .vredMax _ _ _ t _ => vecF t || vecI t
  | .vredAnd _ _ _ t _ => vecI t
  | .vredOr _ _ _ t _ => vecI t
  | .vredXor _ _ _ t _ => vecI t
  | .vpermIdx _ _ _ _ t _ _ => vecF t || vecI t
  | .vpermRot _ _ _ _ t _ _ => vecF t || vecI t
  | .vpermRev _ _ _ t _ => vecF t || vecI t
  | .vpermZip _ _ _ _ t _ _ => vecF t || vecI t
  | .vpermUnzip _ _ _ _ t _ _ => vecF t || vecI t
  | .vbcast _ _ _ _ t _ _ => vecF t || vecI t
  | .vbcastS _ _ _ t => vecF t || vecI t
  | .vlut _ _ _ _ t _ _ => vecF t || vecI t
  | .vand _ _ _ _ t _ _ => vecF t || vecI t || vecMask t
  | .vor _ _ _ _ t _ _ => vecF t || vecI t || vecMask t
  | .vxor _ _ _ _ t _ _ => vecF t || vecI t || vecMask t
  | .vshl _ _ _ _ t _ _ => vecI t
  | .vshr _ _ _ _ t _ _ => vecI t
  | .vshrA _ _ _ _ t _ _ => vecI t
  | .vmad _ _ _ _ t _ _ => vecI t
  | .vpopc _ _ _ t _ => vecI t
  | .vmovq _ _ _ t _ => vecF t || vecI t || vecMask t
  | .qrd _ _ _ _ => true
  | .qrdS _ _ _ _ => true
  | .qwr _ _ _ _ _ => true
  | .qwrS _ _ _ _ _ => true
  | .tdef _ _ _ _ _ _ => true
  | .tfree _ _ => true
  | .tmov _ _ k _ t => evenReg k && decide (t.toNat ≤ 24)
  | .tmovK _ _ k _ t => evenReg k && decide (t.toNat ≤ 24)
  | .tqryW0 _ _ _ => true
  | .tqryW1 _ _ _ => true
  | .cpl _ _ k _ _ => evenReg k
  | .cps _ _ k _ _ => evenReg k
  | .cpacc _ _ _ _ o => decide (o.toNat ≤ 12)
  | .cpaccr _ _ _ o => decide (o.toNat ≤ 12)
  | .cpcasW _ _ _ _ => true
  | .cpcasD _ _ _ _ => true
  | .cpmeta _ _ _ _ => true
  | .cpmc _ _ k _ => evenReg k
  | .resp _ _ => true
  | .respPk _ _ => true
  | .chpush _ _ k y q => if q then decide (k.toNat ≤ 15) else !y
  | .chpop _ _ k q => !q || decide (k.toNat ≤ 15)
  | .chpopPk _ _ k q => !q || decide (k.toNat ≤ 15)
  | .chqry _ _ _ => true
  | .tstep _ _ _ _ _ => true
  | .tstepSp _ _ _ _ _ => true
  | .tcfg _ m _ => m != 0
  | .tswap _ m => m != 0
  | .tdrain _ _ m => m != 0
  | .tresumeRepl _ _ _ => true
  | .tresumeDisc _ _ => true
  | .tresumeAbort _ _ => true
  | .tcbk _ _ _ x => decide (x.toNat < 24)
  | .scaccRow _ _ _ _ => true
  | .scaccCol _ _ _ _ => true
  | .scaccBlk _ _ _ _ => true
  | .tsoundOn _ => true
  | .tsoundOff _ => true
  | .tsoundNow _ => true
  | .fenceAcq _ e => decide (e.toNat ≤ 6)
  | .fenceRel _ e => decide (e.toNat ≤ 6)
  | .fenceSc _ e => decide (e.toNat ≤ 6)
  | .waitc _ _ _ _ _ e => decide (e.toNat ≤ 6)
  | .gbar _ _ => true
  | .gbarArr _ _ => true
  | .signal _ _ _ => true
  | .signalW _ _ _ => true
  | .spawn _ _ _ => true
  | .modeGuarded _ => true
  | .modeExposed _ => true
  | .cairnSet _ _ _ _ => true
  | .cairnRoll _ _ => true
  | .cairnDrop _ _ => true
  | .lfdone _ _ => true
  | .trap _ _ => true
  | .eret _ _ => true
  | .bkpt _ _ => true
  | .haltx _ _ => true
  | .cpy1d _ _ _ _ => true
  | .cpy2d _ _ _ _ _ _ => true
  | .cpy3d _ _ _ _ _ p => evenReg p
  | .zero _ _ _ _ _ => true
  | .fill _ _ _ _ _ _ _ => true
  | .acc _ _ _ _ o => decide (o.toNat ≤ 12)
  | .accr _ _ _ _ o => decide (o.toNat ≤ 12)
  | .casW _ _ _ _ => true
  | .casD _ _ _ _ => true
  | .gather _ _ _ _ _ _ _ => true
  | .scatter _ _ _ _ _ _ _ => true
  | .mcast _ _ _ _ _ => true
  | .wake _ _ _ => true
  | .seq _ _ => true
  | .link _ _ _ => true
  | .pkgetW _ _ _ => true
  | .pkgetD _ _ _ => true
  | .shdr _ _ _ => true
  | .shdw _ _ _ => true
  | .emtask _ _ _ _ => true
  | .emlaunch _ _ _ => true
  | .emlaunchCfg _ _ _ _ => true
  | .sigwaitLe _ _ _ => true
  | .sigwaitLt _ _ _ => true
  | .sigwaitEq _ _ _ => true
  | .sigwaitNe _ _ _ => true
  | .delta _ _ _ _ => true
  | .abortPkt _ => true
  | .abortQueue _ => true
  | .complete _ _ _ _ => true
  | .barrier => true
  | .bundleIssue => true
  | .queueWaitTimeout => true
  | .loadDataReturn => true
  | .storePerformed => true
  | .qrdLanding => true
  | .lateAccessRefusal => true
  | .waitcComplete => true
  | .fenceComplete => true
  | .modeDrainDone => true
  | .gbarPhaseComplete => true
  | .taskEndDrained => true
  | .copyStart => true
  | .copyGranule => true
  | .copyComplete => true
  | .copyTranslationFault => true
  | .slotTranslationFault => true
  | .chainRegister => true
  | .chainEntryRead => true
  | .chainCommandComplete => true
  | .taskCancelAtHead => true
  | .bindFresh => true
  | .bindRestore => true
  | .bindPreempt => true
  | .slotStopped => true
  | .slotSaveDone => true
  | .tenantScrub => true
  | .stepArm => true
  | .stepRowWritten => true
  | .stepComplete => true
  | .scaccDone => true
  | .tcfgLoadDone => true
  | .segmentSwitch => true
  | .drainEmpty => true
  | .siteFire => true
  | .collarTrapDelivery => true
  | .hardwareRollback => true
  | .channelPark => true
  | .channelWake => true
  | .sumpRefill => true
  | .sumpGrant => true
  | .sumpDecline => true
  | .sumpSpillFault => true
  | .deadlockScan => true
  | .landfall => true
  | .deadlineHardStop => true
  | .packetStart => true
  | .packetBudget => true
  | .sigwaitReread => true
  | .emlaunchGroupsFree => true
  | .cfgTrapTimeout => true
  | .launchRetire => true
  | .packetRetire => true
  | .hostWrite => true
  | .hostRead => true
  | .hostTail => true
  | .hostAck => true
  | .hostFaultRetry => true
  | .hostFaultAbort => true
  | .hostRetransmit => true
  | .hostLinkLoss => true
  | .hostLinkUp => true
  | .mgmtStatus => true
  | .mgmtQdesc => true
  | .mgmtQprog => true
  | .mgmtQtear => true
  | .mgmtChopen => true
  | .mgmtChclose => true
  | .mgmtNodemap => true
  | .mgmtTxinv => true
  | .mgmtPtpdom => true
  | .mgmtCounters => true
  | .mgmtLinktrain => true
  | .mgmtFence => true
  | .mgmtAttest => true
  | .mgmtBaseimg => true
  | .mgmtPower => true
  | .mgmtSensors => true
  | .txinvPages => true
  | .txinvChart => true
  | .txinvAsid => true
  | .txinvAll => true
  | .txinvDone => true
  | .registerWrite => true
  | .ptpMessage => true
  | .ptpHoldover => true
  | .remotePacketArrival => true
  | .remoteAckArrival => true
  | .remoteResendTimeout => true
  | .remoteRefusal => true
  | .destinationUnreachable => true
  | .flitCrcRetry => true
  | .linkLossOfLock => true
  | .linkFlitErrorRate => true
  | .linkRemoved => true
  | .correctedError => true
  | .uncorrectableError => true
  | .backgroundScrub => true
  | .channelRemap => true
  | .tileRetire => true
  | .throttleStep => true
  | .carrierThrottle => true
  | .thermalTrip => true
  | .coldReset => true
  | .illegalWord => true
  | .resultLands => true
  | .stepPreloadDone => true
  | .stepRowEnters => true
  | .spareTakeoverDone => true
  | .linkTrained => true
  | .railOutOfRange => true

/-- R143: the words only the M stream may fetch. -/
def Instr.mStreamOnly : Instr → Bool
  | .nop _ => false
  | .endStream _ => false
  | .br _ _ => false
  | .call _ _ => false
  | .ret _ => false
  | .jmpr _ _ _ => false
  | .loop _ _ _ _ => false
  | .loopx _ _ _ _ => false
  | .add _ _ _ _ => false
  | .addW _ _ _ _ => false
  | .sub _ _ _ _ => false
  | .subW _ _ _ _ => false
  | .addi _ _ _ _ => false
  | .lui _ _ _ => false
  | .li32 _ _ _ => false
  | .and _ _ _ _ => false
  | .or _ _ _ _ => false
  | .xor _ _ _ _ => false
  | .andi _ _ _ _ => false
  | .ori _ _ _ _ => false
  | .xori _ _ _ _ => false
  | .shl _ _ _ _ => false
  | .shlW _ _ _ _ => false
  | .shr _ _ _ _ => false
  | .shrW _ _ _ _ => false
  | .sra _ _ _ _ => false
  | .sraW _ _ _ _ => false
  | .shli _ _ _ _ => false
  | .shri _ _ _ _ => false
  | .srai _ _ _ _ => false
  | .min _ _ _ _ => false
  | .minW _ _ _ _ => false
  | .max _ _ _ _ => false
  | .maxW _ _ _ _ => false
  | .minn _ _ _ _ => false
  | .minnW _ _ _ _ => false
  | .maxn _ _ _ _ => false
  | .maxnW _ _ _ _ => false
  | .sel _ _ _ _ _ => false
  | .mov _ _ _ => false
  | .addsh _ _ _ _ _ => false
  | .agen2 _ _ _ _ => false
  | .clz _ _ _ => false
  | .clzW _ _ _ => false
  | .popc _ _ _ => false
  | .popcW _ _ _ => false
  | .cmpEq _ _ _ _ _ _ => false
  | .cmpNe _ _ _ _ _ _ => false
  | .cmpLt _ _ _ _ _ _ => false
  | .cmpGe _ _ _ _ _ _ => false
  | .cmpLtn _ _ _ _ _ _ => false
  | .cmpGen _ _ _ _ _ _ => false
  | .cmpTst _ _ _ _ _ _ => false
  | .cmpNtst _ _ _ _ _ _ => false
  | .cmpiEq _ _ _ _ _ _ => false
  | .cmpiNe _ _ _ _ _ _ => false
  | .cmpiLt _ _ _ _ _ _ => false
  | .cmpiGe _ _ _ _ _ _ => false
  | .cmpiLtn _ _ _ _ _ _ => false
  | .cmpiGen _ _ _ _ _ _ => false
  | .cmpiTst _ _ _ _ _ _ => false
  | .pand _ _ _ _ => false
  | .por _ _ _ _ => false
  | .pxor _ _ _ _ => false
  | .pnot _ _ _ => false
  | .pmov _ _ _ => false
  | .pandn _ _ _ _ => false
  | .bfx _ _ _ _ => false
  | .bfxn _ _ _ _ => false
  | .bfi _ _ _ _ => false
  | .fshr _ _ _ _ _ _ => false
  | .mul _ _ _ _ => false
  | .mulW _ _ _ _ => false
  | .mulh _ _ _ _ => false
  | .mulhn _ _ _ _ => false
  | .div _ _ _ _ => false
  | .divW _ _ _ _ => false
  | .divn _ _ _ _ => false
  | .divnW _ _ _ _ => false
  | .rem _ _ _ _ => false
  | .remW _ _ _ _ => false
  | .remn _ _ _ _ => false
  | .remnW _ _ _ _ => false
  | .pfd _ _ _ _ => false
  | .pfi _ _ _ _ => false
  | .hint2 _ _ _ _ _ => false
  | .hint3 _ _ _ _ _ => false
  | .hint4 _ _ _ _ _ => false
  | .hint5 _ _ _ _ _ => false
  | .hint6 _ _ _ _ _ => false
  | .hint7 _ _ _ _ _ => false
  | .ldB _ _ _ _ => false
  | .ldBn _ _ _ _ => false
  | .ldH _ _ _ _ => false
  | .ldHn _ _ _ _ => false
  | .ldW _ _ _ _ => false
  | .ldWn _ _ _ _ => false
  | .ldD _ _ _ _ => false
  | .stB _ _ _ _ => false
  | .stH _ _ _ _ => false
  | .stW _ _ _ _ => false
  | .stD _ _ _ _ => false
  | .ldaD _ _ _ _ => false
  | .stlD _ _ _ _ => false
  | .getx _ _ _ => false
  | .setx _ _ _ => false
  | .vadd _ _ _ _ _ _ _ => false
  | .vaddSat _ _ _ _ _ _ _ => false
  | .vsub _ _ _ _ _ _ _ => false
  | .vsubSat _ _ _ _ _ _ _ => false
  | .vmul _ _ _ _ _ _ _ => false
  | .vmulHi _ _ _ _ _ _ _ => false
  | .vfma _ _ _ _ _ _ _ => false
  | .vfms _ _ _ _ _ _ _ => false
  | .vfnma _ _ _ _ _ _ _ => false
  | .vmin _ _ _ _ _ _ _ => false
  | .vmax _ _ _ _ _ _ _ => false
  | .vabs _ _ _ _ _ => false
  | .vneg _ _ _ _ _ => false
  | .vcmpEq _ _ _ _ _ _ _ _ => false
  | .vcmpNe _ _ _ _ _ _ _ _ => false
  | .vcmpLt _ _ _ _ _ _ _ _ => false
  | .vcmpLe _ _ _ _ _ _ _ _ => false
  | .vcmpGt _ _ _ _ _ _ _ _ => false
  | .vcmpGe _ _ _ _ _ _ _ _ => false
  | .vcmpUn _ _ _ _ _ _ _ _ => false
  | .vcmpOrd _ _ _ _ _ _ _ _ => false
  | .vsel _ _ _ _ _ _ _ => false
  | .vcvt _ _ _ _ _ _ _ => false
  | .vscl _ _ _ _ _ _ _ => false
  | .vsclS _ _ _ _ _ _ => false
  | .vrcp _ _ _ _ _ => false
  | .vrsq _ _ _ _ _ => false
  | .vredAdd _ _ _ _ _ => false
  | .vredMin _ _ _ _ _ => false
  | .vredMax _ _ _ _ _ => false
  | .vredAnd _ _ _ _ _ => false
  | .vredOr _ _ _ _ _ => false
  | .vredXor _ _ _ _ _ => false
  | .vpermIdx _ _ _ _ _ _ _ => false
  | .vpermRot _ _ _ _ _ _ _ => false
  | .vpermRev _ _ _ _ _ => false
  | .vpermZip _ _ _ _ _ _ _ => false
  | .vpermUnzip _ _ _ _ _ _ _ => false
  | .vbcast _ _ _ _ _ _ _ => false
  | .vbcastS _ _ _ _ => false
  | .vlut _ _ _ _ _ _ _ => false
  | .vand _ _ _ _ _ _ _ => false
  | .vor _ _ _ _ _ _ _ => false
  | .vxor _ _ _ _ _ _ _ => false
  | .vshl _ _ _ _ _ _ _ => false
  | .vshr _ _ _ _ _ _ _ => false
  | .vshrA _ _ _ _ _ _ _ => false
  | .vmad _ _ _ _ _ _ _ => false
  | .vpopc _ _ _ _ _ => false
  | .vmovq _ _ _ _ _ => false
  | .qrd _ _ _ _ => true
  | .qrdS _ _ _ _ => true
  | .qwr _ _ _ _ _ => true
  | .qwrS _ _ _ _ _ => true
  | .tdef _ _ _ _ _ _ => false
  | .tfree _ _ => false
  | .tmov _ _ _ _ _ => true
  | .tmovK _ _ _ _ _ => true
  | .tqryW0 _ _ _ => false
  | .tqryW1 _ _ _ => false
  | .cpl _ _ _ _ _ => true
  | .cps _ _ _ _ _ => true
  | .cpacc _ _ _ _ _ => true
  | .cpaccr _ _ _ _ => true
  | .cpcasW _ _ _ _ => true
  | .cpcasD _ _ _ _ => true
  | .cpmeta _ _ _ _ => true
  | .cpmc _ _ _ _ => true
  | .resp _ _ => false
  | .respPk _ _ => false
  | .chpush _ _ _ _ _ => false
  | .chpop _ _ _ _ => false
  | .chpopPk _ _ _ _ => false
  | .chqry _ _ _ => false
  | .tstep _ _ _ _ _ => false
  | .tstepSp _ _ _ _ _ => false
  | .tcfg _ _ _ => false
  | .tswap _ _ => false
  | .tdrain _ _ _ => false
  | .tresumeRepl _ _ _ => false
  | .tresumeDisc _ _ => false
  | .tresumeAbort _ _ => false
  | .tcbk _ _ _ _ => false
  | .scaccRow _ _ _ _ => false
  | .scaccCol _ _ _ _ => false
  | .scaccBlk _ _ _ _ => false
  | .tsoundOn _ => false
  | .tsoundOff _ => false
  | .tsoundNow _ => false
  | .fenceAcq _ _ => false
  | .fenceRel _ _ => false
  | .fenceSc _ _ => false
  | .waitc _ _ _ _ _ _ => false
  | .gbar _ _ => false
  | .gbarArr _ _ => false
  | .signal _ _ _ => true
  | .signalW _ _ _ => true
  | .spawn _ _ _ => true
  | .modeGuarded _ => false
  | .modeExposed _ => false
  | .cairnSet _ _ _ _ => false
  | .cairnRoll _ _ => false
  | .cairnDrop _ _ => false
  | .lfdone _ _ => false
  | .trap _ _ => false
  | .eret _ _ => false
  | .bkpt _ _ => false
  | .haltx _ _ => false
  | .cpy1d _ _ _ _ => false
  | .cpy2d _ _ _ _ _ _ => false
  | .cpy3d _ _ _ _ _ _ => false
  | .zero _ _ _ _ _ => false
  | .fill _ _ _ _ _ _ _ => false
  | .acc _ _ _ _ _ => false
  | .accr _ _ _ _ _ => false
  | .casW _ _ _ _ => false
  | .casD _ _ _ _ => false
  | .gather _ _ _ _ _ _ _ => false
  | .scatter _ _ _ _ _ _ _ => false
  | .mcast _ _ _ _ _ => false
  | .wake _ _ _ => false
  | .seq _ _ => false
  | .link _ _ _ => false
  | .pkgetW _ _ _ => false
  | .pkgetD _ _ _ => false
  | .shdr _ _ _ => false
  | .shdw _ _ _ => false
  | .emtask _ _ _ _ => false
  | .emlaunch _ _ _ => false
  | .emlaunchCfg _ _ _ _ => false
  | .sigwaitLe _ _ _ => false
  | .sigwaitLt _ _ _ => false
  | .sigwaitEq _ _ _ => false
  | .sigwaitNe _ _ _ => false
  | .delta _ _ _ _ => false
  | .abortPkt _ => false
  | .abortQueue _ => false
  | .complete _ _ _ _ => false
  | .barrier => false
  | .bundleIssue => false
  | .queueWaitTimeout => false
  | .loadDataReturn => false
  | .storePerformed => false
  | .qrdLanding => false
  | .lateAccessRefusal => false
  | .waitcComplete => false
  | .fenceComplete => false
  | .modeDrainDone => false
  | .gbarPhaseComplete => false
  | .taskEndDrained => false
  | .copyStart => false
  | .copyGranule => false
  | .copyComplete => false
  | .copyTranslationFault => false
  | .slotTranslationFault => false
  | .chainRegister => false
  | .chainEntryRead => false
  | .chainCommandComplete => false
  | .taskCancelAtHead => false
  | .bindFresh => false
  | .bindRestore => false
  | .bindPreempt => false
  | .slotStopped => false
  | .slotSaveDone => false
  | .tenantScrub => false
  | .stepArm => false
  | .stepRowWritten => false
  | .stepComplete => false
  | .scaccDone => false
  | .tcfgLoadDone => false
  | .segmentSwitch => false
  | .drainEmpty => false
  | .siteFire => false
  | .collarTrapDelivery => false
  | .hardwareRollback => false
  | .channelPark => false
  | .channelWake => false
  | .sumpRefill => false
  | .sumpGrant => false
  | .sumpDecline => false
  | .sumpSpillFault => false
  | .deadlockScan => false
  | .landfall => false
  | .deadlineHardStop => false
  | .packetStart => false
  | .packetBudget => false
  | .sigwaitReread => false
  | .emlaunchGroupsFree => false
  | .cfgTrapTimeout => false
  | .launchRetire => false
  | .packetRetire => false
  | .hostWrite => false
  | .hostRead => false
  | .hostTail => false
  | .hostAck => false
  | .hostFaultRetry => false
  | .hostFaultAbort => false
  | .hostRetransmit => false
  | .hostLinkLoss => false
  | .hostLinkUp => false
  | .mgmtStatus => false
  | .mgmtQdesc => false
  | .mgmtQprog => false
  | .mgmtQtear => false
  | .mgmtChopen => false
  | .mgmtChclose => false
  | .mgmtNodemap => false
  | .mgmtTxinv => false
  | .mgmtPtpdom => false
  | .mgmtCounters => false
  | .mgmtLinktrain => false
  | .mgmtFence => false
  | .mgmtAttest => false
  | .mgmtBaseimg => false
  | .mgmtPower => false
  | .mgmtSensors => false
  | .txinvPages => false
  | .txinvChart => false
  | .txinvAsid => false
  | .txinvAll => false
  | .txinvDone => false
  | .registerWrite => false
  | .ptpMessage => false
  | .ptpHoldover => false
  | .remotePacketArrival => false
  | .remoteAckArrival => false
  | .remoteResendTimeout => false
  | .remoteRefusal => false
  | .destinationUnreachable => false
  | .flitCrcRetry => false
  | .linkLossOfLock => false
  | .linkFlitErrorRate => false
  | .linkRemoved => false
  | .correctedError => false
  | .uncorrectableError => false
  | .backgroundScrub => false
  | .channelRemap => false
  | .tileRetire => false
  | .throttleStep => false
  | .carrierThrottle => false
  | .thermalTrip => false
  | .coldReset => false
  | .illegalWord => false
  | .resultLands => false
  | .stepPreloadDone => false
  | .stepRowEnters => false
  | .spareTakeoverDone => false
  | .linkTrained => false
  | .railOutOfRange => false

/-- R178: the words only the T stream may fetch. -/
def Instr.tStreamOnly : Instr → Bool
  | .nop _ => false
  | .endStream _ => false
  | .br _ _ => false
  | .call _ _ => false
  | .ret _ => false
  | .jmpr _ _ _ => false
  | .loop _ _ _ _ => false
  | .loopx _ _ _ _ => false
  | .add _ _ _ _ => false
  | .addW _ _ _ _ => false
  | .sub _ _ _ _ => false
  | .subW _ _ _ _ => false
  | .addi _ _ _ _ => false
  | .lui _ _ _ => false
  | .li32 _ _ _ => false
  | .and _ _ _ _ => false
  | .or _ _ _ _ => false
  | .xor _ _ _ _ => false
  | .andi _ _ _ _ => false
  | .ori _ _ _ _ => false
  | .xori _ _ _ _ => false
  | .shl _ _ _ _ => false
  | .shlW _ _ _ _ => false
  | .shr _ _ _ _ => false
  | .shrW _ _ _ _ => false
  | .sra _ _ _ _ => false
  | .sraW _ _ _ _ => false
  | .shli _ _ _ _ => false
  | .shri _ _ _ _ => false
  | .srai _ _ _ _ => false
  | .min _ _ _ _ => false
  | .minW _ _ _ _ => false
  | .max _ _ _ _ => false
  | .maxW _ _ _ _ => false
  | .minn _ _ _ _ => false
  | .minnW _ _ _ _ => false
  | .maxn _ _ _ _ => false
  | .maxnW _ _ _ _ => false
  | .sel _ _ _ _ _ => false
  | .mov _ _ _ => false
  | .addsh _ _ _ _ _ => false
  | .agen2 _ _ _ _ => false
  | .clz _ _ _ => false
  | .clzW _ _ _ => false
  | .popc _ _ _ => false
  | .popcW _ _ _ => false
  | .cmpEq _ _ _ _ _ _ => false
  | .cmpNe _ _ _ _ _ _ => false
  | .cmpLt _ _ _ _ _ _ => false
  | .cmpGe _ _ _ _ _ _ => false
  | .cmpLtn _ _ _ _ _ _ => false
  | .cmpGen _ _ _ _ _ _ => false
  | .cmpTst _ _ _ _ _ _ => false
  | .cmpNtst _ _ _ _ _ _ => false
  | .cmpiEq _ _ _ _ _ _ => false
  | .cmpiNe _ _ _ _ _ _ => false
  | .cmpiLt _ _ _ _ _ _ => false
  | .cmpiGe _ _ _ _ _ _ => false
  | .cmpiLtn _ _ _ _ _ _ => false
  | .cmpiGen _ _ _ _ _ _ => false
  | .cmpiTst _ _ _ _ _ _ => false
  | .pand _ _ _ _ => false
  | .por _ _ _ _ => false
  | .pxor _ _ _ _ => false
  | .pnot _ _ _ => false
  | .pmov _ _ _ => false
  | .pandn _ _ _ _ => false
  | .bfx _ _ _ _ => false
  | .bfxn _ _ _ _ => false
  | .bfi _ _ _ _ => false
  | .fshr _ _ _ _ _ _ => false
  | .mul _ _ _ _ => false
  | .mulW _ _ _ _ => false
  | .mulh _ _ _ _ => false
  | .mulhn _ _ _ _ => false
  | .div _ _ _ _ => false
  | .divW _ _ _ _ => false
  | .divn _ _ _ _ => false
  | .divnW _ _ _ _ => false
  | .rem _ _ _ _ => false
  | .remW _ _ _ _ => false
  | .remn _ _ _ _ => false
  | .remnW _ _ _ _ => false
  | .pfd _ _ _ _ => false
  | .pfi _ _ _ _ => false
  | .hint2 _ _ _ _ _ => false
  | .hint3 _ _ _ _ _ => false
  | .hint4 _ _ _ _ _ => false
  | .hint5 _ _ _ _ _ => false
  | .hint6 _ _ _ _ _ => false
  | .hint7 _ _ _ _ _ => false
  | .ldB _ _ _ _ => false
  | .ldBn _ _ _ _ => false
  | .ldH _ _ _ _ => false
  | .ldHn _ _ _ _ => false
  | .ldW _ _ _ _ => false
  | .ldWn _ _ _ _ => false
  | .ldD _ _ _ _ => false
  | .stB _ _ _ _ => false
  | .stH _ _ _ _ => false
  | .stW _ _ _ _ => false
  | .stD _ _ _ _ => false
  | .ldaD _ _ _ _ => false
  | .stlD _ _ _ _ => false
  | .getx _ _ _ => false
  | .setx _ _ _ => false
  | .vadd _ _ _ _ _ _ _ => false
  | .vaddSat _ _ _ _ _ _ _ => false
  | .vsub _ _ _ _ _ _ _ => false
  | .vsubSat _ _ _ _ _ _ _ => false
  | .vmul _ _ _ _ _ _ _ => false
  | .vmulHi _ _ _ _ _ _ _ => false
  | .vfma _ _ _ _ _ _ _ => false
  | .vfms _ _ _ _ _ _ _ => false
  | .vfnma _ _ _ _ _ _ _ => false
  | .vmin _ _ _ _ _ _ _ => false
  | .vmax _ _ _ _ _ _ _ => false
  | .vabs _ _ _ _ _ => false
  | .vneg _ _ _ _ _ => false
  | .vcmpEq _ _ _ _ _ _ _ _ => false
  | .vcmpNe _ _ _ _ _ _ _ _ => false
  | .vcmpLt _ _ _ _ _ _ _ _ => false
  | .vcmpLe _ _ _ _ _ _ _ _ => false
  | .vcmpGt _ _ _ _ _ _ _ _ => false
  | .vcmpGe _ _ _ _ _ _ _ _ => false
  | .vcmpUn _ _ _ _ _ _ _ _ => false
  | .vcmpOrd _ _ _ _ _ _ _ _ => false
  | .vsel _ _ _ _ _ _ _ => false
  | .vcvt _ _ _ _ _ _ _ => false
  | .vscl _ _ _ _ _ _ _ => false
  | .vsclS _ _ _ _ _ _ => false
  | .vrcp _ _ _ _ _ => false
  | .vrsq _ _ _ _ _ => false
  | .vredAdd _ _ _ _ _ => false
  | .vredMin _ _ _ _ _ => false
  | .vredMax _ _ _ _ _ => false
  | .vredAnd _ _ _ _ _ => false
  | .vredOr _ _ _ _ _ => false
  | .vredXor _ _ _ _ _ => false
  | .vpermIdx _ _ _ _ _ _ _ => false
  | .vpermRot _ _ _ _ _ _ _ => false
  | .vpermRev _ _ _ _ _ => false
  | .vpermZip _ _ _ _ _ _ _ => false
  | .vpermUnzip _ _ _ _ _ _ _ => false
  | .vbcast _ _ _ _ _ _ _ => false
  | .vbcastS _ _ _ _ => false
  | .vlut _ _ _ _ _ _ _ => false
  | .vand _ _ _ _ _ _ _ => false
  | .vor _ _ _ _ _ _ _ => false
  | .vxor _ _ _ _ _ _ _ => false
  | .vshl _ _ _ _ _ _ _ => false
  | .vshr _ _ _ _ _ _ _ => false
  | .vshrA _ _ _ _ _ _ _ => false
  | .vmad _ _ _ _ _ _ _ => false
  | .vpopc _ _ _ _ _ => false
  | .vmovq _ _ _ _ _ => false
  | .qrd _ _ _ _ => false
  | .qrdS _ _ _ _ => false
  | .qwr _ _ _ _ _ => false
  | .qwrS _ _ _ _ _ => false
  | .tdef _ _ _ _ _ _ => false
  | .tfree _ _ => false
  | .tmov _ _ _ _ _ => false
  | .tmovK _ _ _ _ _ => false
  | .tqryW0 _ _ _ => false
  | .tqryW1 _ _ _ => false
  | .cpl _ _ _ _ _ => false
  | .cps _ _ _ _ _ => false
  | .cpacc _ _ _ _ _ => false
  | .cpaccr _ _ _ _ => false
  | .cpcasW _ _ _ _ => false
  | .cpcasD _ _ _ _ => false
  | .cpmeta _ _ _ _ => false
  | .cpmc _ _ _ _ => false
  | .resp _ _ => false
  | .respPk _ _ => false
  | .chpush _ _ _ _ _ => false
  | .chpop _ _ _ _ => false
  | .chpopPk _ _ _ _ => false
  | .chqry _ _ _ => false
  | .tstep _ _ _ _ _ => true
  | .tstepSp _ _ _ _ _ => true
  | .tcfg _ _ _ => true
  | .tswap _ _ => true
  | .tdrain _ _ _ => true
  | .tresumeRepl _ _ _ => true
  | .tresumeDisc _ _ => true
  | .tresumeAbort _ _ => true
  | .tcbk _ _ _ _ => true
  | .scaccRow _ _ _ _ => true
  | .scaccCol _ _ _ _ => true
  | .scaccBlk _ _ _ _ => true
  | .tsoundOn _ => true
  | .tsoundOff _ => true
  | .tsoundNow _ => true
  | .fenceAcq _ _ => false
  | .fenceRel _ _ => false
  | .fenceSc _ _ => false
  | .waitc _ _ _ _ _ _ => false
  | .gbar _ _ => false
  | .gbarArr _ _ => false
  | .signal _ _ _ => false
  | .signalW _ _ _ => false
  | .spawn _ _ _ => false
  | .modeGuarded _ => false
  | .modeExposed _ => false
  | .cairnSet _ _ _ _ => false
  | .cairnRoll _ _ => false
  | .cairnDrop _ _ => false
  | .lfdone _ _ => false
  | .trap _ _ => false
  | .eret _ _ => false
  | .bkpt _ _ => false
  | .haltx _ _ => false
  | .cpy1d _ _ _ _ => false
  | .cpy2d _ _ _ _ _ _ => false
  | .cpy3d _ _ _ _ _ _ => false
  | .zero _ _ _ _ _ => false
  | .fill _ _ _ _ _ _ _ => false
  | .acc _ _ _ _ _ => false
  | .accr _ _ _ _ _ => false
  | .casW _ _ _ _ => false
  | .casD _ _ _ _ => false
  | .gather _ _ _ _ _ _ _ => false
  | .scatter _ _ _ _ _ _ _ => false
  | .mcast _ _ _ _ _ => false
  | .wake _ _ _ => false
  | .seq _ _ => false
  | .link _ _ _ => false
  | .pkgetW _ _ _ => false
  | .pkgetD _ _ _ => false
  | .shdr _ _ _ => false
  | .shdw _ _ _ => false
  | .emtask _ _ _ _ => false
  | .emlaunch _ _ _ => false
  | .emlaunchCfg _ _ _ _ => false
  | .sigwaitLe _ _ _ => false
  | .sigwaitLt _ _ _ => false
  | .sigwaitEq _ _ _ => false
  | .sigwaitNe _ _ _ => false
  | .delta _ _ _ _ => false
  | .abortPkt _ => false
  | .abortQueue _ => false
  | .complete _ _ _ _ => false
  | .barrier => false
  | .bundleIssue => false
  | .queueWaitTimeout => false
  | .loadDataReturn => false
  | .storePerformed => false
  | .qrdLanding => false
  | .lateAccessRefusal => false
  | .waitcComplete => false
  | .fenceComplete => false
  | .modeDrainDone => false
  | .gbarPhaseComplete => false
  | .taskEndDrained => false
  | .copyStart => false
  | .copyGranule => false
  | .copyComplete => false
  | .copyTranslationFault => false
  | .slotTranslationFault => false
  | .chainRegister => false
  | .chainEntryRead => false
  | .chainCommandComplete => false
  | .taskCancelAtHead => false
  | .bindFresh => false
  | .bindRestore => false
  | .bindPreempt => false
  | .slotStopped => false
  | .slotSaveDone => false
  | .tenantScrub => false
  | .stepArm => false
  | .stepRowWritten => false
  | .stepComplete => false
  | .scaccDone => false
  | .tcfgLoadDone => false
  | .segmentSwitch => false
  | .drainEmpty => false
  | .siteFire => false
  | .collarTrapDelivery => false
  | .hardwareRollback => false
  | .channelPark => false
  | .channelWake => false
  | .sumpRefill => false
  | .sumpGrant => false
  | .sumpDecline => false
  | .sumpSpillFault => false
  | .deadlockScan => false
  | .landfall => false
  | .deadlineHardStop => false
  | .packetStart => false
  | .packetBudget => false
  | .sigwaitReread => false
  | .emlaunchGroupsFree => false
  | .cfgTrapTimeout => false
  | .launchRetire => false
  | .packetRetire => false
  | .hostWrite => false
  | .hostRead => false
  | .hostTail => false
  | .hostAck => false
  | .hostFaultRetry => false
  | .hostFaultAbort => false
  | .hostRetransmit => false
  | .hostLinkLoss => false
  | .hostLinkUp => false
  | .mgmtStatus => false
  | .mgmtQdesc => false
  | .mgmtQprog => false
  | .mgmtQtear => false
  | .mgmtChopen => false
  | .mgmtChclose => false
  | .mgmtNodemap => false
  | .mgmtTxinv => false
  | .mgmtPtpdom => false
  | .mgmtCounters => false
  | .mgmtLinktrain => false
  | .mgmtFence => false
  | .mgmtAttest => false
  | .mgmtBaseimg => false
  | .mgmtPower => false
  | .mgmtSensors => false
  | .txinvPages => false
  | .txinvChart => false
  | .txinvAsid => false
  | .txinvAll => false
  | .txinvDone => false
  | .registerWrite => false
  | .ptpMessage => false
  | .ptpHoldover => false
  | .remotePacketArrival => false
  | .remoteAckArrival => false
  | .remoteResendTimeout => false
  | .remoteRefusal => false
  | .destinationUnreachable => false
  | .flitCrcRetry => false
  | .linkLossOfLock => false
  | .linkFlitErrorRate => false
  | .linkRemoved => false
  | .correctedError => false
  | .uncorrectableError => false
  | .backgroundScrub => false
  | .channelRemap => false
  | .tileRetire => false
  | .throttleStep => false
  | .carrierThrottle => false
  | .thermalTrip => false
  | .coldReset => false
  | .illegalWord => false
  | .resultLands => false
  | .stepPreloadDone => false
  | .stepRowEnters => false
  | .spareTakeoverDone => false
  | .linkTrained => false
  | .railOutOfRange => false

/-- R143, R178: may stream `x` (0 A, 1 V, 2 T, 3 M) fetch the word? -/
def Instr.streamOk (i : Instr) (x : Nat) : Bool :=
  (!i.mStreamOnly || x == 3) && (!i.tStreamOnly || x == 2)

end Sys2Proof
end

