-- ==== Sys2Proof/Decode.lean ====
section
/-! DEFINITION. Sys2Proof/Decode.lean: the instruction words of the three kinds of engine (R53-R69), total on any word,
and the encoder written from the same tables. A word is a natural number below 2^32, bit 0 least significant (R3). -/

namespace Sys2Proof

/-- Bits lo + n - 1 : lo of a word, as a number (R3). -/
def fld (w lo n : Nat) : Nat := w / 2 ^ lo % 2 ^ n
/-- The same span as a bit vector. -/
def bits (w lo n : Nat) : BitVec n := BitVec.ofNat n (fld w lo n)
/-- One bit as a Boolean. -/
def flag (w lo : Nat) : Bool := fld w lo 1 == 1

/-- Bits 23:19 (R53). -/
def hdr (w : Nat) : Hdr := { s := flag w 23, g := bits w 20 3, n := flag w 19 }
/-- Bits 22:19 (R53). -/
def grd (w : Nat) : Grd := { g := bits w 20 3, n := flag w 19 }
def Hdr.bits (h : Hdr) : Nat := h.s.toNat * 8388608 + h.g.toNat * 1048576 + h.n.toNat * 524288
def Grd.bits (h : Grd) : Nat := h.g.toNat * 1048576 + h.n.toNat * 524288

/-- R57: does the OPC name a two-word form on a control core? -/
def twoWordCore (w : Nat) : Bool :=
  let o := fld w 24 8
  o == 0x14 || o == 0x52 || o == 0xA3 || o == 0xC4
/-- R57, R68: does the OPC name a two-word form in a copy program? -/
def twoWordCopy (w : Nat) : Bool :=
  let o := fld w 24 8
  o == 0x14 || o == 0x52 || o == 0x80 || o == 0x81 || o == 0x82 || o == 0x83 || o == 0x84 || o == 0x88 || o == 0x89 ||
    o == 0x8A || o == 0x8D
/-- R57: does the OPC name a two-word form in a queue program? -/
def twoWordFront (w : Nat) : Bool :=
  let o := fld w 24 8
  o == 0x14 || o == 0x52

/-- R66: the shared half. -/
def rawShared (w w2 : Nat) : Option Instr :=
  match fld w 24 8 with
  | 0x00 => if fld w 0 19 = 0 then some (.nop (hdr w)) else none
  | 0x01 => if fld w 0 19 = 0 then some (.endStream (hdr w)) else none
  | 0x02 => some (.br (hdr w) (bits w 0 19))
  | 0x03 => some (.call (hdr w) (bits w 0 19))
  | 0x04 => if fld w 0 19 = 0 then some (.ret (hdr w)) else none
  | 0x05 => if fld w 0 9 = 0 then some (.jmpr (hdr w) (bits w 14 5) (bits w 9 5)) else none
  | 0x06 => some (.loop (hdr w) (bits w 17 2) (bits w 8 9) (bits w 0 8))
  | 0x07 => some (.loopx (hdr w) (bits w 17 2) (bits w 8 9) (bits w 0 8))
  | 0x10 => if fld w 0 4 = 0 then some (.add (hdr w) (bits w 14 5) (bits w 9 5) (bits w 4 5)) else if fld w 0 4 = 1 then some (.addW (hdr w) (bits w 14 5) (bits w 9 5) (bits w 4 5)) else none
  | 0x11 => if fld w 0 4 = 0 then some (.sub (hdr w) (bits w 14 5) (bits w 9 5) (bits w 4 5)) else if fld w 0 4 = 1 then some (.subW (hdr w) (bits w 14 5) (bits w 9 5) (bits w 4 5)) else none
  | 0x12 => some (.addi (hdr w) (bits w 14 5) (bits w 9 5) (bits w 0 9))
  | 0x13 => some (.lui (hdr w) (bits w 14 5) (bits w 0 14))
  | 0x14 => if fld w 0 14 = 0 then some (.li32 (hdr w) (bits w 14 5) (bits w2 0 32)) else none
  | 0x15 => if fld w 0 4 = 0 then some (.and (hdr w) (bits w 14 5) (bits w 9 5) (bits w 4 5)) else none
  | 0x16 => if fld w 0 4 = 0 then some (.or (hdr w) (bits w 14 5) (bits w 9 5) (bits w 4 5)) else none
  | 0x17 => if fld w 0 4 = 0 then some (.xor (hdr w) (bits w 14 5) (bits w 9 5) (bits w 4 5)) else none
  | 0x18 => some (.andi (hdr w) (bits w 14 5) (bits w 9 5) (bits w 0 9))
  | 0x19 => some (.ori (hdr w) (bits w 14 5) (bits w 9 5) (bits w 0 9))
  | 0x1A => some (.xori (hdr w) (bits w 14 5) (bits w 9 5) (bits w 0 9))
  | 0x1B => if fld w 0 4 = 0 then some (.shl (hdr w) (bits w 14 5) (bits w 9 5) (bits w 4 5)) else if fld w 0 4 = 1 then some (.shlW (hdr w) (bits w 14 5) (bits w 9 5) (bits w 4 5)) else none
  | 0x1C => if fld w 0 4 = 0 then some (.shr (hdr w) (bits w 14 5) (bits w 9 5) (bits w 4 5)) else if fld w 0 4 = 1 then some (.shrW (hdr w) (bits w 14 5) (bits w 9 5) (bits w 4 5)) else none
  | 0x1D => if fld w 0 4 = 0 then some (.sra (hdr w) (bits w 14 5) (bits w 9 5) (bits w 4 5)) else if fld w 0 4 = 1 then some (.sraW (hdr w) (bits w 14 5) (bits w 9 5) (bits w 4 5)) else none
  | 0x1E => if fld w 6 3 = 0 then some (.shli (hdr w) (bits w 14 5) (bits w 9 5) (bits w 0 6)) else none
  | 0x1F => if fld w 6 3 = 0 then some (.shri (hdr w) (bits w 14 5) (bits w 9 5) (bits w 0 6)) else none
  | 0x20 => if fld w 6 3 = 0 then some (.srai (hdr w) (bits w 14 5) (bits w 9 5) (bits w 0 6)) else none
  | 0x21 => if fld w 0 4 = 0 then some (.min (hdr w) (bits w 14 5) (bits w 9 5) (bits w 4 5)) else if fld w 0 4 = 1 then some (.minW (hdr w) (bits w 14 5) (bits w 9 5) (bits w 4 5)) else none
  | 0x22 => if fld w 0 4 = 0 then some (.max (hdr w) (bits w 14 5) (bits w 9 5) (bits w 4 5)) else if fld w 0 4 = 1 then some (.maxW (hdr w) (bits w 14 5) (bits w 9 5) (bits w 4 5)) else none
  | 0x23 => if fld w 0 4 = 0 then some (.minn (hdr w) (bits w 14 5) (bits w 9 5) (bits w 4 5)) else if fld w 0 4 = 1 then some (.minnW (hdr w) (bits w 14 5) (bits w 9 5) (bits w 4 5)) else none
  | 0x24 => if fld w 0 4 = 0 then some (.maxn (hdr w) (bits w 14 5) (bits w 9 5) (bits w 4 5)) else if fld w 0 4 = 1 then some (.maxnW (hdr w) (bits w 14 5) (bits w 9 5) (bits w 4 5)) else none
  | 0x25 => if fld w 3 1 = 0 then some (.sel (hdr w) (bits w 14 5) (bits w 9 5) (bits w 4 5) (bits w 0 3)) else none
  | 0x26 => if fld w 0 9 = 0 then some (.mov (hdr w) (bits w 14 5) (bits w 9 5)) else none
  | 0x27 => some (.addsh (hdr w) (bits w 14 5) (bits w 9 5) (bits w 4 5) (bits w 0 4))
  | 0x28 => if fld w 0 4 = 0 then some (.agen2 (hdr w) (bits w 14 5) (bits w 9 5) (bits w 4 5)) else none
  | 0x29 => if fld w 0 9 = 0 then some (.clz (hdr w) (bits w 14 5) (bits w 9 5)) else if fld w 0 9 = 1 then some (.clzW (hdr w) (bits w 14 5) (bits w 9 5)) else none
  | 0x2A => if fld w 0 9 = 0 then some (.popc (hdr w) (bits w 14 5) (bits w 9 5)) else if fld w 0 9 = 1 then some (.popcW (hdr w) (bits w 14 5) (bits w 9 5)) else none
  | 0x40 => if fld w 8 1 = 0 then some (.cmpEq (hdr w) (bits w 17 2) (bits w 14 3) (bits w 9 5) (bits w 3 5) (bits w 0 3)) else none
  | 0x41 => if fld w 8 1 = 0 then some (.cmpNe (hdr w) (bits w 17 2) (bits w 14 3) (bits w 9 5) (bits w 3 5) (bits w 0 3)) else none
  | 0x42 => if fld w 8 1 = 0 then some (.cmpLt (hdr w) (bits w 17 2) (bits w 14 3) (bits w 9 5) (bits w 3 5) (bits w 0 3)) else none
  | 0x43 => if fld w 8 1 = 0 then some (.cmpGe (hdr w) (bits w 17 2) (bits w 14 3) (bits w 9 5) (bits w 3 5) (bits w 0 3)) else none
  | 0x44 => if fld w 8 1 = 0 then some (.cmpLtn (hdr w) (bits w 17 2) (bits w 14 3) (bits w 9 5) (bits w 3 5) (bits w 0 3)) else none
  | 0x45 => if fld w 8 1 = 0 then some (.cmpGen (hdr w) (bits w 17 2) (bits w 14 3) (bits w 9 5) (bits w 3 5) (bits w 0 3)) else none
  | 0x46 => if fld w 8 1 = 0 then some (.cmpTst (hdr w) (bits w 17 2) (bits w 14 3) (bits w 9 5) (bits w 3 5) (bits w 0 3)) else none
  | 0x47 => if fld w 8 1 = 0 then some (.cmpNtst (hdr w) (bits w 17 2) (bits w 14 3) (bits w 9 5) (bits w 3 5) (bits w 0 3)) else none
  | 0x48 => some (.cmpiEq (hdr w) (bits w 17 2) (bits w 14 3) (bits w 9 5) (bits w 3 6) (bits w 0 3))
  | 0x49 => some (.cmpiNe (hdr w) (bits w 17 2) (bits w 14 3) (bits w 9 5) (bits w 3 6) (bits w 0 3))
  | 0x4A => some (.cmpiLt (hdr w) (bits w 17 2) (bits w 14 3) (bits w 9 5) (bits w 3 6) (bits w 0 3))
  | 0x4B => some (.cmpiGe (hdr w) (bits w 17 2) (bits w 14 3) (bits w 9 5) (bits w 3 6) (bits w 0 3))
  | 0x4C => some (.cmpiLtn (hdr w) (bits w 17 2) (bits w 14 3) (bits w 9 5) (bits w 3 6) (bits w 0 3))
  | 0x4D => some (.cmpiGen (hdr w) (bits w 17 2) (bits w 14 3) (bits w 9 5) (bits w 3 6) (bits w 0 3))
  | 0x4E => some (.cmpiTst (hdr w) (bits w 17 2) (bits w 14 3) (bits w 9 5) (bits w 3 6) (bits w 0 3))
  | 0x4F => if fld w 0 4 = 0 ∧ fld w 7 2 = 0 ∧ fld w 12 2 = 0 ∧ fld w 17 2 = 0 then some (.pand (hdr w) (bits w 14 3) (bits w 9 3) (bits w 4 3)) else if fld w 0 4 = 1 ∧ fld w 7 2 = 0 ∧ fld w 12 2 = 0 ∧ fld w 17 2 = 0 then some (.por (hdr w) (bits w 14 3) (bits w 9 3) (bits w 4 3)) else if fld w 0 4 = 2 ∧ fld w 7 2 = 0 ∧ fld w 12 2 = 0 ∧ fld w 17 2 = 0 then some (.pxor (hdr w) (bits w 14 3) (bits w 9 3) (bits w 4 3)) else if fld w 0 9 = 3 ∧ fld w 12 2 = 0 ∧ fld w 17 2 = 0 then some (.pnot (hdr w) (bits w 14 3) (bits w 9 3)) else if fld w 0 9 = 4 ∧ fld w 12 2 = 0 ∧ fld w 17 2 = 0 then some (.pmov (hdr w) (bits w 14 3) (bits w 9 3)) else if fld w 0 4 = 5 ∧ fld w 7 2 = 0 ∧ fld w 12 2 = 0 ∧ fld w 17 2 = 0 then some (.pandn (hdr w) (bits w 14 3) (bits w 9 3) (bits w 4 3)) else none
  | 0x50 => if fld w 0 4 = 0 then some (.bfx (hdr w) (bits w 14 5) (bits w 9 5) (bits w 4 5)) else if fld w 0 4 = 1 then some (.bfxn (hdr w) (bits w 14 5) (bits w 9 5) (bits w 4 5)) else none
  | 0x51 => if fld w 0 4 = 0 then some (.bfi (hdr w) (bits w 14 5) (bits w 9 5) (bits w 4 5)) else none
  | 0x52 => if fld w 0 4 = 0 ∧ fld w2 6 2 = 0 ∧ fld w2 9 23 = 0 then some (.fshr (hdr w) (bits w 14 5) (bits w 9 5) (bits w 4 5) (flag w2 8) (bits w2 0 6)) else none
  | 0x53 => if fld w 0 4 = 0 then some (.mul (hdr w) (bits w 14 5) (bits w 9 5) (bits w 4 5)) else if fld w 0 4 = 1 then some (.mulW (hdr w) (bits w 14 5) (bits w 9 5) (bits w 4 5)) else none
  | 0x54 => if fld w 0 4 = 0 then some (.mulh (hdr w) (bits w 14 5) (bits w 9 5) (bits w 4 5)) else none
  | 0x55 => if fld w 0 4 = 0 then some (.mulhn (hdr w) (bits w 14 5) (bits w 9 5) (bits w 4 5)) else none
  | 0x56 => if fld w 0 4 = 0 then some (.div (hdr w) (bits w 14 5) (bits w 9 5) (bits w 4 5)) else if fld w 0 4 = 1 then some (.divW (hdr w) (bits w 14 5) (bits w 9 5) (bits w 4 5)) else none
  | 0x57 => if fld w 0 4 = 0 then some (.divn (hdr w) (bits w 14 5) (bits w 9 5) (bits w 4 5)) else if fld w 0 4 = 1 then some (.divnW (hdr w) (bits w 14 5) (bits w 9 5) (bits w 4 5)) else none
  | 0x58 => if fld w 0 4 = 0 then some (.rem (hdr w) (bits w 14 5) (bits w 9 5) (bits w 4 5)) else if fld w 0 4 = 1 then some (.remW (hdr w) (bits w 14 5) (bits w 9 5) (bits w 4 5)) else none
  | 0x59 => if fld w 0 4 = 0 then some (.remn (hdr w) (bits w 14 5) (bits w 9 5) (bits w 4 5)) else if fld w 0 4 = 1 then some (.remnW (hdr w) (bits w 14 5) (bits w 9 5) (bits w 4 5)) else none
  | 0x78 => some (.pfd (hdr w) (bits w 14 5) (bits w 9 5) (bits w 0 9))
  | 0x79 => some (.pfi (hdr w) (bits w 14 5) (bits w 9 5) (bits w 0 9))
  | 0x7A => some (.hint2 (hdr w) (bits w 14 5) (bits w 9 5) (bits w 4 5) (bits w 0 4))
  | 0x7B => some (.hint3 (hdr w) (bits w 14 5) (bits w 9 5) (bits w 4 5) (bits w 0 4))
  | 0x7C => some (.hint4 (hdr w) (bits w 14 5) (bits w 9 5) (bits w 4 5) (bits w 0 4))
  | 0x7D => some (.hint5 (hdr w) (bits w 14 5) (bits w 9 5) (bits w 4 5) (bits w 0 4))
  | 0x7E => some (.hint6 (hdr w) (bits w 14 5) (bits w 9 5) (bits w 4 5) (bits w 0 4))
  | 0x7F => some (.hint7 (hdr w) (bits w 14 5) (bits w 9 5) (bits w 4 5) (bits w 0 4))
  | _ => none

/-- R67: the control-core private half. -/
def rawCore (w w2 : Nat) : Option Instr :=
  match fld w 24 8 with
  | 0x80 => some (.ldB (hdr w) (bits w 14 5) (bits w 9 5) (bits w 0 9))
  | 0x81 => some (.ldBn (hdr w) (bits w 14 5) (bits w 9 5) (bits w 0 9))
  | 0x82 => some (.ldH (hdr w) (bits w 14 5) (bits w 9 5) (bits w 0 9))
  | 0x83 => some (.ldHn (hdr w) (bits w 14 5) (bits w 9 5) (bits w 0 9))
  | 0x84 => some (.ldW (hdr w) (bits w 14 5) (bits w 9 5) (bits w 0 9))
  | 0x85 => some (.ldWn (hdr w) (bits w 14 5) (bits w 9 5) (bits w 0 9))
  | 0x86 => some (.ldD (hdr w) (bits w 14 5) (bits w 9 5) (bits w 0 9))
  | 0x87 => some (.stB (hdr w) (bits w 14 5) (bits w 9 5) (bits w 0 9))
  | 0x88 => some (.stH (hdr w) (bits w 14 5) (bits w 9 5) (bits w 0 9))
  | 0x89 => some (.stW (hdr w) (bits w 14 5) (bits w 9 5) (bits w 0 9))
  | 0x8A => some (.stD (hdr w) (bits w 14 5) (bits w 9 5) (bits w 0 9))
  | 0x8B => some (.ldaD (hdr w) (bits w 14 5) (bits w 9 5) (bits w 0 9))
  | 0x8C => some (.stlD (hdr w) (bits w 14 5) (bits w 9 5) (bits w 0 9))
  | 0x8D => some (.getx (hdr w) (bits w 14 5) (bits w 0 14))
  | 0x8E => some (.setx (hdr w) (bits w 14 5) (bits w 0 14))
  | 0x90 => if fld w 2 1 = 0 then some (.vadd (hdr w) (bits w 15 4) (bits w 11 4) (bits w 7 4) (bits w 3 4) (flag w 1) (flag w 0)) else if fld w 2 1 = 1 then some (.vaddSat (hdr w) (bits w 15 4) (bits w 11 4) (bits w 7 4) (bits w 3 4) (flag w 1) (flag w 0)) else none
  | 0x91 => if fld w 2 1 = 0 then some (.vsub (hdr w) (bits w 15 4) (bits w 11 4) (bits w 7 4) (bits w 3 4) (flag w 1) (flag w 0)) else if fld w 2 1 = 1 then some (.vsubSat (hdr w) (bits w 15 4) (bits w 11 4) (bits w 7 4) (bits w 3 4) (flag w 1) (flag w 0)) else none
  | 0x92 => if fld w 2 1 = 0 then some (.vmul (hdr w) (bits w 15 4) (bits w 11 4) (bits w 7 4) (bits w 3 4) (flag w 1) (flag w 0)) else if fld w 2 1 = 1 then some (.vmulHi (hdr w) (bits w 15 4) (bits w 11 4) (bits w 7 4) (bits w 3 4) (flag w 1) (flag w 0)) else none
  | 0x93 => if fld w 2 1 = 0 then some (.vfma (hdr w) (bits w 15 4) (bits w 11 4) (bits w 7 4) (bits w 3 4) (flag w 1) (flag w 0)) else none
  | 0x94 => if fld w 2 1 = 0 then some (.vfms (hdr w) (bits w 15 4) (bits w 11 4) (bits w 7 4) (bits w 3 4) (flag w 1) (flag w 0)) else none
  | 0x95 => if fld w 2 1 = 0 then some (.vfnma (hdr w) (bits w 15 4) (bits w 11 4) (bits w 7 4) (bits w 3 4) (flag w 1) (flag w 0)) else none
  | 0x96 => if fld w 2 1 = 0 then some (.vmin (hdr w) (bits w 15 4) (bits w 11 4) (bits w 7 4) (bits w 3 4) (flag w 1) (flag w 0)) else none
  | 0x97 => if fld w 2 1 = 0 then some (.vmax (hdr w) (bits w 15 4) (bits w 11 4) (bits w 7 4) (bits w 3 4) (flag w 1) (flag w 0)) else none
  | 0x98 => if fld w 1 2 = 0 ∧ fld w 7 4 = 0 then some (.vabs (hdr w) (bits w 15 4) (bits w 11 4) (bits w 3 4) (flag w 0)) else none
  | 0x99 => if fld w 1 2 = 0 ∧ fld w 7 4 = 0 then some (.vneg (hdr w) (bits w 15 4) (bits w 11 4) (bits w 3 4) (flag w 0)) else none
  | 0x9A => if fld w 2 1 = 0 then some (.vcmpEq (hdr w) (bits w 17 2) (bits w 15 2) (bits w 11 4) (bits w 7 4) (bits w 3 4) (flag w 1) (flag w 0)) else none
  | 0x9B => if fld w 2 1 = 0 then some (.vcmpNe (hdr w) (bits w 17 2) (bits w 15 2) (bits w 11 4) (bits w 7 4) (bits w 3 4) (flag w 1) (flag w 0)) else none
  | 0x9C => if fld w 2 1 = 0 then some (.vcmpLt (hdr w) (bits w 17 2) (bits w 15 2) (bits w 11 4) (bits w 7 4) (bits w 3 4) (flag w 1) (flag w 0)) else none
  | 0x9D => if fld w 2 1 = 0 then some (.vcmpLe (hdr w) (bits w 17 2) (bits w 15 2) (bits w 11 4) (bits w 7 4) (bits w 3 4) (flag w 1) (flag w 0)) else none
  | 0x9E => if fld w 2 1 = 0 then some (.vcmpGt (hdr w) (bits w 17 2) (bits w 15 2) (bits w 11 4) (bits w 7 4) (bits w 3 4) (flag w 1) (flag w 0)) else none
  | 0x9F => if fld w 2 1 = 0 then some (.vcmpGe (hdr w) (bits w 17 2) (bits w 15 2) (bits w 11 4) (bits w 7 4) (bits w 3 4) (flag w 1) (flag w 0)) else none
  | 0xA0 => if fld w 2 1 = 0 then some (.vcmpUn (hdr w) (bits w 17 2) (bits w 15 2) (bits w 11 4) (bits w 7 4) (bits w 3 4) (flag w 1) (flag w 0)) else none
  | 0xA1 => if fld w 2 1 = 0 then some (.vcmpOrd (hdr w) (bits w 17 2) (bits w 15 2) (bits w 11 4) (bits w 7 4) (bits w 3 4) (flag w 1) (flag w 0)) else none
  | 0xA2 => if fld w 2 1 = 0 then some (.vsel (hdr w) (bits w 15 4) (bits w 11 4) (bits w 7 4) (bits w 3 4) (flag w 1) (flag w 0)) else none
  | 0xA3 => if fld w 1 2 = 0 ∧ fld w2 4 28 = 0 then some (.vcvt (hdr w) (bits w 15 4) (bits w 11 4) (bits w 7 4) (bits w 3 4) (flag w 0) (bits w2 0 4)) else none
  | 0xA4 => if fld w 2 1 = 0 then some (.vscl (hdr w) (bits w 15 4) (bits w 11 4) (bits w 7 4) (bits w 3 4) (flag w 1) (flag w 0)) else if fld w 1 2 = 2 then some (.vsclS (hdr w) (bits w 15 4) (bits w 11 4) (bits w 7 4) (bits w 3 4) (flag w 0)) else none
  | 0xA5 => if fld w 1 2 = 0 ∧ fld w 7 4 = 0 then some (.vrcp (hdr w) (bits w 15 4) (bits w 11 4) (bits w 3 4) (flag w 0)) else none
  | 0xA6 => if fld w 1 2 = 0 ∧ fld w 7 4 = 0 then some (.vrsq (hdr w) (bits w 15 4) (bits w 11 4) (bits w 3 4) (flag w 0)) else none
  | 0xA7 => if fld w 1 2 = 0 ∧ fld w 7 4 = 0 then some (.vredAdd (hdr w) (bits w 15 4) (bits w 11 4) (bits w 3 4) (flag w 0)) else if fld w 1 2 = 0 ∧ fld w 7 4 = 1 then some (.vredMin (hdr w) (bits w 15 4) (bits w 11 4) (bits w 3 4) (flag w 0)) else if fld w 1 2 = 0 ∧ fld w 7 4 = 2 then some (.vredMax (hdr w) (bits w 15 4) (bits w 11 4) (bits w 3 4) (flag w 0)) else if fld w 1 2 = 0 ∧ fld w 7 4 = 3 then some (.vredAnd (hdr w) (bits w 15 4) (bits w 11 4) (bits w 3 4) (flag w 0)) else if fld w 1 2 = 0 ∧ fld w 7 4 = 4 then some (.vredOr (hdr w) (bits w 15 4) (bits w 11 4) (bits w 3 4) (flag w 0)) else if fld w 1 2 = 0 ∧ fld w 7 4 = 5 then some (.vredXor (hdr w) (bits w 15 4) (bits w 11 4) (bits w 3 4) (flag w 0)) else none
  | 0xA8 => if fld w 2 1 = 0 then some (.vpermIdx (hdr w) (bits w 15 4) (bits w 11 4) (bits w 7 4) (bits w 3 4) (flag w 1) (flag w 0)) else none
  | 0xA9 => if fld w 2 1 = 0 then some (.vpermRot (hdr w) (bits w 15 4) (bits w 11 4) (bits w 7 4) (bits w 3 4) (flag w 1) (flag w 0)) else none
  | 0xAA => if fld w 1 2 = 0 ∧ fld w 7 4 = 0 then some (.vpermRev (hdr w) (bits w 15 4) (bits w 11 4) (bits w 3 4) (flag w 0)) else none
  | 0xAB => if fld w 2 1 = 0 then some (.vpermZip (hdr w) (bits w 15 4) (bits w 11 4) (bits w 7 4) (bits w 3 4) (flag w 1) (flag w 0)) else none
  | 0xAC => if fld w 2 1 = 0 then some (.vpermUnzip (hdr w) (bits w 15 4) (bits w 11 4) (bits w 7 4) (bits w 3 4) (flag w 1) (flag w 0)) else none
  | 0xAD => if fld w 2 1 = 0 then some (.vbcast (hdr w) (bits w 15 4) (bits w 11 4) (bits w 7 4) (bits w 3 4) (flag w 1) (flag w 0)) else if fld w 0 3 = 4 ∧ fld w 11 4 = 0 then some (.vbcastS (hdr w) (bits w 15 4) (bits w 7 4) (bits w 3 4)) else none
  | 0xAE => if fld w 2 1 = 0 then some (.vlut (hdr w) (bits w 15 4) (bits w 11 4) (bits w 7 4) (bits w 3 4) (flag w 1) (flag w 0)) else none
  | 0xAF => if fld w 2 1 = 0 then some (.vand (hdr w) (bits w 15 4) (bits w 11 4) (bits w 7 4) (bits w 3 4) (flag w 1) (flag w 0)) else none
  | 0xB0 => if fld w 2 1 = 0 then some (.vor (hdr w) (bits w 15 4) (bits w 11 4) (bits w 7 4) (bits w 3 4) (flag w 1) (flag w 0)) else none
  | 0xB1 => if fld w 2 1 = 0 then some (.vxor (hdr w) (bits w 15 4) (bits w 11 4) (bits w 7 4) (bits w 3 4) (flag w 1) (flag w 0)) else none
  | 0xB2 => if fld w 2 1 = 0 then some (.vshl (hdr w) (bits w 15 4) (bits w 11 4) (bits w 7 4) (bits w 3 4) (flag w 1) (flag w 0)) else none
  | 0xB3 => if fld w 2 1 = 0 then some (.vshr (hdr w) (bits w 15 4) (bits w 11 4) (bits w 7 4) (bits w 3 4) (flag w 1) (flag w 0)) else if fld w 2 1 = 1 then some (.vshrA (hdr w) (bits w 15 4) (bits w 11 4) (bits w 7 4) (bits w 3 4) (flag w 1) (flag w 0)) else none
  | 0xB4 => if fld w 2 1 = 0 then some (.vmad (hdr w) (bits w 15 4) (bits w 11 4) (bits w 7 4) (bits w 3 4) (flag w 1) (flag w 0)) else none
  | 0xB5 => if fld w 1 2 = 0 ∧ fld w 7 4 = 0 then some (.vpopc (hdr w) (bits w 15 4) (bits w 11 4) (bits w 3 4) (flag w 0)) else none
  | 0xB6 => if fld w 1 2 = 0 ∧ fld w 7 4 = 0 then some (.vmovq (hdr w) (bits w 15 4) (bits w 11 4) (bits w 3 4) (flag w 0)) else none
  | 0xC0 => if fld w 18 1 = 0 then some (.qrd (hdr w) (bits w 14 4) (bits w 9 5) (bits w 0 9)) else none
  | 0xC1 => if fld w 0 4 = 0 ∧ fld w 18 1 = 0 then some (.qrdS (hdr w) (bits w 14 4) (bits w 9 5) (bits w 4 5)) else none
  | 0xC2 => some (.qwr (hdr w) (flag w 18) (bits w 14 4) (bits w 9 5) (bits w 0 9))
  | 0xC3 => if fld w 0 4 = 0 then some (.qwrS (hdr w) (flag w 18) (bits w 14 4) (bits w 9 5) (bits w 4 5)) else none
  | 0xC4 => if fld w 7 1 = 0 ∧ fld w2 16 16 = 0 then some (.tdef (hdr w) (bits w 13 6) (bits w 8 5) (bits w 5 2) (bits w 0 5) (bits w2 0 16)) else none
  | 0xC5 => if fld w 0 13 = 0 then some (.tfree (hdr w) (bits w 13 6)) else none
  | 0xC6 => if fld w 7 1 = 0 then some (.tmov (hdr w) (bits w 13 6) (bits w 8 5) (bits w 5 2) (bits w 0 5)) else none
  | 0xC7 => if fld w 7 1 = 0 then some (.tmovK (hdr w) (bits w 13 6) (bits w 8 5) (bits w 5 2) (bits w 0 5)) else none
  | 0xC8 => if fld w 0 8 = 0 then some (.tqryW0 (hdr w) (bits w 13 6) (bits w 8 5)) else if fld w 0 8 = 1 then some (.tqryW1 (hdr w) (bits w 13 6) (bits w 8 5)) else none
  | 0xD0 => if fld w 3 5 = 0 then some (.cpl (hdr w) (bits w 13 6) (bits w 8 5) (flag w 2) (bits w 0 2)) else none
  | 0xD1 => if fld w 3 5 = 0 then some (.cps (hdr w) (bits w 13 6) (bits w 8 5) (flag w 2) (bits w 0 2)) else none
  | 0xD2 => some (.cpacc (hdr w) (bits w 14 5) (bits w 9 5) (bits w 4 5) (bits w 0 4))
  | 0xD3 => if fld w 4 5 = 0 then some (.cpaccr (hdr w) (bits w 14 5) (bits w 9 5) (bits w 0 4)) else none
  | 0xD4 => if fld w 0 4 = 0 then some (.cpcasW (hdr w) (bits w 14 5) (bits w 9 5) (bits w 4 5)) else if fld w 0 4 = 1 then some (.cpcasD (hdr w) (bits w 14 5) (bits w 9 5) (bits w 4 5)) else none
  | 0xD5 => some (.cpmeta (hdr w) (bits w 13 6) (bits w 8 5) (bits w 0 8))
  | 0xD6 => some (.cpmc (hdr w) (bits w 13 6) (bits w 8 5) (bits w 0 8))
  | 0xD7 => if fld w 0 14 = 0 then some (.resp (hdr w) (bits w 14 5)) else if fld w 0 14 = 1 then some (.respPk (hdr w) (bits w 14 5)) else none
  | 0xD8 => if fld w 0 1 = 0 ∧ fld w 3 5 = 0 then some (.chpush (hdr w) (bits w 13 6) (bits w 8 5) (flag w 2) (flag w 1)) else none
  | 0xD9 => if fld w 0 1 = 0 ∧ fld w 2 6 = 0 then some (.chpop (hdr w) (bits w 13 6) (bits w 8 5) (flag w 1)) else if fld w 0 1 = 1 ∧ fld w 2 6 = 0 then some (.chpopPk (hdr w) (bits w 13 6) (bits w 8 5) (flag w 1)) else none
  | 0xDA => if fld w 0 8 = 0 then some (.chqry (hdr w) (bits w 13 6) (bits w 8 5)) else none
  | 0xE0 => if fld w 0 1 = 0 ∧ fld w 3 5 = 0 then some (.tstep (hdr w) (bits w 13 6) (bits w 8 5) (flag w 2) (flag w 1)) else if fld w 0 1 = 1 ∧ fld w 3 5 = 0 then some (.tstepSp (hdr w) (bits w 13 6) (bits w 8 5) (flag w 2) (flag w 1)) else none
  | 0xE1 => if fld w 8 11 = 0 then some (.tcfg (hdr w) (bits w 4 4) (bits w 0 4)) else none
  | 0xE2 => if fld w 0 4 = 0 ∧ fld w 8 11 = 0 then some (.tswap (hdr w) (bits w 4 4)) else none
  | 0xE3 => if fld w 0 4 = 0 ∧ fld w 9 10 = 0 then some (.tdrain (hdr w) (flag w 8) (bits w 4 4)) else none
  | 0xE4 => if fld w 0 4 = 0 ∧ fld w 14 5 = 0 then some (.tresumeRepl (hdr w) (bits w 9 5) (bits w 4 5)) else if fld w 0 9 = 1 ∧ fld w 14 5 = 0 then some (.tresumeDisc (hdr w) (bits w 9 5)) else if fld w 0 9 = 2 ∧ fld w 14 5 = 0 then some (.tresumeAbort (hdr w) (bits w 9 5)) else none
  | 0xE5 => if fld w 5 3 = 0 then some (.tcbk (hdr w) (bits w 13 6) (bits w 8 5) (bits w 0 5)) else none
  | 0xE6 => if fld w 0 2 = 0 ∧ fld w 3 5 = 0 then some (.scaccRow (hdr w) (bits w 13 6) (bits w 8 5) (flag w 2)) else if fld w 0 2 = 1 ∧ fld w 3 5 = 0 then some (.scaccCol (hdr w) (bits w 13 6) (bits w 8 5) (flag w 2)) else if fld w 0 2 = 2 ∧ fld w 3 5 = 0 then some (.scaccBlk (hdr w) (bits w 13 6) (bits w 8 5) (flag w 2)) else none
  | 0xE7 => if fld w 0 19 = 0 then some (.tsoundOn (hdr w)) else if fld w 0 19 = 1 then some (.tsoundOff (hdr w)) else if fld w 0 19 = 2 then some (.tsoundNow (hdr w)) else none
  | 0xF0 => if fld w 3 16 = 0 then some (.fenceAcq (hdr w) (bits w 0 3)) else if fld w 3 16 = 1 then some (.fenceRel (hdr w) (bits w 0 3)) else if fld w 3 16 = 2 then some (.fenceSc (hdr w) (bits w 0 3)) else none
  | 0xF1 => some (.waitc (hdr w) (bits w 15 4) (bits w 11 4) (bits w 7 4) (bits w 3 4) (bits w 0 3))
  | 0xF2 => if fld w 8 11 = 0 then some (.gbar (hdr w) (bits w 0 8)) else if fld w 8 11 = 1 then some (.gbarArr (hdr w) (bits w 0 8)) else none
  | 0xF3 => if fld w 0 9 = 0 then some (.signal (hdr w) (bits w 14 5) (bits w 9 5)) else if fld w 0 9 = 1 then some (.signalW (hdr w) (bits w 14 5) (bits w 9 5)) else none
  | 0xF4 => if fld w 0 9 = 0 then some (.spawn (hdr w) (bits w 14 5) (bits w 9 5)) else none
  | 0xF5 => if fld w 0 19 = 0 ∧ fld w 23 1 = 1 then some (.modeGuarded (grd w)) else if fld w 0 19 = 1 ∧ fld w 23 1 = 1 then some (.modeExposed (grd w)) else none
  | 0xF6 => if fld w 0 4 = 0 then some (.cairnSet (hdr w) (bits w 14 5) (bits w 9 5) (bits w 4 5)) else if fld w 0 9 = 1 ∧ fld w 14 5 = 0 then some (.cairnRoll (hdr w) (bits w 9 5)) else if fld w 0 9 = 2 ∧ fld w 14 5 = 0 then some (.cairnDrop (hdr w) (bits w 9 5)) else none
  | 0xF7 => if fld w 0 14 = 0 then some (.lfdone (hdr w) (bits w 14 5)) else none
  | 0xF8 => if fld w 14 5 = 0 then some (.trap (hdr w) (bits w 0 14)) else none
  | 0xF9 => if fld w 1 18 = 0 then some (.eret (hdr w) (flag w 0)) else none
  | 0xFA => if fld w 14 5 = 0 then some (.bkpt (hdr w) (bits w 0 14)) else none
  | 0xFB => if fld w 0 14 = 0 then some (.haltx (hdr w) (bits w 14 5)) else none
  | _ => none

/-- R68: the copy-engine private half. -/
def rawCopy (w w2 : Nat) : Option Instr :=
  match fld w 24 8 with
  | 0x80 => if fld w 0 4 = 0 ∧ fld w 23 1 = 0 ∧ fld w2 0 32 = 0 then some (.cpy1d (grd w) (bits w 14 5) (bits w 9 5) (bits w 4 5)) else none
  | 0x81 => if fld w 0 4 = 0 ∧ fld w 23 1 = 0 ∧ fld w2 10 22 = 0 then some (.cpy2d (grd w) (bits w 14 5) (bits w 9 5) (bits w 4 5) (bits w2 5 5) (bits w2 0 5)) else none
  | 0x82 => if fld w 0 4 = 0 ∧ fld w 23 1 = 0 ∧ fld w2 10 22 = 0 then some (.cpy3d (grd w) (bits w 14 5) (bits w 9 5) (bits w 4 5) (bits w2 5 5) (bits w2 0 5)) else none
  | 0x83 => if fld w 0 4 = 0 ∧ fld w 9 5 = 0 ∧ fld w 23 1 = 0 ∧ fld w2 10 22 = 0 then some (.zero (grd w) (bits w 14 5) (bits w 4 5) (bits w2 5 5) (bits w2 0 5)) else none
  | 0x84 => if fld w 2 2 = 0 ∧ fld w 23 1 = 0 ∧ fld w2 10 22 = 0 then some (.fill (grd w) (bits w 14 5) (bits w 9 5) (bits w 4 5) (bits w 0 2) (bits w2 5 5) (bits w2 0 5)) else none
  | 0x85 => if fld w 23 1 = 0 then some (.acc (grd w) (bits w 14 5) (bits w 9 5) (bits w 4 5) (bits w 0 4)) else none
  | 0x86 => if fld w 23 1 = 0 then some (.accr (grd w) (bits w 14 5) (bits w 9 5) (bits w 4 5) (bits w 0 4)) else none
  | 0x87 => if fld w 0 4 = 0 ∧ fld w 23 1 = 0 then some (.casW (grd w) (bits w 14 5) (bits w 9 5) (bits w 4 5)) else if fld w 0 4 = 1 ∧ fld w 23 1 = 0 then some (.casD (grd w) (bits w 14 5) (bits w 9 5) (bits w 4 5)) else none
  | 0x88 => if fld w 2 2 = 0 ∧ fld w 23 1 = 0 ∧ fld w2 6 26 = 0 then some (.gather (grd w) (bits w 14 5) (bits w 9 5) (bits w 4 5) (bits w 0 2) (flag w2 5) (bits w2 0 5)) else none
  | 0x89 => if fld w 2 2 = 0 ∧ fld w 23 1 = 0 ∧ fld w2 6 26 = 0 then some (.scatter (grd w) (bits w 14 5) (bits w 9 5) (bits w 4 5) (bits w 0 2) (flag w2 5) (bits w2 0 5)) else none
  | 0x8A => if fld w 0 4 = 0 ∧ fld w 23 1 = 0 ∧ fld w2 8 24 = 0 then some (.mcast (grd w) (bits w 14 5) (bits w 9 5) (bits w 4 5) (bits w2 0 8)) else none
  | 0x8B => if fld w 0 9 = 0 ∧ fld w 23 1 = 0 then some (.wake (grd w) (bits w 14 5) (bits w 9 5)) else none
  | 0x8C => if fld w 0 14 = 0 ∧ fld w 23 1 = 0 then some (.seq (grd w) (bits w 14 5)) else none
  | 0x8D => if fld w 0 14 = 0 ∧ fld w 23 1 = 0 ∧ fld w2 17 15 = 0 then some (.link (grd w) (bits w 14 5) (bits w2 0 17)) else none
  | _ => none

/-- R69: the front-end private half. -/
def rawFront (w w2 : Nat) : Option Instr :=
  match fld w 24 8 with
  | 0x80 => if fld w 23 1 = 0 then some (.pkgetW (grd w) (bits w 14 5) (bits w 0 14)) else none
  | 0x81 => if fld w 23 1 = 0 then some (.pkgetD (grd w) (bits w 14 5) (bits w 0 14)) else none
  | 0x82 => if fld w 23 1 = 0 then some (.shdr (grd w) (bits w 14 5) (bits w 0 14)) else none
  | 0x83 => if fld w 23 1 = 0 then some (.shdw (grd w) (bits w 14 5) (bits w 0 14)) else none
  | 0x84 => if fld w 0 4 = 0 ∧ fld w 23 1 = 0 then some (.emtask (grd w) (bits w 14 5) (bits w 9 5) (bits w 4 5)) else none
  | 0x85 => if fld w 0 9 = 0 ∧ fld w 23 1 = 0 then some (.emlaunch (grd w) (bits w 14 5) (bits w 9 5)) else if fld w 0 4 = 1 ∧ fld w 23 1 = 0 then some (.emlaunchCfg (grd w) (bits w 14 5) (bits w 9 5) (bits w 4 5)) else none
  | 0x86 => if fld w 0 9 = 0 ∧ fld w 23 1 = 0 then some (.sigwaitLe (grd w) (bits w 14 5) (bits w 9 5)) else if fld w 0 9 = 1 ∧ fld w 23 1 = 0 then some (.sigwaitLt (grd w) (bits w 14 5) (bits w 9 5)) else if fld w 0 9 = 2 ∧ fld w 23 1 = 0 then some (.sigwaitEq (grd w) (bits w 14 5) (bits w 9 5)) else if fld w 0 9 = 3 ∧ fld w 23 1 = 0 then some (.sigwaitNe (grd w) (bits w 14 5) (bits w 9 5)) else none
  | 0x87 => if fld w 0 19 = 0 ∧ fld w 23 1 = 0 then some .barrier else none
  | 0x88 => if fld w 0 4 = 0 ∧ fld w 23 1 = 0 then some (.delta (grd w) (bits w 14 5) (bits w 9 5) (bits w 4 5)) else none
  | 0x89 => if fld w 0 19 = 0 ∧ fld w 23 1 = 0 then some (.abortPkt (grd w)) else if fld w 0 19 = 1 ∧ fld w 23 1 = 0 then some (.abortQueue (grd w)) else none
  | 0x8A => if fld w 0 4 = 0 ∧ fld w 23 1 = 0 then some (.complete (grd w) (bits w 14 5) (bits w 9 5) (bits w 4 5)) else none
  | _ => none

/-- R54-R55: the S bit of a word that carries one. -/
def Instr.rv : Instr → Bool
  | .nop h => h.s
  | .endStream h => h.s
  | .br h _ => h.s
  | .call h _ => h.s
  | .ret h => h.s
  | .jmpr h _ _ => h.s
  | .loop h _ _ _ => h.s
  | .loopx h _ _ _ => h.s
  | .add h _ _ _ => h.s
  | .addW h _ _ _ => h.s
  | .sub h _ _ _ => h.s
  | .subW h _ _ _ => h.s
  | .addi h _ _ _ => h.s
  | .lui h _ _ => h.s
  | .li32 h _ _ => h.s
  | .and h _ _ _ => h.s
  | .or h _ _ _ => h.s
  | .xor h _ _ _ => h.s
  | .andi h _ _ _ => h.s
  | .ori h _ _ _ => h.s
  | .xori h _ _ _ => h.s
  | .shl h _ _ _ => h.s
  | .shlW h _ _ _ => h.s
  | .shr h _ _ _ => h.s
  | .shrW h _ _ _ => h.s
  | .sra h _ _ _ => h.s
  | .sraW h _ _ _ => h.s
  | .shli h _ _ _ => h.s
  | .shri h _ _ _ => h.s
  | .srai h _ _ _ => h.s
  | .min h _ _ _ => h.s
  | .minW h _ _ _ => h.s
  | .max h _ _ _ => h.s
  | .maxW h _ _ _ => h.s
  | .minn h _ _ _ => h.s
  | .minnW h _ _ _ => h.s
  | .maxn h _ _ _ => h.s
  | .maxnW h _ _ _ => h.s
  | .sel h _ _ _ _ => h.s
  | .mov h _ _ => h.s
  | .addsh h _ _ _ _ => h.s
  | .agen2 h _ _ _ => h.s
  | .clz h _ _ => h.s
  | .clzW h _ _ => h.s
  | .popc h _ _ => h.s
  | .popcW h _ _ => h.s
  | .cmpEq h _ _ _ _ _ => h.s
  | .cmpNe h _ _ _ _ _ => h.s
  | .cmpLt h _ _ _ _ _ => h.s
  | .cmpGe h _ _ _ _ _ => h.s
  | .cmpLtn h _ _ _ _ _ => h.s
  | .cmpGen h _ _ _ _ _ => h.s
  | .cmpTst h _ _ _ _ _ => h.s
  | .cmpNtst h _ _ _ _ _ => h.s
  | .cmpiEq h _ _ _ _ _ => h.s
  | .cmpiNe h _ _ _ _ _ => h.s
  | .cmpiLt h _ _ _ _ _ => h.s
  | .cmpiGe h _ _ _ _ _ => h.s
  | .cmpiLtn h _ _ _ _ _ => h.s
  | .cmpiGen h _ _ _ _ _ => h.s
  | .cmpiTst h _ _ _ _ _ => h.s
  | .pand h _ _ _ => h.s
  | .por h _ _ _ => h.s
  | .pxor h _ _ _ => h.s
  | .pnot h _ _ => h.s
  | .pmov h _ _ => h.s
  | .pandn h _ _ _ => h.s
  | .bfx h _ _ _ => h.s
  | .bfxn h _ _ _ => h.s
  | .bfi h _ _ _ => h.s
  | .fshr h _ _ _ _ _ => h.s
  | .mul h _ _ _ => h.s
  | .mulW h _ _ _ => h.s
  | .mulh h _ _ _ => h.s
  | .mulhn h _ _ _ => h.s
  | .div h _ _ _ => h.s
  | .divW h _ _ _ => h.s
  | .divn h _ _ _ => h.s
  | .divnW h _ _ _ => h.s
  | .rem h _ _ _ => h.s
  | .remW h _ _ _ => h.s
  | .remn h _ _ _ => h.s
  | .remnW h _ _ _ => h.s
  | .pfd h _ _ _ => h.s
  | .pfi h _ _ _ => h.s
  | .hint2 h _ _ _ _ => h.s
  | .hint3 h _ _ _ _ => h.s
  | .hint4 h _ _ _ _ => h.s
  | .hint5 h _ _ _ _ => h.s
  | .hint6 h _ _ _ _ => h.s
  | .hint7 h _ _ _ _ => h.s
  | .ldB h _ _ _ => h.s
  | .ldBn h _ _ _ => h.s
  | .ldH h _ _ _ => h.s
  | .ldHn h _ _ _ => h.s
  | .ldW h _ _ _ => h.s
  | .ldWn h _ _ _ => h.s
  | .ldD h _ _ _ => h.s
  | .stB h _ _ _ => h.s
  | .stH h _ _ _ => h.s
  | .stW h _ _ _ => h.s
  | .stD h _ _ _ => h.s
  | .ldaD h _ _ _ => h.s
  | .stlD h _ _ _ => h.s
  | .getx h _ _ => h.s
  | .setx h _ _ => h.s
  | .vadd h _ _ _ _ _ _ => h.s
  | .vaddSat h _ _ _ _ _ _ => h.s
  | .vsub h _ _ _ _ _ _ => h.s
  | .vsubSat h _ _ _ _ _ _ => h.s
  | .vmul h _ _ _ _ _ _ => h.s
  | .vmulHi h _ _ _ _ _ _ => h.s
  | .vfma h _ _ _ _ _ _ => h.s
  | .vfms h _ _ _ _ _ _ => h.s
  | .vfnma h _ _ _ _ _ _ => h.s
  | .vmin h _ _ _ _ _ _ => h.s
  | .vmax h _ _ _ _ _ _ => h.s
  | .vabs h _ _ _ _ => h.s
  | .vneg h _ _ _ _ => h.s
  | .vcmpEq h _ _ _ _ _ _ _ => h.s
  | .vcmpNe h _ _ _ _ _ _ _ => h.s
  | .vcmpLt h _ _ _ _ _ _ _ => h.s
  | .vcmpLe h _ _ _ _ _ _ _ => h.s
  | .vcmpGt h _ _ _ _ _ _ _ => h.s
  | .vcmpGe h _ _ _ _ _ _ _ => h.s
  | .vcmpUn h _ _ _ _ _ _ _ => h.s
  | .vcmpOrd h _ _ _ _ _ _ _ => h.s
  | .vsel h _ _ _ _ _ _ => h.s
  | .vcvt h _ _ _ _ _ _ => h.s
  | .vscl h _ _ _ _ _ _ => h.s
  | .vsclS h _ _ _ _ _ => h.s
  | .vrcp h _ _ _ _ => h.s
  | .vrsq h _ _ _ _ => h.s
  | .vredAdd h _ _ _ _ => h.s
  | .vredMin h _ _ _ _ => h.s
  | .vredMax h _ _ _ _ => h.s
  | .vredAnd h _ _ _ _ => h.s
  | .vredOr h _ _ _ _ => h.s
  | .vredXor h _ _ _ _ => h.s
  | .vpermIdx h _ _ _ _ _ _ => h.s
  | .vpermRot h _ _ _ _ _ _ => h.s
  | .vpermRev h _ _ _ _ => h.s
  | .vpermZip h _ _ _ _ _ _ => h.s
  | .vpermUnzip h _ _ _ _ _ _ => h.s
  | .vbcast h _ _ _ _ _ _ => h.s
  | .vbcastS h _ _ _ => h.s
  | .vlut h _ _ _ _ _ _ => h.s
  | .vand h _ _ _ _ _ _ => h.s
  | .vor h _ _ _ _ _ _ => h.s
  | .vxor h _ _ _ _ _ _ => h.s
  | .vshl h _ _ _ _ _ _ => h.s
  | .vshr h _ _ _ _ _ _ => h.s
  | .vshrA h _ _ _ _ _ _ => h.s
  | .vmad h _ _ _ _ _ _ => h.s
  | .vpopc h _ _ _ _ => h.s
  | .vmovq h _ _ _ _ => h.s
  | .qrd h _ _ _ => h.s
  | .qrdS h _ _ _ => h.s
  | .qwr h _ _ _ _ => h.s
  | .qwrS h _ _ _ _ => h.s
  | .tdef h _ _ _ _ _ => h.s
  | .tfree h _ => h.s
  | .tmov h _ _ _ _ => h.s
  | .tmovK h _ _ _ _ => h.s
  | .tqryW0 h _ _ => h.s
  | .tqryW1 h _ _ => h.s
  | .cpl h _ _ _ _ => h.s
  | .cps h _ _ _ _ => h.s
  | .cpacc h _ _ _ _ => h.s
  | .cpaccr h _ _ _ => h.s
  | .cpcasW h _ _ _ => h.s
  | .cpcasD h _ _ _ => h.s
  | .cpmeta h _ _ _ => h.s
  | .cpmc h _ _ _ => h.s
  | .resp h _ => h.s
  | .respPk h _ => h.s
  | .chpush h _ _ _ _ => h.s
  | .chpop h _ _ _ => h.s
  | .chpopPk h _ _ _ => h.s
  | .chqry h _ _ => h.s
  | .tstep h _ _ _ _ => h.s
  | .tstepSp h _ _ _ _ => h.s
  | .tcfg h _ _ => h.s
  | .tswap h _ => h.s
  | .tdrain h _ _ => h.s
  | .tresumeRepl h _ _ => h.s
  | .tresumeDisc h _ => h.s
  | .tresumeAbort h _ => h.s
  | .tcbk h _ _ _ => h.s
  | .scaccRow h _ _ _ => h.s
  | .scaccCol h _ _ _ => h.s
  | .scaccBlk h _ _ _ => h.s
  | .tsoundOn h => h.s
  | .tsoundOff h => h.s
  | .tsoundNow h => h.s
  | .fenceAcq h _ => h.s
  | .fenceRel h _ => h.s
  | .fenceSc h _ => h.s
  | .waitc h _ _ _ _ _ => h.s
  | .gbar h _ => h.s
  | .gbarArr h _ => h.s
  | .signal h _ _ => h.s
  | .signalW h _ _ => h.s
  | .spawn h _ _ => h.s
  | .modeGuarded _ => true
  | .modeExposed _ => true
  | .cairnSet h _ _ _ => h.s
  | .cairnRoll h _ => h.s
  | .cairnDrop h _ => h.s
  | .lfdone h _ => h.s
  | .trap h _ => h.s
  | .eret h _ => h.s
  | .bkpt h _ => h.s
  | .haltx h _ => h.s
  | .cpy1d _ _ _ _ => false
  | .cpy2d _ _ _ _ _ _ => false
  | .cpy3d _ _ _ _ _ _ => false
  | .zero _ _ _ _ _ => false
  | .fill _ _ _ _ _ _ _ => false
  | .acc _ _ _ _ _ => false
  | .accr _ _ _ _ _ => false
  | .casW _ _ _ _ => false
  | .casD _ _ _ _ => false
  | .gather _ _ _ _ _ _ _ => false
  | .scatter _ _ _ _ _ _ _ => false
  | .mcast _ _ _ _ _ => false
  | .wake _ _ _ => false
  | .seq _ _ => false
  | .link _ _ _ => false
  | .pkgetW _ _ _ => false
  | .pkgetD _ _ _ => false
  | .shdr _ _ _ => false
  | .shdw _ _ _ => false
  | .emtask _ _ _ _ => false
  | .emlaunch _ _ _ => false
  | .emlaunchCfg _ _ _ _ => false
  | .sigwaitLe _ _ _ => false
  | .sigwaitLt _ _ _ => false
  | .sigwaitEq _ _ _ => false
  | .sigwaitNe _ _ _ => false
  | .delta _ _ _ _ => false
  | .abortPkt _ => false
  | .abortQueue _ => false
  | .complete _ _ _ _ => false
  | .barrier => false
  | .bundleIssue => false
  | .queueWaitTimeout => false
  | .loadDataReturn => false
  | .storePerformed => false
  | .qrdLanding => false
  | .lateAccessRefusal => false
  | .waitcComplete => false
  | .fenceComplete => false
  | .modeDrainDone => true
  | .gbarPhaseComplete => false
  | .taskEndDrained => false
  | .copyStart => false
  | .copyGranule => false
  | .copyComplete => false
  | .copyTranslationFault => false
  | .slotTranslationFault => false
  | .chainRegister => false
  | .chainEntryRead => false
  | .chainCommandComplete => false
  | .taskCancelAtHead => false
  | .bindFresh => false
  | .bindRestore => false
  | .bindPreempt => false
  | .slotStopped => false
  | .slotSaveDone => false
  | .tenantScrub => false
  | .stepArm => false
  | .stepRowWritten => false
  | .stepComplete => false
  | .scaccDone => false
  | .tcfgLoadDone => false
  | .segmentSwitch => false
  | .drainEmpty => false
  | .siteFire => false
  | .collarTrapDelivery => false
  | .hardwareRollback => false
  | .channelPark => false
  | .channelWake => false
  | .sumpRefill => false
  | .sumpGrant => false
  | .sumpDecline => false
  | .sumpSpillFault => false
  | .deadlockScan => false
  | .landfall => false
  | .deadlineHardStop => false
  | .packetStart => false
  | .packetBudget => false
  | .sigwaitReread => false
  | .emlaunchGroupsFree => false
  | .cfgTrapTimeout => false
  | .launchRetire => false
  | .packetRetire => false
  | .hostWrite => false
  | .hostRead => false
  | .hostTail => false
  | .hostAck => false
  | .hostFaultRetry => false
  | .hostFaultAbort => false
  | .hostRetransmit => false
  | .hostLinkLoss => false
  | .hostLinkUp => false
  | .mgmtStatus => false
  | .mgmtQdesc => false
  | .mgmtQprog => false
  | .mgmtQtear => false
  | .mgmtChopen => false
  | .mgmtChclose => false
  | .mgmtNodemap => false
  | .mgmtTxinv => false
  | .mgmtPtpdom => false
  | .mgmtCounters => false
  | .mgmtLinktrain => false
  | .mgmtFence => false
  | .mgmtAttest => false
  | .mgmtBaseimg => false
  | .mgmtPower => false
  | .mgmtSensors => false
  | .txinvPages => false
  | .txinvChart => false
  | .txinvAsid => false
  | .txinvAll => false
  | .txinvDone => false
  | .registerWrite => false
  | .ptpMessage => false
  | .ptpHoldover => false
  | .remotePacketArrival => false
  | .remoteAckArrival => false
  | .remoteResendTimeout => false
  | .remoteRefusal => false
  | .destinationUnreachable => false
  | .flitCrcRetry => false
  | .linkLossOfLock => false
  | .linkFlitErrorRate => false
  | .linkRemoved => false
  | .correctedError => false
  | .uncorrectableError => false
  | .backgroundScrub => false
  | .channelRemap => false
  | .tileRetire => false
  | .throttleStep => false
  | .carrierThrottle => false
  | .thermalTrip => false
  | .coldReset => false
  | .illegalWord => false
  | .resultLands => false
  | .stepPreloadDone => false
  | .stepRowEnters => false
  | .spareTakeoverDone => false
  | .linkTrained => false
  | .railOutOfRange => false

/-- The engines that fetch words (R65). -/
inductive Engine where
  | core | copy | front
  deriving DecidableEq, Repr

/-- R57 for the engine: is `w` the first word of a pair? -/
def twoWord : Engine → Nat → Bool
  | .core, w => twoWordCore w
  | .copy, w => twoWordCopy w
  | .front, w => twoWordFront w

/-- A word, with the word after it, as the engine reads it; none when the word is illegal (R70-R73). -/
def decode (e : Engine) (w w2 : Nat) : Option Instr :=
  let raw := match e with
    | .core => (rawShared w w2).orElse fun _ => rawCore w w2
    | .copy => ((rawShared w w2).filter fun i : Instr => !i.rv).orElse fun _ => rawCopy w w2
    | .front => ((rawShared w w2).filter fun i : Instr => !i.rv).orElse fun _ => rawFront w w2
  raw.filter Instr.wf

/-- The words of an instruction, first word first (R53, R57); an event has none. -/
def encode : Instr → List Nat
  | .nop h => [0 + h.bits]
  | .endStream h => [16777216 + h.bits]
  | .br h o => [33554432 + h.bits + o.toNat]
  | .call h o => [50331648 + h.bits + o.toNat]
  | .ret h => [67108864 + h.bits]
  | .jmpr h d a => [83886080 + h.bits + d.toNat * 16384 + a.toNat * 512]
  | .loop h c l x => [100663296 + h.bits + c.toNat * 131072 + l.toNat * 256 + x.toNat]
  | .loopx h c l x => [117440512 + h.bits + c.toNat * 131072 + l.toNat * 256 + x.toNat]
  | .add h d a b => [268435456 + h.bits + d.toNat * 16384 + a.toNat * 512 + b.toNat * 16]
  | .addW h d a b => [268435457 + h.bits + d.toNat * 16384 + a.toNat * 512 + b.toNat * 16]
  | .sub h d a b => [285212672 + h.bits + d.toNat * 16384 + a.toNat * 512 + b.toNat * 16]
  | .subW h d a b => [285212673 + h.bits + d.toNat * 16384 + a.toNat * 512 + b.toNat * 16]
  | .addi h d a i => [301989888 + h.bits + d.toNat * 16384 + a.toNat * 512 + i.toNat]
  | .lui h d i => [318767104 + h.bits + d.toNat * 16384 + i.toNat]
  | .li32 h d i => [335544320 + h.bits + d.toNat * 16384, i.toNat]
  | .and h d a b => [352321536 + h.bits + d.toNat * 16384 + a.toNat * 512 + b.toNat * 16]
  | .or h d a b => [369098752 + h.bits + d.toNat * 16384 + a.toNat * 512 + b.toNat * 16]
  | .xor h d a b => [385875968 + h.bits + d.toNat * 16384 + a.toNat * 512 + b.toNat * 16]
  | .andi h d a i => [402653184 + h.bits + d.toNat * 16384 + a.toNat * 512 + i.toNat]
  | .ori h d a i => [419430400 + h.bits + d.toNat * 16384 + a.toNat * 512 + i.toNat]
  | .xori h d a i => [436207616 + h.bits + d.toNat * 16384 + a.toNat * 512 + i.toNat]
  | .shl h d a b => [452984832 + h.bits + d.toNat * 16384 + a.toNat * 512 + b.toNat * 16]
  | .shlW h d a b => [452984833 + h.bits + d.toNat * 16384 + a.toNat * 512 + b.toNat * 16]
  | .shr h d a b => [469762048 + h.bits + d.toNat * 16384 + a.toNat * 512 + b.toNat * 16]
  | .shrW h d a b => [469762049 + h.bits + d.toNat * 16384 + a.toNat * 512 + b.toNat * 16]
  | .sra h d a b => [486539264 + h.bits + d.toNat * 16384 + a.toNat * 512 + b.toNat * 16]
  | .sraW h d a b => [486539265 + h.bits + d.toNat * 16384 + a.toNat * 512 + b.toNat * 16]
  | .shli h d a i => [503316480 + h.bits + d.toNat * 16384 + a.toNat * 512 + i.toNat]
  | .shri h d a i => [520093696 + h.bits + d.toNat * 16384 + a.toNat * 512 + i.toNat]
  | .srai h d a i => [536870912 + h.bits + d.toNat * 16384 + a.toNat * 512 + i.toNat]
  | .min h d a b => [553648128 + h.bits + d.toNat * 16384 + a.toNat * 512 + b.toNat * 16]
  | .minW h d a b => [553648129 + h.bits + d.toNat * 16384 + a.toNat * 512 + b.toNat * 16]
  | .max h d a b => [570425344 + h.bits + d.toNat * 16384 + a.toNat * 512 + b.toNat * 16]
  | .maxW h d a b => [570425345 + h.bits + d.toNat * 16384 + a.toNat * 512 + b.toNat * 16]
  | .minn h d a b => [587202560 + h.bits + d.toNat * 16384 + a.toNat * 512 + b.toNat * 16]
  | .minnW h d a b => [587202561 + h.bits + d.toNat * 16384 + a.toNat * 512 + b.toNat * 16]
  | .maxn h d a b => [603979776 + h.bits + d.toNat * 16384 + a.toNat * 512 + b.toNat * 16]
  | .maxnW h d a b => [603979777 + h.bits + d.toNat * 16384 + a.toNat * 512 + b.toNat * 16]
  | .sel h d a b k => [620756992 + h.bits + d.toNat * 16384 + a.toNat * 512 + b.toNat * 16 + k.toNat]
  | .mov h d a => [637534208 + h.bits + d.toNat * 16384 + a.toNat * 512]
  | .addsh h d a b t => [654311424 + h.bits + d.toNat * 16384 + a.toNat * 512 + b.toNat * 16 + t.toNat]
  | .agen2 h d a b => [671088640 + h.bits + d.toNat * 16384 + a.toNat * 512 + b.toNat * 16]
  | .clz h d a => [687865856 + h.bits + d.toNat * 16384 + a.toNat * 512]
  | .clzW h d a => [687865857 + h.bits + d.toNat * 16384 + a.toNat * 512]
  | .popc h d a => [704643072 + h.bits + d.toNat * 16384 + a.toNat * 512]
  | .popcW h d a => [704643073 + h.bits + d.toNat * 16384 + a.toNat * 512]
  | .cmpEq h m p a b e => [1073741824 + h.bits + m.toNat * 131072 + p.toNat * 16384 + a.toNat * 512 + b.toNat * 8 + e.toNat]
  | .cmpNe h m p a b e => [1090519040 + h.bits + m.toNat * 131072 + p.toNat * 16384 + a.toNat * 512 + b.toNat * 8 + e.toNat]
  | .cmpLt h m p a b e => [1107296256 + h.bits + m.toNat * 131072 + p.toNat * 16384 + a.toNat * 512 + b.toNat * 8 + e.toNat]
  | .cmpGe h m p a b e => [1124073472 + h.bits + m.toNat * 131072 + p.toNat * 16384 + a.toNat * 512 + b.toNat * 8 + e.toNat]
  | .cmpLtn h m p a b e => [1140850688 + h.bits + m.toNat * 131072 + p.toNat * 16384 + a.toNat * 512 + b.toNat * 8 + e.toNat]
  | .cmpGen h m p a b e => [1157627904 + h.bits + m.toNat * 131072 + p.toNat * 16384 + a.toNat * 512 + b.toNat * 8 + e.toNat]
  | .cmpTst h m p a b e => [1174405120 + h.bits + m.toNat * 131072 + p.toNat * 16384 + a.toNat * 512 + b.toNat * 8 + e.toNat]
  | .cmpNtst h m p a b e => [1191182336 + h.bits + m.toNat * 131072 + p.toNat * 16384 + a.toNat * 512 + b.toNat * 8 + e.toNat]
  | .cmpiEq h m p a i e => [1207959552 + h.bits + m.toNat * 131072 + p.toNat * 16384 + a.toNat * 512 + i.toNat * 8 + e.toNat]
  | .cmpiNe h m p a i e => [1224736768 + h.bits + m.toNat * 131072 + p.toNat * 16384 + a.toNat * 512 + i.toNat * 8 + e.toNat]
  | .cmpiLt h m p a i e => [1241513984 + h.bits + m.toNat * 131072 + p.toNat * 16384 + a.toNat * 512 + i.toNat * 8 + e.toNat]
  | .cmpiGe h m p a i e => [1258291200 + h.bits + m.toNat * 131072 + p.toNat * 16384 + a.toNat * 512 + i.toNat * 8 + e.toNat]
  | .cmpiLtn h m p a i e => [1275068416 + h.bits + m.toNat * 131072 + p.toNat * 16384 + a.toNat * 512 + i.toNat * 8 + e.toNat]
  | .cmpiGen h m p a i e => [1291845632 + h.bits + m.toNat * 131072 + p.toNat * 16384 + a.toNat * 512 + i.toNat * 8 + e.toNat]
  | .cmpiTst h m p a i e => [1308622848 + h.bits + m.toNat * 131072 + p.toNat * 16384 + a.toNat * 512 + i.toNat * 8 + e.toNat]
  | .pand h p q r => [1325400064 + h.bits + p.toNat * 16384 + q.toNat * 512 + r.toNat * 16]
  | .por h p q r => [1325400065 + h.bits + p.toNat * 16384 + q.toNat * 512 + r.toNat * 16]
  | .pxor h p q r => [1325400066 + h.bits + p.toNat * 16384 + q.toNat * 512 + r.toNat * 16]
  | .pnot h p q => [1325400067 + h.bits + p.toNat * 16384 + q.toNat * 512]
  | .pmov h p q => [1325400068 + h.bits + p.toNat * 16384 + q.toNat * 512]
  | .pandn h p q r => [1325400069 + h.bits + p.toNat * 16384 + q.toNat * 512 + r.toNat * 16]
  | .bfx h d a b => [1342177280 + h.bits + d.toNat * 16384 + a.toNat * 512 + b.toNat * 16]
  | .bfxn h d a b => [1342177281 + h.bits + d.toNat * 16384 + a.toNat * 512 + b.toNat * 16]
  | .bfi h d a b => [1358954496 + h.bits + d.toNat * 16384 + a.toNat * 512 + b.toNat * 16]
  | .fshr h d a b r k => [1375731712 + h.bits + d.toNat * 16384 + a.toNat * 512 + b.toNat * 16, r.toNat * 256 + k.toNat]
  | .mul h d a b => [1392508928 + h.bits + d.toNat * 16384 + a.toNat * 512 + b.toNat * 16]
  | .mulW h d a b => [1392508929 + h.bits + d.toNat * 16384 + a.toNat * 512 + b.toNat * 16]
  | .mulh h d a b => [1409286144 + h.bits + d.toNat * 16384 + a.toNat * 512 + b.toNat * 16]
  | .mulhn h d a b => [1426063360 + h.bits + d.toNat * 16384 + a.toNat * 512 + b.toNat * 16]
  | .div h d a b => [1442840576 + h.bits + d.toNat * 16384 + a.toNat * 512 + b.toNat * 16]
  | .divW h d a b => [1442840577 + h.bits + d.toNat * 16384 + a.toNat * 512 + b.toNat * 16]
  | .divn h d a b => [1459617792 + h.bits + d.toNat * 16384 + a.toNat * 512 + b.toNat * 16]
  | .divnW h d a b => [1459617793 + h.bits + d.toNat * 16384 + a.toNat * 512 + b.toNat * 16]
  | .rem h d a b => [1476395008 + h.bits + d.toNat * 16384 + a.toNat * 512 + b.toNat * 16]
  | .remW h d a b => [1476395009 + h.bits + d.toNat * 16384 + a.toNat * 512 + b.toNat * 16]
  | .remn h d a b => [1493172224 + h.bits + d.toNat * 16384 + a.toNat * 512 + b.toNat * 16]
  | .remnW h d a b => [1493172225 + h.bits + d.toNat * 16384 + a.toNat * 512 + b.toNat * 16]
  | .pfd h d a i => [2013265920 + h.bits + d.toNat * 16384 + a.toNat * 512 + i.toNat]
  | .pfi h d a i => [2030043136 + h.bits + d.toNat * 16384 + a.toNat * 512 + i.toNat]
  | .hint2 h d a b f => [2046820352 + h.bits + d.toNat * 16384 + a.toNat * 512 + b.toNat * 16 + f.toNat]
  | .hint3 h d a b f => [2063597568 + h.bits + d.toNat * 16384 + a.toNat * 512 + b.toNat * 16 + f.toNat]
  | .hint4 h d a b f => [2080374784 + h.bits + d.toNat * 16384 + a.toNat * 512 + b.toNat * 16 + f.toNat]
  | .hint5 h d a b f => [2097152000 + h.bits + d.toNat * 16384 + a.toNat * 512 + b.toNat * 16 + f.toNat]
  | .hint6 h d a b f => [2113929216 + h.bits + d.toNat * 16384 + a.toNat * 512 + b.toNat * 16 + f.toNat]
  | .hint7 h d a b f => [2130706432 + h.bits + d.toNat * 16384 + a.toNat * 512 + b.toNat * 16 + f.toNat]
  | .ldB h d a i => [2147483648 + h.bits + d.toNat * 16384 + a.toNat * 512 + i.toNat]
  | .ldBn h d a i => [2164260864 + h.bits + d.toNat * 16384 + a.toNat * 512 + i.toNat]
  | .ldH h d a i => [2181038080 + h.bits + d.toNat * 16384 + a.toNat * 512 + i.toNat]
  | .ldHn h d a i => [2197815296 + h.bits + d.toNat * 16384 + a.toNat * 512 + i.toNat]
  | .ldW h d a i => [2214592512 + h.bits + d.toNat * 16384 + a.toNat * 512 + i.toNat]
  | .ldWn h d a i => [2231369728 + h.bits + d.toNat * 16384 + a.toNat * 512 + i.toNat]
  | .ldD h d a i => [2248146944 + h.bits + d.toNat * 16384 + a.toNat * 512 + i.toNat]
  | .stB h d a i => [2264924160 + h.bits + d.toNat * 16384 + a.toNat * 512 + i.toNat]
  | .stH h d a i => [2281701376 + h.bits + d.toNat * 16384 + a.toNat * 512 + i.toNat]
  | .stW h d a i => [2298478592 + h.bits + d.toNat * 16384 + a.toNat * 512 + i.toNat]
  | .stD h d a i => [2315255808 + h.bits + d.toNat * 16384 + a.toNat * 512 + i.toNat]
  | .ldaD h d a i => [2332033024 + h.bits + d.toNat * 16384 + a.toNat * 512 + i.toNat]
  | .stlD h d a i => [2348810240 + h.bits + d.toNat * 16384 + a.toNat * 512 + i.toNat]
  | .getx h d x => [2365587456 + h.bits + d.toNat * 16384 + x.toNat]
  | .setx h d x => [2382364672 + h.bits + d.toNat * 16384 + x.toNat]
  | .vadd h d a b t y x => [2415919104 + h.bits + d.toNat * 32768 + a.toNat * 2048 + b.toNat * 128 + t.toNat * 8 + y.toNat * 2 + x.toNat]
  | .vaddSat h d a b t y x => [2415919108 + h.bits + d.toNat * 32768 + a.toNat * 2048 + b.toNat * 128 + t.toNat * 8 + y.toNat * 2 + x.toNat]
  | .vsub h d a b t y x => [2432696320 + h.bits + d.toNat * 32768 + a.toNat * 2048 + b.toNat * 128 + t.toNat * 8 + y.toNat * 2 + x.toNat]
  | .vsubSat h d a b t y x => [2432696324 + h.bits + d.toNat * 32768 + a.toNat * 2048 + b.toNat * 128 + t.toNat * 8 + y.toNat * 2 + x.toNat]
  | .vmul h d a b t y x => [2449473536 + h.bits + d.toNat * 32768 + a.toNat * 2048 + b.toNat * 128 + t.toNat * 8 + y.toNat * 2 + x.toNat]
  | .vmulHi h d a b t y x => [2449473540 + h.bits + d.toNat * 32768 + a.toNat * 2048 + b.toNat * 128 + t.toNat * 8 + y.toNat * 2 + x.toNat]
  | .vfma h d a b t y x => [2466250752 + h.bits + d.toNat * 32768 + a.toNat * 2048 + b.toNat * 128 + t.toNat * 8 + y.toNat * 2 + x.toNat]
  | .vfms h d a b t y x => [2483027968 + h.bits + d.toNat * 32768 + a.toNat * 2048 + b.toNat * 128 + t.toNat * 8 + y.toNat * 2 + x.toNat]
  | .vfnma h d a b t y x => [2499805184 + h.bits + d.toNat * 32768 + a.toNat * 2048 + b.toNat * 128 + t.toNat * 8 + y.toNat * 2 + x.toNat]
  | .vmin h d a b t y x => [2516582400 + h.bits + d.toNat * 32768 + a.toNat * 2048 + b.toNat * 128 + t.toNat * 8 + y.toNat * 2 + x.toNat]
  | .vmax h d a b t y x => [2533359616 + h.bits + d.toNat * 32768 + a.toNat * 2048 + b.toNat * 128 + t.toNat * 8 + y.toNat * 2 + x.toNat]
  | .vabs h d a t x => [2550136832 + h.bits + d.toNat * 32768 + a.toNat * 2048 + t.toNat * 8 + x.toNat]
  | .vneg h d a t x => [2566914048 + h.bits + d.toNat * 32768 + a.toNat * 2048 + t.toNat * 8 + x.toNat]
  | .vcmpEq h k m a b t y x => [2583691264 + h.bits + k.toNat * 131072 + m.toNat * 32768 + a.toNat * 2048 + b.toNat * 128 + t.toNat * 8 + y.toNat * 2 + x.toNat]
  | .vcmpNe h k m a b t y x => [2600468480 + h.bits + k.toNat * 131072 + m.toNat * 32768 + a.toNat * 2048 + b.toNat * 128 + t.toNat * 8 + y.toNat * 2 + x.toNat]
  | .vcmpLt h k m a b t y x => [2617245696 + h.bits + k.toNat * 131072 + m.toNat * 32768 + a.toNat * 2048 + b.toNat * 128 + t.toNat * 8 + y.toNat * 2 + x.toNat]
  | .vcmpLe h k m a b t y x => [2634022912 + h.bits + k.toNat * 131072 + m.toNat * 32768 + a.toNat * 2048 + b.toNat * 128 + t.toNat * 8 + y.toNat * 2 + x.toNat]
  | .vcmpGt h k m a b t y x => [2650800128 + h.bits + k.toNat * 131072 + m.toNat * 32768 + a.toNat * 2048 + b.toNat * 128 + t.toNat * 8 + y.toNat * 2 + x.toNat]
  | .vcmpGe h k m a b t y x => [2667577344 + h.bits + k.toNat * 131072 + m.toNat * 32768 + a.toNat * 2048 + b.toNat * 128 + t.toNat * 8 + y.toNat * 2 + x.toNat]
  | .vcmpUn h k m a b t y x => [2684354560 + h.bits + k.toNat * 131072 + m.toNat * 32768 + a.toNat * 2048 + b.toNat * 128 + t.toNat * 8 + y.toNat * 2 + x.toNat]
  | .vcmpOrd h k m a b t y x => [2701131776 + h.bits + k.toNat * 131072 + m.toNat * 32768 + a.toNat * 2048 + b.toNat * 128 + t.toNat * 8 + y.toNat * 2 + x.toNat]
  | .vsel h d a b t y x => [2717908992 + h.bits + d.toNat * 32768 + a.toNat * 2048 + b.toNat * 128 + t.toNat * 8 + y.toNat * 2 + x.toNat]
  | .vcvt h d a v t x f => [2734686208 + h.bits + d.toNat * 32768 + a.toNat * 2048 + v.toNat * 128 + t.toNat * 8 + x.toNat, f.toNat]
  | .vscl h d a b t y x => [2751463424 + h.bits + d.toNat * 32768 + a.toNat * 2048 + b.toNat * 128 + t.toNat * 8 + y.toNat * 2 + x.toNat]
  | .vsclS h d a k t x => [2751463428 + h.bits + d.toNat * 32768 + a.toNat * 2048 + k.toNat * 128 + t.toNat * 8 + x.toNat]
  | .vrcp h d a t x => [2768240640 + h.bits + d.toNat * 32768 + a.toNat * 2048 + t.toNat * 8 + x.toNat]
  | .vrsq h d a t x => [2785017856 + h.bits + d.toNat * 32768 + a.toNat * 2048 + t.toNat * 8 + x.toNat]
  | .vredAdd h d a t x => [2801795072 + h.bits + d.toNat * 32768 + a.toNat * 2048 + t.toNat * 8 + x.toNat]
  | .vredMin h d a t x => [2801795200 + h.bits + d.toNat * 32768 + a.toNat * 2048 + t.toNat * 8 + x.toNat]
  | .vredMax h d a t x => [2801795328 + h.bits + d.toNat * 32768 + a.toNat * 2048 + t.toNat * 8 + x.toNat]
  | .vredAnd h d a t x => [2801795456 + h.bits + d.toNat * 32768 + a.toNat * 2048 + t.toNat * 8 + x.toNat]
  | .vredOr h d a t x => [2801795584 + h.bits + d.toNat * 32768 + a.toNat * 2048 + t.toNat * 8 + x.toNat]
  | .vredXor h d a t x => [2801795712 + h.bits + d.toNat * 32768 + a.toNat * 2048 + t.toNat * 8 + x.toNat]
  | .vpermIdx h d a b t y x => [2818572288 + h.bits + d.toNat * 32768 + a.toNat * 2048 + b.toNat * 128 + t.toNat * 8 + y.toNat * 2 + x.toNat]
  | .vpermRot h d a b t y x => [2835349504 + h.bits + d.toNat * 32768 + a.toNat * 2048 + b.toNat * 128 + t.toNat * 8 + y.toNat * 2 + x.toNat]
  | .vpermRev h d a t x => [2852126720 + h.bits + d.toNat * 32768 + a.toNat * 2048 + t.toNat * 8 + x.toNat]
  | .vpermZip h d a b t y x => [2868903936 + h.bits + d.toNat * 32768 + a.toNat * 2048 + b.toNat * 128 + t.toNat * 8 + y.toNat * 2 + x.toNat]
  | .vpermUnzip h d a b t y x => [2885681152 + h.bits + d.toNat * 32768 + a.toNat * 2048 + b.toNat * 128 + t.toNat * 8 + y.toNat * 2 + x.toNat]
  | .vbcast h d a b t y x => [2902458368 + h.bits + d.toNat * 32768 + a.toNat * 2048 + b.toNat * 128 + t.toNat * 8 + y.toNat * 2 + x.toNat]
  | .vbcastS h d k t => [2902458372 + h.bits + d.toNat * 32768 + k.toNat * 128 + t.toNat * 8]
  | .vlut h d a b t y x => [2919235584 + h.bits + d.toNat * 32768 + a.toNat * 2048 + b.toNat * 128 + t.toNat * 8 + y.toNat * 2 + x.toNat]
  | .vand h d a b t y x => [2936012800 + h.bits + d.toNat * 32768 + a.toNat * 2048 + b.toNat * 128 + t.toNat * 8 + y.toNat * 2 + x.toNat]
  | .vor h d a b t y x => [2952790016 + h.bits + d.toNat * 32768 + a.toNat * 2048 + b.toNat * 128 + t.toNat * 8 + y.toNat * 2 + x.toNat]
  | .vxor h d a b t y x => [2969567232 + h.bits + d.toNat * 32768 + a.toNat * 2048 + b.toNat * 128 + t.toNat * 8 + y.toNat * 2 + x.toNat]
  | .vshl h d a b t y x => [2986344448 + h.bits + d.toNat * 32768 + a.toNat * 2048 + b.toNat * 128 + t.toNat * 8 + y.toNat * 2 + x.toNat]
  | .vshr h d a b t y x => [3003121664 + h.bits + d.toNat * 32768 + a.toNat * 2048 + b.toNat * 128 + t.toNat * 8 + y.toNat * 2 + x.toNat]
  | .vshrA h d a b t y x => [3003121668 + h.bits + d.toNat * 32768 + a.toNat * 2048 + b.toNat * 128 + t.toNat * 8 + y.toNat * 2 + x.toNat]
  | .vmad h d a b t y x => [3019898880 + h.bits + d.toNat * 32768 + a.toNat * 2048 + b.toNat * 128 + t.toNat * 8 + y.toNat * 2 + x.toNat]
  | .vpopc h d a t x => [3036676096 + h.bits + d.toNat * 32768 + a.toNat * 2048 + t.toNat * 8 + x.toNat]
  | .vmovq h d a t x => [3053453312 + h.bits + d.toNat * 32768 + a.toNat * 2048 + t.toNat * 8 + x.toNat]
  | .qrd h q a i => [3221225472 + h.bits + q.toNat * 16384 + a.toNat * 512 + i.toNat]
  | .qrdS h q a b => [3238002688 + h.bits + q.toNat * 16384 + a.toNat * 512 + b.toNat * 16]
  | .qwr h k q a i => [3254779904 + h.bits + k.toNat * 262144 + q.toNat * 16384 + a.toNat * 512 + i.toNat]
  | .qwrS h k q a b => [3271557120 + h.bits + k.toNat * 262144 + q.toNat * 16384 + a.toNat * 512 + b.toNat * 16]
  | .tdef h u k l t p => [3288334336 + h.bits + u.toNat * 8192 + k.toNat * 256 + l.toNat * 32 + t.toNat, p.toNat]
  | .tfree h t => [3305111552 + h.bits + t.toNat * 8192]
  | .tmov h u k l t => [3321888768 + h.bits + u.toNat * 8192 + k.toNat * 256 + l.toNat * 32 + t.toNat]
  | .tmovK h u k l t => [3338665984 + h.bits + u.toNat * 8192 + k.toNat * 256 + l.toNat * 32 + t.toNat]
  | .tqryW0 h t d => [3355443200 + h.bits + t.toNat * 8192 + d.toNat * 256]
  | .tqryW1 h t d => [3355443201 + h.bits + t.toNat * 8192 + d.toNat * 256]
  | .cpl h t k r l => [3489660928 + h.bits + t.toNat * 8192 + k.toNat * 256 + r.toNat * 4 + l.toNat]
  | .cps h t k r l => [3506438144 + h.bits + t.toNat * 8192 + k.toNat * 256 + r.toNat * 4 + l.toNat]
  | .cpacc h d a b o => [3523215360 + h.bits + d.toNat * 16384 + a.toNat * 512 + b.toNat * 16 + o.toNat]
  | .cpaccr h d a o => [3539992576 + h.bits + d.toNat * 16384 + a.toNat * 512 + o.toNat]
  | .cpcasW h d a b => [3556769792 + h.bits + d.toNat * 16384 + a.toNat * 512 + b.toNat * 16]
  | .cpcasD h d a b => [3556769793 + h.bits + d.toNat * 16384 + a.toNat * 512 + b.toNat * 16]
  | .cpmeta h t k o => [3573547008 + h.bits + t.toNat * 8192 + k.toNat * 256 + o.toNat]
  | .cpmc h t k m => [3590324224 + h.bits + t.toNat * 8192 + k.toNat * 256 + m.toNat]
  | .resp h d => [3607101440 + h.bits + d.toNat * 16384]
  | .respPk h d => [3607101441 + h.bits + d.toNat * 16384]
  | .chpush h t k y q => [3623878656 + h.bits + t.toNat * 8192 + k.toNat * 256 + y.toNat * 4 + q.toNat * 2]
  | .chpop h t k q => [3640655872 + h.bits + t.toNat * 8192 + k.toNat * 256 + q.toNat * 2]
  | .chpopPk h t k q => [3640655873 + h.bits + t.toNat * 8192 + k.toNat * 256 + q.toNat * 2]
  | .chqry h t k => [3657433088 + h.bits + t.toNat * 8192 + k.toNat * 256]
  | .tstep h t k e a => [3758096384 + h.bits + t.toNat * 8192 + k.toNat * 256 + e.toNat * 4 + a.toNat * 2]
  | .tstepSp h t k e a => [3758096385 + h.bits + t.toNat * 8192 + k.toNat * 256 + e.toNat * 4 + a.toNat * 2]
  | .tcfg h m i => [3774873600 + h.bits + m.toNat * 16 + i.toNat]
  | .tswap h m => [3791650816 + h.bits + m.toNat * 16]
  | .tdrain h o m => [3808428032 + h.bits + o.toNat * 256 + m.toNat * 16]
  | .tresumeRepl h a b => [3825205248 + h.bits + a.toNat * 512 + b.toNat * 16]
  | .tresumeDisc h a => [3825205249 + h.bits + a.toNat * 512]
  | .tresumeAbort h a => [3825205250 + h.bits + a.toNat * 512]
  | .tcbk h t k x => [3841982464 + h.bits + t.toNat * 8192 + k.toNat * 256 + x.toNat]
  | .scaccRow h t k e => [3858759680 + h.bits + t.toNat * 8192 + k.toNat * 256 + e.toNat * 4]
  | .scaccCol h t k e => [3858759681 + h.bits + t.toNat * 8192 + k.toNat * 256 + e.toNat * 4]
  | .scaccBlk h t k e => [3858759682 + h.bits + t.toNat * 8192 + k.toNat * 256 + e.toNat * 4]
  | .tsoundOn h => [3875536896 + h.bits]
  | .tsoundOff h => [3875536897 + h.bits]
  | .tsoundNow h => [3875536898 + h.bits]
  | .fenceAcq h e => [4026531840 + h.bits + e.toNat]
  | .fenceRel h e => [4026531848 + h.bits + e.toNat]
  | .fenceSc h e => [4026531856 + h.bits + e.toNat]
  | .waitc h a b c d e => [4043309056 + h.bits + a.toNat * 32768 + b.toNat * 2048 + c.toNat * 128 + d.toNat * 8 + e.toNat]
  | .gbar h m => [4060086272 + h.bits + m.toNat]
  | .gbarArr h m => [4060086528 + h.bits + m.toNat]
  | .signal h d a => [4076863488 + h.bits + d.toNat * 16384 + a.toNat * 512]
  | .signalW h d a => [4076863489 + h.bits + d.toNat * 16384 + a.toNat * 512]
  | .spawn h d a => [4093640704 + h.bits + d.toNat * 16384 + a.toNat * 512]
  | .modeGuarded h => [4118806528 + h.bits]
  | .modeExposed h => [4118806529 + h.bits]
  | .cairnSet h d a b => [4127195136 + h.bits + d.toNat * 16384 + a.toNat * 512 + b.toNat * 16]
  | .cairnRoll h a => [4127195137 + h.bits + a.toNat * 512]
  | .cairnDrop h a => [4127195138 + h.bits + a.toNat * 512]
  | .lfdone h d => [4143972352 + h.bits + d.toNat * 16384]
  | .trap h i => [4160749568 + h.bits + i.toNat]
  | .eret h k => [4177526784 + h.bits + k.toNat]
  | .bkpt h i => [4194304000 + h.bits + i.toNat]
  | .haltx h d => [4211081216 + h.bits + d.toNat * 16384]
  | .cpy1d h d a b => [2147483648 + h.bits + d.toNat * 16384 + a.toNat * 512 + b.toNat * 16, 0]
  | .cpy2d h d a b c p => [2164260864 + h.bits + d.toNat * 16384 + a.toNat * 512 + b.toNat * 16, c.toNat * 32 + p.toNat]
  | .cpy3d h d a b c p => [2181038080 + h.bits + d.toNat * 16384 + a.toNat * 512 + b.toNat * 16, c.toNat * 32 + p.toNat]
  | .zero h d b c p => [2197815296 + h.bits + d.toNat * 16384 + b.toNat * 16, c.toNat * 32 + p.toNat]
  | .fill h d a b z c p => [2214592512 + h.bits + d.toNat * 16384 + a.toNat * 512 + b.toNat * 16 + z.toNat, c.toNat * 32 + p.toNat]
  | .acc h d a b o => [2231369728 + h.bits + d.toNat * 16384 + a.toNat * 512 + b.toNat * 16 + o.toNat]
  | .accr h d a b o => [2248146944 + h.bits + d.toNat * 16384 + a.toNat * 512 + b.toNat * 16 + o.toNat]
  | .casW h d a b => [2264924160 + h.bits + d.toNat * 16384 + a.toNat * 512 + b.toNat * 16]
  | .casD h d a b => [2264924161 + h.bits + d.toNat * 16384 + a.toNat * 512 + b.toNat * 16]
  | .gather h d a b z x c => [2281701376 + h.bits + d.toNat * 16384 + a.toNat * 512 + b.toNat * 16 + z.toNat, x.toNat * 32 + c.toNat]
  | .scatter h d a b z x c => [2298478592 + h.bits + d.toNat * 16384 + a.toNat * 512 + b.toNat * 16 + z.toNat, x.toNat * 32 + c.toNat]
  | .mcast h d a b m => [2315255808 + h.bits + d.toNat * 16384 + a.toNat * 512 + b.toNat * 16, m.toNat]
  | .wake h d a => [2332033024 + h.bits + d.toNat * 16384 + a.toNat * 512]
  | .seq h d => [2348810240 + h.bits + d.toNat * 16384]
  | .link h d c => [2365587456 + h.bits + d.toNat * 16384, c.toNat]
  | .pkgetW h d i => [2147483648 + h.bits + d.toNat * 16384 + i.toNat]
  | .pkgetD h d i => [2164260864 + h.bits + d.toNat * 16384 + i.toNat]
  | .shdr h d i => [2181038080 + h.bits + d.toNat * 16384 + i.toNat]
  | .shdw h d i => [2197815296 + h.bits + d.toNat * 16384 + i.toNat]
  | .emtask h d a b => [2214592512 + h.bits + d.toNat * 16384 + a.toNat * 512 + b.toNat * 16]
  | .emlaunch h d a => [2231369728 + h.bits + d.toNat * 16384 + a.toNat * 512]
  | .emlaunchCfg h d a b => [2231369729 + h.bits + d.toNat * 16384 + a.toNat * 512 + b.toNat * 16]
  | .sigwaitLe h d a => [2248146944 + h.bits + d.toNat * 16384 + a.toNat * 512]
  | .sigwaitLt h d a => [2248146945 + h.bits + d.toNat * 16384 + a.toNat * 512]
  | .sigwaitEq h d a => [2248146946 + h.bits + d.toNat * 16384 + a.toNat * 512]
  | .sigwaitNe h d a => [2248146947 + h.bits + d.toNat * 16384 + a.toNat * 512]
  | .delta h d a b => [2281701376 + h.bits + d.toNat * 16384 + a.toNat * 512 + b.toNat * 16]
  | .abortPkt h => [2298478592 + h.bits]
  | .abortQueue h => [2298478593 + h.bits]
  | .complete h d a b => [2315255808 + h.bits + d.toNat * 16384 + a.toNat * 512 + b.toNat * 16]
  | .barrier => [2264924160]
  | .bundleIssue => []
  | .queueWaitTimeout => []
  | .loadDataReturn => []
  | .storePerformed => []
  | .qrdLanding => []
  | .lateAccessRefusal => []
  | .waitcComplete => []
  | .fenceComplete => []
  | .modeDrainDone => []
  | .gbarPhaseComplete => []
  | .taskEndDrained => []
  | .copyStart => []
  | .copyGranule => []
  | .copyComplete => []
  | .copyTranslationFault => []
  | .slotTranslationFault => []
  | .chainRegister => []
  | .chainEntryRead => []
  | .chainCommandComplete => []
  | .taskCancelAtHead => []
  | .bindFresh => []
  | .bindRestore => []
  | .bindPreempt => []
  | .slotStopped => []
  | .slotSaveDone => []
  | .tenantScrub => []
  | .stepArm => []
  | .stepRowWritten => []
  | .stepComplete => []
  | .scaccDone => []
  | .tcfgLoadDone => []
  | .segmentSwitch => []
  | .drainEmpty => []
  | .siteFire => []
  | .collarTrapDelivery => []
  | .hardwareRollback => []
  | .channelPark => []
  | .channelWake => []
  | .sumpRefill => []
  | .sumpGrant => []
  | .sumpDecline => []
  | .sumpSpillFault => []
  | .deadlockScan => []
  | .landfall => []
  | .deadlineHardStop => []
  | .packetStart => []
  | .packetBudget => []
  | .sigwaitReread => []
  | .emlaunchGroupsFree => []
  | .cfgTrapTimeout => []
  | .launchRetire => []
  | .packetRetire => []
  | .hostWrite => []
  | .hostRead => []
  | .hostTail => []
  | .hostAck => []
  | .hostFaultRetry => []
  | .hostFaultAbort => []
  | .hostRetransmit => []
  | .hostLinkLoss => []
  | .hostLinkUp => []
  | .mgmtStatus => []
  | .mgmtQdesc => []
  | .mgmtQprog => []
  | .mgmtQtear => []
  | .mgmtChopen => []
  | .mgmtChclose => []
  | .mgmtNodemap => []
  | .mgmtTxinv => []
  | .mgmtPtpdom => []
  | .mgmtCounters => []
  | .mgmtLinktrain => []
  | .mgmtFence => []
  | .mgmtAttest => []
  | .mgmtBaseimg => []
  | .mgmtPower => []
  | .mgmtSensors => []
  | .txinvPages => []
  | .txinvChart => []
  | .txinvAsid => []
  | .txinvAll => []
  | .txinvDone => []
  | .registerWrite => []
  | .ptpMessage => []
  | .ptpHoldover => []
  | .remotePacketArrival => []
  | .remoteAckArrival => []
  | .remoteResendTimeout => []
  | .remoteRefusal => []
  | .destinationUnreachable => []
  | .flitCrcRetry => []
  | .linkLossOfLock => []
  | .linkFlitErrorRate => []
  | .linkRemoved => []
  | .correctedError => []
  | .uncorrectableError => []
  | .backgroundScrub => []
  | .channelRemap => []
  | .tileRetire => []
  | .throttleStep => []
  | .carrierThrottle => []
  | .thermalTrip => []
  | .coldReset => []
  | .illegalWord => []
  | .resultLands => []
  | .stepPreloadDone => []
  | .stepRowEnters => []
  | .spareTakeoverDone => []
  | .linkTrained => []
  | .railOutOfRange => []

/-- The words as the bytes memory holds, least significant byte first (R4). -/
def wordBytes (w : Nat) : List (BitVec 8) :=
  [BitVec.ofNat 8 w, BitVec.ofNat 8 (w / 256), BitVec.ofNat 8 (w / 65536), BitVec.ofNat 8 (w / 16777216)]

/-- Four bytes of memory as a word (R4). -/
def bytesWord : List (BitVec 8) → Nat
  | b0 :: b1 :: b2 :: b3 :: _ => b0.toNat + b1.toNat * 256 + b2.toNat * 65536 + b3.toNat * 16777216
  | _ => 0

/-- The bytes of the instruction the opcode table numbers `w`: the first word in bits 31:0, a second word above it. -/
def tableBytes (w : Nat) : List (BitVec 8) := wordBytes w ++ wordBytes (w / 4294967296)

/-- The engine that a word of the opcode table is for, and the instruction. Control cores, copy engines and queue programs
share OPC values (R53), and the number of a word does not say which of them is to read it: the first that can, reads it. -/
def decodeTable (nbits w : Nat) : Option (Engine × Instr) :=
  let bs := tableBytes (w % 2 ^ nbits)
  [Engine.core, Engine.copy, Engine.front].findSome? fun e =>
    (decode e (bytesWord bs) (bytesWord (bs.drop 4))).map fun i => (e, i)

/-- The instruction read from the bits `w` of an opcode-table row. -/
def decodeTableWord (nbits w : Nat) : Option Instr := (decodeTable nbits w).map Prod.snd

end Sys2Proof
end

