-- ==== Sys2Proof/Machine/Table.lean ====
section
/-! DEFINITION. Sys2Proof/Machine/Table.lean: tables keyed by a number, kept as lists of pairs with rising keys, so that a
state stays plain data. -/

namespace Sys2Proof.Machine

/-- A table: an unlisted key holds the reader's default. -/
abbrev Tab (α : Type) := List (Nat × α)

/-- The entry at a key, if listed. -/
def Tab.find? {α : Type} : Tab α → Nat → Option α
  | [], _ => none
  | (j, v) :: t, k => if j = k then some v else Tab.find? t k

/-- The entry at a key, or the default. -/
def Tab.get {α : Type} (d : α) (t : Tab α) (k : Nat) : α :=
  match Tab.find? t k with
  | some v => v
  | none => d

/-- The table with one entry written, its keys rising. -/
def Tab.set {α : Type} : Tab α → Nat → α → Tab α
  | [], k, v => [(k, v)]
  | (j, u) :: t, k, v => if k < j then (k, v) :: (j, u) :: t else if j = k then (k, v) :: t else (j, u) :: Tab.set t k v

/-- The table with one entry removed. -/
def Tab.del {α : Type} (t : Tab α) (k : Nat) : Tab α := t.filter fun p => p.1 != k

/-- The keys of a table rise. -/
def Tab.rising {α : Type} : Tab α → Bool
  | [] => true
  | [_] => true
  | (j, _) :: (k, v) :: t => decide (j < k) && Tab.rising ((k, v) :: t)

/-- The first number from `0` up to `n - 1` that a predicate accepts. -/
def firstBelow (n : Nat) (p : Nat → Bool) : Option Nat := (List.range n).find? p

/-- Replace every element that a test selects. -/
def updateWhere {α : Type} (p : α → Bool) (f : α → α) (l : List α) : List α := l.map fun a => if p a then f a else a

end Sys2Proof.Machine
end

