-- ==== Sys2Proof/Machine/Memory.lean ====
section
/-! DEFINITION. Sys2Proof/Machine/Memory.lean: memory as a canonical list of address and byte pairs. One key names one
byte of the package: an HBM physical address (R44), or the global window address of a scratchpad, accumulator, metadata,
context-store or instruction-memory byte (R40, R41). -/

namespace Sys2Proof.Machine

/-- Memory: addresses rise, and no entry holds what an unlisted address reads as. -/
abbrev Memory := List Host.Cell

/-- What an unlisted address reads as: bring-up writes zero to every HBM byte and every SRAM (R452). -/
def Memory.blank : Byte := 0#8

/-- One byte. -/
def Memory.read : Memory → Nat → Byte
  | [], _ => Memory.blank
  | (b, v) :: m, a => if b = a then v else Memory.read m a

/-- Put one byte into its place, whatever it is. -/
def Memory.insert : Memory → Nat → Byte → Memory
  | [], a, v => [(a, v)]
  | (b, u) :: m, a, v => if a < b then (a, v) :: (b, u) :: m else if b = a then (a, v) :: m else (b, u) :: Memory.insert m a v

/-- Write one byte; a blank byte is not listed. -/
def Memory.write (m : Memory) (a : Nat) (v : Byte) : Memory :=
  if v = Memory.blank then m.filter fun c => c.1 != a else Memory.insert m a v

/-- The canonical form. -/
def Memory.wf : Memory → Bool
  | [] => true
  | [(_, v)] => v != Memory.blank
  | (a, v) :: (b, u) :: m => decide (a < b) && v != Memory.blank && Memory.wf ((b, u) :: m)

/-- `n` bytes from an address upward. -/
def Memory.readBytes (m : Memory) (a : Nat) : Nat → List Byte
  | 0 => []
  | n + 1 => Memory.read m a :: Memory.readBytes m (a + 1) n

/-- Write a run of bytes from an address upward. -/
def Memory.writeBytes (m : Memory) (a : Nat) : List Byte → Memory
  | [] => m
  | b :: bs => Memory.writeBytes (Memory.write m a b) (a + 1) bs

/-- The number a run of bytes holds, least significant byte first (R4). -/
def leNat : List Byte → Nat
  | [] => 0
  | b :: bs => b.toNat + 256 * leNat bs

/-- The `n` low bytes of a number, least significant first (R4). -/
def leBytes : Nat → Nat → List Byte
  | 0, _ => []
  | n + 1, v => BitVec.ofNat 8 v :: leBytes n (v / 256)

/-- A little-endian number of `n` bytes in memory. -/
def Memory.readLe (m : Memory) (a n : Nat) : Nat := leNat (Memory.readBytes m a n)

/-- Write a little-endian number of `n` bytes. -/
def Memory.writeLe (m : Memory) (a n v : Nat) : Memory := Memory.writeBytes m a (leBytes n v)

end Sys2Proof.Machine
end

