-- ==== Sys2Proof/Machine/State.lean ====
section
/-! DEFINITION. Sys2Proof/Machine/State.lean: everything the spec gives the machine, as plain data, and the machine right
after bring-up. Field docstrings name the rule of spec/ that gives the field. -/

namespace Sys2Proof.Machine

/-! ## Programs: the part of a stream, a copy command and a queue program that is the same -/

/-- An active loop (R93), with the guard a LOOPX reads again (R95). -/
structure Loop where
  lc : Nat
  count : Nat
  start : Nat
  last : Nat
  depth : Nat
  x : Bool
  g : BitVec 3
  n : Bool
  deriving DecidableEq, Repr

/-- Program counter (R25), return stack of four entries and its depth (R89), counts of idle loop counters and the active
loops, innermost first (R93). -/
structure Ctl where
  pc : Nat := 0
  rs : Tab Nat := []
  depth : Nat := 0
  counts : Tab Nat := []
  loops : List Loop := []
  deriving DecidableEq, Repr

/-- The registers of a copy command or a queue program (R56, R84): one bit per predicate. -/
structure Prog where
  regs : Tab Word := []
  preds : Tab Bool := []
  ctl : Ctl := {}
  deriving DecidableEq, Repr

/-! ## Task slots -/

/-- A place in a queue register: the pushing word's operation number, its entry once landed, and in exposed mode the slot
cycle its landing is due (R125, R250, R251). -/
structure QPlace where
  op : Nat
  val : Option Entry
  due : Nat
  /-- the accesses that come before the push, by stream: those numbered below (R334) -/
  after : Tab Nat := []
  deriving DecidableEq, Repr

/-- What an outstanding operation is (R115, R142, R179). -/
inductive OpKind where
  /-- false-guarded: retires in issue order with its class (R115) -/
  | null
  /-- a load: destination, sign extension, address, the bytes' locations with their ordering kinds, load-acquire (R111) -/
  | load (d : BitVec 5) (sgn : Bool) (ea : Nat) (locs : List (Nat × Nat)) (acq : Bool)
  /-- a store or QWR: address, data, the bytes' locations with their ordering kinds, store-release (R111, R150) -/
  | store (ea : Nat) (bytes : List Byte) (locs : List (Nat × Nat)) (rel : Bool)
  /-- QRD: queue, active bytes, address, locations of the active bytes (R150) -/
  | qrd (q : Nat) (mask : Lanes) (ea : Nat) (locs : List (Nat × Nat))
  /-- a command, step or plane word that holds the counter from elsewhere (R142, R179) -/
  | unit
  deriving DecidableEq, Repr

/-- An outstanding operation: its number in issue order, counter class (0 ld, 1 st, 2 cp, 3 tl), stream, the slot cycle
its result is due in exposed mode, and whether its result is ready and only waits for that cycle or for its class (R116). -/
structure Op where
  id : Nat
  cls : Nat
  x : Nat
  kind : OpKind
  due : Nat
  done : Bool := false
  /-- the access goes to another package, which may still refuse it (R454) -/
  remote : Bool := false
  /-- the addresses of its bytes -/
  vas : List Nat := []
  /-- the bytes already satisfied or performed, by their place in the access, and what a load read (R114, R343) -/
  got : Tab Byte := []
  /-- the accesses of other streams that come before it, by stream: those numbered below (R334) -/
  after : Tab Nat := []
  /-- the cycle its word issued in, a slot cycle in exposed mode, and the stream's control state and rendezvous count
  before that word, for a trap that comes late (R97, R246, R257) -/
  at_ : Nat := 0
  ctl : Ctl := {}
  rv : Nat := 0
  /-- a QRD or QWR that met a translation fault waits at its landing for service, at an address (R356) -/
  fault : Option Nat := none
  /-- a cairn save that this write caused waits for service at an address (R432) -/
  stuck : Option Nat := none
  /-- the entry a QWR popped, for a trap that comes late (R151, R454) -/
  popped : Option (Nat × Entry) := none
  /-- a QWR -/
  qwr : Bool := false
  deriving DecidableEq, Repr

/-- R333: byte `place` of operation `op` has crossed the boundary of a scope on its way to a port outside it, at a moment. -/
structure Crossing where
  op : Nat
  place : Nat
  scope : Nat
  stamp : Nat
  deriving DecidableEq, Repr

/-- A result that lands at its frozen latency in exposed mode (R255). -/
inductive PendEff where
  | scalar (d : BitVec 5) (v : Word)
  | pred (p : BitVec 3) (v mask : Lanes)
  | entry (q op : Nat) (e : Entry) (flags : BitVec 5)
  | loaded (op : Nat) (d : BitVec 5) (v : Word)
  | qloaded (op q : Nat) (e : Entry)
  | flags (f : BitVec 5)
  | sysreg (x : Nat) (v : Word)
  deriving DecidableEq, Repr

structure Pend where
  due : Nat
  x : Nat
  eff : PendEff
  deriving DecidableEq, Repr

/-- A trap known at issue that exposed mode takes at the word's latency (R128, R151, R257). -/
structure LateTrap where
  due : Nat
  x : Nat
  cause : Nat
  aux : Word
  /-- the cycle the word issued in: a slot cycle in exposed mode -/
  at_ : Nat := 0
  /-- the stream's control state and rendezvous count before the word (R97, R246) -/
  ctl : Ctl := {}
  rv : Nat := 0
  deriving DecidableEq, Repr

/-- Why a stream waits at its word. -/
inductive Wait where
  /-- WAITC: limits ld, st, cp, tl (R169) -/
  | waitc (ld st cp tl : Nat)
  /-- FENCE: kind, scope, and the first operation number it does not order (R168) -/
  | fence (kind scope upto : Nat)
  /-- MODE: the mode to enter (R173) -/
  | mode (exposed : Bool)
  /-- GBAR: it has arrived (R170) -/
  | gbar
  /-- a channel word: the cycle its stall began, none while its release is pending (R166) -/
  | channel (since : Option Nat)
  /-- ERET's drain back into exposed mode (R236) -/
  | eret (skip : Bool)
  /-- a translation fault being serviced, at an address (R356) -/
  | fault (ea : Nat) (write : Bool)
  deriving DecidableEq, Repr

/-- One stream of a slot (R26, R241, R245). -/
structure Stream where
  ctl : Ctl := {}
  ended : Bool := false
  /-- the rendezvous words it has issued, or that ERET SKIP has presented (R241, R246) -/
  rvCount : Nat := 0
  presented : Bool := false
  wait : Option Wait := none
  /-- a GBAR that waits: its PC, group and phase; a trap or a save does not make it arrive again (R170, R292) -/
  arrived : Option (Nat × Nat × Nat) := none
  /-- the cycle a queue wait began (R251) -/
  qsince : Option Nat := none
  /-- the first slot cycle an exposed stream may issue again in (R255) -/
  next : Nat := 0
  /-- since when its word has been ready to issue (R247) -/
  readySince : Option Nat := none
  /-- the accesses of the slot's streams that come before its next one: those numbered below (R334) -/
  after : Tab Nat := []
  deriving DecidableEq, Repr

/-- A response place (R145, R164): reserved until its command completes. -/
structure Resp where
  op : Nat
  val : Option (Nat × Word × Nat)
  deriving DecidableEq, Repr

/-- A cairn (R174, R175): base, length, LOST, and the saved granules by granule number. -/
structure Cairn where
  base : Nat
  len : Nat
  lost : Bool := false
  saved : Tab (List Byte) := []
  /-- granules saved from bytes with an uncorrectable error (R432) -/
  bad : List Nat := []
  deriving DecidableEq, Repr

/-- Trap state (R231, R233, R234): the fields of TRAPCAUSE, TRAPPC and TRAPAUX, and what ERET gives back. -/
structure TrapSt where
  cause : BitVec 8 := 0
  inHandler : Bool := false
  late : Bool := false
  cpend : Bool := false
  xsave : Bool := false
  stream : BitVec 2 := 0
  pc : Nat := 0
  aux : Word := 0
  depth : Nat := 0
  held : List Loop := []
  deriving DecidableEq, Repr

/-- How a task is to end once its counters are zero (R384). -/
inductive Ending where
  | endOk | haltx (v : BitVec 32) | landed (v : Word) | faulted | doubleTrap | cancelled
  /-- FAULTED with an EXIT word that is not of a trap (R376, R428, R430) -/
  | lost (exit : Nat)
  deriving DecidableEq, Repr

/-- R383: the states of a slot. -/
inductive Phase where
  | free | running | stopping | saving | ending
  deriving DecidableEq, Repr

/-- What binding takes from the task record and its launch (R377, R383, R412). -/
structure Task where
  record : Nat := 0
  /-- the record's place -/
  loc : Nat := 0
  asid : Nat := 0
  launch : Nat := 0
  role : BitVec 2 := 0
  trapEntry : Tab Nat := []
  landEntry : Tab Nat := []
  entry : Tab Nat := []
  deadline : Word := 0
  landfall : Word := 0
  ctx : Nat := 0
  groups : List Nat := []
  onabort : Nat := 0
  fsvc : Bool := false
  deriving DecidableEq, Repr

/-- One task slot (R26). -/
structure Slot where
  phase : Phase := .free
  task : Task := {}
  regs : Tab Word := []
  preds : Tab Lanes := []
  queues : Tab (List QPlace) := []
  chans : Tab (BitVec 32) := []
  fpcsr : Word := 0
  trap : TrapSt := {}
  exposed : Bool := false
  resumed : Bool := false
  lfpend : Bool := false
  lfrun : Bool := false
  streams : Tab Stream := []
  ops : List Op := []
  pend : List Pend := []
  /-- the late traps due, in the order their words issued -/
  late : List LateTrap := []
  cycle : Nat := 0
  resp : List Resp := []
  copyStatus : Option (Nat × Nat) := none
  /-- the validity word of LFDONE (R176, R417) -/
  validity : Option Word := none
  /-- the channel word that stalled for 2,048 cycles: die * 4096 + channel, and whether its end is the reader's (R404) -/
  parking : Option (Nat × Bool) := none
  bound : Nat := 0
  cairns : Tab Cairn := []
  ending : Option Ending := none
  /-- R235: the pilot has enabled debugging for the slot, and BKPT stopped it -/
  debug : Bool := false
  broke : Bool := false
  /-- R395: the streams stand at their boundaries and the landfall entries are about to start -/
  diverting : Bool := false
  /-- R258, R388: a restored exposed slot drains before its first word -/
  reenter : Bool := false
  /-- R200, R292: collar traps waiting for delivery: 4 * tile + segment -/
  collarTraps : List Nat := []
  /-- since when its rendezvous has been complete (R247) -/
  rvSince : Option Nat := none
  /-- the accesses that come before a fence of any stream: those numbered below (R28, R334) -/
  fenced : Tab Nat := []
  /-- the FENCE.REL words that have issued and still hold later stores and copies: their scopes, and the first number each
  does not order (R168, R329) -/
  rels : List (Nat × Nat) := []
  /-- the flags raised in the present cycle (R34, R120) -/
  raised : BitVec 5 := 0
  /-- the scalars (1 to 31) and predicates (33 to 39) that have been written in the present cycle of guarded mode, and those
  that a word has read after that, which no later word of the cycle writes (R28, R244) -/
  wrote : List Nat := []
  seen : List Nat := []
  /-- the cycle in which a word last issued, none once a trap has been taken since: only the words of that cycle can still
  trap late (R257) -/
  last : Option Nat := none
  /-- the addresses whose translation faults its task waited on when it was pre-empted, not yet answered (R356, R441) -/
  asked : List Nat := []
  deriving DecidableEq, Repr

/-! ## Tiles -/

/-- A tile-table entry (R20); `state` is 0 EMPTY, 1 FILLING, 2 READY, 3 DRAINING. -/
structure TileEntry where
  cols : Nat := 0
  rows : Nat := 0
  base : Nat := 0
  type : Nat := 0
  layout : Nat := 0
  state : Nat := 0
  fault : Bool := false
  owner : Nat := 0
  pending : Nat := 0
  pitch : Nat := 0
  /-- the storage plane count of its type as the format register stood at TDEF, 0 for a type with no BPT form (R285) -/
  planes : Nat := 0
  deriving DecidableEq, Repr

/-- A collar token (R295), with the entry row it stems from, by which a replay counts (R307). -/
structure Tok where
  val : Nat := 0
  poison : Bool := false
  origin : Nat := 0
  seq : Nat := 0
  last : Bool := false
  row : Nat := 0
  /-- the row of its step, and its position in the row (R306) -/
  srow : Nat := 0
  pos : Nat := 0
  /-- the accumulator word it was read from, by number plus one, which a replay reads again (R307) -/
  src : Nat := 0
  deriving DecidableEq, Repr

/-- A site record (R321). -/
structure SiteRec where
  kind : Nat := 0
  op : Nat := 0
  tin : Nat := 0
  tout : Nat := 0
  mode : Nat := 0
  hold : Bool := false
  const : Bool := false
  nout : Nat := 0
  block : Nat := 0
  c0 : Nat := 0
  c1 : Nat := 0
  deriving DecidableEq, Repr

/-- A route entry (R322). -/
structure Route where
  src : Nat
  oidx : Nat
  dst : Nat
  iidx : Nat
  deriving DecidableEq, Repr

/-- An east sink (R314): operation, length in words, base. -/
structure Sink where
  op : Nat
  len : Nat
  base : Nat
  deriving DecidableEq, Repr

/-- A configuration plane (R18, R320): whether it holds a loaded image, and that image segment. -/
structure Plane where
  valid : Bool := false
  img : Nat := 0
  inType : Nat := 0
  outType : Nat := 0
  trapRec : Nat := 0
  soundRec : Nat := 0
  sinks : List Sink := []
  sites : Tab SiteRec := []
  routes : List Route := []
  deriving DecidableEq, Repr

/-- A TSWAP that has not switched: its switch sequence and the operation that holds tl (R196). -/
structure Swap where
  q : Nat
  op : Nat
  /-- the segment was DRAINING: the switch waits for the drain (R198) -/
  late : Bool := false
  deriving DecidableEq, Repr

/-- A trapped site (R200, R305): where, and the sequence of the held token. -/
structure Held where
  site : Nat
  seq : Nat
  delivered : Bool := false
  deriving DecidableEq, Repr

/-- A row reduction under way at a ROWRED site (R301): the sum so far if any, tokens seen, and its poison. -/
structure RowAcc where
  val : Option Nat := none
  count : Nat := 0
  poison : Bool := false
  origin : Nat := 0
  /-- the lowest exceptional cause met so far, 0 for none (R302) -/
  cause : Nat := 0
  seq : Nat := 0
  deriving DecidableEq, Repr

/-- A plane word waiting on a segment (R198, R199): 0 TDRAIN, 1 TDRAIN OPEN, with its operation. -/
structure SegWord where
  open_ : Bool
  op : Nat
  deriving DecidableEq, Repr

/-- A collar segment (R198, R298): planes, queues by site and index (key 4 * site + index), reductions, voter debts,
state, and what a replay needs (R307). -/
structure Seg where
  active : Plane := {}
  shadow : Plane := {}
  /-- 0 OPEN, 1 DRAINING, 2 HELD -/
  mode : Nat := 0
  trapped : Option Held := none
  /-- sites that wait with a held token for the first trap, and the meridian times of their faults (R305, R306) -/
  waiting : List (Nat × Nat) := []
  drains : List SegWord := []
  swaps : List Swap := []
  /-- shadow loads in flight: the operation, the image, and the cycle they end (R195) -/
  loads : List (Nat × Nat × Nat) := []
  inq : Tab (List Tok) := []
  outq : Tab (List Tok) := []
  red : Tab RowAcc := []
  owe : Tab (List Tok) := []
  /-- tokens a replay sends again, before any new one (R307) -/
  replay : List Tok := []
  /-- admitted tokens not yet past the replay point, oldest first, and how many were ever dropped from the buffer -/
  hist : List Tok := []
  /-- row number of the next row to enter -/
  nextRow : Nat := 0
  /-- the step whose row is being admitted -/
  midRow : Option Nat := none
  /-- tokens accepted by each exit of each row still in flight: exit, row, count (R307) -/
  left : List (Nat × Nat × Nat) := []
  /-- tokens of replayed rows an exit has yet to discard -/
  skip : List (Nat × Nat × Nat) := []
  /-- switches so far: which planes have been active, in order (R196, R206) -/
  turns : Nat := 0
  deriving DecidableEq, Repr

/-- A codebook table (R205): its entries as raw codes, their type, blocks left, tokens of the block served. -/
structure CbTable where
  vals : List Nat
  type : Nat
  blocks : Nat
  served : Nat := 0
  deriving DecidableEq, Repr

/-- A row of sums on its way through the array: row number, the cycle its sums are written, and the sums (R190). -/
structure Transit where
  row : Nat
  due : Nat
  sums : List (Nat × Option Nat)
  deriving DecidableEq, Repr

/-- An armed step (R183-R190). -/
structure Step where
  id : Nat
  k : Nat
  /-- the record of the task that armed it -/
  owner : Nat := 0
  seq : Nat
  launch : Nat := 0
  ta : Nat
  cnt : Nat
  bh : Nat
  oh : Option Nat
  aty : Nat
  bty : Nat
  accbase : Nat
  acclen : Nat
  moff : Nat
  sp : Bool
  acc : Bool
  fmt : Tab (BitVec 32)
  aEnts : List TileEntry
  bEnt : TileEntry
  ohEnt : Option TileEntry
  /-- the cycle its preload started in (R190) -/
  preload : Option Nat := none
  loaded : Bool := false
  /-- B and A tokens admitted -/
  bSent : Nat := 0
  aSent : Nat := 0
  /-- weights that reached the array: code, and the origin when poisoned -/
  weights : List (Nat × Option Nat) := []
  edge : List (Nat × Option Nat) := []
  edgeFull : Bool := false
  rowsIn : Nat := 0
  transit : List Transit := []
  rowsOut : Nat := 0
  /-- accumulator words sent into the south segment, and the sink's row and position in OH (R291) -/
  sent : Nat := 0
  sinkRow : Nat := 0
  sinkPos : Nat := 0
  /-- the cycle its last row entered in (R190) -/
  lastCycle : Option Nat := none
  /-- tokens each east sink has accepted in the step (R314) -/
  sinks : Tab Nat := []
  /-- SOUNDREC of the south plane that R206 names for the step -/
  sound : Option Nat := none
  /-- the number of switches of the south segment after which the plane that serves the sequence is active (R196, R206) -/
  southTurn : Nat := 0
  deriving DecidableEq, Repr

/-- An SCACC under way (R194): its operation, slot, and descriptor with the scale entry and format latched. -/
structure Scacc where
  id : Nat
  k : Nat
  /-- the step sequence that came next at its issue: its place in tile order (R191) -/
  at_ : Nat := 0
  ent : TileEntry
  fmt : BitVec 32
  src : Nat
  dst : Nat
  nrows : Nat
  ncols : Nat
  br : Nat
  bc : Nat
  set : Bool
  kind : Nat
  deriving DecidableEq, Repr

/-- Sounding counts (R317, R318). -/
structure Sound where
  on : Bool := false
  /-- the operation number from which on an armed step's end writes a record (R206) -/
  since : Nat := 0
  nan : Nat := 0
  inf : Nat := 0
  sat : Nat := 0
  ftz : Nat := 0
  pois : Nat := 0
  poisOrig : Nat := 255
  voteMask : Nat := 0
  maxExp : Int := -32768
  firstSeq : Nat := 0
  lastSeq : Nat := 0
  nstep : Nat := 0
  vote : Nat := 0
  rback : Nat := 0
  deriving DecidableEq, Repr

/-- What a tile holds beside its memories (R14 table). -/
structure Tile where
  table : Tab TileEntry := []
  fmt : Tab (BitVec 32) := []
  ashare : Word := 0
  /-- the cycle in which ASHARE was written, where the window counter started (R260) -/
  window : Nat := 0
  tenant : Option Nat := none
  /-- the next step sequence (R180) -/
  stepSeq : Nat := 0
  steps : List Step := []
  scaccs : List Scacc := []
  segs : Tab Seg := []
  codebooks : Tab (List CbTable) := []
  sound : Sound := {}
  /-- origins of poisoned accumulator words, by word index (R188) -/
  origins : Tab Nat := []
  /-- R376: the segments that a configuration delta drains while the tile's slots stand still -/
  halted : Option (List Nat) := none
  deriving DecidableEq, Repr

/-! ## Copy commands -/

/-- What a macro's command reports to, and what its end does (R146, R158, R216). -/
inductive Macro where
  | cpl (h : Nat)
  | cps (h : Nat)
  | tmov (h : Nat) (keep : Bool)
  | cpmeta (h : Nat)
  | cpmc (h g : Nat)
  | cpacc
  | returning
  | signal
  | spawn
  | roll (n : Nat)
  deriving DecidableEq, Repr

/-- The element operations of R163: an accumulate, a 64-bit add, or a compare and swap. -/
inductive Rmw where
  | op (o : Nat) (z : Nat) (v : Nat)
  | add64 (v : Nat)
  | cas (z cmp new : Nat)
  deriving DecidableEq, Repr

/-- The data work of a copy-engine word (R217-R222), of a macro (R157-R163), and of SPAWN and CAIRN.ROLL (R172, R175). -/
inductive Work where
  /-- planes and rows of bytes, at signed pitches -/
  | copy (dst src len rows planes : Nat) (rsrc rdst psrc pdst : Int)
  | fill (dst len rows : Nat) (rdst : Int) (pat z : Nat)
  | acc (op dst src len : Nat)
  | rmw (dst : Nat) (f : Rmw) (wake : Bool)
  | gather (scatter x64 : Bool) (dst src idx n z : Nat)
  /-- MCAST: one source into one offset of every member's tile slot -/
  | mcast (src len off : Nat) (tiles : List Nat)
  /-- CPMC: units of memory at a pitch into entry `h` of every member -/
  | cpmc (src pitch h : Nat) (ent : TileEntry) (tiles : List Nat)
  /-- TMOV: reads the whole entry, then writes units of the destination layout -/
  | tmov (ent : TileEntry) (dst pitch dtype dlayout : Nat) (fmt : Tab (BitVec 32))
  /-- CPL and CPS: unit by unit, through the swizzle under SWZ (R157, R283) -/
  | tile (load : Bool) (h : Nat) (ent : TileEntry) (mem pitch units : Nat)
  | spawn (dst src : Nat)
  | roll (saved : Tab (List Byte)) (base : Nat)
  deriving DecidableEq, Repr

/-- A remote packet of a command: destination sequence, and the offset of its bytes (R422). -/
structure Piece where
  node : Nat
  seq : Nat
  off : Nat
  len : Nat
  deriving DecidableEq, Repr

/-- A data word in flight: its program index, destination bytes done, bytes read and not yet written, how far each branch
of a multicast is, and packets not yet acknowledged. TMOV and MCAST keep what they have read to the end. -/
structure Flight where
  word : Nat
  work : Work
  done : Nat := 0
  buf : List Byte := []
  branch : Tab Nat := []
  packets : List Piece := []
  /-- register that takes the old value of an ACCR or CAS -/
  reg : Option (BitVec 5) := none
  /-- the old value, once the element is applied -/
  old : Option Word := none
  /-- the status with which the source has stopped while bytes read before it are still to be written (R42, R222) -/
  cut : Option Nat := none
  /-- nothing more of it moves: its word has ended the command, or one before it has (R208, R215) -/
  closed : Bool := false
  deriving DecidableEq, Repr

/-- A copy command (R144, R208, R216): a macro of slot `k`, or a chain command. -/
structure Job where
  prog : Prog := {}
  len : Nat := 0
  stop : Option Nat := none
  code : List Nat := []
  mac : Option Macro := none
  k : Nat := 0
  /-- tile engine 0 to 63, die engines 64 + 4 * die + engine -/
  engine : Nat := 0
  /-- 0 load queue, 1 store queue, 2 chain -/
  queue : Nat := 0
  started : Bool := false
  asid : Nat := 0
  launch : Nat := 0
  /-- PILOT chains: addresses below the windows are physical (R211) -/
  phys : Bool := false
  chain : Nat := 0
  seq : Nat := 0
  index : Nat := 0
  ord : Bool := false
  intr : Bool := false
  flights : List Flight := []
  /-- suspended on a translation fault at an address (R354) -/
  susp : Option Nat := none
  /-- the word and offset of the completion record (R213) -/
  badWord : Nat := 0
  badOff : Nat := 0
  link : Option (Nat × Nat) := none
  /-- the record of the task that issued the command -/
  owner : Nat := 0
  /-- torn down while suspended or queued: the status it ends with -/
  dead : Option Nat := none
  /-- the completion record has been handed over, or cannot be written (R213) -/
  recorded : Bool := false
  /-- suspended at its completion record's place -/
  atRecord : Bool := false
  /-- the word and offset of the granule at which it is suspended (R213, R354) -/
  suspAt : Nat × Nat := (0, 0)
  /-- the data word, by its place among the command's, that is suspended: the words before it go on (R354) -/
  suspFlight : Nat := 0
  /-- the data word that has failed, by its place, and the offset of its first failing granule (R215) -/
  failed : Option (Nat × Nat) := none
  /-- a FENCE.REL has issued before it that orders the commands numbered below (R168, R341) -/
  upto : Nat := 0
  deriving DecidableEq, Repr

/-- A registered chain (R211): its control block's place, what the engine latched, and how far it is. -/
structure Chain where
  ccb : Nat := 0
  engine : Nat := 0
  asid : Nat := 0
  pilot : Bool := false
  launch : Nat := 0
  base : Nat := 0
  size : Nat := 16
  cring : Nat := 0
  tail : Nat := 0
  head : Nat := 0
  bias : Nat := 0
  done : Nat := 0
  /-- the location of the control block's first byte -/
  loc : Nat := 0
  /-- the ring entry's page awaits service, at an address -/
  wait : Option Nat := none
  deriving DecidableEq, Repr

/-! ## The front end -/

/-- A patch of a configuration delta, its bytes read (R375). -/
structure Patch where
  tile : Nat
  seg : Nat
  off : Nat
  data : List Byte
  deriving DecidableEq, Repr

/-- What a packet waits for (R224, R229, R373, R376, R456). -/
inductive FeWait where
  | signal (va : Nat)
  | groups
  | fault (va : Nat)
  /-- a configuration delta: its patches, its image, the tiles still to do, and when step 1 of the first of them began -/
  | delta (patches : List Patch) (img : Nat) (tiles : List Nat) (since : Option Nat)
  deriving DecidableEq, Repr

/-- A packet that has started and not retired (R369, R224). -/
structure Packet where
  idx : Nat := 0
  /-- the packet's bytes, none before they are read -/
  bytes : List Byte := []
  /-- the queue program it runs (R371) -/
  code : List Nat := []
  prog : Prog := {}
  words : Nat := 0
  launch : Option Nat := none
  /-- COMPLETE: the signal if any, addend, user word (R230) -/
  comp : Option (Option Nat × Word × Word) := none
  barrier : Bool := false
  /-- the program has ended, with this status -/
  ended : Option Nat := none
  wait : Option FeWait := none
  /-- the completion add has faulted and waits for service (R456) -/
  addFault : Option Nat := none
  /-- an ABORT reply answered that fault, or another package refused the add: the signal stays as it is -/
  noAdd : Bool := false
  /-- the add went to another package: its pair and sequence until it is acknowledged, and that it has been -/
  addSent : Option (Nat × Nat) := none
  added : Bool := false
  /-- records of its EMTASK at hand that have been emitted, and the image they come from (R228) -/
  emitted : Nat := 0
  image : List Byte := []
  /-- the launches that had added to a signal its SIGWAIT was satisfied by, and had not retired (R365) -/
  heeds : List Nat := []
  deriving DecidableEq, Repr

/-- A host queue (R367); `state` is 0 IDLE, 1 ACTIVE, 2 SUSPENDED, 3 TORNDOWN. -/
structure HQueue where
  ring : Nat := 0
  size : Nat := 0
  tail : Nat := 0
  head : Nat := 0
  asid : Nat := 0
  state : Nat := 0
  prog : Nat := 0
  sh : Tab Word := []
  cur : Option Packet := none
  started : List Packet := []
  deriving DecidableEq, Repr

/-- A launch (R372, R373, R385). -/
structure Launch where
  asid : Nat := 0
  queue : Nat := 0
  packet : Nat := 0
  census : Nat := 0
  fsvc : Bool := false
  abortSteps : Bool := false
  deadline : Word := 0
  budget : Nat := 0
  fmts : List (Nat × BitVec 32) := []
  groups : List Nat := []
  /-- chart lines appended, as their raw words -/
  lines : List (List Nat) := []
  status : Nat := 0
  validity : Word := 0
  landed : Bool := false
  /-- torn down, with the packet status it gives -/
  aborted : Option Nat := none
  /-- it has retired: its lines are removed and its group entries free -/
  retired : Bool := false
  /-- record ranges emitted: first address, address space, count (R390) -/
  ranges : List (Nat × Nat × Nat) := []
  /-- the locations to which its SIGNAL words have added (R171, R365) -/
  signalled : List Nat := []
  deriving DecidableEq, Repr

/-- A group table entry (R45, R170, R373). -/
structure Group where
  launch : Nat
  members : List Nat
  count : Nat
  phase : Nat := 0
  arrived : Tab Nat := []
  deriving DecidableEq, Repr

/-- A record on a die's ready queue (R380, R413). -/
structure ReadyRec where
  loc : Nat
  va : Nat
  asid : Nat
  cancel : Bool := false
  landfall : Bool := false
  restore : Bool := false
  deriving DecidableEq, Repr

/-- A saved task (R383, R404): its slot's contents, the slot it left, its context area, whether that area is the pilot's
pool, and the channel it is parked on. -/
structure Saved where
  k : Nat
  ctx : Nat
  slot : Slot
  pool : Bool := false
  /-- die * 4096 + channel, and whether it is the reader end -/
  parked : Option (Nat × Bool) := none
  /-- what has come after the save is still to be written into the area (R253, R387) -/
  stale : Bool := false
  deriving DecidableEq, Repr

/-- A bind record (R382). -/
structure Bind where
  ctx : Nat := 0
  record : Nat := 0
  preempt : Bool := false
  restore : Bool := false
  valid : Bool := false
  deriving DecidableEq, Repr

/-- A channel table entry (R399). -/
structure Chan where
  isOpen : Bool := false
  frozen : Bool := false
  sumpFull : Bool := false
  spFault : Bool := false
  wpark : Bool := false
  rpark : Bool := false
  big : Bool := false
  asid : Nat := 0
  wend : BitVec 32 := 0
  rend : BitVec 32 := 0
  ringOff : Nat := 0
  rplaces : Nat := 0
  wmark : Nat := 0
  pushed : Nat := 0
  popped : Nat := 0
  rcnt : Nat := 0
  scnt : Nat := 0
  seglist : Nat := 0
  segs : List Nat := []
  maxseg : Nat := 0
  /-- segments that hold elements, oldest first, and the element places used of the first and the last -/
  used : List Nat := []
  headPos : Nat := 0
  tailPos : Nat := 0
  /-- the pilot has declined to grow the sump for the push that waits (R407) -/
  declined : Bool := false
  /-- the fault a spill or refill waits on, and the launch that its record names (R408) -/
  faultVa : Nat := 0
  faultLaunch : Nat := 0
  /-- the fault is a refill's: refills stop at its element -/
  refillStuck : Bool := false
  deriving DecidableEq, Repr

/-! ## Dies and package tables -/

/-- A chart line as read (R347): its range, its offset, what it allows, and whether it is refused. -/
structure ChartLine where
  base : Nat
  limit : Nat
  offset : Nat
  kind : Nat
  r : Bool
  w : Bool
  bad : Bool
  /-- the physical address it was read from -/
  loc : Nat := 0
  deriving DecidableEq, Repr

/-- A cached page translation (R351): the page's first address and size, where it maps, and what it allows. -/
structure PageLine where
  asid : Nat
  base : Nat
  size : Nat
  pa : Nat
  kind : Nat
  r : Bool
  w : Bool
  deriving DecidableEq, Repr

/-- An ASID descriptor (R346). -/
structure AsidDesc where
  chart : Nat := 0
  nchart : Nat := 0
  root : Nat := 0
  deriving DecidableEq, Repr

/-- A channel-class region (R398). -/
structure ChanRegion where
  asid : Nat
  base : Nat
  limit : Nat
  deriving DecidableEq, Repr

/-- What a die holds outside its tiles: up to 512 chart lines, each with its ASID, and 4,096 page translations cached (R351), TXINV (R352), its channel-class regions and
ring reserve (R398). -/
structure Die where
  charts : List (Nat × ChartLine) := []
  pages : List PageLine := []
  txinv : Word := 2
  regions : List ChanRegion := []
  rres : Nat := 0
  deriving DecidableEq, Repr

/-- A node-map entry (R419). -/
structure NodeEnt where
  valid : Bool := false
  key : Nat := 0
  node : Nat := 0
  deriving DecidableEq, Repr

/-! ## The package: torus, host port, clock, power, boot -/

/-- A packet kept until acknowledged (R422): destination sequence, the command piece it carries, path ports, last sending. -/
structure OutPacket where
  seq : Nat
  job : Nat
  flight : Nat
  addr : Nat
  /-- 0 write, 1 accumulate -/
  rmw : Option Rmw
  data : List Byte
  size : Nat
  key : Nat
  /-- the WAKE flag (R379) -/
  wake : Bool := false
  /-- the port of this package that its path leaves by; empty while it has never gone out -/
  path : List Nat := []
  sent : Nat := 0
  /-- a credit: the channel whose reader has given a place back (R409) -/
  credit : Option Nat := none
  deriving DecidableEq, Repr

/-- The source side of an ordered pair (R422, R435): next sequence, unacknowledged packets, and whether a refusal has
fenced the pair. -/
structure Pair where
  next : Nat := 0
  unacked : List OutPacket := []
  /-- packets of no command that wait for room among the 1,024, without a sequence yet -/
  later : List OutPacket := []
  fenced : Bool := false
  /-- since when no live path has stood (R436) -/
  deadSince : Option Nat := none
  deriving DecidableEq, Repr

/-- A packet at its destination: sequence, address, operation, element size, data, key. -/
structure InPacket where
  seq : Nat
  addr : Nat
  op : Nat
  size : Nat
  data : List Byte
  key : Nat
  /-- its cairn save has been given up: it goes back FAULTED (R432, R441) -/
  given : Bool := false
  deriving DecidableEq, Repr

/-- The destination side (R422): window base, packets held for a gap, and the translation fault, by ASID and address, on which the
packet at the base waits (R432). -/
structure Window where
  base : Nat := 0
  held : List InPacket := []
  stuck : Option (Nat × Nat) := none
  deriving DecidableEq, Repr

/-- A torus port: 0 to 5 scale-out (R423), 16 + 4 * die + direction on the package. A dying link keeps when its death was
detected, its cause, and the packets in flight. -/
structure Link where
  up : Bool := false
  dying : Option (Nat × Nat × Nat) := none
  training : Option Nat := none
  peer : Nat := 0
  retries : Nat := 0
  /-- the times of its retries within the last millisecond (R433) -/
  recent : List Nat := []
  deriving DecidableEq, Repr

/-- What this cycle has put on the links: kind (0 packet, 1 acknowledgement, 2 refusal), node, sequence, status, value. -/
structure TorusMsg where
  kind : Nat
  node : Nat
  seq : Nat
  status : Nat
  value : Nat
  deriving DecidableEq, Repr

/-- The torus unit of the package (R422, R423, R433-R436). -/
structure Torus where
  node : Nat := 0
  links : Tab Link := []
  counters : Tab Nat := []
  pairs : Tab Pair := []
  windows : Tab Window := []
  /-- the partition keys that node-map writes have put into the router's table of 64, and those that FENCE has removed (R435) -/
  keys : List Nat := []
  revoked : List Nat := []
  sending : List TorusMsg := []
  deriving DecidableEq, Repr

/-- A message of the host that waits behind a gap (R439). -/
structure Waiting where
  stream : Nat
  seq : Nat
  type : Nat
  data : List Byte
  deriving DecidableEq, Repr

/-- The host port (R437-R439): next SEQ of each host stream, messages held, and the link. -/
structure HostPort where
  next : Tab Nat := []
  held : List Waiting := []
  up : Bool := true
  lost : Bool := false
  /-- MGMT only until READY (R452) -/
  ready : Bool := true
  /-- what has gone onto the link in this cycle, as messages (R437) -/
  sends : List (List Byte) := []
  deriving DecidableEq, Repr

/-- The meridian clock (R410, R411). -/
structure Clock where
  domain : Nat := 0
  locked : Bool := false
  holdover : Bool := false
  lastSync : Nat := 0
  /-- nanoseconds still to slew, and the remainder of the slewing -/
  slew : Int := 0
  part : Nat := 0
  deriving DecidableEq, Repr

/-- Power and heat registers (R447-R450). -/
structure Power where
  cap : Word := 0x0000000015180A01
  now : Word := 0
  temps : Tab Word := []
  /-- array clock in 100 MHz -/
  clock : Nat := 33
  causes : BitVec 5 := 0
  ext : Bool := false
  lastStep : Nat := 0
  railsOff : Bool := false
  fenced : Bool := false
  recovery : Bool := false
  deriving DecidableEq, Repr

/-- Boot state (R443-R446): boot count, rollback counter, measurements, retired tiles. -/
structure Boot where
  count : Nat := 1
  rollback : Nat := 0
  meas : Tab (List Byte) := []
  /-- per die, the retired tile (R430, R446) -/
  retired : Tab Nat := []
  absent : List Nat := []
  /-- a step of bring-up has failed, and the module goes no further (R452) -/
  failed : Bool := false
  deriving DecidableEq, Repr

/-- An error counter of a class and unit (R426, R427): errors since the last record, and those of the current second. -/
structure ErrCount where
  count : Nat := 0
  second : Nat := 0
  inSecond : Nat := 0
  deriving DecidableEq, Repr

/-- A pseudo-channel being watched or remapped (R431): rows with class-2 errors, and the spares in use of its stack. -/
structure Stack where
  rows : List (Nat × Nat × Nat) := []
  spares : Nat := 0
  remapped : List Nat := []
  broken : List Nat := []
  deriving DecidableEq, Repr

/-! ## The package -/

/-- Who executes the word at hand. -/
inductive Agent where
  | none
  | stream (k x : Nat)
  | command (id : Nat)
  | queue (q : Nat)
  deriving DecidableEq, Repr

/-- The input of an event: the unit it happens at and the data that comes from outside the model's state. -/
structure Inp where
  /-- slot key, tile, die, queue, group or destination number -/
  unit : Nat := 0
  /-- operation, command, launch or packet number, or a port -/
  id : Nat := 0
  /-- stream, segment or stack -/
  x : Nat := 0
  a : Nat := 0
  b : Nat := 0
  c : Nat := 0
  data : List Byte := []
  /-- VER of a host message (R437) -/
  ver : Nat := 1
  deriving DecidableEq, Repr

/-- Whose turn it is: a stream fetches and issues, a copy command or a queue program runs its next word, an event of the
opcode table happens, or a clock cycle passes. -/
inductive Turn where
  | stream (k x : Nat)
  | command (id : Nat)
  | queue (q : Nat)
  | event (i : Instr) (inp : Inp)
  | tick
  deriving DecidableEq, Repr

/-- A message the device keeps until the host acknowledges it (R437-R439): its SEQ, TYPE, payload, and when it was last
sent. -/
structure Msg where
  seq : Nat
  type : Nat
  data : List Byte
  sent : Nat
  deriving DecidableEq, Repr

/-- A device stream (R438): the next SEQ and the messages not yet acknowledged. -/
structure DevStream where
  seq : Nat := 0
  unacked : List Msg := []
  deriving DecidableEq, Repr

/-- An ONABORT add that waits for service at an address, and the census item that falls after it (R355, R389). -/
structure Owed where
  die : Nat
  tile : Option Nat
  k : Nat
  asid : Nat
  launch : Nat
  signal : Nat
  code : Nat
  wait : Nat
  deriving DecidableEq, Repr

/-- The whole machine. -/
structure State where
  agenda : List Turn := []
  cur : Agent := .none
  /-- the latched word and the word after it (R57, R73) -/
  fetched : Nat × Nat := (0, 0)
  inp : Inp := {}
  /-- the words at hand issue as one bundle, whose results land together (R81, R243) -/
  bundle : Bool := false
  /-- the slot and stream of each word that has issued in this cycle: each cluster of a core issues at most one (R247) -/
  issued : List (Nat × Nat) := []
  /-- the slot and stream of each word that has trapped as it would have issued in this cycle (R22, R233) -/
  tripped : List (Nat × Nat) := []
  /-- the slot and stream of each load that has written its register in this cycle (R244) -/
  landed : List (Nat × Nat) := []
  /-- the boundaries of scopes that bytes of outstanding accesses have crossed (R333) -/
  crossings : List Crossing := []
  /-- a precise trap raised by a word of the bundle at hand: stream, cause, TRAPAUX (R241) -/
  bundleTrap : Option (Nat × Nat × Word) := none
  nextId : Nat := 1
  cycle : Nat := 0
  mtime : Word := 0
  mfrac : Nat := 0
  mem : Memory := []
  marks : List Nat := []
  slots : Tab Slot := []
  binds : Tab Bind := []
  tiles : Tab Tile := []
  agelim : Tab Nat := []
  jobs : Tab Job := []
  hqueues : Tab HQueue := []
  dies : Tab Die := []
  devOut : Tab DevStream := []
  /-- each die's cairn reserve, in 256-byte granules still free (R432) -/
  cairnFree : Tab Nat := []
  asids : Tab AsidDesc := []
  nodemap : Tab NodeEnt := []
  /-- draws made from the opaque choices of Config: the model's own counter -/
  fresh : Nat := 0
  /-- tiles retired whose window no spare answers for yet (R430) -/
  away : List Nat := []
  chains : Tab Chain := []
  /-- R211: registrations the pilot has refused, reported to who asked: 0 a task of a launch, 1 the pilot, 2 a host queue; its
  number; the control block -/
  refusals : List (Nat × Nat × Nat) := []
  progs : Tab (List Nat) := []
  launches : Tab Launch := []
  nextLaunch : Nat := 1
  groups : Tab Group := []
  ready : Tab (List ReadyRec) := []
  saved : List Saved := []
  chans : Tab Chan := []
  /-- free 64 KiB segments by 256 * die + ASID (R398) -/
  sumpFree : Tab (List Nat) := []
  torus : Torus := {}
  host : HostPort := {}
  clock : Clock := {}
  power : Power := {}
  boot : Boot := {}
  errs : Tab ErrCount := []
  hbm : Tab Stack := []
  /-- ONABORT adds that wait for service (R389) -/
  owed : List Owed := []
  /-- the packets, by queue and index, whose retirement waits for room on stream 0, in order (R439) -/
  retiring : List (Nat × Nat) := []
  /-- EVENTs to the pilot, oldest first, as their words (R213, R383) -/
  told : List (List Nat) := []
  deriving DecidableEq, Repr

/-- Why the machine stops. -/
inductive Fault where
  /-- raised by `step` when the rails are off (R451, R452): nothing runs until a cold reset; safe -/
  | railsOff
  deriving DecidableEq, Repr

/-- Why an instruction has no meaning. -/
inductive Refusal where
  /-- raised by `exec` for a row of the opcode table whose meaning is not written; safe -/
  | notModelled (mnemonic : String)
  deriving DecidableEq, Repr

/-- The machine at READY after a cold reset (R452), with nothing bound and nothing to do. -/
def State.reset : State := {}

end Sys2Proof.Machine
end

