-- ==== Sys2Proof/Machine/Ops.lean ====
section
/-! DEFINITION. Sys2Proof/Machine/Ops.lean: the named operations over slots, registers, counters and traps that the meanings
share, and the taking of a trap (R233, R234). -/

namespace Sys2Proof.Machine

/-- What a meaning answers. -/
abbrev Out := Host.Outcome State Fault Refusal

/-! ## Names of places -/

/-- R33: a slot key is SLOTID, the tile in bits 8:3, the core in bit 2, the slot in bits 1:0. -/
def tileOf (k : Nat) : Nat := k / 8
def coreOf (k : Nat) : Nat := k / 4 % 2
/-- The core a slot belongs to, numbered over the package. -/
def coreKey (k : Nat) : Nat := k / 4
def dieOfTile (t : Nat) : Nat := t / 8
def dieOf (k : Nat) : Nat := k / 64

def State.slot (s : State) (k : Nat) : Slot := s.slots.get {} k
def State.setSlot (s : State) (k : Nat) (v : Slot) : State := { s with slots := s.slots.set k v }
def State.modSlot (s : State) (k : Nat) (f : Slot → Slot) : State := s.setSlot k (f (s.slot k))
def State.tile (s : State) (t : Nat) : Tile := s.tiles.get {} t
def State.setTile (s : State) (t : Nat) (v : Tile) : State := { s with tiles := s.tiles.set t v }
def State.modTile (s : State) (t : Nat) (f : Tile → Tile) : State := s.setTile t (f (s.tile t))
def State.job (s : State) (i : Nat) : Job := s.jobs.get {} i
def State.setJob (s : State) (i : Nat) (v : Job) : State := { s with jobs := s.jobs.set i v }
def State.hqueue (s : State) (q : Nat) : HQueue := s.hqueues.get {} q
def State.setHqueue (s : State) (q : Nat) (v : HQueue) : State := { s with hqueues := s.hqueues.set q v }
def State.die (s : State) (d : Nat) : Die := s.dies.get {} d
def State.setDie (s : State) (d : Nat) (v : Die) : State := { s with dies := s.dies.set d v }
def State.modDie (s : State) (d : Nat) (f : Die → Die) : State := s.setDie d (f (s.die d))
def State.bind (s : State) (k : Nat) : Bind := s.binds.get {} k
def State.chan (s : State) (c : Nat) : Chan := s.chans.get {} c
def Slot.stream (sl : Slot) (x : Nat) : Stream := sl.streams.get {} x
def Slot.setStream (sl : Slot) (x : Nat) (v : Stream) : Slot := { sl with streams := sl.streams.set x v }
def Slot.modStream (sl : Slot) (x : Nat) (f : Stream → Stream) : Slot := sl.setStream x (f (sl.stream x))

/-- R376: a slot of a halted tile stands still, unless it holds the collar trap of a segment that the delta drains, or runs
its handler. -/
def State.haltsSlot (s : State) (k : Nat) : Bool :=
  let sl := s.slot k
  match (s.tile (tileOf k)).halted with
  | none => false
  | some gs => !((sl.collarTraps.any fun e => e / 4 == tileOf k && gs.contains (e % 4)) ||
      (sl.trap.inHandler && sl.trap.cause == 26 && gs.contains (sl.trap.aux.toNat / 256 % 4)))

/-- R376: a configuration delta holds the segment closed. -/
def State.segHeld (s : State) (t g : Nat) : Bool :=
  match (s.tile t).halted with
  | some gs => gs.contains g
  | none => false

/-! ## Scopes and the crossing of their boundaries (R331, R333) -/

/-- R331: the narrowest scope that holds both slots. -/
def scopeOfSlots (j k : Nat) : Nat :=
  if j = k then 0 else if coreKey j = coreKey k then 1 else if tileOf j = tileOf k then 2
  else if tileOf j / 4 = tileOf k / 4 then 3 else if dieOf j = dieOf k then 4 else 5

/-- R331: the narrowest scope that holds a slot and the copy engine, collar or array of a tile. -/
def scopeOfTile (j t : Nat) : Nat :=
  if tileOf j = t then 2 else if tileOf j / 4 = t / 4 then 3 else if dieOf j = dieOfTile t then 4 else 5

/-- R331: the narrowest scope that holds a slot and a die copy engine, pilot or walker. -/
def scopeOfDie (j d : Nat) : Nat := if dieOf j = d then 4 else 5

/-- The locations of an access's bytes, with their ordering kinds. -/
def OpKind.locs : OpKind → List (Nat × Nat)
  | .load _ _ _ l _ => l
  | .store _ _ l _ => l
  | .qrd _ _ _ l => l
  | _ => []

/-- R333: when byte `i` of operation `id` crossed the boundary of a scope, if it has. -/
def State.crossedAt (s : State) (id i scope : Nat) : Option Nat :=
  (s.crossings.find? fun c => c.op == id && c.place == i && c.scope == scope).map Crossing.stamp

/-- The bytes of an access not yet satisfied or performed, with their places. -/
def Op.leftAt (o : Op) : List ((Nat × Nat) × Nat) := o.kind.locs.zipIdx.filter fun p => (o.got.find? p.2).isNone

/-! ## Scalars and predicates (R27) -/

/-- s0 reads zero (R27). -/
def readScalar (t : Tab Word) (d : BitVec 5) : Word := if d = 0 then 0 else t.get 0 d.toNat
/-- A write to s0 is discarded (R27). -/
def writeScalar (t : Tab Word) (d : BitVec 5) (v : Word) : Tab Word := if d = 0 then t else t.set d.toNat v
/-- p0 reads all ones (R27). -/
def readPred (t : Tab Lanes) (p : BitVec 3) : Lanes := if p = 0 then BitVec.allOnes 128 else t.get 0 p.toNat
/-- A write to p0 is discarded (R27). -/
def writePred (t : Tab Lanes) (p : BitVec 3) (v : Lanes) : Tab Lanes := if p = 0 then t else t.set p.toNat v
/-- The one-bit predicates of an engine (R56). -/
def readBit (t : Tab Bool) (p : BitVec 3) : Bool := if p = 0 then true else t.get false p.toNat
def writeBit (t : Tab Bool) (p : BitVec 3) (v : Bool) : Tab Bool := if p = 0 then t else t.set p.toNat v

/-- Every lane alike. -/
def lanesOf (b : Bool) : Lanes := if b then BitVec.allOnes 128 else 0
def lane0 (v : Lanes) : Bool := v.getLsbD 0

/-- The registers a word reads: a slot's, or an engine's own (R56), and the stream's control state. -/
structure View where
  reg : BitVec 5 → Word
  pred : BitVec 3 → Lanes
  ctl : Ctl
  /-- loops a running handler leaves untouched (R234) -/
  held : List Loop := []
  /-- a control core, whose PC wraps (R25, R64) -/
  core : Bool := false

/-- R234: the loops of the trapped stream, while its handler runs. -/
def Slot.heldLoops (sl : Slot) (x : Nat) : List Loop :=
  if sl.trap.inHandler && sl.trap.stream.toNat == x then sl.trap.held else []

def Slot.view (sl : Slot) (x : Nat) : View :=
  { reg := readScalar sl.regs, pred := readPred sl.preds, ctl := (sl.stream x).ctl, held := sl.heldLoops x, core := true }
def Prog.view (p : Prog) : View :=
  { reg := readScalar p.regs, pred := fun i => lanesOf (readBit p.preds i), ctl := p.ctl }

/-- R54: pG XOR N at lane 0. -/
def View.guard (v : View) (g : BitVec 3) (n : Bool) : Bool := (lane0 (v.pred g)) != n
/-- R54, R123: the lane mask of an F-Q or queue-memory word. -/
def View.lanes (v : View) (g : BitVec 3) (n : Bool) : Lanes := if n then ~~~ (v.pred g) else v.pred g

/-! ## Control state -/

/-- R25: a stream's PC wraps at 32,768. -/
def wrapPc (n : Nat) : Nat := n % 32768

/-- The word address `n` after the PC: it wraps on a control core (R25, R94). -/
def View.after (v : View) (n : Nat) : Nat := if v.core then wrapPc (v.ctl.pc + n) else v.ctl.pc + n

/-- R64: the target of a signed word offset. In an engine's program a negative one lies outside the program, and so does
the number answered for it. -/
def View.target (v : View) (o : BitVec 19) : Nat :=
  let t := (v.ctl.pc : Int) + o.toInt
  if v.core then (t % 32768).toNat else if 0 ≤ t then t.toNat else 65536

/-- R95: the loops that end at `x` at this return-stack depth are taken innermost first, and the first that goes on sets
the PC. The result is the PC, the loops left and the counts of idle counters. -/
def loopsAt (pred : BitVec 3 → Bool) (x depth next : Nat) : List Loop → Tab Nat → Nat × List Loop × Tab Nat
  | [], counts => (next, [], counts)
  | l :: ls, counts =>
    if l.last = x ∧ l.depth = depth then
      let more := decide (1 < l.count)
      let go := more && (!l.x || (pred l.g != l.n))
      if go then (l.start, { l with count := l.count - 1 } :: ls, counts)
      else loopsAt pred x depth next ls (counts.set l.lc (if more then l.count else 0))
    else
      let r := loopsAt pred x depth next ls counts
      (r.1, l :: r.2.1, r.2.2)

/-- R95: the control state after a word that makes no taken transfer, whose last word stands at `at` and whose successor
is `next`. -/
def Ctl.advance (c : Ctl) (pred : BitVec 3 → Bool) (pos next : Nat) : Ctl :=
  let r := loopsAt pred pos c.depth next c.loops c.counts
  { c with pc := r.1, loops := r.2.1, counts := r.2.2 }

/-- The active loop whose last PC is `pos`, at its own depth (R57, R96). DESIGN CHOICE (notes/assumptions/118.md): where several active
loops of the depth end there, TRAPAUX names the innermost (R98). -/
def Ctl.loopEnding (c : Ctl) (pos : Nat) : Option Loop := c.loops.find? fun l => l.last = pos ∧ l.depth = c.depth

/-- The distance from a loop's start to an address, around the wrap of the PC. -/
def Loop.rel (l : Loop) (t : Nat) : Nat := (t + 32768 - l.start) % 32768

/-- The address lies in a loop body. -/
def Loop.holds (l : Loop) (t : Nat) : Bool := decide (l.rel t ≤ l.rel l.last)

/-- Idle the given loops, their counts kept (R96). -/
def Ctl.idle (c : Ctl) (gone kept : List Loop) : Ctl :=
  { c with counts := gone.foldl (fun t l => t.set l.lc l.count) c.counts, loops := kept }

/-- The place of a loop's own word, before its body. -/
def Loop.word (l : Loop) : Nat := (l.start + 32767) % 32768

/-- R96: of some active loops, innermost first, those that a transfer to `t` at this depth leaves, and those nested in one of
them: entered from its body. -/
def leftLoops (depth t : Nat) : List Loop → List Loop
  | [] => []
  | l :: ls =>
    let out := leftLoops depth t ls
    if l.depth = depth ∧ (!l.holds t ∨ out.any fun o => o.holds l.word) then l :: out else out

/-- R96: a BR or JMPR to `t` idles the loops at this depth that it leaves, with every loop nested in one of them. -/
def Ctl.leaveLoops (c : Ctl) (t : Nat) : Ctl :=
  let left := leftLoops c.depth t c.loops
  c.idle left (c.loops.filter fun l => !left.contains l)

/-- R96: a RET to depth `n` idles the loops entered deeper. -/
def Ctl.returnLoops (c : Ctl) (n : Nat) : Ctl :=
  c.idle (c.loops.filter fun l => decide (n < l.depth)) (c.loops.filter fun l => decide (l.depth ≤ n))

/-! ## Outstanding operations (R26, R115, R142) -/

/-- The counter of a class: the operations outstanding, never above 63 (R26). A load counts until d is written (R115). -/
def Slot.counter (sl : Slot) (cls : Nat) : Nat := min 63 (sl.ops.filter fun o => o.cls = cls).length

/-- R115: false-guarded words retire in issue order with their class: one leaves once no earlier operation of its class is
outstanding. -/
def retireNulls : List Nat → List Op → List Op
  | _, [] => []
  | seen, o :: os =>
    if o.kind = .null ∧ o.cls ∉ seen then retireNulls seen os else o :: retireNulls (o.cls :: seen) os

/-- What a word that waits for a counter waits for: a load of exposed mode whose data is there only has its slot cycle to
reach, in which WAITC freezes the slot, and is waited for no longer (R169, R255). -/
def Slot.outstanding (sl : Slot) (cls : Nat) : Nat :=
  min 63 ((retireNulls [] (sl.ops.filter fun o => !o.done)).filter fun o => o.cls = cls).length

/-- The operations after one is done. -/
def Slot.retire (sl : Slot) (id : Nat) : Slot :=
  { sl with ops := retireNulls [] (sl.ops.filter fun o => o.id != id) }

/-- A new operation takes its counter (R115, R142). -/
def Slot.addOp (sl : Slot) (o : Op) : Slot := { sl with ops := retireNulls [] (sl.ops ++ [o]) }

/-- A place of some queue is reserved and not landed (R125, R173). -/
def Slot.reservations (sl : Slot) : Bool := sl.queues.any fun (q : Nat × List QPlace) => q.2.any fun e => e.val.isNone

/-- R173: every counter is zero and no reservation is outstanding. -/
def Slot.drained (sl : Slot) : Bool := sl.ops.isEmpty && !sl.reservations

/-- The slot, bound or saved, that an operation belongs to (R253, R387: what completes after a save goes into the saved
context). -/
def State.modOp (s : State) (id : Nat) (f : Slot → Slot) : State :=
  let has := fun sl : Slot => sl.ops.any fun o => o.id == id
  { s with slots := s.slots.map fun (p : Nat × Slot) => if has p.2 then (p.1, f p.2) else p,
           saved := s.saved.map fun v => if has v.slot then { v with slot := f v.slot, stale := true } else v }

/-- An operation is done: its counter returns. -/
def State.retireOp (s : State) (id : Nat) : State := s.modOp id fun sl => sl.retire id

/-- The slot that a task is bound in, by its record. -/
def State.boundAt (s : State) (owner : Nat) : Option Nat :=
  (List.find? (fun (p : Nat × Slot) => p.2.phase != .free && p.2.task.loc == owner) s.slots).map Prod.fst

/-- The task of a record, bound or saved, as its slot's contents. -/
def State.taskSlot (s : State) (owner : Nat) : Option Slot :=
  match s.boundAt owner with
  | some k => some (s.slot k)
  | none => (s.saved.find? fun v => v.slot.task.loc == owner).map fun v => v.slot

/-- Change the task of a record, bound or saved. -/
def State.modTask (s : State) (owner : Nat) (f : Slot → Slot) : State :=
  match s.boundAt owner with
  | some k => s.modSlot k f
  | none => { s with saved := s.saved.map fun v => if v.slot.task.loc == owner then { v with slot := f v.slot, stale := true } else v }

/-- The cycle that a slot's words issue in: its slot cycle in exposed mode (R255). -/
def State.slotClock (s : State) (k : Nat) : Nat := if (s.slot k).exposed then (s.slot k).cycle else s.cycle

/-! ## Traps (R231-R234) -/

/-- R231: TRAPCAUSE as GETX reads it. -/
def TrapSt.causeWord (t : TrapSt) : Word :=
  BitVec.ofNat 64 (t.inHandler.toNat * 2147483648 + t.late.toNat * 1073741824 + t.cpend.toNat * 536870912 +
    t.xsave.toNat * 268435456 + t.cause.toNat)

/-- R32: TRAPPC, the stream in bits 17:16 and the PC in bits 14:0. -/
def TrapSt.pcWord (t : TrapSt) : Word := BitVec.ofNat 64 (t.stream.toNat * 65536 + t.pc)

/-- R32: a TRAPPC or EXIT word of a stream and a PC is made of numbers below 4 and 32,768. -/
def boundPc (pc : Nat) : Nat := pc % 32768

/-- The slot's task begins to end (R383): its streams stop and it waits for its counters. -/
def Slot.beginEnding (sl : Slot) (e : Ending) : Slot := { sl with phase := .ending, ending := some e }

/-- R356: the stream's word is held until the host answers a fault record. -/
def Stream.serviced (st : Stream) : Bool :=
  match st.wait with
  | some (.fault _ _) => true
  | _ => false

/-- R245, R292: whether a stream had presented is not kept, a queue wait counts from its next turn, and a word that waited
starts afresh; one held for service stays held (R356). -/
def Stream.afresh (st : Stream) : Stream :=
  { st with presented := false, qsince := none, readySince := none, wait := if st.serviced then st.wait else none }

/-- R233: the words that were to trap late have no effect, and their streams stand before them again. -/
def Slot.setBack (sl : Slot) : Slot :=
  sl.late.foldl (fun sl u => sl.modStream u.x fun st => { st with ctl := u.ctl, rvCount := u.rv }) { sl with late := [] }

/-- R233: stream `x` of the slot takes a trap with its PC at `pc`; an absent trap entry ends the task FAULTED, and a trap
inside a handler ends it DOUBLETRAP (R234). Streams at an unissued rendezvous present afresh (R245), and words of the same cycle that
were to trap late raise their traps again after ERET. -/
def Slot.takeTrap (sl : Slot) (x pc cause : Nat) (aux : Word) (late : Bool) : Slot :=
  let sl := sl.setBack
  let c := (sl.stream x).ctl
  let t : TrapSt := { sl.trap with cause := BitVec.ofNat 8 cause, inHandler := true, late := late,
                                   xsave := sl.exposed, stream := BitVec.ofNat 2 x, pc := pc, aux := aux,
                                   depth := c.depth, held := c.loops }
  if sl.trap.inHandler then
    { (sl.beginEnding .doubleTrap) with
        trap := { sl.trap with cause := BitVec.ofNat 8 cause, stream := BitVec.ofNat 2 x, pc := pc, aux := aux, late := late } }
  else
    let sl := { sl with trap := t, exposed := false, last := none, rvSince := none,
                        streams := sl.streams.map fun (p : Nat × Stream) => (p.1, p.2.afresh) }
    match sl.task.trapEntry.find? x with
    | none => sl.beginEnding .faulted
    | some e => sl.modStream x fun st => { st with ctl := { st.ctl with pc := e, loops := [] }, wait := none }

/-- A precise trap of the word at the stream's PC: the word has no effect and TRAPPC names it (R233). Inside a bundle it
is noted, and the bundle does not issue (R241). -/
def State.trapAt (s : State) (k x cause : Nat) (aux : Word) : State :=
  if s.bundle then { s with bundleTrap := s.bundleTrap.or (some (x, cause, aux)) }
  else s.modSlot k fun sl => sl.takeTrap x (sl.stream x).ctl.pc cause aux false

/-! ## Results (R80, R81, R244, R255) -/

/-- R29, R255: from when a place that a word of latency `lat` reserves now may be popped: a slot cycle in exposed mode, the
next cycle in guarded mode. -/
def State.queueDue (s : State) (k lat : Nat) : Nat := if (s.slot k).exposed then (s.slot k).cycle + lat else s.cycle + 1

/-- Place an entry in the reservation that its word made (R125). -/
def landEntry (op : Nat) (e : Entry) : List QPlace → List QPlace :=
  updateWhere (fun p => p.op == op && p.val.isNone) fun p => { p with val := some e }

def Slot.queue (sl : Slot) (q : Nat) : List QPlace := sl.queues.get [] q
def Slot.setQueue (sl : Slot) (q : Nat) (l : List QPlace) : Slot := { sl with queues := sl.queues.set q l }

/-- R34, R127: flags stick. -/
def Slot.raise (sl : Slot) (f : BitVec 5) : Slot := { sl with fpcsr := sl.fpcsr ||| f.setWidth 64, raised := sl.raised ||| f }

/-- R32: SETX's write of a register it may write; the flags of its own cycle are ORed into a new FPCSR (R34, R120). -/
def State.writeSys (s : State) (k r : Nat) (v : Word) : State :=
  if r = 1 then s.modSlot k fun sl => { sl with fpcsr := v ||| sl.raised.setWidth 64 }
  else if r < 0x20 then s.modTile (tileOf k) fun t => { t with fmt := t.fmt.set (r - 0x10) (v.setWidth 32) }
  else s.modSlot k fun sl => { sl with chans := sl.chans.set (r - 0x40) (v.setWidth 32) }

/-- One result takes its place. -/
def State.land (s : State) (k : Nat) : PendEff → State
  | .scalar d v => s.modSlot k fun sl => { sl with regs := writeScalar sl.regs d v }
  | .pred p v m => s.modSlot k fun sl =>
      { sl with preds := writePred sl.preds p ((readPred sl.preds p &&& ~~~ m) ||| (v &&& m)) }
  | .entry q op e f => s.modSlot k fun sl => (sl.setQueue q (landEntry op e (sl.queue q))).raise f
  | .flags f => s.modSlot k fun sl => sl.raise f
  | .loaded op d v => s.modSlot k fun sl => { sl.retire op with regs := writeScalar sl.regs d v }
  | .qloaded op q e => s.modSlot k fun sl => (sl.retire op).setQueue q (landEntry op e (sl.queue q))
  | .sysreg r v => s.writeSys k r v

def PendEff.isSys : PendEff → Bool
  | .sysreg _ _ => true
  | _ => false
def PendEff.isLoaded : PendEff → Bool
  | .loaded .. => true
  | _ => false
/-- A result that returns a counter or lands in a reservation. -/
def PendEff.drains : PendEff → Bool
  | .loaded .. => true
  | .entry .. => true
  | .qloaded .. => true
  | _ => false

/-- The order in which results due together land: a SETX first (R34), then the streams A, V, T, M, so that the last of
them stands (R244), and of one stream a load last (R116). -/
def landOrder (l : List Pend) : List Pend :=
  (l.filter fun p => p.eff.isSys) ++ ([0, 1, 2, 3].flatMap fun x =>
    (l.filter fun p => !p.eff.isSys && !p.eff.isLoaded && p.x == x) ++ (l.filter fun p => p.eff.isLoaded && p.x == x))

/-- Land the results that a test selects. -/
def State.landWhere (s : State) (k : Nat) (f : Pend → Bool) : State :=
  let sl := s.slot k
  (landOrder (sl.pend.filter f)).foldl (fun s p => s.land k p.eff) (s.setSlot k { sl with pend := sl.pend.filter fun p => !f p })

/-- Land the results that are due. -/
def State.landDue (s : State) (k : Nat) : State :=
  s.landWhere k fun p => decide (p.due ≤ (s.slot k).cycle)

/-- R120: a SETX governs the words of the slot that issue in later cycles: its write lands as the cycle ends, and at its
frozen latency in exposed mode (R256). -/
def State.commitSys (s : State) (k x r : Nat) (v : Word) : State :=
  s.modSlot k fun sl =>
    { sl with pend := sl.pend ++ [{ due := if sl.exposed then sl.cycle + 1 else sl.cycle, x := x, eff := .sysreg r v }] }

/-- The results of a word of stream `x`: at once in guarded mode, at the end of its bundle inside a bundle (R81), at the
frozen latency in exposed mode (R255). -/
def State.commit (s : State) (k x lat : Nat) (es : List PendEff) : State :=
  let sl := s.slot k
  if sl.exposed || s.bundle then
    let due := if sl.exposed then sl.cycle + lat else sl.cycle
    s.setSlot k { sl with pend := sl.pend ++ es.map fun e => { due := due, x := x, eff := e } }
  else es.foldl (fun s e => s.land k e) s

end Sys2Proof.Machine
end

