-- ==== Sys2Proof/Machine/Uses.lean ====
section
/-! DEFINITION. Sys2Proof/Machine/Uses.lean: what each word reads, writes, pops, pushes and counts (R124, R142, R179), and
its frozen latency (R256). -/

namespace Sys2Proof.Machine

/-- The operands of a word that issue looks at before the word has any effect. -/
structure Uses where
  /-- scalars read -/
  rs : List (BitVec 5) := []
  /-- scalars written -/
  ds : List (BitVec 5) := []
  /-- predicates written -/
  pd : List (BitVec 3) := []
  /-- queue operands in the order qa, qb, qd: queue, place counted from the head, and whether the entry leaves (R124) -/
  q : List (Nat × Nat × Bool) := []
  /-- the queue a place is reserved in (R125) -/
  push : Option Nat := none
  /-- counter class: 0 ld, 1 st, 2 cp, 3 tl -/
  cls : Option Nat := none
  /-- predicate lanes per element of a lane-guarded word, 0 for a word guarded by lane 0 (R54, R123) -/
  stride : Nat := 0
  /-- VSEL: the guard never suppresses the word (R61) -/
  always : Bool := false
  deriving DecidableEq, Repr

/-- R122: an element's width in bytes, which is the number of lanes it covers. -/
def strideOf (t : BitVec 4) : Nat :=
  if t = 0 ∨ t = 6 ∨ t = 9 then 4 else if t = 1 ∨ t = 2 ∨ t = 5 ∨ t = 8 then 2 else 1

/-- R92: the scalar a loop count comes from. -/
def loopReg (x : BitVec 8) : List (BitVec 5) := if x.getLsbD 7 then [x.setWidth 5] else []

def qOne (a : BitVec 4) (x : Bool) : List (Nat × Nat × Bool) := [(a.toNat, 0, !x)]
/-- R124: two pops of one queue take the head and the entry behind it; with a peek both read the head and one leaves. -/
def qTwo (a : BitVec 4) (x : Bool) (b : BitVec 4) (y : Bool) : List (Nat × Nat × Bool) :=
  [(a.toNat, 0, !x), (b.toNat, if a = b ∧ !x ∧ !y then 1 else 0, !y)]
/-- R124: the accumulator takes the next entry after the pops of its own queue. -/
def qAcc (a : BitVec 4) (x : Bool) (b : BitVec 4) (y : Bool) (d : BitVec 4) : List (Nat × Nat × Bool) :=
  qTwo a x b y ++ [(d.toNat, ((qTwo a x b y).filter fun o => o.1 = d.toNat ∧ o.2.2).length, true)]

/-- R61: VCMP writes the pair p(2k), p(2k+1). -/
def vcmpFirst (k : BitVec 2) : BitVec 3 := BitVec.ofNat 3 (2 * k.toNat)
def vcmpSecond (k : BitVec 2) : BitVec 3 := BitVec.ofNat 3 (2 * k.toNat + 1)

def usesOf : Instr → Uses
  | .nop _ => {}
  | .endStream _ => {}
  | .br _ _ => {}
  | .call _ _ => {}
  | .ret _ => {}
  | .jmpr _ d a => { rs := [a], ds := [d] }
  | .loop _ _ _ x => { rs := loopReg x }
  | .loopx _ _ _ x => { rs := loopReg x }
  | .add _ d a b => { rs := [a, b], ds := [d] }
  | .addW _ d a b => { rs := [a, b], ds := [d] }
  | .sub _ d a b => { rs := [a, b], ds := [d] }
  | .subW _ d a b => { rs := [a, b], ds := [d] }
  | .addi _ d a _ => { rs := [a], ds := [d] }
  | .lui _ d _ => { rs := [d], ds := [d] }
  | .li32 _ d _ => { ds := [d] }
  | .and _ d a b => { rs := [a, b], ds := [d] }
  | .or _ d a b => { rs := [a, b], ds := [d] }
  | .xor _ d a b => { rs := [a, b], ds := [d] }
  | .andi _ d a _ => { rs := [a], ds := [d] }
  | .ori _ d a _ => { rs := [a], ds := [d] }
  | .xori _ d a _ => { rs := [a], ds := [d] }
  | .shl _ d a b => { rs := [a, b], ds := [d] }
  | .shlW _ d a b => { rs := [a, b], ds := [d] }
  | .shr _ d a b => { rs := [a, b], ds := [d] }
  | .shrW _ d a b => { rs := [a, b], ds := [d] }
  | .sra _ d a b => { rs := [a, b], ds := [d] }
  | .sraW _ d a b => { rs := [a, b], ds := [d] }
  | .shli _ d a _ => { rs := [a], ds := [d] }
  | .shri _ d a _ => { rs := [a], ds := [d] }
  | .srai _ d a _ => { rs := [a], ds := [d] }
  | .min _ d a b => { rs := [a, b], ds := [d] }
  | .minW _ d a b => { rs := [a, b], ds := [d] }
  | .max _ d a b => { rs := [a, b], ds := [d] }
  | .maxW _ d a b => { rs := [a, b], ds := [d] }
  | .minn _ d a b => { rs := [a, b], ds := [d] }
  | .minnW _ d a b => { rs := [a, b], ds := [d] }
  | .maxn _ d a b => { rs := [a, b], ds := [d] }
  | .maxnW _ d a b => { rs := [a, b], ds := [d] }
  | .sel _ d a b _ => { rs := [a, b], ds := [d] }
  | .mov _ d a => { rs := [a], ds := [d] }
  | .addsh _ d a b _ => { rs := [a, b], ds := [d] }
  | .agen2 _ d a b => { rs := [a, b, d], ds := [d] }
  | .clz _ d a => { rs := [a], ds := [d] }
  | .clzW _ d a => { rs := [a], ds := [d] }
  | .popc _ d a => { rs := [a], ds := [d] }
  | .popcW _ d a => { rs := [a], ds := [d] }
  | .cmpEq _ _ p a b e => { rs := [a, b], pd := [p, e] }
  | .cmpNe _ _ p a b e => { rs := [a, b], pd := [p, e] }
  | .cmpLt _ _ p a b e => { rs := [a, b], pd := [p, e] }
  | .cmpGe _ _ p a b e => { rs := [a, b], pd := [p, e] }
  | .cmpLtn _ _ p a b e => { rs := [a, b], pd := [p, e] }
  | .cmpGen _ _ p a b e => { rs := [a, b], pd := [p, e] }
  | .cmpTst _ _ p a b e => { rs := [a, b], pd := [p, e] }
  | .cmpNtst _ _ p a b e => { rs := [a, b], pd := [p, e] }
  | .cmpiEq _ _ p a _ e => { rs := [a], pd := [p, e] }
  | .cmpiNe _ _ p a _ e => { rs := [a], pd := [p, e] }
  | .cmpiLt _ _ p a _ e => { rs := [a], pd := [p, e] }
  | .cmpiGe _ _ p a _ e => { rs := [a], pd := [p, e] }
  | .cmpiLtn _ _ p a _ e => { rs := [a], pd := [p, e] }
  | .cmpiGen _ _ p a _ e => { rs := [a], pd := [p, e] }
  | .cmpiTst _ _ p a _ e => { rs := [a], pd := [p, e] }
  | .pand _ p _ _ => { pd := [p] }
  | .por _ p _ _ => { pd := [p] }
  | .pxor _ p _ _ => { pd := [p] }
  | .pnot _ p _ => { pd := [p] }
  | .pmov _ p _ => { pd := [p] }
  | .pandn _ p _ _ => { pd := [p] }
  | .bfx _ d a b => { rs := [a, b], ds := [d] }
  | .bfxn _ d a b => { rs := [a, b], ds := [d] }
  | .bfi _ d a b => { rs := [a, b, d], ds := [d] }
  | .fshr _ d a b r k => { rs := if r then [a, b, k.setWidth 5] else [a, b], ds := [d] }
  | .mul _ d a b => { rs := [a, b], ds := [d] }
  | .mulW _ d a b => { rs := [a, b], ds := [d] }
  | .mulh _ d a b => { rs := [a, b], ds := [d] }
  | .mulhn _ d a b => { rs := [a, b], ds := [d] }
  | .div _ d a b => { rs := [a, b], ds := [d] }
  | .divW _ d a b => { rs := [a, b], ds := [d] }
  | .divn _ d a b => { rs := [a, b], ds := [d] }
  | .divnW _ d a b => { rs := [a, b], ds := [d] }
  | .rem _ d a b => { rs := [a, b], ds := [d] }
  | .remW _ d a b => { rs := [a, b], ds := [d] }
  | .remn _ d a b => { rs := [a, b], ds := [d] }
  | .remnW _ d a b => { rs := [a, b], ds := [d] }
  | .pfd _ _ _ _ => {}
  | .pfi _ _ _ _ => {}
  | .hint2 _ _ _ _ _ => {}
  | .hint3 _ _ _ _ _ => {}
  | .hint4 _ _ _ _ _ => {}
  | .hint5 _ _ _ _ _ => {}
  | .hint6 _ _ _ _ _ => {}
  | .hint7 _ _ _ _ _ => {}
  | .ldB _ d a _ => { rs := [a], ds := [d], cls := some 0 }
  | .ldBn _ d a _ => { rs := [a], ds := [d], cls := some 0 }
  | .ldH _ d a _ => { rs := [a], ds := [d], cls := some 0 }
  | .ldHn _ d a _ => { rs := [a], ds := [d], cls := some 0 }
  | .ldW _ d a _ => { rs := [a], ds := [d], cls := some 0 }
  | .ldWn _ d a _ => { rs := [a], ds := [d], cls := some 0 }
  | .ldD _ d a _ => { rs := [a], ds := [d], cls := some 0 }
  | .stB _ d a _ => { rs := [a, d], cls := some 1 }
  | .stH _ d a _ => { rs := [a, d], cls := some 1 }
  | .stW _ d a _ => { rs := [a, d], cls := some 1 }
  | .stD _ d a _ => { rs := [a, d], cls := some 1 }
  | .ldaD _ d a _ => { rs := [a], ds := [d], cls := some 0 }
  | .stlD _ d a _ => { rs := [a, d], cls := some 1 }
  | .getx _ d _ => { ds := [d] }
  | .setx _ d _ => { rs := [d] }
  | .vadd _ d a b t y x => { q := qTwo a x b y, push := some d.toNat, stride := strideOf t }
  | .vaddSat _ d a b t y x => { q := qTwo a x b y, push := some d.toNat, stride := strideOf t }
  | .vsub _ d a b t y x => { q := qTwo a x b y, push := some d.toNat, stride := strideOf t }
  | .vsubSat _ d a b t y x => { q := qTwo a x b y, push := some d.toNat, stride := strideOf t }
  | .vmul _ d a b t y x => { q := qTwo a x b y, push := some d.toNat, stride := strideOf t }
  | .vmulHi _ d a b t y x => { q := qTwo a x b y, push := some d.toNat, stride := strideOf t }
  | .vfma _ d a b t y x => { q := qAcc a x b y d, push := some d.toNat, stride := strideOf t }
  | .vfms _ d a b t y x => { q := qAcc a x b y d, push := some d.toNat, stride := strideOf t }
  | .vfnma _ d a b t y x => { q := qAcc a x b y d, push := some d.toNat, stride := strideOf t }
  | .vmin _ d a b t y x => { q := qTwo a x b y, push := some d.toNat, stride := strideOf t }
  | .vmax _ d a b t y x => { q := qTwo a x b y, push := some d.toNat, stride := strideOf t }
  | .vabs _ d a t x => { q := qOne a x, push := some d.toNat, stride := strideOf t }
  | .vneg _ d a t x => { q := qOne a x, push := some d.toNat, stride := strideOf t }
  | .vcmpEq _ k _ a b t y x => { pd := [vcmpFirst k, vcmpSecond k], q := qTwo a x b y, stride := strideOf t }
  | .vcmpNe _ k _ a b t y x => { pd := [vcmpFirst k, vcmpSecond k], q := qTwo a x b y, stride := strideOf t }
  | .vcmpLt _ k _ a b t y x => { pd := [vcmpFirst k, vcmpSecond k], q := qTwo a x b y, stride := strideOf t }
  | .vcmpLe _ k _ a b t y x => { pd := [vcmpFirst k, vcmpSecond k], q := qTwo a x b y, stride := strideOf t }
  | .vcmpGt _ k _ a b t y x => { pd := [vcmpFirst k, vcmpSecond k], q := qTwo a x b y, stride := strideOf t }
  | .vcmpGe _ k _ a b t y x => { pd := [vcmpFirst k, vcmpSecond k], q := qTwo a x b y, stride := strideOf t }
  | .vcmpUn _ k _ a b t y x => { pd := [vcmpFirst k, vcmpSecond k], q := qTwo a x b y, stride := strideOf t }
  | .vcmpOrd _ k _ a b t y x => { pd := [vcmpFirst k, vcmpSecond k], q := qTwo a x b y, stride := strideOf t }
  | .vsel _ d a b t y x => { q := qTwo a x b y, push := some d.toNat, stride := strideOf t, always := true }
  | .vcvt _ d a v t x _ => { q := qOne a x, push := some d.toNat, stride := max (strideOf v) (strideOf t) }
  | .vscl _ d a b t y x => { q := qTwo a x b y, push := some d.toNat, stride := strideOf t }
  | .vsclS _ d a k t x => { rs := [k.setWidth 5], q := qOne a x, push := some d.toNat, stride := strideOf t }
  | .vrcp _ d a t x => { q := qOne a x, push := some d.toNat, stride := strideOf t }
  | .vrsq _ d a t x => { q := qOne a x, push := some d.toNat, stride := strideOf t }
  | .vredAdd _ d a t x => { q := qOne a x, push := some d.toNat, stride := strideOf t }
  | .vredMin _ d a t x => { q := qOne a x, push := some d.toNat, stride := strideOf t }
  | .vredMax _ d a t x => { q := qOne a x, push := some d.toNat, stride := strideOf t }
  | .vredAnd _ d a t x => { q := qOne a x, push := some d.toNat, stride := strideOf t }
  | .vredOr _ d a t x => { q := qOne a x, push := some d.toNat, stride := strideOf t }
  | .vredXor _ d a t x => { q := qOne a x, push := some d.toNat, stride := strideOf t }
  | .vpermIdx _ d a b t y x => { q := qTwo a x b y, push := some d.toNat, stride := strideOf t }
  | .vpermRot _ d a b t y x => { q := qTwo a x b y, push := some d.toNat, stride := strideOf t }
  | .vpermRev _ d a t x => { q := qOne a x, push := some d.toNat, stride := strideOf t }
  | .vpermZip _ d a b t y x => { q := qTwo a x b y, push := some d.toNat, stride := strideOf t }
  | .vpermUnzip _ d a b t y x => { q := qTwo a x b y, push := some d.toNat, stride := strideOf t }
  | .vbcast _ d a b t y x => { q := qTwo a x b y, push := some d.toNat, stride := strideOf t }
  | .vbcastS _ d k t => { rs := [k.setWidth 5], push := some d.toNat, stride := strideOf t }
  | .vlut _ d a b t y x => { q := qTwo a x b y, push := some d.toNat, stride := strideOf t }
  | .vand _ d a b t y x => { q := qTwo a x b y, push := some d.toNat, stride := strideOf t }
  | .vor _ d a b t y x => { q := qTwo a x b y, push := some d.toNat, stride := strideOf t }
  | .vxor _ d a b t y x => { q := qTwo a x b y, push := some d.toNat, stride := strideOf t }
  | .vshl _ d a b t y x => { q := qTwo a x b y, push := some d.toNat, stride := strideOf t }
  | .vshr _ d a b t y x => { q := qTwo a x b y, push := some d.toNat, stride := strideOf t }
  | .vshrA _ d a b t y x => { q := qTwo a x b y, push := some d.toNat, stride := strideOf t }
  | .vmad _ d a b t y x => { q := qAcc a x b y d, push := some d.toNat, stride := strideOf t }
  | .vpopc _ d a t x => { q := qOne a x, push := some d.toNat, stride := strideOf t }
  | .vmovq _ d a t x => { q := qOne a x, push := some d.toNat, stride := strideOf t }
  | .qrd _ q a _ => { rs := [a], push := some q.toNat, cls := some 0, stride := 1 }
  | .qrdS _ q a b => { rs := [a, b], push := some q.toNat, cls := some 0, stride := 1 }
  | .qwr _ k q a _ => { rs := [a], q := qOne q k, cls := some 1, stride := 1 }
  | .qwrS _ k q a b => { rs := [a, b], q := qOne q k, cls := some 1, stride := 1 }
  | .tdef _ _ k _ _ _ => { rs := [k] }
  | .tfree _ _ => {}
  | .tmov _ _ k _ _ => { rs := [k, k + 1], cls := some 3 }
  | .tmovK _ _ k _ _ => { rs := [k, k + 1], cls := some 3 }
  | .tqryW0 _ _ d => { ds := [d] }
  | .tqryW1 _ _ d => { ds := [d] }
  | .cpl _ _ k _ _ => { rs := [k, k + 1], cls := some 2 }
  | .cps _ _ k _ _ => { rs := [k, k + 1], cls := some 2 }
  | .cpacc _ d a b _ => { rs := [d, a, b], cls := some 2 }
  | .cpaccr _ d a _ => { rs := [d, a], cls := some 2 }
  | .cpcasW _ d a b => { rs := [d, a, b], cls := some 2 }
  | .cpcasD _ d a b => { rs := [d, a, b], cls := some 2 }
  | .cpmeta _ _ k _ => { rs := [k], cls := some 2 }
  | .cpmc _ _ k _ => { rs := [k, k + 1], cls := some 2 }
  | .resp _ d => { ds := [d] }
  | .respPk _ d => { ds := [d] }
  | .chpush _ _ k y q => { rs := if q then [] else [k], q := if q then qOne (k.setWidth 4) y else [] }
  | .chpop _ _ k q => { ds := if q then [] else [k], push := if q then some k.toNat else none }
  | .chpopPk _ _ k q => { ds := if q then [] else [k], push := if q then some k.toNat else none }
  | .chqry _ _ k => { ds := [k] }
  | .tstep _ _ k _ _ => { rs := [k], cls := some 3 }
  | .tstepSp _ _ k _ _ => { rs := [k], cls := some 3 }
  | .tcfg _ _ _ => { cls := some 3 }
  | .tswap _ _ => { cls := some 3 }
  | .tdrain _ _ _ => { cls := some 3 }
  | .tresumeRepl _ a b => { rs := [a, b] }
  | .tresumeDisc _ a => { rs := [a] }
  | .tresumeAbort _ a => { rs := [a] }
  | .tcbk _ _ k _ => { rs := [k], cls := some 3 }
  | .scaccRow _ _ k _ => { rs := [k], cls := some 3 }
  | .scaccCol _ _ k _ => { rs := [k], cls := some 3 }
  | .scaccBlk _ _ k _ => { rs := [k], cls := some 3 }
  | .tsoundOn _ => {}
  | .tsoundOff _ => {}
  | .tsoundNow _ => { cls := some 3 }
  | .fenceAcq _ _ => {}
  | .fenceRel _ _ => {}
  | .fenceSc _ _ => {}
  | .waitc _ _ _ _ _ _ => {}
  | .gbar _ _ => {}
  | .gbarArr _ _ => {}
  | .signal _ d a => { rs := [d, a], cls := some 2 }
  | .signalW _ d a => { rs := [d, a], cls := some 2 }
  | .spawn _ d a => { rs := [d, a], cls := some 2 }
  | .modeGuarded _ => {}
  | .modeExposed _ => {}
  | .cairnSet _ d a b => { rs := [a, b], ds := [d] }
  | .cairnRoll _ a => { rs := [a], cls := some 2 }
  | .cairnDrop _ a => { rs := [a] }
  | .lfdone _ d => { rs := [d] }
  | .trap _ _ => {}
  | .eret _ _ => {}
  | .bkpt _ _ => {}
  | .haltx _ d => { rs := [d] }
  | .cpy1d _ _ _ _ => {}
  | .cpy2d _ _ _ _ _ _ => {}
  | .cpy3d _ _ _ _ _ _ => {}
  | .zero _ _ _ _ _ => {}
  | .fill _ _ _ _ _ _ _ => {}
  | .acc _ _ _ _ _ => {}
  | .accr _ _ _ _ _ => {}
  | .casW _ _ _ _ => {}
  | .casD _ _ _ _ => {}
  | .gather _ _ _ _ _ _ _ => {}
  | .scatter _ _ _ _ _ _ _ => {}
  | .mcast _ _ _ _ _ => {}
  | .wake _ _ _ => {}
  | .seq _ _ => {}
  | .link _ _ _ => {}
  | .pkgetW _ _ _ => {}
  | .pkgetD _ _ _ => {}
  | .shdr _ _ _ => {}
  | .shdw _ _ _ => {}
  | .emtask _ _ _ _ => {}
  | .emlaunch _ _ _ => {}
  | .emlaunchCfg _ _ _ _ => {}
  | .sigwaitLe _ _ _ => {}
  | .sigwaitLt _ _ _ => {}
  | .sigwaitEq _ _ _ => {}
  | .sigwaitNe _ _ _ => {}
  | .delta _ _ _ _ => {}
  | .abortPkt _ => {}
  | .abortQueue _ => {}
  | .complete _ _ _ _ => {}
  | .barrier => {}
  | .bundleIssue => {}
  | .queueWaitTimeout => {}
  | .loadDataReturn => {}
  | .storePerformed => {}
  | .qrdLanding => {}
  | .lateAccessRefusal => {}
  | .waitcComplete => {}
  | .fenceComplete => {}
  | .modeDrainDone => {}
  | .gbarPhaseComplete => {}
  | .taskEndDrained => {}
  | .copyStart => {}
  | .copyGranule => {}
  | .copyComplete => {}
  | .copyTranslationFault => {}
  | .slotTranslationFault => {}
  | .chainRegister => {}
  | .chainEntryRead => {}
  | .chainCommandComplete => {}
  | .taskCancelAtHead => {}
  | .bindFresh => {}
  | .bindRestore => {}
  | .bindPreempt => {}
  | .slotStopped => {}
  | .slotSaveDone => {}
  | .tenantScrub => {}
  | .stepArm => {}
  | .stepRowWritten => {}
  | .stepComplete => {}
  | .scaccDone => {}
  | .tcfgLoadDone => {}
  | .segmentSwitch => {}
  | .drainEmpty => {}
  | .siteFire => {}
  | .collarTrapDelivery => {}
  | .hardwareRollback => {}
  | .channelPark => {}
  | .channelWake => {}
  | .sumpRefill => {}
  | .sumpGrant => {}
  | .sumpDecline => {}
  | .sumpSpillFault => {}
  | .deadlockScan => {}
  | .landfall => {}
  | .deadlineHardStop => {}
  | .packetStart => {}
  | .packetBudget => {}
  | .sigwaitReread => {}
  | .emlaunchGroupsFree => {}
  | .cfgTrapTimeout => {}
  | .launchRetire => {}
  | .packetRetire => {}
  | .hostWrite => {}
  | .hostRead => {}
  | .hostTail => {}
  | .hostAck => {}
  | .hostFaultRetry => {}
  | .hostFaultAbort => {}
  | .hostRetransmit => {}
  | .hostLinkLoss => {}
  | .hostLinkUp => {}
  | .mgmtStatus => {}
  | .mgmtQdesc => {}
  | .mgmtQprog => {}
  | .mgmtQtear => {}
  | .mgmtChopen => {}
  | .mgmtChclose => {}
  | .mgmtNodemap => {}
  | .mgmtTxinv => {}
  | .mgmtPtpdom => {}
  | .mgmtCounters => {}
  | .mgmtLinktrain => {}
  | .mgmtFence => {}
  | .mgmtAttest => {}
  | .mgmtBaseimg => {}
  | .mgmtPower => {}
  | .mgmtSensors => {}
  | .txinvPages => {}
  | .txinvChart => {}
  | .txinvAsid => {}
  | .txinvAll => {}
  | .txinvDone => {}
  | .registerWrite => {}
  | .ptpMessage => {}
  | .ptpHoldover => {}
  | .remotePacketArrival => {}
  | .remoteAckArrival => {}
  | .remoteResendTimeout => {}
  | .remoteRefusal => {}
  | .destinationUnreachable => {}
  | .flitCrcRetry => {}
  | .linkLossOfLock => {}
  | .linkFlitErrorRate => {}
  | .linkRemoved => {}
  | .correctedError => {}
  | .uncorrectableError => {}
  | .backgroundScrub => {}
  | .channelRemap => {}
  | .tileRetire => {}
  | .throttleStep => {}
  | .carrierThrottle => {}
  | .thermalTrip => {}
  | .coldReset => {}
  | .illegalWord => {}
  | .resultLands => {}
  | .stepPreloadDone => {}
  | .stepRowEnters => {}
  | .spareTakeoverDone => {}
  | .linkTrained => {}
  | .railOutOfRange => {}

/-- R256: the frozen latency in slot cycles; 0 for a word without one. -/
def latencyOf : Instr → Nat
  | .nop _ => 0
  | .endStream _ => 0
  | .br _ _ => 0
  | .call _ _ => 0
  | .ret _ => 0
  | .jmpr _ _ _ => 0
  | .loop _ _ _ _ => 0
  | .loopx _ _ _ _ => 0
  | .add _ _ _ _ => 1
  | .addW _ _ _ _ => 1
  | .sub _ _ _ _ => 1
  | .subW _ _ _ _ => 1
  | .addi _ _ _ _ => 1
  | .lui _ _ _ => 1
  | .li32 _ _ _ => 1
  | .and _ _ _ _ => 1
  | .or _ _ _ _ => 1
  | .xor _ _ _ _ => 1
  | .andi _ _ _ _ => 1
  | .ori _ _ _ _ => 1
  | .xori _ _ _ _ => 1
  | .shl _ _ _ _ => 1
  | .shlW _ _ _ _ => 1
  | .shr _ _ _ _ => 1
  | .shrW _ _ _ _ => 1
  | .sra _ _ _ _ => 1
  | .sraW _ _ _ _ => 1
  | .shli _ _ _ _ => 1
  | .shri _ _ _ _ => 1
  | .srai _ _ _ _ => 1
  | .min _ _ _ _ => 1
  | .minW _ _ _ _ => 1
  | .max _ _ _ _ => 1
  | .maxW _ _ _ _ => 1
  | .minn _ _ _ _ => 1
  | .minnW _ _ _ _ => 1
  | .maxn _ _ _ _ => 1
  | .maxnW _ _ _ _ => 1
  | .sel _ _ _ _ _ => 1
  | .mov _ _ _ => 1
  | .addsh _ _ _ _ _ => 1
  | .agen2 _ _ _ _ => 1
  | .clz _ _ _ => 1
  | .clzW _ _ _ => 1
  | .popc _ _ _ => 1
  | .popcW _ _ _ => 1
  | .cmpEq _ _ _ _ _ _ => 1
  | .cmpNe _ _ _ _ _ _ => 1
  | .cmpLt _ _ _ _ _ _ => 1
  | .cmpGe _ _ _ _ _ _ => 1
  | .cmpLtn _ _ _ _ _ _ => 1
  | .cmpGen _ _ _ _ _ _ => 1
  | .cmpTst _ _ _ _ _ _ => 1
  | .cmpNtst _ _ _ _ _ _ => 1
  | .cmpiEq _ _ _ _ _ _ => 1
  | .cmpiNe _ _ _ _ _ _ => 1
  | .cmpiLt _ _ _ _ _ _ => 1
  | .cmpiGe _ _ _ _ _ _ => 1
  | .cmpiLtn _ _ _ _ _ _ => 1
  | .cmpiGen _ _ _ _ _ _ => 1
  | .cmpiTst _ _ _ _ _ _ => 1
  | .pand _ _ _ _ => 1
  | .por _ _ _ _ => 1
  | .pxor _ _ _ _ => 1
  | .pnot _ _ _ => 1
  | .pmov _ _ _ => 1
  | .pandn _ _ _ _ => 1
  | .bfx _ _ _ _ => 1
  | .bfxn _ _ _ _ => 1
  | .bfi _ _ _ _ => 1
  | .fshr _ _ _ _ _ _ => 3
  | .mul _ _ _ _ => 3
  | .mulW _ _ _ _ => 3
  | .mulh _ _ _ _ => 4
  | .mulhn _ _ _ _ => 4
  | .div _ _ _ _ => 34
  | .divW _ _ _ _ => 18
  | .divn _ _ _ _ => 34
  | .divnW _ _ _ _ => 18
  | .rem _ _ _ _ => 34
  | .remW _ _ _ _ => 18
  | .remn _ _ _ _ => 34
  | .remnW _ _ _ _ => 18
  | .pfd _ _ _ _ => 0
  | .pfi _ _ _ _ => 0
  | .hint2 _ _ _ _ _ => 0
  | .hint3 _ _ _ _ _ => 0
  | .hint4 _ _ _ _ _ => 0
  | .hint5 _ _ _ _ _ => 0
  | .hint6 _ _ _ _ _ => 0
  | .hint7 _ _ _ _ _ => 0
  | .ldB _ _ _ _ => 6
  | .ldBn _ _ _ _ => 6
  | .ldH _ _ _ _ => 6
  | .ldHn _ _ _ _ => 6
  | .ldW _ _ _ _ => 6
  | .ldWn _ _ _ _ => 6
  | .ldD _ _ _ _ => 6
  | .stB _ _ _ _ => 0
  | .stH _ _ _ _ => 0
  | .stW _ _ _ _ => 0
  | .stD _ _ _ _ => 0
  | .ldaD _ _ _ _ => 6
  | .stlD _ _ _ _ => 0
  | .getx _ _ _ => 2
  | .setx _ _ _ => 1
  | .vadd _ _ _ _ t _ _ => if vecF t then 4 else 2
  | .vaddSat _ _ _ _ _ _ _ => 2
  | .vsub _ _ _ _ t _ _ => if vecF t then 4 else 2
  | .vsubSat _ _ _ _ _ _ _ => 2
  | .vmul _ _ _ _ _ _ _ => 4
  | .vmulHi _ _ _ _ _ _ _ => 4
  | .vfma _ _ _ _ _ _ _ => 5
  | .vfms _ _ _ _ _ _ _ => 5
  | .vfnma _ _ _ _ _ _ _ => 5
  | .vmin _ _ _ _ t _ _ => if vecF t then 4 else 2
  | .vmax _ _ _ _ t _ _ => if vecF t then 4 else 2
  | .vabs _ _ _ t _ => if vecF t then 4 else 2
  | .vneg _ _ _ t _ => if vecF t then 4 else 2
  | .vcmpEq _ _ _ _ _ _ _ _ => 2
  | .vcmpNe _ _ _ _ _ _ _ _ => 2
  | .vcmpLt _ _ _ _ _ _ _ _ => 2
  | .vcmpLe _ _ _ _ _ _ _ _ => 2
  | .vcmpGt _ _ _ _ _ _ _ _ => 2
  | .vcmpGe _ _ _ _ _ _ _ _ => 2
  | .vcmpUn _ _ _ _ _ _ _ _ => 2
  | .vcmpOrd _ _ _ _ _ _ _ _ => 2
  | .vsel _ _ _ _ _ _ _ => 2
  | .vcvt _ _ _ _ _ _ _ => 4
  | .vscl _ _ _ _ _ _ _ => 4
  | .vsclS _ _ _ _ _ _ => 4
  | .vrcp _ _ _ _ _ => 12
  | .vrsq _ _ _ _ _ => 12
  | .vredAdd _ _ _ _ _ => 9
  | .vredMin _ _ _ _ _ => 9
  | .vredMax _ _ _ _ _ => 9
  | .vredAnd _ _ _ _ _ => 9
  | .vredOr _ _ _ _ _ => 9
  | .vredXor _ _ _ _ _ => 9
  | .vpermIdx _ _ _ _ _ _ _ => 3
  | .vpermRot _ _ _ _ _ _ _ => 3
  | .vpermRev _ _ _ _ _ => 3
  | .vpermZip _ _ _ _ _ _ _ => 3
  | .vpermUnzip _ _ _ _ _ _ _ => 3
  | .vbcast _ _ _ _ _ _ _ => 3
  | .vbcastS _ _ _ _ => 3
  | .vlut _ _ _ _ _ _ _ => 3
  | .vand _ _ _ _ _ _ _ => 2
  | .vor _ _ _ _ _ _ _ => 2
  | .vxor _ _ _ _ _ _ _ => 2
  | .vshl _ _ _ _ _ _ _ => 2
  | .vshr _ _ _ _ _ _ _ => 2
  | .vshrA _ _ _ _ _ _ _ => 2
  | .vmad _ _ _ _ _ _ _ => 4
  | .vpopc _ _ _ _ _ => 2
  | .vmovq _ _ _ _ _ => 2
  | .qrd _ _ _ _ => 8
  | .qrdS _ _ _ _ => 8
  | .qwr _ _ _ _ _ => 0
  | .qwrS _ _ _ _ _ => 0
  | .tdef _ _ _ _ _ _ => 0
  | .tfree _ _ => 0
  | .tmov _ _ _ _ _ => 0
  | .tmovK _ _ _ _ _ => 0
  | .tqryW0 _ _ _ => 2
  | .tqryW1 _ _ _ => 2
  | .cpl _ _ _ _ _ => 0
  | .cps _ _ _ _ _ => 0
  | .cpacc _ _ _ _ _ => 0
  | .cpaccr _ _ _ _ => 0
  | .cpcasW _ _ _ _ => 0
  | .cpcasD _ _ _ _ => 0
  | .cpmeta _ _ _ _ => 0
  | .cpmc _ _ _ _ => 0
  | .resp _ _ => 2
  | .respPk _ _ => 2
  | .chpush _ _ _ _ _ => 0
  | .chpop _ _ _ q => if q then 8 else 0
  | .chpopPk _ _ _ q => if q then 8 else 0
  | .chqry _ _ _ => 0
  | .tstep _ _ _ _ _ => 0
  | .tstepSp _ _ _ _ _ => 0
  | .tcfg _ _ _ => 0
  | .tswap _ _ => 0
  | .tdrain _ _ _ => 0
  | .tresumeRepl _ _ _ => 0
  | .tresumeDisc _ _ => 0
  | .tresumeAbort _ _ => 0
  | .tcbk _ _ _ _ => 0
  | .scaccRow _ _ _ _ => 0
  | .scaccCol _ _ _ _ => 0
  | .scaccBlk _ _ _ _ => 0
  | .tsoundOn _ => 0
  | .tsoundOff _ => 0
  | .tsoundNow _ => 0
  | .fenceAcq _ _ => 0
  | .fenceRel _ _ => 0
  | .fenceSc _ _ => 0
  | .waitc _ _ _ _ _ _ => 0
  | .gbar _ _ => 0
  | .gbarArr _ _ => 0
  | .signal _ _ _ => 0
  | .signalW _ _ _ => 0
  | .spawn _ _ _ => 0
  | .modeGuarded _ => 0
  | .modeExposed _ => 0
  | .cairnSet _ _ _ _ => 0
  | .cairnRoll _ _ => 0
  | .cairnDrop _ _ => 0
  | .lfdone _ _ => 0
  | .trap _ _ => 0
  | .eret _ _ => 0
  | .bkpt _ _ => 0
  | .haltx _ _ => 0
  | .cpy1d _ _ _ _ => 0
  | .cpy2d _ _ _ _ _ _ => 0
  | .cpy3d _ _ _ _ _ _ => 0
  | .zero _ _ _ _ _ => 0
  | .fill _ _ _ _ _ _ _ => 0
  | .acc _ _ _ _ _ => 0
  | .accr _ _ _ _ _ => 0
  | .casW _ _ _ _ => 0
  | .casD _ _ _ _ => 0
  | .gather _ _ _ _ _ _ _ => 0
  | .scatter _ _ _ _ _ _ _ => 0
  | .mcast _ _ _ _ _ => 0
  | .wake _ _ _ => 0
  | .seq _ _ => 0
  | .link _ _ _ => 0
  | .pkgetW _ _ _ => 0
  | .pkgetD _ _ _ => 0
  | .shdr _ _ _ => 0
  | .shdw _ _ _ => 0
  | .emtask _ _ _ _ => 0
  | .emlaunch _ _ _ => 0
  | .emlaunchCfg _ _ _ _ => 0
  | .sigwaitLe _ _ _ => 0
  | .sigwaitLt _ _ _ => 0
  | .sigwaitEq _ _ _ => 0
  | .sigwaitNe _ _ _ => 0
  | .delta _ _ _ _ => 0
  | .abortPkt _ => 0
  | .abortQueue _ => 0
  | .complete _ _ _ _ => 0
  | .barrier => 0
  | .bundleIssue => 0
  | .queueWaitTimeout => 0
  | .loadDataReturn => 0
  | .storePerformed => 0
  | .qrdLanding => 0
  | .lateAccessRefusal => 0
  | .waitcComplete => 0
  | .fenceComplete => 0
  | .modeDrainDone => 0
  | .gbarPhaseComplete => 0
  | .taskEndDrained => 0
  | .copyStart => 0
  | .copyGranule => 0
  | .copyComplete => 0
  | .copyTranslationFault => 0
  | .slotTranslationFault => 0
  | .chainRegister => 0
  | .chainEntryRead => 0
  | .chainCommandComplete => 0
  | .taskCancelAtHead => 0
  | .bindFresh => 0
  | .bindRestore => 0
  | .bindPreempt => 0
  | .slotStopped => 0
  | .slotSaveDone => 0
  | .tenantScrub => 0
  | .stepArm => 0
  | .stepRowWritten => 0
  | .stepComplete => 0
  | .scaccDone => 0
  | .tcfgLoadDone => 0
  | .segmentSwitch => 0
  | .drainEmpty => 0
  | .siteFire => 0
  | .collarTrapDelivery => 0
  | .hardwareRollback => 0
  | .channelPark => 0
  | .channelWake => 0
  | .sumpRefill => 0
  | .sumpGrant => 0
  | .sumpDecline => 0
  | .sumpSpillFault => 0
  | .deadlockScan => 0
  | .landfall => 0
  | .deadlineHardStop => 0
  | .packetStart => 0
  | .packetBudget => 0
  | .sigwaitReread => 0
  | .emlaunchGroupsFree => 0
  | .cfgTrapTimeout => 0
  | .launchRetire => 0
  | .packetRetire => 0
  | .hostWrite => 0
  | .hostRead => 0
  | .hostTail => 0
  | .hostAck => 0
  | .hostFaultRetry => 0
  | .hostFaultAbort => 0
  | .hostRetransmit => 0
  | .hostLinkLoss => 0
  | .hostLinkUp => 0
  | .mgmtStatus => 0
  | .mgmtQdesc => 0
  | .mgmtQprog => 0
  | .mgmtQtear => 0
  | .mgmtChopen => 0
  | .mgmtChclose => 0
  | .mgmtNodemap => 0
  | .mgmtTxinv => 0
  | .mgmtPtpdom => 0
  | .mgmtCounters => 0
  | .mgmtLinktrain => 0
  | .mgmtFence => 0
  | .mgmtAttest => 0
  | .mgmtBaseimg => 0
  | .mgmtPower => 0
  | .mgmtSensors => 0
  | .txinvPages => 0
  | .txinvChart => 0
  | .txinvAsid => 0
  | .txinvAll => 0
  | .txinvDone => 0
  | .registerWrite => 0
  | .ptpMessage => 0
  | .ptpHoldover => 0
  | .remotePacketArrival => 0
  | .remoteAckArrival => 0
  | .remoteResendTimeout => 0
  | .remoteRefusal => 0
  | .destinationUnreachable => 0
  | .flitCrcRetry => 0
  | .linkLossOfLock => 0
  | .linkFlitErrorRate => 0
  | .linkRemoved => 0
  | .correctedError => 0
  | .uncorrectableError => 0
  | .backgroundScrub => 0
  | .channelRemap => 0
  | .tileRetire => 0
  | .throttleStep => 0
  | .carrierThrottle => 0
  | .thermalTrip => 0
  | .coldReset => 0
  | .illegalWord => 0
  | .resultLands => 0
  | .stepPreloadDone => 0
  | .stepRowEnters => 0
  | .spareTakeoverDone => 0
  | .linkTrained => 0
  | .railOutOfRange => 0

end Sys2Proof.Machine
end

