-- ==== Sys2Proof/Machine/Fetch.lean ====
section
/-! DEFINITION. Sys2Proof/Machine/Fetch.lean: where instruction words lie (R25, R40) and how a stream reads its next word. -/

namespace Sys2Proof.Machine

/-- R40: the first global window address of die `d`'s slot. -/
def dieBase (d : Nat) : Nat := 0xFFFE0000000000 + d * 0x40000000
/-- R40: the tile slot of package tile `t`. -/
def tileBase (t : Nat) : Nat := dieBase (t / 8) + t % 8 * 0x1000000

/-- R25, R40: the address of word `pc` of a core's instruction memory. -/
def imemAddr (k pc : Nat) : Nat := tileBase (tileOf k) + 0x800000 + coreOf k * 0x20000 + wrapPc pc * 4

/-- R4, R25: the instruction word at a PC of the core that slot `k` belongs to. -/
def State.imemWord (s : State) (k pc : Nat) : Nat := bytesWord (Memory.readBytes s.mem (imemAddr k pc) 4)

/-- R57: the word at the stream's PC and the word after it. -/
def State.streamWords (s : State) (k x : Nat) : Nat × Nat :=
  let pc := ((s.slot k).stream x).ctl.pc
  (s.imemWord k pc, s.imemWord k (pc + 1))

/-- R57: the first word of a pair may not stand at the last PC of an active loop. -/
def pairAtLoopEnd (c : Ctl) (two : Bool) : Bool := two && (c.loopEnding c.pc).isSome

/-- What a stream reads from a pair of words: none when the word is illegal for it (R70-R73, R57, R143, R178). -/
def State.streamDecode (s : State) (k x : Nat) (ws : Nat × Nat) : Option Instr :=
  if pairAtLoopEnd ((s.slot k).stream x).ctl (twoWordCore ws.1) then none
  else (decode .core ws.1 ws.2).filter fun i => i.streamOk x

/-- R428: the PC of the first of the words that a fetch at `pc` reads whose unit carries the mark of an uncorrectable error. -/
def State.fetchMark (s : State) (k pc : Nat) : Option Nat :=
  let bad := fun p => s.marks.contains (imemAddr k p / 8 * 8)
  if bad pc then some pc
  else if twoWordCore (s.imemWord k pc) && bad (pc + 1) then some (wrapPc (pc + 1)) else none

/-- The instruction a stream would issue next: none for an illegal word (R73) and for a word that cannot be read (R428). -/
def State.streamNext (s : State) (k x : Nat) : Option Instr :=
  if (s.fetchMark k ((s.slot k).stream x).ctl.pc).isSome then none else s.streamDecode k x (s.streamWords k x)

end Sys2Proof.Machine
end

