-- ==== Sys2Proof/Machine/Operands.lean ====
section
/-! DEFINITION. Sys2Proof/Machine/Operands.lean: the operand forms and integer arithmetic of the scalar words (R82, R99-R108),
each as a function of register values. -/

namespace Sys2Proof.Machine

/-- R82: `lo`. -/
def lo (v : Word) : BitVec 32 := v.setWidth 32
/-- R82: `wr`. -/
def wr (v : BitVec 32) : Word := v.signExtend 64
/-- R64: a signed 9-bit immediate. -/
def imm9 (i : BitVec 9) : Word := i.signExtend 64
/-- R102: a signed 6-bit immediate. -/
def imm6 (i : BitVec 6) : Word := i.signExtend 64

/-- R99: `b[5:0]`, `b[4:0]`. -/
def sh6 (b : Word) : Nat := b.toNat % 64
def sh5 (b : Word) : Nat := b.toNat % 32

/-- R99: signed and natural minimum and maximum; `a` when the two are equal. -/
def minS {w : Nat} (a b : BitVec w) : BitVec w := if b.slt a then b else a
def maxS {w : Nat} (a b : BitVec w) : BitVec w := if a.slt b then b else a
def minU {w : Nat} (a b : BitVec w) : BitVec w := if b.ult a then b else a
def maxU {w : Nat} (a b : BitVec w) : BitVec w := if a.ult b then b else a

/-- R99: leading zeros, from the top bit down. -/
def clzFrom {w : Nat} (a : BitVec w) : Nat → Nat
  | 0 => 0
  | n + 1 => if a.getLsbD n then 0 else 1 + clzFrom a n
def clz {w : Nat} (a : BitVec w) : Nat := clzFrom a w

/-- R99: one bits among the low `n`. -/
def popcTo {w : Nat} (a : BitVec w) : Nat → Nat
  | 0 => 0
  | n + 1 => (a.getLsbD n).toNat + popcTo a n
def popc {w : Nat} (a : BitVec w) : Nat := popcTo a w

/-- R100: LUI keeps the low half of d. -/
def luiVal (old : Word) (i : BitVec 14) : Word := (i.signExtend 32) ++ (lo old)

/-- R105: position and width of a bit field. -/
def fieldPos (b : Word) : Nat := b.toNat % 64
def fieldWidth (b : Word) : Nat := if b.toNat / 256 % 64 = 0 then 64 else b.toNat / 256 % 64
/-- R105: a field of `w` bits from `pos`, bits above 63 reading as zero. -/
def fieldOf (a : Word) (pos w : Nat) : Nat := a.toNat / 2 ^ pos % 2 ^ w
/-- R105: the field as a number, its bit `w - 1` the sign. -/
def signedField (f w : Nat) : Int := if f < 2 ^ (w - 1) then f else (f : Int) - 2 ^ w
def bfx (a b : Word) : Word := BitVec.ofInt 64 (signedField (fieldOf a (fieldPos b) (fieldWidth b)) (fieldWidth b))
def bfxn (a b : Word) : Word := BitVec.ofNat 64 (fieldOf a (fieldPos b) (fieldWidth b))
/-- R105: the bits of the field, cut off above bit 63. -/
def fieldMask (pos w : Nat) : Word := BitVec.ofNat 64 ((2 ^ w - 1) * 2 ^ pos)
def bfi (old a b : Word) : Word :=
  let m := fieldMask (fieldPos b) (fieldWidth b)
  (old &&& ~~~ m) ||| ((a <<< fieldPos b) &&& m)

/-- R106: the low 64 bits of `hi : lw` shifted right. -/
def funnel (hi lw : Word) (k : Nat) : Word := BitVec.ofNat 64 ((hi.toNat * 2 ^ 64 + lw.toNat) / 2 ^ k)

/-- R107: the high halves of a product. -/
def mulHigh (a b : Word) : Word := BitVec.ofInt 64 (a.toInt * b.toInt / 2 ^ 64)
def mulHighN (a b : Word) : Word := BitVec.ofNat 64 (a.toNat * b.toNat / 2 ^ 64)
/-- R107: signed quotient truncated toward zero, and remainder with the dividend's sign; the most negative value divided by
−1 gives itself and 0. -/
def divS {w : Nat} (a b : BitVec w) : BitVec w := BitVec.ofInt w (Int.tdiv a.toInt b.toInt)
def remS {w : Nat} (a b : BitVec w) : BitVec w := BitVec.ofInt w (Int.tmod a.toInt b.toInt)

/-- R83: bits 55:0 of a scalar as an address. -/
def addr56 (v : Word) : Nat := v.toNat % 2 ^ 56

/-- R83, R118: the address as a trap reports it, bits 63:56 zero. -/
def addrWord (v : Word) : Word := BitVec.ofNat 64 (addr56 v)

end Sys2Proof.Machine
end

