-- ==== Sys2Proof/Machine/Flags.lean ====
section
/-! DEFINITION. Sys2Proof/Machine/Flags.lean: the conditions of the compare words and what their modes write (R62, R102,
R103), and the fields of FPCSR (R34). -/

namespace Sys2Proof.Machine

/-- R102: the conditions. -/
inductive Cc where
  | eq | ne | lt | ge | ltn | gen | tst | ntst
  deriving DecidableEq, Repr

def Cc.holds : Cc → Word → Word → Bool
  | .eq, a, y => a == y
  | .ne, a, y => a != y
  | .lt, a, y => a.slt y
  | .ge, a, y => !a.slt y
  | .ltn, a, y => a.ult y
  | .gen, a, y => !a.ult y
  | .tst, a, y => (a &&& y) != 0
  | .ntst, a, y => (a &&& y) == 0

/-- R62, R103: what pe receives, lane by lane. -/
def modeLanes (m : BitVec 2) (pe c : Lanes) : Lanes :=
  if m = 0 then ~~~ c else if m = 1 then pe &&& c else if m = 2 then pe ||| c else pe &&& ~~~ c

/-- R62, R103: pd first, then pe, which stands when the two are one predicate. -/
def comparePreds (v : View) (m : BitVec 2) (pd pe : BitVec 3) (c mask : Lanes) : List PendEff :=
  [.pred pd c mask, .pred pe (modeLanes m (v.pred pe) c) mask]

/-- R34: RMODE. -/
def rmode (fpcsr : Word) : BitVec 2 := fpcsr.extractLsb' 5 2
/-- R34: TE, bit 4 for IV down to bit 0 for IX. -/
def trapEnables (fpcsr : Word) : BitVec 5 := fpcsr.extractLsb' 10 5
/-- R34: the reserved bits of FPCSR, which SETX must find zero (R7, R119). -/
def fpcsrReserved (v : Word) : Bool := v.toNat / 2 ^ 15 != 0 || v.toNat / 2 ^ 7 % 8 != 0

def flagIV : BitVec 5 := 16
def flagDZ : BitVec 5 := 8
def flagOF : BitVec 5 := 4
def flagUF : BitVec 5 := 2
def flagIX : BitVec 5 := 1

end Sys2Proof.Machine
end

