-- ==== Sys2Proof/Machine/Float.lean ====
section
/-! DEFINITION. Sys2Proof/Machine/Float.lean: the wide float formats, the narrow formats, and correctly rounded arithmetic
over exact values (R127, R130-R134, R138, R268-R277). A code is a natural number below 2^w. -/

namespace Sys2Proof.Machine

/-! ## Exact values -/

/-- What a code stands for: a NaN, an infinity, or `(-1)^s * m * 2^e` with zero as `m = 0`. -/
inductive FVal where
  | nan
  | inf (s : Bool)
  | num (s : Bool) (m : Nat) (e : Int)
  deriving DecidableEq, Repr

def FVal.isNan : FVal → Bool
  | .nan => true
  | _ => false

/-- A wide format: exponent and fraction bits (R268). -/
structure WFmt where
  eb : Nat
  mb : Nat
  deriving DecidableEq, Repr

def fp32 : WFmt := { eb := 8, mb := 23 }
def bf16 : WFmt := { eb := 8, mb := 7 }
def fp16 : WFmt := { eb := 5, mb := 10 }

def WFmt.bias (f : WFmt) : Nat := 2 ^ (f.eb - 1) - 1
def WFmt.width (f : WFmt) : Nat := f.eb + f.mb + 1
/-- The exponent of the smallest normal, and of the lowest fraction bit below it. -/
def WFmt.emin (f : WFmt) : Int := 1 - (f.bias : Int)
def WFmt.signBit (f : WFmt) (s : Bool) : Nat := s.toNat * 2 ^ (f.eb + f.mb)
def WFmt.infCode (f : WFmt) (s : Bool) : Nat := f.signBit s + (2 ^ f.eb - 1) * 2 ^ f.mb
def WFmt.maxCode (f : WFmt) (s : Bool) : Nat := f.infCode s - 1
/-- R268: canonical NaNs. -/
def WFmt.nanCode (f : WFmt) : Nat := (2 ^ f.eb - 1) * 2 ^ f.mb + 2 ^ (f.mb - 1)
def WFmt.zeroCode (f : WFmt) (s : Bool) : Nat := f.signBit s

/-- R268: read a code. -/
def WFmt.read (f : WFmt) (c : Nat) : FVal :=
  let s := c / 2 ^ (f.eb + f.mb) % 2 == 1
  let ex := c / 2 ^ f.mb % 2 ^ f.eb
  let fr := c % 2 ^ f.mb
  if ex = 2 ^ f.eb - 1 then (if fr = 0 then .inf s else .nan)
  else if ex = 0 then .num s fr (f.emin - f.mb)
  else .num s (fr + 2 ^ f.mb) (f.emin - f.mb + (ex - 1))

/-! ## Rounding -/

/-- Bits of a number. -/
def bitLen (m : Nat) : Nat := if m = 0 then 0 else Nat.log2 m + 1

/-- R34, R270: 0 RNE, 1 RZ, 2 RU, 3 RD. -/
abbrev Rnd := BitVec 2

/-- Does rounding step away from zero, for a remainder `rem` of `2^sh` after an integer `n`? -/
def stepUp (rm : Rnd) (s : Bool) (n rem sh : Nat) : Bool :=
  if rem = 0 then false
  else if rm = 0 then decide (2 ^ sh < 2 * rem) || (2 * rem == 2 ^ sh && n % 2 == 1)
  else if rm = 1 then false
  else if rm = 2 then !s
  else s

/-- The integer nearest `m * 2^e / 2^q` under the rounding direction, and whether it is inexact. -/
def gridRound (rm : Rnd) (s : Bool) (m : Nat) (e q : Int) : Nat × Bool :=
  if q ≤ e then (m * 2 ^ (e - q).toNat, false)
  else
    let sh := (q - e).toNat
    let n := m / 2 ^ sh
    let rem := m % 2 ^ sh
    (if stepUp rm s n rem sh then n + 1 else n, rem != 0)

/-- floor(log2) of a nonzero magnitude. -/
def log2Of (m : Nat) (e : Int) : Int := e + ((bitLen m : Int) - 1)

def flagsOf (iv dz ov un ix : Bool) : BitVec 5 :=
  (if iv then flagIV else 0) ||| (if dz then flagDZ else 0) ||| (if ov then flagOF else 0) |||
    (if un then flagUF else 0) ||| (if ix then flagIX else 0)

/-- R127: round a nonzero exact value into a wide format, tininess detected after rounding. -/
def WFmt.round (f : WFmt) (rm : Rnd) (s : Bool) (m : Nat) (e : Int) : Nat × BitVec 5 :=
  if m = 0 then (f.zeroCode s, 0)
  else
    let x := log2Of m e
    let q := max x f.emin - f.mb
    let (n, inexact) := gridRound rm s m e q
    let code := (q - (f.emin - f.mb)).toNat * 2 ^ f.mb + n
    if f.infCode false ≤ code then
      (if rm = 0 || (rm == 2 && !s) || (rm == 3 && s) then f.infCode s else f.maxCode s, flagOF ||| flagIX)
    else
      let free := gridRound rm s m e (x - f.mb)
      let tiny := decide (x < f.emin) && decide (log2Of free.1 (x - f.mb) < f.emin)
      (f.signBit s + code, flagsOf false false false (tiny && inexact) inexact)

/-- A signed exact value `v * 2^e`; an exact zero has the sign given. -/
def WFmt.roundInt (f : WFmt) (rm : Rnd) (v : Int) (e : Int) (zeroSign : Bool) : Nat × BitVec 5 :=
  if v = 0 then (f.zeroCode zeroSign, 0) else f.round rm (decide (v < 0)) v.natAbs e

def signed (s : Bool) (m : Nat) : Int := if s then -(m : Int) else m

/-! ## Arithmetic (R130-R134) -/

/-- The sum of two exact values as a multiple of a common power of two. -/
def exactSum (s1 : Bool) (m1 : Nat) (e1 : Int) (s2 : Bool) (m2 : Nat) (e2 : Int) : Int × Int :=
  let e := min e1 e2
  (signed s1 (m1 * 2 ^ (e1 - e).toNat) + signed s2 (m2 * 2 ^ (e2 - e).toNat), e)

/-- The sign of an exact zero sum: that of equal-signed zeros, else + or, under RD, − (R130). -/
def zeroSumSign (rm : Rnd) (s1 s2 : Bool) : Bool := if s1 = s2 then s1 else rm == 3

/-- R130: VADD on values. -/
def WFmt.addVal (f : WFmt) (rm : Rnd) (x y : FVal) : Nat × BitVec 5 :=
  match x, y with
  | .nan, _ => (f.nanCode, 0)
  | _, .nan => (f.nanCode, 0)
  | .inf a, .inf b => if a = b then (f.infCode a, 0) else (f.nanCode, flagIV)
  | .inf a, _ => (f.infCode a, 0)
  | _, .inf b => (f.infCode b, 0)
  | .num s1 m1 e1, .num s2 m2 e2 =>
    let r := exactSum s1 m1 e1 s2 m2 e2
    f.roundInt rm r.1 r.2 (zeroSumSign rm s1 s2)

def FVal.neg : FVal → FVal
  | .nan => .nan
  | .inf s => .inf !s
  | .num s m e => .num (!s) m e

/-- The exact product; `none` for 0 × ∞. -/
def mulVal (x y : FVal) : Option FVal :=
  match x, y with
  | .inf a, .inf b => some (.inf (a != b))
  | .inf a, .num b m _ => if m = 0 then none else some (.inf (a != b))
  | .num a m _, .inf b => if m = 0 then none else some (.inf (a != b))
  | .num a m e, .num b n g => some (.num (a != b) (m * n) (e + g))
  | _, _ => some .nan

/-- R130: VMUL. -/
def WFmt.mul (f : WFmt) (rm : Rnd) (x y : FVal) : Nat × BitVec 5 :=
  match mulVal x y with
  | none => (f.nanCode, flagIV)
  | some .nan => (f.nanCode, 0)
  | some (.inf s) => (f.infCode s, 0)
  | some (.num s m e) => f.round rm s m e

/-- R131: a × b + c with one rounding; 0 × ∞ raises IV even when c is a NaN. -/
def WFmt.fma (f : WFmt) (rm : Rnd) (a b c : FVal) : Nat × BitVec 5 :=
  match mulVal a b with
  | none => (f.nanCode, flagIV)
  | some p => f.addVal rm p c

/-- Order on values; NaN is handled before. −∞ < numbers < +∞, and −0 = +0. -/
def FVal.lt (x y : FVal) : Bool :=
  match x, y with
  | .inf a, .inf b => a && !b
  | .inf a, _ => a
  | _, .inf b => !b
  | .num s1 m1 e1, .num s2 m2 e2 => decide ((exactSum s1 m1 e1 (!s2) m2 e2).1 < 0)
  | _, _ => false
def FVal.eqv (x y : FVal) : Bool :=
  match x, y with
  | .inf a, .inf b => a == b
  | .num s1 m1 e1, .num s2 m2 e2 => (exactSum s1 m1 e1 (!s2) m2 e2).1 == 0
  | _, _ => false
/-- −0 orders below +0 (R130). -/
def FVal.ltZ (x y : FVal) : Bool :=
  x.lt y || (x.eqv y && match x, y with
    | .num a _ _, .num b _ _ => a && !b
    | _, _ => false)

/-- R130: minimumNumber and maximumNumber on codes. -/
def WFmt.minNum (f : WFmt) (x y : Nat) : Nat :=
  match f.read x, f.read y with
  | .nan, .nan => f.nanCode
  | .nan, _ => y
  | _, .nan => x
  | a, b => if b.ltZ a then y else x
def WFmt.maxNum (f : WFmt) (x y : Nat) : Nat :=
  match f.read x, f.read y with
  | .nan, .nan => f.nanCode
  | .nan, _ => y
  | _, .nan => x
  | a, b => if a.ltZ b then y else x

/-- R133: round(x × 2^k); infinities and zeros pass through. -/
def WFmt.scale (f : WFmt) (rm : Rnd) (c : Nat) (k : Int) : Nat × BitVec 5 :=
  match f.read c with
  | .nan => (f.nanCode, 0)
  | .inf s => (f.infCode s, 0)
  | .num s m e =>
    if m = 0 then (c, 0)
    else
      -- beyond 2000 binades the result overflows or underflows as it does there
      let k' := if k < -2000 then -2000 else if 2000 < k then 2000 else k
      f.round rm s m (e + k')

/-- An exact quotient `2^(p+1) * n / d` cut below its last bit, with one more bit set when the cut is inexact. -/
def cutDiv (n d p : Nat) : Nat :=
  let q := n * 2 ^ p / d
  if n * 2 ^ p % d = 0 then 2 * q else 2 * q + 1

/-- R134: 1/x. -/
def WFmt.recip (f : WFmt) (rm : Rnd) (c : Nat) : Nat × BitVec 5 :=
  match f.read c with
  | .nan => (f.nanCode, 0)
  | .inf s => (f.zeroCode s, 0)
  | .num s m e =>
    if m = 0 then (f.infCode s, flagDZ)
    else
      let p := bitLen m + f.mb + 4
      f.round rm s (cutDiv 1 m p) (-(p : Int) - 1 - e)

/-- The integer square root, one bit at a time from bit `n - 1` down. -/
def sqrtBits (v : Nat) : Nat → Nat → Nat
  | 0, r => r
  | n + 1, r => let t := r + 2 ^ n; sqrtBits v n (if t * t ≤ v then t else r)

/-- R134: 1/√x. -/
def WFmt.rsqrt (f : WFmt) (rm : Rnd) (c : Nat) : Nat × BitVec 5 :=
  match f.read c with
  | .nan => (f.nanCode, 0)
  | .inf s => if s then (f.nanCode, flagIV) else (f.zeroCode false, 0)
  | .num s m e =>
    if m = 0 then (f.infCode s, flagDZ)
    else if s then (f.nanCode, flagIV)
    else
      let m' := if e % 2 = 0 then m else 2 * m
      let e' := if e % 2 = 0 then e else e - 1
      let p := bitLen m' + f.mb + 4
      let v := 2 ^ (2 * p) / m'
      let r := sqrtBits v (p + 1) 0
      let exact := r * r * m' == 2 ^ (2 * p)
      f.round rm false (if exact then 2 * r else 2 * r + 1) (-(p : Int) - 1 - e' / 2)

/-! ## Narrow formats (R270-R276) -/

/-- The fields of an FMT register. -/
structure NFmt where
  e : Nat
  m : Nat
  s : Bool
  bias : Int
  spec : Nat
  sub : Bool
  sat : Bool
  rnd : Rnd
  deriving DecidableEq, Repr

/-- R270: the layout. -/
def NFmt.of (v : BitVec 32) : NFmt :=
  { e := (v.extractLsb' 0 4).toNat, m := (v.extractLsb' 4 4).toNat, s := v.getLsbD 8,
    bias := (v.extractLsb' 10 8).toInt, spec := (v.extractLsb' 18 2).toNat, sub := v.getLsbD 20, sat := v.getLsbD 21,
    rnd := v.extractLsb' 22 2 }

/-- R121: a value SETX accepts; any other is unset (R271). -/
def fmtOk (v : BitVec 32) : Bool :=
  let f := NFmt.of v
  !v.getLsbD 9 && (v.extractLsb' 24 8 == 0) && f.spec != 3 && decide (f.s.toNat + f.e + f.m ≤ 8) && f.e + f.m != 0

/-- R273: SPEC, with IEEE-like read as NaN-only when e = 0. -/
def NFmt.kind (f : NFmt) : Nat := if f.spec = 2 ∧ f.e = 0 then 1 else f.spec

def NFmt.signCode (f : NFmt) (s : Bool) : Nat := if f.s && s then 2 ^ (f.e + f.m) else 0

/-- R273: the canonical NaN code, if the format has one. -/
def NFmt.nanCode (f : NFmt) : Option Nat :=
  match f.kind with
  | 1 => some (2 ^ (f.s.toNat + f.e + f.m) - 1)
  | 2 => if f.m = 0 then none else some ((2 ^ f.e - 1) * 2 ^ f.m + 2 ^ (f.m - 1))
  | _ => none

def NFmt.infCode (f : NFmt) (s : Bool) : Option Nat :=
  if f.kind = 2 then some (f.signCode s + (2 ^ f.e - 1) * 2 ^ f.m) else none

/-- R273: the code of the largest finite magnitude. -/
def NFmt.maxMag (f : NFmt) : Nat :=
  match f.kind with
  | 1 => 2 ^ (f.e + f.m) - 2
  | 2 => (2 ^ f.e - 1) * 2 ^ f.m - 1
  | _ => 2 ^ (f.e + f.m) - 1
def NFmt.maxCode (f : NFmt) (s : Bool) : Nat := f.signCode s + f.maxMag

/-- The exponent of a magnitude code's lowest bit, before the subnormal range is taken off. -/
def NFmt.q0 (f : NFmt) : Int := if f.e = 0 then -f.bias else 1 - f.bias - f.m

/-- R272: read a code. -/
def NFmt.read (f : NFmt) (c : Nat) : FVal :=
  let sg := f.s && c / 2 ^ (f.e + f.m) % 2 == 1
  let mag := c % 2 ^ (f.e + f.m)
  let ex := mag / 2 ^ f.m
  let fr := mag % 2 ^ f.m
  if f.kind = 1 ∧ mag = 2 ^ (f.e + f.m) - 1 then .nan
  else if f.kind = 2 ∧ ex = 2 ^ f.e - 1 then (if fr = 0 then .inf sg else .nan)
  else if f.e = 0 then .num sg fr f.q0
  else if ex = 0 then .num sg (if f.sub then fr else 0) f.q0
  else .num sg (fr + 2 ^ f.m) (f.q0 + (ex - 1))

/-- What a conversion into a format adds to the tile's sounding counts (R275). -/
inductive Tally where
  | none | nan | inf | sat | ftz
  deriving DecidableEq, Repr

structure Conv where
  code : Nat
  flags : BitVec 5 := 0
  tally : Tally := .none
  deriving DecidableEq, Repr

/-- R275: an infinity that is to be written, where the format has one, a NaN, or neither. -/
def NFmt.putInf (f : NFmt) (s : Bool) (fl : BitVec 5) : Conv :=
  match f.infCode s, f.nanCode with
  | some c, _ => { code := c, flags := fl, tally := .inf }
  | none, some n => { code := n, flags := fl, tally := .nan }
  | none, none => { code := f.maxCode s, flags := fl, tally := .sat }

/-- R275: overflow. -/
def NFmt.overflow (f : NFmt) (s : Bool) : Conv :=
  let fl := flagOF ||| flagIX
  if f.sat then { code := f.maxCode s, flags := fl, tally := .sat }
  else if f.rnd = 0 || (f.rnd == 2 && !s) || (f.rnd == 3 && s) then f.putInf s fl
  else { code := f.maxCode s, flags := fl, tally := .sat }

/-- R274: the largest finite value as a magnitude code: 0 where the code R273 names reads as zero under SUB = 0 (R272). -/
def NFmt.maxFin (f : NFmt) : Nat := if f.e ≠ 0 ∧ f.sub = false ∧ f.maxMag < 2 ^ f.m then 0 else f.maxMag

/-- R274: a finite nonzero value into the format. -/
def NFmt.putNum (f : NFmt) (s : Bool) (m : Nat) (e : Int) : Conv :=
  if !f.s && s then { code := 0, flags := flagIV, tally := .sat }
  else
    let q := if f.e = 0 then f.q0 else max (log2Of m e) (1 - f.bias) - f.m
    let (n, inexact) := gridRound f.rnd s m e q
    let mag := if f.e = 0 then n else (q - f.q0).toNat * 2 ^ f.m + n
    if f.maxFin < mag then f.overflow s
    else if mag = 0 ∨ (f.e ≠ 0 ∧ f.sub = false ∧ mag < 2 ^ f.m) then
      { code := f.signCode s, flags := flagUF ||| flagIX, tally := .ftz }
    else
      { code := f.signCode s + mag,
        flags := flagsOf false false false (inexact && f.e != 0 && decide (mag < 2 ^ f.m)) inexact }

/-- R274, R275: any value into the format. -/
def NFmt.write (f : NFmt) (v : FVal) : Conv :=
  match v with
  | .nan => match f.nanCode with
    | some c => { code := c, tally := .nan }
    | none => { code := 0, flags := flagIV }
  | .inf s =>
    if !f.s && s then { code := 0, flags := flagIV, tally := .sat }
    else match f.infCode s with
      | some c => { code := c, tally := .inf }
      | none => if f.sat then { code := f.maxCode s, flags := flagIV, tally := .sat } else f.putInf s flagIV
  | .num s m e => if m = 0 then { code := f.signCode s } else f.putNum s m e

/-! ## Conversions between wide types (R138) -/

/-- A value into a wide format. DESIGN CHOICE (notes/assumptions/150.md): an integer beyond the range of FP16 raises OF, as a float does. -/
def WFmt.write (f : WFmt) (rm : Rnd) (v : FVal) : Nat × BitVec 5 :=
  match v with
  | .nan => (f.nanCode, 0)
  | .inf s => (f.infCode s, 0)
  | .num s m e => f.round rm s m e

/-- Limits of an integer type of `w` bits. -/
def intMin (sgn : Bool) (w : Nat) : Int := if sgn then -(2 ^ (w - 1) : Int) else 0
def intMax (sgn : Bool) (w : Nat) : Int := if sgn then 2 ^ (w - 1) - 1 else 2 ^ w - 1

/-- A number as a code of `w` bits. -/
def toCode (w : Nat) (v : Int) : Nat := (v % (2 ^ w : Int)).toNat
/-- A code of `w` bits as a number. -/
def fromCode (sgn : Bool) (w c : Nat) : Int := if sgn && decide (2 ^ (w - 1) ≤ c) then (c : Int) - 2 ^ w else c

/-- R138: a float value into an integer type. -/
def intWrite (rm : Rnd) (sgn : Bool) (w : Nat) (v : FVal) : Nat × BitVec 5 :=
  match v with
  | .nan => (0, flagIV)
  | .inf s => (toCode w (if s then intMin sgn w else intMax sgn w), flagIV)
  | .num s m e =>
    let (n, inexact) := gridRound rm s m e 0
    let r := signed s n
    if r < intMin sgn w then (toCode w (intMin sgn w), flagIV)
    else if intMax sgn w < r then (toCode w (intMax sgn w), flagIV)
    else (toCode w r, if inexact then flagIX else 0)

end Sys2Proof.Machine
end

