-- ==== Sys2Proof/Machine/Numbers.lean ====
section
/-! DEFINITION. Sys2Proof/Machine/Numbers.lean: element types and layouts of tile-table entries (R20, R153, R268-R285): extents,
places of elements, planes, and conversion between types. -/

namespace Sys2Proof.Machine

/-! ## Types (R20, R122) -/

def tyNarrow (t : Nat) : Bool := decide (t < 16)
def tyWide (t : Nat) : Bool := t == 16 || t == 17 || t == 18
def tyInt (t : Nat) : Bool := decide (19 ≤ t) && decide (t ≤ 24)
def tySigned (t : Nat) : Bool := t == 19 || t == 20 || t == 21
/-- R153: element width in bits. -/
def tyBits (t : Nat) : Nat :=
  if t = 16 ∨ t = 21 ∨ t = 24 then 32 else if t = 17 ∨ t = 18 ∨ t = 20 ∨ t = 23 then 16 else 8
def tyBytes (t : Nat) : Nat := tyBits t / 8
def tyWfmt (t : Nat) : WFmt := if t = 16 then fp32 else if t = 17 then bf16 else fp16

/-- The format registers as values (R19). -/
def nfmtOf (fmt : Tab (BitVec 32)) (t : Nat) : NFmt := NFmt.of (fmt.get 0 t)
/-- R271: a narrow type whose register is unset. -/
def tyUnset (fmt : Tab (BitVec 32)) (t : Nat) : Bool := tyNarrow t && !fmtOk (fmt.get 0 t)

/-- The value of a code of a type (R268, R269, R272). -/
def tyRead (fmt : Tab (BitVec 32)) (t c : Nat) : FVal :=
  if tyNarrow t then (nfmtOf fmt t).read c
  else if tyWide t then (tyWfmt t).read c
  else
    let v := fromCode (tySigned t) (tyBits t) c
    .num (decide (v < 0)) v.natAbs 0

/-- R138, R274-R277, R301: a code of one type converted into another: the code, the flags VCVT would raise, and what the
conversion adds to the sounding counts. -/
def tyThrough (fmt : Tab (BitVec 32)) (ts td c : Nat) : Nat × BitVec 5 × Tally :=
  let v := tyRead fmt ts c
  if tyNarrow td then
    let r := (nfmtOf fmt td).write v
    (r.code, r.flags, r.tally)
  else if tyWide td then
    let r := (tyWfmt td).write 0 v
    let out := (tyWfmt td).read r.1
    let zeroed := match v, out with
      | .num _ m _, .num _ n _ => decide (m ≠ 0 ∧ n = 0)
      | _, _ => false
    (r.1, r.2, match out with
      | .nan => .nan
      | .inf _ => .inf
      | .num _ _ _ => if zeroed then .ftz else .none)
  else if tyInt ts then (toCode (tyBits td) (fromCode (tySigned ts) (tyBits ts) c), 0, .none)
  else
    let r := intWrite 0 (tySigned td) (tyBits td) v
    (r.1, r.2, if v.isNan then .nan else if r.2 &&& flagIV != 0 then .sat else .none)

/-- R159: TMOV copies the bits of an unchanged type. -/
def tyConvert (fmt : Tab (BitVec 32)) (ts td c : Nat) : Nat × BitVec 5 × Tally :=
  if ts = td then (c, 0, .none) else tyThrough fmt ts td c

/-! ## Planes (R278, R285) -/

/-- R278: significand planes, rounded up to 1, 2, 4 or 8. -/
def arrayPlanes (fmt : Tab (BitVec 32)) (t : Nat) : Nat :=
  let f := nfmtOf fmt t
  let p := if tyNarrow t then (if f.e = 0 then f.m else f.m + 1) else 8
  if p ≤ 1 then 1 else if p ≤ 2 then 2 else if p ≤ 4 then 4 else 8

/-- R285: significand, exponent and sign planes of a BPT entry. A type with no BPT storage form has none; what REINT BPT walks then is
left open (R157, notes/assumptions/113.md). -/
def bptParts (fmt : Tab (BitVec 32)) (t : Nat) : Nat × Nat × Nat :=
  let f := nfmtOf fmt t
  if tyNarrow t then ((if f.e = 0 then f.m else f.m + 1), f.e, f.s.toNat)
  else if t = 17 then (8, 8, 1) else if t = 18 then (11, 5, 1) else if t = 19 then (8, 0, 1) else (8, 0, 0)

/-- R285: the storage plane count. -/
def bptPlanes (fmt : Tab (BitVec 32)) (t : Nat) : Nat :=
  let p := bptParts fmt t
  p.1 + p.2.1 + p.2.2

/-- R153: types a BPT entry may have. -/
def bptType (t : Nat) : Bool := tyNarrow t || t == 17 || t == 18 || t == 19 || t == 22

/-- Bits of planes as a number, the first least significant. -/
def bitsNat : List Bool → Nat
  | [] => 0
  | b :: bs => b.toNat + 2 * bitsNat bs

/-- R285: the planes of a code. -/
def bptOf (fmt : Tab (BitVec 32)) (t c : Nat) : List Bool :=
  let (sg, ex, sn) := bptParts fmt t
  if t = 19 then
    let v := fromCode true 8 c
    (List.range 8).map (fun i => v.natAbs.testBit i) ++ [decide (v < 0)]
  else if t = 22 then (List.range 8).map c.testBit
  else
    let frac := if ex = 0 then sg else sg - 1
    let e := c / 2 ^ frac % 2 ^ ex
    (List.range frac).map c.testBit ++ (if ex = 0 then [] else [decide (e ≠ 0)]) ++
      (List.range ex).map (fun i => e.testBit i) ++ (if sn = 0 then [] else [c.testBit (frac + ex)])

/-- R285: the code that planes hold. DESIGN CHOICE (notes/assumptions/153.md): the plane of the hidden bit is not read, and an i8 beyond
its range wraps. -/
def bptCode (fmt : Tab (BitVec 32)) (t : Nat) (p : List Bool) : Nat :=
  let (sg, ex, sn) := bptParts fmt t
  if t = 19 then
    let m : Int := bitsNat (p.take 8)
    toCode 8 (if p.getD 8 false then -m else m)
  else if t = 22 then bitsNat p
  else
    let frac := if ex = 0 then sg else sg - 1
    bitsNat (p.take frac) + bitsNat ((p.drop sg).take ex) * 2 ^ frac +
      (if sn = 0 then 0 else (p.getD (sg + ex) false).toNat * 2 ^ (frac + ex))

/-! ## Layouts (R153, R283-R285) -/

/-- R153, R157: units of a layout with so many planes. -/
def unitsOf (planes layout rows cols : Nat) : Nat := if layout = 1 then cols else if layout = 2 then planes else rows

/-- R157, R285: the units of an entry under a layout: a raw copy reads the plane count that TDEF computed. A type with no BPT form
has none. DESIGN CHOICE (notes/assumptions/113.md): its count is free. -/
def TileEntry.units (e : TileEntry) (layout : Nat) : Nat :=
  unitsOf (if bptType e.type then e.planes else Config.strayPlanes e.type) layout e.rows e.cols

/-- R153: the extent in granules, with the plane count of TDEF's issue (R285). -/
def TileEntry.extent (e : TileEntry) : Nat := unitsOf e.planes e.layout e.rows e.cols * e.pitch

/-- R153: the fit a layout requires. -/
def unitFits (layout rows cols type pitch : Nat) : Bool :=
  if layout = 1 then decide (rows * tyBits type ≤ pitch * 512)
  else if layout = 2 then decide (rows * cols ≤ pitch * 512)
  else decide (cols * tyBits type ≤ pitch * 512)

/-- R159: the least pitch that fits. -/
def leastPitch (layout rows cols type : Nat) : Nat :=
  let b := if layout = 1 then rows * tyBits type else if layout = 2 then rows * cols else cols * tyBits type
  (b + 511) / 512

/-- R283: the scratchpad offset of byte `j` of unit `u`, through the swizzle under SWZ. -/
def unitOffset (layout base pitch u j : Nat) : Nat :=
  let o := 64 * base + 64 * pitch * u + j
  if layout = 3 then o ^^^ (u % 64 * 64) else o

/-- Where element (r, c) starts in the units of an entry: unit and byte; BPT elements lie in all planes. -/
def elemPlace (layout type r c : Nat) : Nat × Nat :=
  if layout = 1 then (c, tyBytes type * r) else (r, tyBytes type * c)

/-- R283, R285: the code of element (r, c), from a reader of unit bytes. -/
def elemCode (fmt : Tab (BitVec 32)) (layout type cols : Nat) (rd : Nat → Nat → Byte) (r c : Nat) : Nat :=
  if layout = 2 then
    let i := r * cols + c
    bptCode fmt type ((List.range (bptPlanes fmt type)).map fun p => (rd p (i / 8)).getLsbD (i % 8))
  else
    let (u, j) := elemPlace layout type r c
    leNat ((List.range (tyBytes type)).map fun b => rd u (j + b))

/-- The bytes of unit `u` of an entry that holds codes, padding zero (R159, R283, R285). -/
def unitBytes (fmt : Tab (BitVec 32)) (layout type rows cols pitch : Nat) (code : Nat → Nat → Nat) (u : Nat) : List Byte :=
  let n := pitch * 64
  if layout = 2 then
    (List.range n).map fun j => BitVec.ofNat 8 (bitsNat ((List.range 8).map fun b =>
      let i := 8 * j + b
      decide (i < rows * cols) && (bptOf fmt type (code (i / cols) (i % cols))).getD u false))
  else
    let cnt := if layout = 1 then rows else cols
    let bs := (List.range cnt).flatMap fun i => leBytes (tyBytes type) (if layout = 1 then code i u else code u i)
    (bs ++ List.replicate (n - bs.length) 0).take n

/-- The global window address of an offset of a tile's scratchpad (R16, R40). -/
def scratchAddr (t o : Nat) : Nat := tileBase t + o % 0x400000

/-- A byte of a unit of an entry, in the tile's scratchpad. -/
def State.unitByte (s : State) (t : Nat) (e : TileEntry) (u j : Nat) : Byte :=
  Memory.read s.mem (scratchAddr t (unitOffset e.layout e.base e.pitch u j))

/-- The bytes an element of an entry covers, as scratchpad addresses: for its marks (R304, R310). -/
def elemAddrs (fmt : Tab (BitVec 32)) (t : Nat) (e : TileEntry) (r c : Nat) : List Nat :=
  if e.layout = 2 then
    (List.range (bptPlanes fmt e.type)).map fun p => scratchAddr t (unitOffset 2 e.base e.pitch p ((r * e.cols + c) / 8))
  else
    let (u, j) := elemPlace e.layout e.type r c
    (List.range (tyBytes e.type)).map fun b => scratchAddr t (unitOffset e.layout e.base e.pitch u (j + b))

/-- Element (r, c) of an entry of a tile. -/
def State.elemAt (s : State) (t : Nat) (fmt : Tab (BitVec 32)) (e : TileEntry) (r c : Nat) : Nat :=
  elemCode fmt e.layout e.type e.cols (s.unitByte t e) r c

/-- Write element (r, c) of an entry (R291); bits of other elements in a plane's byte stay. -/
def State.elemBytes (s : State) (t : Nat) (fmt : Tab (BitVec 32)) (e : TileEntry) (r c code : Nat) : List (Nat × Byte) :=
  if e.layout = 2 then
    let i := r * e.cols + c
    ((elemAddrs fmt t e r c).zip (bptOf fmt e.type code)).map fun p =>
      let m : Byte := BitVec.ofNat 8 (2 ^ (i % 8))
      let b := Memory.read s.mem p.1
      (p.1, if p.2 then b ||| m else b &&& ~~~ m)
  else (elemAddrs fmt t e r c).zip (leBytes (tyBytes e.type) code)

/-! ## Accumulates (R163) -/

/-- R163: one element operation on old and operand codes. -/
def Rmw.apply : Rmw → Nat → Nat
  | .add64 v, old => (old + v) % 2 ^ 64
  | .cas z cmp new, old => if old = cmp % 2 ^ (8 * z) then new % 2 ^ (8 * z) else old
  | .op o _ v, old =>
    let f := if o = 3 then bf16 else fp32
    let w := 2 ^ f.width
    let x := old % w
    let y := v % w
    match o with
    | 2 => (f.addVal 0 (f.read x) (f.read y)).1
    | 3 => (f.addVal 0 (f.read x) (f.read y)).1
    | 4 => if fromCode true 32 y < fromCode true 32 x then y else x
    | 5 => min x y
    | 6 => f.minNum x y
    | 7 => if fromCode true 32 x < fromCode true 32 y then y else x
    | 8 => max x y
    | 9 => f.maxNum x y
    | 10 => x &&& y
    | 11 => x ||| y
    | 12 => x ^^^ y
    | _ => (x + y) % w

/-- R162: element size of an accumulate op. -/
def opSize (o : Nat) : Nat := if o = 3 then 2 else 4

def Rmw.size : Rmw → Nat
  | .add64 _ => 8
  | .cas z _ _ => z
  | .op _ z _ => z

end Sys2Proof.Machine
end

