-- ==== Sys2Proof/Machine/Translate.lean ====
section
/-! DEFINITION. Sys2Proof/Machine/Translate.lean: what an address names: the windows (R39-R42, R455), backed physical
addresses (R44), and translation by chart and pages (R346-R352). -/

namespace Sys2Proof.Machine

/-! ## Windows -/

/-- The parts of a die slot (R40). -/
inductive Part where
  | scratch | acc | sparsity | context | portImem | starImem | cluster | dieScratch
  deriving DecidableEq, Repr

/-- R40: the part at an offset of a tile slot. -/
def tilePart (o : Nat) : Option Part :=
  if o < 0x400000 then some .scratch
  else if o < 0x500000 then some .acc
  else if o < 0x540000 then some .sparsity
  else if o < 0x600000 then none
  else if o < 0x700000 then some .context
  else if o < 0x800000 then none
  else if o < 0x820000 then some .portImem
  else if o < 0x840000 then some .starImem
  else none

/-- R40: the part at an offset of a die slot. -/
def diePart (o : Nat) : Option Part :=
  if o < 0x8000000 then tilePart (o % 0x1000000)
  else if 0x10000000 ≤ o ∧ o < 0x12000000 then some .cluster
  else if 0x20000000 ≤ o ∧ o < 0x24000000 then some .dieScratch
  else none

def windowBase : Nat := 0xFF000000000000
/-- The first byte of the global windows: a multiple of eight die slots. -/
def globalBase : Nat := 0xFFFE0000000000
def ownDieBase : Nat := 0xFFFFFF40000000
def ownTileBase : Nat := 0xFFFFFF80000000

/-- R41, R455: the global window address that a window address names for an agent of a die and a tile; `none` for an
address outside every window, and for an alias the agent does not have. -/
def globalName (die tile : Option Nat) (va : Nat) : Option Nat :=
  if globalBase ≤ va ∧ va < globalBase + 0x200000000 then some va
  else if ownDieBase ≤ va ∧ va < ownDieBase + 0x40000000 then die.map fun d => dieBase d + (va - ownDieBase)
  else if ownTileBase ≤ va ∧ va < ownTileBase + 0x1000000 then tile.map fun t => tileBase t + (va - ownTileBase)
  else none

/-- The part of the package a global window address lies in (R40). -/
def globalPart (g : Nat) : Option Part :=
  if globalBase ≤ g ∧ g < globalBase + 0x200000000 then diePart (g % 0x40000000) else none

/-- The die, and for a tile slot the tile, that a global window address belongs to. -/
def globalDie (g : Nat) : Nat := g / 0x40000000 % 8
def globalTile (g : Nat) : Option Nat :=
  let o := g % 0x40000000
  if o < 0x8000000 then some (globalDie g * 8 + o / 0x1000000) else none

/-- R398: the address lies in the ring reserve of its die. -/
def State.inRing (s : State) (g : Nat) : Bool :=
  let o := g % 0x40000000
  globalPart g == some .dieScratch && decide (0x24000000 - (s.die (globalDie g)).rres ≤ o)

/-- R430: no tile answers for the window at the moment. -/
def State.windowAway (s : State) (g : Nat) : Bool :=
  (globalTile g).any s.away.contains

/-! ## Bank units (R16) -/

/-- R16: the bank unit of a scratchpad offset, its bank row, and its byte of that row. -/
def bankUnit (o : Nat) : Nat := o / 64 % 64
def bankRow (o : Nat) : Nat := o / 4096
def bankByte (o : Nat) : Nat := o % 64

/-! ## Physical addresses -/

/-- R44: the physical address lies in an HBM stack. -/
def inHbm (pa : Nat) : Bool := decide (pa < 0x30000000000) && decide (pa % 0x2000000000 < 96000000000)

/-- R419: the node-map entry that covers a remote address. -/
def State.nodeEntry (s : State) (pa : Nat) : NodeEnt := s.nodemap.get {} ((pa - 0x800000000000) / 0x80000000000)

def isRemote (pa : Nat) : Bool := decide (0x800000000000 ≤ pa) && decide (pa < 0x1000000000000)

/-- R44, R419: the physical address is backed. -/
def State.backed (s : State) (pa : Nat) : Bool := inHbm pa || (isRemote pa && (s.nodeEntry pa).valid)

/-! ## Marks of uncorrectable errors (R453) -/

/-- The first byte of the marked unit that holds a byte. -/
def markUnit (a : Nat) : Nat :=
  if globalPart a = some .scratch then a / 64 * 64 else if globalPart a = some .acc then a / 4 * 4 else a / 8 * 8
/-- The size of the marked unit that holds a byte. -/
def markSize (a : Nat) : Nat :=
  if globalPart a = some .scratch then 64 else if globalPart a = some .acc then 4 else 8
/-- R431: the location lies in a pseudo-channel that failed with no spare left. -/
def State.brokenAt (s : State) (a : Nat) : Bool :=
  s.hbm.any fun p => !p.2.broken.isEmpty && inHbm a && a / 0x2000000000 == p.1 && p.2.broken.contains (Config.pseudoChannel a)

/-- The unit that holds the byte reads as poisoned. -/
def State.marked (s : State) (a : Nat) : Bool := s.marks.contains (markUnit a) || s.brokenAt a

/-! ## Chart and pages -/

def wordAt (m : Memory) (a : Nat) : Nat := Memory.readLe m a 8

/-- R347: a chart line from its four words; `none` when it is not valid. -/
def chartLineOf (w0 w1 w2 w3 : Nat) : Option ChartLine :=
  if fld w0 0 1 = 0 then none
  else some { base := fld w0 12 44 * 4096, limit := fld w1 12 44 * 4096, offset := fld w2 12 44 * 4096,
              kind := fld w2 0 2, r := fld w2 2 1 == 1, w := fld w2 3 1 == 1,
              bad := fld w0 1 11 != 0 || fld w0 56 8 != 0 || fld w1 0 12 != 0 || fld w1 56 8 != 0 ||
                     fld w2 4 8 != 0 || fld w2 56 8 != 0 || w3 != 0 || fld w2 0 2 == 3 }

/-- The valid chart line at an address, its words read by `word`. -/
def chartLine (word : Nat → Nat) (a : Nat) : Option ChartLine :=
  (chartLineOf (word a) (word (a + 8)) (word (a + 16)) (word (a + 24))).map fun l => { l with loc := a }

/-- R346: the valid lines of an ASID's chart. -/
def State.readChart (s : State) (word : Nat → Nat) (asid : Nat) : List ChartLine :=
  let d := s.asids.get {} asid
  (List.range d.nchart).filterMap fun i => chartLine word (d.chart + i * 32)

/-- R346: the root of an ASID's tables. -/
def State.rootOf (s : State) (asid : Nat) : Nat := (s.asids.get ({} : AsidDesc) asid).root

def ChartLine.holds (l : ChartLine) (va : Nat) : Bool := decide (l.base ≤ va) && decide (va < l.limit)
def PageLine.holds (p : PageLine) (asid va : Nat) : Bool := p.asid == asid && decide (p.base ≤ va) && decide (va < p.base + p.size)

/-- R349: page sizes and the level each belongs to (0 for L0). -/
def pageShift (size : Nat) : Nat × Nat :=
  match size with
  | 0 => (12, 0) | 1 => (14, 0) | 2 => (16, 0) | 3 => (18, 0) | 4 => (20, 0)
  | 5 => (21, 1) | 6 => (22, 1) | 7 => (24, 1) | 8 => (26, 1) | 9 => (28, 1) | 10 => (29, 1)
  | 11 => (30, 2)
  | _ => (0, 9)

/-- Causes of a translation fault (R353). -/
def fUnmapped : Nat := 1
def fPermission : Nat := 2
def fUnbacked : Nat := 3
def fOverlap : Nat := 4
def fMalformed : Nat := 5

/-- R331, R333: the stores that have crossed first are ahead of the walker of die `d`: the byte that the last of them leaves at a
location. -/
def State.aheadByte (s : State) (d a : Nat) : Option Byte :=
  let ahead := s.slots.flatMap fun p => p.2.ops.flatMap fun o => match o.kind with
    | .store _ bs _ _ => (o.leftAt.filter fun b => b.1.1 == a).filterMap fun b =>
        (s.crossedAt o.id b.2 (scopeOfDie p.1 d)).map fun n => (n, bs.getD b.2 0)
    | _ => []
  (ahead.foldl (fun (best : Option (Nat × Byte)) c => if best.all fun b => decide (b.1 ≤ c.1) then some c else best) none).map Prod.snd

/-- A table entry as the walker of die `d` reads it; what another package holds is the machine's choice. -/
def State.tableWord (s : State) (d a : Nat) : Nat :=
  leNat ((List.range 8).map fun i =>
    if isRemote a then Config.remoteByte s.fresh (a + i) else (s.aheadByte d (a + i)).getD (Memory.read s.mem (a + i)))

/-- R348-R350: the walker of die `d` goes from a table at level `n - 1` down; the page, or the fault's cause. A table may lie in
another package (R44). -/
def State.walk (s : State) (d asid va : Nat) : Nat → Nat → Nat ⊕ PageLine
  | 0, _ => .inl fMalformed
  | n + 1, tbl =>
    if !s.backed tbl then .inl fMalformed
    else
      let a := tbl + (if n = 4 then va / 2 ^ 48 % 256 else va / 2 ^ (12 + 9 * n) % 512) * 8
      let e := s.tableWord d a
      if !isRemote a && s.marked a then .inl fMalformed
      else if fld e 0 1 = 0 then .inl fUnmapped
      else if fld e 1 1 != 0 || fld e 7 5 != 0 || fld e 48 12 != 0 then .inl fMalformed
      else if fld e 2 1 = 0 then
        if fld e 60 4 != 0 then .inl fMalformed else s.walk d asid va n (fld e 12 36 * 4096)
      else
        let (sh, lvl) := pageShift (fld e 60 4)
        let pa := fld e 12 36 * 4096
        if lvl != n || pa % 2 ^ sh != 0 || fld e 5 2 == 3 then .inl fMalformed
        else .inr { asid := asid, base := va / 2 ^ sh * 2 ^ sh, size := 2 ^ sh, pa := pa, kind := fld e 5 2,
                    r := fld e 3 1 == 1, w := fld e 4 1 == 1 }

/-- What an access needs of its page (R350). -/
inductive Acc where
  | read | write | both
  deriving DecidableEq, Repr

def Acc.allowed (a : Acc) (r w : Bool) : Bool :=
  match a with
  | .read => r
  | .write => w
  | .both => r && w

/-- What an address names: a location with its ordering kind (0 STRONG, 1 RELEASE, 2 UNORDERED, 3 engine memory; R335), a
hole or refused part, or a translation fault. -/
inductive Place where
  | at (loc kind : Nat)
  | hole
  | fault (cause : Nat)
  deriving DecidableEq, Repr

/-- R350: the last checks of a translation. -/
def State.placed (s : State) (asid va : Nat) (acc : Acc) (chan : Bool) (pa kind : Nat) (r w : Bool) : Place :=
  if !acc.allowed r w then .fault fPermission
  else if decide (2 ^ 48 ≤ pa) || !s.backed pa then .fault fUnbacked
  else if !chan && (s.dies.any fun d => d.2.regions.any fun g => g.asid == asid && decide (g.base ≤ va) && decide (va < g.limit))
    then .fault fPermission
  else .at pa kind

/-- The valid chart lines that hold an address: a line that the die's unit caches stands as it was cached (R351, R352), the others
as memory holds them. Of an ASID whose chart has moved since, the unit uses the lines it caches. -/
def State.chartHits (s : State) (die asid va : Nat) : List ChartLine :=
  let d := s.asids.get {} asid
  let mine := ((s.die die).charts.filter fun p => p.1 == asid).map Prod.snd
  let old := mine.filter fun l => l.holds va
  let live := (s.readChart (s.tableWord die) asid).filter fun l => l.holds va && !(mine.any fun m => m.loc == l.loc)
  if old.all fun l => decide (d.chart ≤ l.loc) && decide (l.loc < d.chart + 32 * d.nchart) then old ++ live else old

/-- R350: a virtual address below the window region. -/
def State.translate (s : State) (die asid va : Nat) (acc : Acc) (chan : Bool) : Place :=
  match s.chartHits die asid va with
  | [l] =>
    if l.bad then .fault fMalformed
    else s.placed asid va acc chan ((va + l.offset) % 2 ^ 56) l.kind l.r l.w
  | _ :: _ :: _ => .fault fOverlap
  | [] =>
    match (s.die die).pages.find? fun p => p.holds asid va with
    | some p => s.placed asid va acc chan (p.pa + (va - p.base)) p.kind p.r p.w
    | none =>
      let root := s.rootOf asid
      if root = 0 then .fault fUnmapped
      else match s.walk die asid va 5 root with
        | .inl f => .fault f
        | .inr p => s.placed asid va acc chan (p.pa + (va - p.base)) p.kind p.r p.w

/-- R351: an access brings its chart line or page into the die's unit, unless the unit holds it still. -/
def State.touch (s : State) (die asid va : Nat) : State :=
  if windowBase ≤ va then s else
  let keep := Config.stillCached s.fresh
  let d := s.die die
  let d := if keep then d else
    { d with charts := d.charts.filter fun p => !(p.1 == asid && p.2.holds va), pages := d.pages.filter fun p => !p.holds asid va }
  let s := { s with fresh := s.fresh + 1 }.setDie die d
  match s.chartHits die asid va with
  | [l] => if d.charts.any fun p => p.1 == asid && p.2.loc == l.loc then s
           else s.modDie die fun d => { d with charts := ((asid, l) :: d.charts).take 512 }
  | _ :: _ => s
  | [] =>
    if d.pages.any fun p => p.holds asid va then s
    else match s.walk die asid va 5 (s.rootOf asid) with
      | .inl _ => s
      | .inr p => s.modDie die fun d => { d with pages := (p :: d.pages).take 4096 }

/-- The ordering kind of a window part (R335). -/
def partKind : Part → Nat
  | .scratch => 1
  | .cluster => 1
  | .dieScratch => 1
  | _ => 3

/-- Who issues an access: the die and tile whose aliases it has (R455), and the die whose unit translates for it. -/
structure Who where
  die : Option Nat
  tile : Option Nat
  unit : Nat
  asid : Nat
  deriving DecidableEq, Repr

/-- What one byte of an access names; `parts` are the window parts the agent reaches (R40, R113, R147). -/
def State.place (s : State) (who : Who) (parts : Part → Bool) (acc : Acc) (chan : Bool) (va : Nat) : Place :=
  if va < windowBase then s.translate who.unit who.asid va acc chan
  else (globalName who.die who.tile va).elim .hole fun g => (globalPart g).elim .hole fun p =>
    if !parts p || s.windowAway g || (!chan && s.inRing g) then .hole else .at g (partKind p)

/-- R113: what a control-core load or store reaches. -/
def coreParts : Part → Bool
  | .scratch => true
  | .cluster => true
  | .dieScratch => true
  | _ => false

/-- R147: what a copy engine reaches. -/
def copyParts : Part → Bool := fun _ => true

/-- The slot as an issuer of accesses (R455). -/
def State.slotWho (s : State) (k : Nat) : Who :=
  { die := some (dieOf k), tile := some (tileOf k), unit := dieOf k, asid := (s.slot k).task.asid }

end Sys2Proof.Machine
end

