-- ==== Sys2Proof/Machine/Reach.lean ====
section
/-! DEFINITION. Sys2Proof/Machine/Reach.lean: what a copy command reaches (R147, R211, R335, R455), packets to other packages
(R422), the locations a command writes (R340), and which commands of a task a release waits for (R148). -/

namespace Sys2Proof.Machine

/-! ## Addresses of a command -/

/-- R455: the die and tile a copy command's aliases name. -/
def Job.who (j : Job) : Who :=
  if j.engine < 64 then { die := some (j.engine / 8), tile := some j.engine, unit := j.engine / 8, asid := j.asid }
  else { die := some ((j.engine - 64) / 4), tile := none, unit := (j.engine - 64) / 4, asid := j.asid }

/-- R211, R335: a PILOT chain's addresses below the windows are physical, and RELEASE. -/
def State.jobPlace (s : State) (j : Job) (acc : Acc) (va : Nat) : Place :=
  if j.phys && decide (va < windowBase) then (if decide (va < 2 ^ 48) && s.backed va then .at va 1 else .hole)
  else s.place j.who copyParts acc false va

/-- Where a piece of planes and rows stands: the offsets of source and destination, and the bytes left in its run. -/
def runPlace (len rows : Nat) (rsrc rdst psrc pdst : Int) (done : Nat) : Int × Int × Nat :=
  let r := done / len
  let y : Int := (r % rows : Nat)
  let z : Int := (r / rows : Nat)
  let o := done % len
  (z * psrc + y * rsrc + o, z * pdst + y * rdst + o, len - o)

/-- An address with a signed offset (R83). -/
def addOff (a : Nat) (o : Int) : Nat := (((a : Int) + o) % (2 ^ 56 : Int)).toNat

/-- What an attempt at a granule gives. -/
inductive GRes where
  | ok (s : State) (f : Flight)
  | fault (va cause access asid : Nat)
  | fail (status : Nat)
  | wait

/-! ## Remote packets (R422) -/

/-- Runs of bytes that lie together in one 256-byte granule of one package. -/
def runsOf : List (Nat × Byte) → List (Nat × List Byte)
  | [] => []
  | (a, b) :: rest => match runsOf rest with
    | [] => [(a, [b])]
    | (a', bs) :: rs => if a + 1 = a' ∧ a / 256 = a' / 256 then (a, b :: bs) :: rs else (a, [b]) :: (a', bs) :: rs

/-- The scale-out ports whose links live. -/
def Torus.live (t : Torus) : List Nat := [0, 1, 2, 3, 4, 5].filter fun n => (t.links.get {} n).up

/-- R422: the up to four live ports that packets to a node go by. -/
def Torus.paths (t : Torus) (node : Nat) : List Nat :=
  let n := Config.pathSet node % t.live.length
  (t.live.drop n ++ t.live.take n).take 4

/-- The port that the adaptive tables choose for a packet, none without a live path (R422). -/
def Torus.route (t : Torus) (node draw : Nat) : List Nat :=
  match t.paths node with
  | [] => []
  | l => [l.getD (Config.spray draw l.length % l.length) 0]

/-- Add to a torus counter; it saturates (R423). -/
def Torus.count (t : Torus) (i n : Nat) : Torus := { t with counters := t.counters.set i (min (2 ^ 64 - 1) (t.counters.get 0 i + n)) }

/-- R435: the key stands in the table of the package's router. DESIGN CHOICE (notes/assumptions/143.md): node-map writes install the
package's own keys; of the others the machine's choice says it. -/
def Torus.admits (t : Torus) (key : Nat) : Bool := (t.keys.contains key || Config.partitionKey key) && !t.revoked.contains key

/-- The packet that carries bytes to a remote address, before it has a sequence, and its destination. -/
def State.packetFor (s : State) (id fi : Nat) (rmw : Option Rmw) (size a : Nat) (bs : List Byte) (wake : Bool) : Nat × OutPacket :=
  let ent := s.nodeEntry a
  (ent.node, { seq := 0, job := id, flight := fi, addr := a % 2 ^ 43, rmw := rmw, data := bs, size := size, key := ent.key, wake := wake })

/-- A packet goes to the torus unit: it takes the next sequence of its pair, and stays there until it is acknowledged. It goes out where
a path lives; one whose key is in no router's table gets no further than the first (R435). -/
def State.handOver (s : State) (node : Nat) (pk : OutPacket) : State :=
  let p := s.torus.pairs.get {} node
  let route := s.torus.route node s.fresh
  let pk := { pk with seq := p.next, path := route, sent := s.mtime.toNat }
  let dead := if route.isEmpty then p.deadSince.or (some s.mtime.toNat) else none
  let p := { p with next := (p.next + 1) % 2 ^ 32, unacked := p.unacked ++ [pk], deadSince := dead }
  let msg : TorusMsg := { kind := 0, node := node, seq := pk.seq, status := 0, value := leNat pk.data }
  let t := if route.isEmpty then s.torus else s.torus.count 0 1
  let out := if route.isEmpty || !t.admits pk.key then t.sending else t.sending ++ [msg]
  { s with torus := { t with pairs := t.pairs.set node p, sending := out }, fresh := s.fresh + 1 }

def State.putPacket (s : State) (id fi : Nat) (rmw : Option Rmw) (size a : Nat) (bs : List Byte) (wake : Bool := false) : State :=
  let r := s.packetFor id fi rmw size a bs wake
  s.handOver r.1 r.2

/-- R422: the pair takes no further packet until one is acknowledged. -/
def Pair.full (p : Pair) : Bool := decide (1024 ≤ p.unacked.length) || !p.later.isEmpty

/-- Hand one packet of a command to the torus unit: none goes out on a fenced pair, and at most 1,024 stand unacknowledged. -/
def State.sendPacket (s : State) (id fi : Nat) (f : Flight) (rmw : Option Rmw) (size a : Nat) (bs : List Byte) (wake : Bool := false) : GRes :=
  let node := (s.nodeEntry a).node
  let p := s.torus.pairs.get {} node
  if p.fenced then .fail 10
  else if p.full then .wait
  else .ok (s.putPacket id fi rmw size a bs wake) { f with packets := f.packets ++ [{ node := node, seq := p.next, off := f.done, len := bs.length }] }

/-- A packet of no command: none on a fenced pair, and one too many waits at the torus unit. -/
def State.handFar (s : State) (node : Nat) (pk : OutPacket) : State :=
  let p := s.torus.pairs.get {} node
  if p.fenced then s
  else if p.full then { s with torus := { s.torus with pairs := s.torus.pairs.set node { p with later := p.later ++ [pk] } } }
  else s.handOver node pk

/-- What the pilot writes or adds in another package goes as a packet of no command. -/
def State.sendFar (s : State) (rmw : Option Rmw) (a : Nat) (bs : List Byte) : State :=
  let r := s.packetFor 0 0 rmw bs.length a bs false
  s.handFar r.1 r.2

def State.sendRuns (s : State) (id fi : Nat) (f : Flight) (rmw : Option Rmw) (size : Nat) : List (Nat × List Byte) → GRes
  | [] => .ok s f
  | (a, bs) :: rest => match s.sendPacket id fi f rmw size a bs with
    | .ok s f => s.sendRuns id fi { f with done := f.done + bs.length } rmw size rest
    | r => r

/-- After bytes have gone out, the flight's progress is what the caller counts. -/
def GRes.at (r : GRes) (done : Nat) : GRes :=
  match r with
  | .ok s f => .ok s { f with done := done }
  | r => r

/-! ## What a command writes -/

/-- The granules of an entry's walk of `units` units, as scratchpad addresses of tile `t` (R157, R283). -/
def TileEntry.walk (e : TileEntry) (t units : Nat) : List (Nat × Nat) :=
  (List.range units).flatMap fun u => (List.range e.pitch).map fun g =>
    (scratchAddr t (unitOffset e.layout e.base e.pitch u (64 * g)), 64)

/-- R340: the byte runs that a command's work writes. -/
def Work.runs (j : Job) : Work → List (Nat × Nat)
  | .copy dst _ len rows planes _ rd _ pd =>
    (List.range planes).flatMap fun (z : Nat) => (List.range rows).map fun (y : Nat) => (addOff dst (z * pd + y * rd), len)
  | .acc _ dst _ len => [(dst, len)]
  | .rmw dst f _ => [(dst, f.size)]
  | .tmov e dst mp dt dl fmt =>
    let run := leastPitch dl e.rows e.cols dt * 64
    (List.range (unitsOf (bptPlanes fmt dt) dl e.rows e.cols)).map fun u => (dst + u * (if mp = 0 then run else mp), run)
  | .tile true _ e _ _ units => e.walk j.engine units
  | .tile false _ e mem mp units => (List.range units).map fun u => (mem + u * mp, e.pitch * 64)
  | .spawn dst _ => [(dst, 128)]
  | _ => []

/-- R175, R340: the byte runs of a data word; a ROLL writes its cairn's saved granules, and a CPMC each member's own entry (R161). -/
def State.writtenRuns (s : State) (j : Job) (f : Flight) : List (Nat × Nat) :=
  match j.mac with
  | some (.roll n) => match ((s.taskSlot j.owner).getD {}).cairns.find? n with
    | some c => c.saved.map fun (p : Nat × List Byte) => (c.base + p.1 * 256, 256)
    | none => []
  | _ => match f.work with
    | .cpmc _ _ h _ tiles => tiles.flatMap fun t =>
        let e := (s.tile t).table.get {} h
        e.walk t (e.units e.layout)
    | w => w.runs j

/-- The runs as locations, page by page, where they translate: location, length, ordering kind. -/
def State.spots (s : State) (j : Job) : List (Nat × Nat × Nat) :=
  (j.flights.flatMap (s.writtenRuns j)).flatMap fun r =>
    (List.range (r.2 / 4096 + 2)).filterMap fun i =>
      let a := if i = 0 then r.1 else (r.1 / 4096 + i) * 4096
      let e := min (r.1 + r.2) ((r.1 / 4096 + i + 1) * 4096)
      if a < e then match s.jobPlace j .write (a % 2 ^ 56) with
        | .at l n => some (l, e - a, n)
        | _ => none
      else none

/-- R148: every byte the command writes lies in UNORDERED pages, which only FENCE.SC orders. -/
def State.looseJob (s : State) (j : Job) : Bool :=
  let l := s.spots j
  !l.isEmpty && l.all fun p => p.2.2 == 2

/-- R148: a command that the task of a record has issued before number `upto` has destination bytes still to be performed. `loose`
counts also those that write to UNORDERED pages alone. -/
def State.taskJobs (s : State) (owner upto : Nat) (loose : Bool) : Bool :=
  s.jobs.any fun p => decide (p.1 < upto) && p.2.mac.isSome && p.2.owner == owner && (loose || !s.looseJob p.2)

end Sys2Proof.Machine
end

