-- ==== Sys2Proof/Machine/Issue.lean ====
section
/-! DEFINITION. Sys2Proof/Machine/Issue.lean: how a word of a stream issues (R240-R258), and how a word of a copy command
or a queue program runs (R84). The meanings give only a word's own effect. -/

namespace Sys2Proof.Machine

/-! ## May the stream issue at all? -/

/-- A stream that still fetches: not ended, and while a handler runs only the trapped stream (R233, R241). -/
def Slot.live (sl : Slot) (x : Nat) : Bool :=
  !(sl.stream x).ended && (!sl.trap.inHandler || sl.trap.stream.toNat == x)

/-- R255: a stream has done its part of the slot cycle. -/
def Slot.cycleSpent (sl : Slot) (x : Nat) : Bool :=
  !sl.live x || decide (sl.cycle < (sl.stream x).next) || (sl.stream x).presented

/-- R249: another slot of the core is exposed. -/
def State.otherExposed (s : State) (k : Nat) : Bool :=
  [0, 1, 2, 3].any fun j => coreKey k * 4 + j != k && (s.slot (coreKey k * 4 + j)).exposed

/-- R257: a word that is to trap late has issued in an earlier cycle: every later word would be squashed, and none issues. -/
def State.held (s : State) (k : Nat) : Bool := (s.slot k).late.any fun t => decide (t.at_ < s.slotClock k)

/-- The slot issues words now (R249, R258, R376, R395); after a trap out of exposed mode, once the results of earlier words
have landed (R233). A SETX of the cycle holds nothing (R120). -/
def State.slotIssues (s : State) (k : Nat) : Bool :=
  let sl := s.slot k
  sl.phase == .running && !s.held k && !sl.broke && !s.haltsSlot k && !sl.diverting && !sl.reenter &&
    (sl.exposed || sl.pend.all fun p => p.eff.isSys) && !s.otherExposed k

/-- R404: the streams whose channel words stall the slot. -/
def Slot.stallers (sl : Slot) : List Nat :=
  [0, 1, 2, 3].filter fun y => sl.live y && (match (sl.stream y).wait with
    | some (.channel (some _)) => true
    | _ => false)

/-- R404: a channel word of another stream stalls the slot. -/
def Slot.stalled (sl : Slot) (x : Nat) : Bool := sl.stallers.any fun y => y != x

/-- R200: the first segment of a slot that waits, in site order: west, north, south, east. -/
def State.nextCollarTrap (s : State) (k : Nat) : Option (Nat × Nat × Held) :=
  [0, 1, 2, 3].findSome? fun g => (s.slot k).collarTraps.findSome? fun e =>
    if e % 4 = g then (((s.tile (e / 4)).segs.get {} g).trapped.map fun h => (e / 4, g, h)) else none

/-- R200, R292: the T stream stands at its boundary for a collar trap. -/
def State.collarHolds (s : State) (k x : Nat) : Bool :=
  x == 2 && !(s.slot k).trap.inHandler && (s.nextCollarTrap k).isSome

/-- The stream may issue its next word now (R245, R255, R292, R404). The words of a bundle issue together. -/
def State.mayIssue (s : State) (k x : Nat) : Bool :=
  let sl := s.slot k
  sl.live x && (s.bundle || (s.slotIssues k && !(sl.stream x).serviced && !sl.stalled x && !s.collarHolds k x &&
    (!sl.exposed ||
      (decide ((sl.stream x).next ≤ sl.cycle) && [0, 1, 2, 3].all fun y => !decide (y < x) || sl.cycleSpent y))))

/-- R241, R246: the number of the rendezvous that the slot's streams come to next. -/
def Slot.nextRv (sl : Slot) : Nat :=
  (([0, 1, 2, 3].filter fun x => !(sl.stream x).ended).map fun x => (sl.stream x).rvCount).foldl min
    ((([0, 1, 2, 3].filter fun x => !(sl.stream x).ended).map fun x => (sl.stream x).rvCount).foldl max 0)

/-- The streams whose words form the next rendezvous. -/
def Slot.rvStreams (sl : Slot) : List Nat :=
  [0, 1, 2, 3].filter fun x => !(sl.stream x).ended && (sl.stream x).rvCount == sl.nextRv

/-- R241: every one of them has presented its word. -/
def Slot.gathered (sl : Slot) : Bool := !sl.trap.inHandler && !sl.rvStreams.isEmpty && sl.rvStreams.all fun x => (sl.stream x).presented

/-! ## Interlocks (R250, R251, R254) -/

/-- Some element of a lane-guarded word is active (R123, R126). -/
def laneActive (m : Lanes) (stride : Nat) : Bool :=
  (List.range (128 / max 1 stride)).any fun i => m.getLsbD (i * stride)

/-- Does the word act at all under its guard? (R54, R126) -/
def wordActive (u : Uses) (v : View) (g : BitVec 3) (n : Bool) : Bool :=
  u.always || (if u.stride = 0 then v.guard g n else laneActive (v.lanes g n) u.stride)

inductive Ready where
  | go | wait | trap (cause : Nat) (aux : Word)
  deriving DecidableEq, Repr

/-- R254: an earlier load of the stream has yet to write a scalar the word reads or writes. -/
def Slot.scalarBusy (sl : Slot) (x : Nat) (u : Uses) : Bool :=
  sl.ops.any fun o => o.x == x && (match o.kind with
    | .load d _ _ _ _ => d != 0 && (u.rs.contains d || u.ds.contains d)
    | _ => false)

/-- R29, R251: one queue operand, in guarded or exposed mode; `none` when it can be taken. A guarded pop takes no entry
pushed in its own cycle `now`. -/
def Slot.sourceBlock (sl : Slot) (now q i : Nat) : Option Ready :=
  match (sl.queue q)[i]? with
  | some p => if p.val.isSome && (sl.exposed || decide (p.due ≤ now)) then none
              else if sl.exposed && decide (sl.cycle < p.due) then some (.trap 11 (BitVec.ofNat 64 q)) else some .wait
  | none => if sl.exposed then some (.trap 11 (BitVec.ofNat 64 q)) else some .wait

/-- The entries of queue `q` that leave with the word. -/
def popsOf (u : Uses) (q : Nat) : Nat := (u.q.filter fun o => o.1 = q ∧ o.2.2).length

/-- R54: the word at a stream's PC acts under its guard. -/
def State.actsIn (s : State) (k x : Nat) (i : Instr) : Bool :=
  let w := (s.streamWords k x).1
  wordActive (usesOf i) ((s.slot k).view x) (bits w 20 3) (flag w 19)

/-- The entries of queue `q` that the word at a stream's PC pops: none under a false guard (R126). -/
def State.popsAt (s : State) (k x q : Nat) : Nat :=
  match s.streamNext k x with
  | some i => if s.actsIn k x i then popsOf (usesOf i) q else 0
  | none => 0

/-- R29, R250: entries that other streams pop from the queue in the same cycle: those whose words wait at the rendezvous of
stream `x`, and in exposed mode the later ones. -/
def State.otherPops (s : State) (k x q : Nat) (rv : Bool) : Nat :=
  let sl := s.slot k
  let with_ := fun y => if rv then y != x && (sl.stream y).presented && (sl.stream y).rvCount == (sl.stream x).rvCount
                        else sl.exposed && decide (x < y) && !sl.cycleSpent y
  (([0, 1, 2, 3].filter with_).map fun y => s.popsAt k y q).sum

/-- R250, R251: the push finds a place once this cycle's pops are made. -/
def State.pushBlock (s : State) (k x : Nat) (u : Uses) (rv : Bool) : Option Ready :=
  match u.push with
  | none => none
  | some q =>
    let sl := s.slot k
    let gone := popsOf u q + s.otherPops k x q rv
    if (sl.queue q).length < 4 + gone then none
    else if sl.exposed then some (.trap 12 (BitVec.ofNat 64 q)) else some .wait

/-- R250-R254: the interlocks of an active word, queue operands in the order qa, qb, qd and then the push (R251). -/
def State.interlock (s : State) (k x : Nat) (u : Uses) (rv : Bool) : Ready :=
  let sl := s.slot k
  if !sl.exposed && sl.scalarBusy x u then .wait
  else match (u.q.findSome? fun o => sl.sourceBlock s.cycle o.1 o.2.1).or (s.pushBlock k x u rv) with
    | some r => r
    | none => .go

/-- R115, R142: a counter at 63 holds issue in guarded mode and traps in exposed mode, whatever the guard. -/
def Slot.counterBlock (sl : Slot) (u : Uses) : Ready :=
  match u.cls with
  | some c => if 63 ≤ sl.counter c then (if sl.exposed then .trap 9 (BitVec.ofNat 64 c) else .wait) else .go
  | none => .go

/-- R251: the trap that ends a queue wait of a guarded word: of an operand whose place no word has reserved, or of a push
into a full queue. -/
def Slot.queueTrap (sl : Slot) (u : Uses) : Option (Nat × Word) :=
  match u.q.find? fun o => ((sl.queue o.1)[o.2.1]?).isNone with
  | some o => some (11, BitVec.ofNat 64 o.1)
  | none => match u.push with
    | some q => if (sl.queue q).length < 4 + popsOf u q then none else some (12, BitVec.ofNat 64 q)
    | none => none

/-- The queue wait limit in cycles (R251). -/
def queueWaitLimit : Nat := 4096

/-- A stream waits for its queues (R251): the count starts at the first turn it finds them short, and ends when it waits
only for entries to land. -/
def State.queueWait (s : State) (k x : Nat) (u : Uses) : State :=
  let st := (s.slot k).stream x
  match (s.slot k).queueTrap u with
  | none => if st.qsince.isSome then s.modSlot k fun sl => sl.modStream x fun st => { st with qsince := none } else s
  | some (c, a) => match st.qsince with
    | none => s.modSlot k fun sl => sl.modStream x fun st => { st with qsince := some s.cycle }
    | some t => if queueWaitLimit ≤ s.cycle - t then s.trapAt k x c a else s

/-! ## What a word does -/

/-- A word's effect, as its meaning gives it. -/
inductive WRes where
  /-- it issues and the stream goes on to the next word -/
  | done (s : State)
  /-- it issues as a taken transfer to the control state already written -/
  | jump (s : State)
  /-- it issues, and the stream's PC stays as it is -/
  | stay (s : State)
  /-- it raises a precise trap -/
  | trap (cause : Nat) (aux : Word)
  /-- it raises a precise trap after something outside the slot has been told (R353) -/
  | trapIn (s : State) (cause : Nat) (aux : Word)
  /-- it does not issue yet -/
  | wait (s : State)

/-- Pop the entries that leave with the word, in the order of its operands (R124). -/
def Slot.popAll (sl : Slot) (ops : List (Nat × Nat × Bool)) : Slot :=
  (ops.filter fun o => o.2.2).foldl (fun sl o => sl.setQueue o.1 ((sl.queue o.1).drop 1)) sl

/-- After a word has issued: the stream's PC, its loops with the predicates as they were when it issued (R95), its slot cycle
(R255), and the end of its waits. -/
def State.wordDone (s : State) (k x : Nat) (v : View) (pos next bubble : Nat) (moved : Bool) : State :=
  { s with issued := s.issued ++ [(k, x)] }.modSlot k fun sl =>
    sl.modStream x fun st =>
      let ctl := if moved then st.ctl else st.ctl.advance (fun g => lane0 (v.pred g)) pos next
      { st with ctl := ctl, presented := false, qsince := none, wait := none, next := sl.cycle + 1 + bubble, readySince := none }

/-- The addresses R95 looks at for a word of `len` words, skipping `skip` more under a false guard. -/
def State.passWord (s : State) (k x : Nat) (v : View) (len skip : Nat) : State :=
  let pc := ((s.slot k).stream x).ctl.pc
  s.wordDone k x v (wrapPc (pc + len - 1)) (wrapPc (pc + len + skip)) 0 false

/-- R115: a false-guarded counter word takes its counter and retires in issue order with its class. -/
def State.nullOp (s : State) (k x : Nat) (u : Uses) : State :=
  match u.cls with
  | some c => { s.modSlot k fun sl => sl.addOp { id := s.nextId, cls := c, x := x, kind := .null, due := 0 } with
                  nextId := s.nextId + 1 }
  | none => s

/-- R241: a rendezvous word presents, unless the handler runs (R234) or every other stream has ended. -/
def Slot.mustPresent (sl : Slot) (x : Nat) : Bool :=
  !sl.trap.inHandler && [0, 1, 2, 3].any fun y => y != x && !(sl.stream y).ended

/-- R241: every interlock on its rendezvous word is clear; a queue wait counts anew if one is not clear again (R251). -/
def Stream.presents (st : Stream) : Stream := { st with presented := true, qsince := none }

/-- R241, R246: the stream has passed one rendezvous word more. -/
def State.countRv (s : State) (k x : Nat) : State :=
  s.modSlot k fun sl => sl.modStream x fun st => { st with rvCount := st.rvCount + 1 }

/-- A word of stream `x` of slot `k` issues, waits, presents or traps (R241-R257). In exposed mode a rendezvous word presents
on its schedule, and its counter and queues are settled in the slot cycle in which the bundle issues (R242, R251, R255). DESIGN CHOICE
(notes/assumptions/112.md): a counter that stands at 63 traps before what the word's own address raises (R141). -/
def State.issueStream (s : State) (k x : Nat) (i : Instr) (g : BitVec 3) (n rv : Bool) (len skip : Nat)
    (body : State → View → WRes) : State :=
  if !s.mayIssue k x then s else
  let sl := s.slot k
  let v := sl.view x
  let u := usesOf i
  let act := wordActive u v g n
  if rv && !s.bundle && sl.exposed && sl.mustPresent x then
    s.modSlot k fun sl => sl.modStream x Stream.presents
  else
  match sl.counterBlock u with
  | .wait => s
  | .trap c a => s.trapAt k x c a
  | .go =>
    match (if act then s.interlock k x u (rv && !sl.trap.inHandler) else .go) with
    | .wait => s.queueWait k x u
    | .trap c a => s.trapAt k x c a
    | .go =>
      if rv && !s.bundle && sl.mustPresent x then
        if (sl.stream x).presented then s
        else s.modSlot k fun sl => sl.modStream x Stream.presents
      else
        let count := fun t : State => if rv && !sl.trap.inHandler then t.countRv k x else t
        if !act then count ((s.nullOp k x u).passWord k x v len skip)
        else match body s v with
          | .done t => count (t.passWord k x v len 0)
          | .jump t => count (t.wordDone k x v 0 0 1 true)
          | .stay t => count (t.wordDone k x v 0 0 0 true)
          | .trap c a => s.trapAt k x c a
          | .trapIn t c a => t.trapAt k x c a
          | .wait t => t

/-- A control-core private word: only a stream runs it. -/
def State.issueCore (s : State) (i : Instr) (h : Hdr) (len : Nat) (body : Nat → Nat → State → View → WRes) : State :=
  match s.cur with
  | .stream k x => s.issueStream k x i h.g h.n h.s len 0 (body k x)
  | _ => s

/-! ## Shared words on the three kinds of engine (R80, R84) -/

/-- A shared word's effect: the registers it writes, a taken transfer (R96), a loop entry or skip (R94), or a trap. -/
inductive SRes where
  | ok (es : List PendEff)
  | jump (c : Ctl) (es : List PendEff)
  | goto (c : Ctl)
  | trap (cause : Nat) (aux : Word)
  deriving DecidableEq, Repr

/-- R56: an engine's own registers; a predicate write stores lane 0. -/
def Prog.write (p : Prog) : PendEff → Prog
  | .scalar d v => { p with regs := writeScalar p.regs d v }
  | .pred q v _ => { p with preds := writeBit p.preds q (lane0 v) }
  | _ => p

/-- R215: the status that ends a copy command or a packet on a trap cause: ARITH for a zero divisor, else ILLEGAL. -/
def engineStatus (cause : Nat) : Nat := if cause = 4 then 6 else 5

/-- One word of a program of `bound` words (R84): the program after it, and the status that ends it if it ends. A JMPR to a target
outside the program ends it (R91); a RET goes to the place it pops, which may lie past the last word (R90, R208). -/
def Prog.run (p : Prog) (bound : Nat) (g : BitVec 3) (n : Bool) (len skip : Nat) (f : View → SRes) : Prog × Option Nat :=
  let v := p.view
  let pass := fun (q : Prog) (sk : Nat) =>
    { q with ctl := q.ctl.advance (fun g => lane0 (v.pred g)) (q.ctl.pc + len - 1) (q.ctl.pc + len + sk) }
  if !v.guard g n then (pass p skip, none)
  else match f v with
    | .ok es => (pass (es.foldl Prog.write p) 0, none)
    | .jump c es =>
      if c.pc < bound ∨ c.depth < p.ctl.depth then ({ es.foldl Prog.write p with ctl := c }, none) else (p, some 5)
    | .goto c => ({ p with ctl := c }, none)
    | .trap c _ => (p, some (engineStatus c))

/-- A copy command after a word: the word that ends it with a failing status is kept for the completion record (R213). -/
def Job.after (j : Job) (r : Prog × Option Nat) : Job :=
  match r.2 with
  | some st => { j with prog := r.1, stop := j.stop.or (some st),
                        badWord := if st = 0 ∨ j.stop.isSome then j.badWord else j.prog.ctl.pc }
  | none => { j with prog := r.1 }

/-- A command runs no word before it starts, while it is suspended (R215), once it has ended, or while the old value of an ACCR or CAS is
outstanding (R214). -/
def Job.busy (j : Job) : Bool :=
  !j.started || j.stop.isSome || j.susp.isSome || j.dead.isSome || j.flights.any fun f => f.reg.isSome && f.old.isNone

/-- A packet after a word, which counts toward its budget (R224). -/
def Packet.after (p : Packet) (r : Prog × Option Nat) : Packet :=
  { p with prog := r.1, ended := p.ended.or r.2, words := p.words + 1 }

/-- R224: a packet runs no word before it is read, once it has ended, while it waits for service, or after its 512th word. -/
def Packet.still (p : Packet) : Bool :=
  p.bytes.isEmpty || p.ended.isSome || decide (512 ≤ p.words) || (match p.wait with
    | some (.fault _) => true
    | _ => false)

/-- The program of the engine at hand, its length, and what becomes of it after a word. -/
def State.runEngine (s : State) (f : Prog → Nat → Prog × Option Nat) : State :=
  match s.cur with
  | .command id => let j := s.job id; if j.busy then s else s.setJob id (j.after (f j.prog j.len))
  | .queue q =>
    let hq := s.hqueue q
    match hq.cur with
    | some p => if p.still then s else s.setHqueue q { hq with cur := some (p.after (f p.prog p.code.length)) }
    | none => s
  | _ => s

/-- A shared word (R80): the same effect on every engine. -/
def State.runShared (s : State) (i : Instr) (h : Hdr) (len skip : Nat) (f : View → SRes) : State :=
  match s.cur with
  | .stream k x => s.issueStream k x i h.g h.n h.s len skip fun s v => match f v with
      | .ok es => .done (s.commit k x (latencyOf i) es)
      | .jump c es =>
        .jump ((s.modSlot k fun sl => sl.modStream x fun st => { st with ctl := c }).commit k x (latencyOf i) es)
      | .goto c => .stay (s.modSlot k fun sl => sl.modStream x fun st => { st with ctl := c })
      | .trap c a => .trap c a
  | _ => s.runEngine fun p bound => p.run bound h.g h.n len skip f

end Sys2Proof.Machine
end

