-- ==== Sys2Proof/Machine/Access.lean ====
section
/-! DEFINITION. Sys2Proof/Machine/Access.lean: how memory is written, with the cairns that save it and the marks it clears
(R175, R453), when an outstanding access may be performed (R333-R338), and how a slot's access that faults is handled
(R353, R356). -/

namespace Sys2Proof.Machine

/-! ## Device messages (R437-R439) -/

/-- R437: the SACK of a host stream: which of the 32 messages after the next one are held. -/
def HostPort.sack (h : HostPort) (stream : Nat) : Nat :=
  ((List.range 32).map fun i =>
    if h.held.any fun w => w.stream == stream && (w.seq + 2 ^ 32 - h.next.get 0 stream) % 2 ^ 32 == i + 1 then 2 ^ i else 0).sum

/-- R437: the header of a device message. -/
def State.blpHead (s : State) (type flags stream seq len : Nat) : List Byte :=
  leBytes 1 1 ++ leBytes 1 type ++ leBytes 1 flags ++ leBytes 1 stream ++ leBytes 4 seq ++ leBytes 4 (s.host.next.get 0 stream) ++
    leBytes 4 (s.host.sack stream) ++ leBytes 2 len ++ leBytes 2 0 ++ leBytes 4 s.boot.count ++ leBytes 8 0

/-- A message goes onto the link, while there is one; an answer, on stream 3, has RESP (R437, R438). -/
def State.wire (s : State) (stream : Nat) (m : Msg) : State :=
  if s.host.up then
    { s with host := { s.host with sends := s.host.sends ++
      [s.blpHead m.type (decide (stream = 3)).toNat stream m.seq m.data.length ++ m.data] } }
  else s

/-- R439: the next SEQ expected on a host stream goes back to it, without payload and SEQ. DESIGN CHOICE (notes/assumptions/147.md): such a
message has the TYPE of the one it answers. -/
def State.ackOnly (s : State) (stream type : Nat) : State :=
  if s.host.up then { s with host := { s.host with sends := s.host.sends ++ [s.blpHead type 2 stream 0 0] } } else s

/-- Send a message on a device stream; it is kept until acknowledged. -/
def State.send (s : State) (stream type : Nat) (data : List Byte) : State :=
  let d := s.devOut.get {} stream
  let m : Msg := { seq := d.seq, type := type, data := data, sent := s.mtime.toNat }
  { s with devOut := s.devOut.set stream { seq := d.seq + 1, unacked := d.unacked ++ [m] } }.wire stream m

/-- R353: the fields of a fault record that vary. -/
structure FaultInfo where
  va : Nat
  launch : Nat
  asid : Nat
  cause : Nat
  access : Nat
  agent : Nat
  who : Nat
  chain : Nat := 0
  seq : Nat := 0
  deriving DecidableEq, Repr

/-- R353: the 64-byte record. -/
def FaultInfo.bytes (f : FaultInfo) (mtime : Word) : List Byte :=
  leBytes 8 f.va ++ leBytes 8 mtime.toNat ++ leBytes 4 f.launch ++ leBytes 1 f.asid ++ leBytes 1 f.cause ++
    leBytes 1 f.access ++ leBytes 1 f.agent ++ leBytes 2 f.who ++ leBytes 6 0 ++ leBytes 8 f.chain ++ leBytes 8 f.seq ++
    leBytes 16 0

/-- R353: write the record to the host fault queue, as a FAULT message on device stream 1 (R438). -/
def State.faultRecord (s : State) (f : FaultInfo) : State := s.send 1 5 (f.bytes s.mtime)

/-- A fault and a FAULT message name the same page (R441). -/
def samePage (a b : Nat) : Bool := a % 2 ^ 56 / 4096 == b % 2 ^ 56 / 4096

/-! ## Cairns (R174, R175, R432) -/

/-- The address inside a cairn's range that names a location, looking through the owner's translation page by page, and
whether that page allows both the read and the write of a save (R350). -/
def State.cairnHit (s : State) (k asid : Nat) (c : Cairn) (loc : Nat) : Option (Nat × Bool) :=
  if windowBase ≤ c.base then
    match globalName (some (dieOf k)) (some (tileOf k)) c.base with
    | some g => if g ≤ loc ∧ loc < g + c.len then some (c.base + (loc - g), true) else none
    | none => none
  else (List.range (c.len / 4096 + 2)).findSome? fun i =>
    let va := c.base / 4096 * 4096 + i * 4096 + loc % 4096
    let names := fun acc => match s.translate (dieOf k) asid va acc false with
      | .at l _ => l == loc
      | _ => false
    if c.base ≤ va ∧ va < c.base + c.len ∧ (names .read || names .write) then some (va, names .both) else none

/-- R175: the granule of a cairn that a write of a location must save first: its number and its first byte's location. -/
def State.cairnNeeds (s : State) (k asid : Nat) (c : Cairn) (loc : Nat) : Option (Nat × Nat × Nat × Bool) :=
  if c.lost then none else
  match s.cairnHit k asid c loc with
  | none => none
  | some (va, ok) =>
    let gran := (va - c.base) / 256
    if (c.saved.find? gran).isSome then none else some (gran, loc - (va - c.base) % 256, va, ok)

/-- The tasks that hold cairns: in their slots, and saved (R175: a cairn survives pre-emption). -/
def State.cairnHolders (s : State) : List (Nat × Slot) :=
  (s.slots ++ s.saved.map fun v => (v.k, v.slot)).filter fun p => !p.2.cairns.isEmpty

/-- R175: one cairn of a task saves the granule before a byte of it is written, or is lost when the reserve is empty. -/
def State.cairnSaveIn (s : State) (k n loc : Nat) (sl : Slot) : Slot × Nat :=
  match sl.cairns.find? n with
  | none => (sl, 0)
  | some c =>
    match s.cairnNeeds k sl.task.asid c loc with
    | none => (sl, 0)
    | some (gran, start, _, _) =>
      if s.cairnFree.get 0 (dieOf k) = 0 then ({ sl with cairns := sl.cairns.set n { c with lost := true } }, 0)
      else
        let bad := if (List.range 256).any fun i => s.marked (start + i) then gran :: c.bad else c.bad
        let c := { c with saved := c.saved.set gran (Memory.readBytes s.mem start 256), bad := bad }
        ({ sl with cairns := sl.cairns.set n c }, 1)

/-- The die's reserve with granules taken. -/
def State.takeReserve (s : State) (k n : Nat) : State :=
  { s with cairnFree := s.cairnFree.set (dieOf k) (s.cairnFree.get 0 (dieOf k) - n) }

/-- R175: cairn `n` of every bound task saves the granule. -/
def State.cairnSaveSlots (s : State) (n loc : Nat) : State :=
  s.slots.foldl (fun s p =>
    let r := s.cairnSaveIn p.1 n loc (s.slot p.1)
    if r.2 = 0 ∧ r.1 = s.slot p.1 then s else (s.takeReserve p.1 r.2).setSlot p.1 r.1) s

/-- R175: cairn `n` of every saved task saves the granule. -/
def State.cairnSaveSaved (s : State) (n loc : Nat) : State :=
  s.saved.zipIdx.foldl (fun s p =>
    let r := s.cairnSaveIn p.1.k n loc p.1.slot
    { s.takeReserve p.1.k r.2 with saved := s.saved.set p.2 { p.1 with slot := r.1 } }) s

/-- R432: a write whose save would fault: the cairn's holder's address space and launch, its slot, and the address. -/
def State.cairnFault (s : State) (locs : List Nat) : Option (Nat × Nat) :=
  s.cairnHolders.findSome? fun p => p.2.cairns.findSome? fun c => locs.findSome? fun loc =>
    match s.cairnNeeds p.1 p.2.task.asid c.2 loc with
    | some (_, _, va, false) => some (p.2.task.asid, va)
    | _ => none

/-- R175: every live cairn of the package saves the granule. -/
def State.cairnSave (s : State) (loc : Nat) : State :=
  [0, 1, 2, 3].foldl (fun s n => (s.cairnSaveSlots n loc).cairnSaveSaved n loc) s

/-! ## Writing memory -/

/-- R453: the marks left after a write of some bytes: a unit written whole loses its mark. -/
def marksAfter (marks : List Nat) (locs : List Nat) : List Nat :=
  marks.filter fun u => !((List.range (markSize u)).all fun i => locs.contains (u + i))

/-- Write bytes at their locations (R332, R453), without a look at cairns. -/
def State.rawLocs (s : State) (l : List (Nat × Byte)) : State :=
  { s with mem := l.foldl (fun m p => if s.brokenAt p.1 then m else Memory.write m p.1 p.2) s.mem,
           marks := if s.marks.isEmpty then [] else marksAfter s.marks (l.map Prod.fst) }

/-- Write bytes at their locations; live cairns save them first (R175). -/
def State.writeLocs (s : State) (l : List (Nat × Byte)) : State :=
  (if !s.cairnHolders.isEmpty then l.foldl (fun s p => s.cairnSave p.1) s else s).rawLocs l

/-- R453: a command writes one run piece by piece: the units that it has covered whole by now, from location `lo` up to `hi`, and that its
last `n` bytes lie in, lose their marks. -/
def State.runMarks (s : State) (lo hi n : Nat) : State :=
  { s with marks := s.marks.filter fun u => !(decide (lo ≤ u) && decide (u + markSize u ≤ hi) && decide (hi < u + markSize u + n)) }

/-- A contiguous run that lies outside every cairn (R432). -/
def State.rawRun (s : State) (a : Nat) (bs : List Byte) : State := s.rawLocs (bs.zipIdx.map fun p => (a + p.2, p.1))

/-- A contiguous run. -/
def State.writeRun (s : State) (a : Nat) (bs : List Byte) : State :=
  s.writeLocs (bs.zipIdx.map fun p => (a + p.2, p.1))

/-! ## Scopes (R331, R333) -/

/-- R332, R335: the narrowest scope of a slot that holds a location's port. -/
def portScope (k loc : Nat) : Nat :=
  if isRemote loc then 6
  else if loc < 0x800000000000 then (if loc / 0x2000000000 / 3 = dieOf k then 4 else 5)
  else
    let o := loc % 0x40000000
    if globalDie loc ≠ dieOf k then 5
    else if o < 0x8000000 then
      (if globalTile loc = some (tileOf k) then 2 else if o / 0x4000000 = tileOf k % 8 / 4 then 3 else 4)
    else if o < 0x20000000 then (if (o - 0x10000000) / 0x1000000 = tileOf k % 8 / 4 then 3 else 4)
    else 4

/-! ## Accesses and their pieces (R114, R150, R343) -/

def OpKind.isLoad : OpKind → Bool
  | .load .. => true
  | .qrd .. => true
  | _ => false
def OpKind.isStore : OpKind → Bool
  | .store .. => true
  | _ => false
def OpKind.isQrd : OpKind → Bool
  | .qrd .. => true
  | _ => false

def overlaps (a b : List (Nat × Nat)) : Bool := a.any fun p => b.any fun q => p.1 == q.1
def allKind (n : Nat) (l : List (Nat × Nat)) : Bool := l.all fun p => p.2 == n
def someKind (n : Nat) (l : List (Nat × Nat)) : Bool := l.any fun p => p.2 == n

/-- R114, R150, R343: bytes `i` and `j` of the access are single-copy atomic together: those of a scalar access aligned to its
size, and those of an aligned 8-byte unit whose bytes are all accessed. -/
def Op.joined (o : Op) (i j : Nat) : Bool :=
  let unit := fun n => o.vas.getD n 0 / 8
  i == j || (!o.kind.isQrd && !o.qwr && o.vas.headD 0 % max 1 o.vas.length == 0) ||
    (unit i == unit j && (o.vas.filter fun va => va / 8 == unit i).length == 8)

/-- The piece of the access that its byte `i` belongs to, if it is not done: the places of its bytes. -/
def Op.piece (o : Op) (i : Nat) : List Nat :=
  if i < o.kind.locs.length ∧ (o.got.find? i).isNone then (List.range o.kind.locs.length).filter fun j => o.joined i j else []

/-- The locations of some bytes of the access, with their ordering kinds. -/
def Op.locsAt (o : Op) (is : List Nat) : List (Nat × Nat) := is.map fun i => o.kind.locs.getD i (0, 0)

/-- The bytes not yet satisfied or performed. -/
def Op.left (o : Op) : List (Nat × Nat) := o.leftAt.map Prod.fst

/-- The access after some of its bytes are satisfied or performed. -/
def Op.advance (o : Op) (is : List Nat) (bs : List Byte) : Op :=
  { o with got := (is.zip bs).foldl (fun t p => t.set p.1 p.2) o.got }

/-- Change an outstanding operation. -/
def State.setOp (s : State) (k : Nat) (o : Op) : State :=
  s.modSlot k fun sl => { sl with ops := updateWhere (fun p => p.id == o.id) (fun _ => o) sl.ops }

/-- R117, R338: a load-acquire; a STRONG load of another package's page acts as one. -/
def Op.acquires (o : Op) : Bool := match o.kind with
  | .load _ _ _ l acq => acq || (o.remote && someKind 0 l)
  | .qrd _ _ _ l => o.remote && someKind 0 l
  | _ => false
/-- R117, R338: a store-release; a STRONG store to another package's page acts as one. -/
def Op.releases (o : Op) : Bool := match o.kind with
  | .store _ _ l rel => rel || (o.remote && someKind 0 l)
  | _ => false

/-! ## When an access may be performed -/

/-- R334: access `a` comes before access `b` in program order: in one stream, or through a rendezvous, a fence or a queue. -/
def Op.comesBefore (a b : Op) : Bool := decide (a.id < b.id) && (a.x == b.x || decide (a.id < b.after.get 0 a.x))

/-- R336, R337: the newest earlier store of the slot that shares a byte with the bytes `p` of load `b`. -/
def Slot.newestStore (sl : Slot) (b : Op) (p : List (Nat × Nat)) : Option Op :=
  (sl.ops.filter fun a => decide (a.id < b.id) && a.kind.isStore && overlaps a.left p).getLast?

/-- R336: the store whose value a load may take before the store is performed: the newest, when it covers the bytes whole. -/
def Slot.forwarder (sl : Slot) (b : Op) (p : List (Nat × Nat)) : Option Op :=
  if b.kind.isLoad then (sl.newestStore b p).filter fun a => p.all fun q => a.left.any fun l => l.1 == q.1 else none

/-- Earlier access `a` of the slot holds back the bytes `p` of access `b` (R117, R336-R338); `fwd` says that `b` takes a
pending store's value, which a STRONG load may not before the store is performed (R338). The slot is one agent, which reads no
value older than one it has written or read (R337). -/
def Op.holdsBack (a b : Op) (p : List (Nat × Nat)) (fwd : Bool) : Bool :=
  let la := a.left
  decide (a.id < b.id) && !a.done && (
    (a.acquires && !allKind 2 la && !allKind 2 p) ||
    (b.releases && !allKind 2 la && !allKind 2 p) ||
    (overlaps la p && (a.comesBefore b || (a.kind.isStore && (b.kind.isLoad || b.kind.isStore))) &&
      !(fwd && a.kind.isStore && !someKind 0 p)) ||
    (a.comesBefore b && a.kind.isLoad && b.kind.isStore && !la.isEmpty) ||
    (a.comesBefore b && someKind 0 la && someKind 0 p))

/-- R257: the word of the operation can still trap late: another package may refuse it, or it is a QRD, or a QWR that waits
for service. -/
def Op.canTrap (o : Op) : Bool := !o.done && (o.remote || o.kind.isQrd || o.fault.isSome)

/-- R257: the operation's word issued after one that can still trap late, and its memory writes are held. -/
def Slot.provisional (sl : Slot) (now : Nat) : Bool := sl.ops.any fun a => a.canTrap && decide (a.at_ < now)

/-- A fence orders the byte: FENCE.SC every page kind, the others not those of UNORDERED pages (R148, R168). -/
def fenced (kind : Nat) (p : Nat × Nat) : Bool := kind == 2 || p.2 != 2

/-- R333: a byte whose port lies outside the scope is performed at the scope once it has crossed its boundary. -/
def outside (k scope : Nat) (p : Nat × Nat) : Bool := decide (scope < portScope k p.1)

/-- An operation that a fence of kind 0 ACQ, 1 REL, 2 SC still waits for: a tl-class word, an access that has yet to be translated,
or one with a byte left that the fence orders inside its scope. A piece of an access follows its own page (R343). -/
def Op.awaited (o : Op) (k kind scope : Nat) : Bool :=
  !o.done && o.kind != .null && (kind != 0 || o.kind.isLoad) && (o.kind != .unit || (kind != 0 && o.cls == 3)) &&
    (o.kind.locs.isEmpty || o.left.any fun p => fenced kind p && !outside k scope p)

/-- R148: a copy command that slot `k` has issued before number `upto` has destination bytes still to be performed; FENCE.SC
(`loose`) looks at UNORDERED pages too. -/
def State.slotJobs (s : State) (k upto : Nat) (loose : Bool) : Bool := s.taskJobs (s.slot k).task.loc upto loose

/-- R168: a fence waits for the operation; one that stands for a copy command is waited for as that (`taskJobs`). -/
def State.awaits (s : State) (k : Nat) (o : Op) (kind scope : Nat) : Bool :=
  o.awaited k kind scope && !(o.kind == .unit && (s.jobs.find? o.id).isSome)

/-- R168: a FENCE.REL that has issued still waits for what it orders before the accesses and copies numbered from `id` on. -/
def State.releaseHolds (s : State) (k : Nat) (sl : Slot) (id : Nat) : Bool :=
  sl.rels.any fun r => decide (r.2 ≤ id) &&
    ((sl.ops.any fun a => decide (a.id < r.2) && s.awaits k a 1 r.1) || s.taskJobs sl.task.loc r.2 false)

/-- The bytes of access `b` wait for earlier accesses of the slot. -/
def State.heldBack (s : State) (k : Nat) (b : Op) (p : List (Nat × Nat)) : Bool :=
  let sl := s.slot k
  let fwd := (sl.forwarder b p).isSome
  (sl.ops.any fun a => a.holdsBack b p fwd) ||
    (b.kind.isStore && (sl.provisional b.at_ || (!allKind 2 p && s.releaseHolds k sl b.id)))

/-- R333: a byte of the access is ahead of a request to these locations: it lies in the same 64-byte granule and has crossed the
scope's boundary, before `at_` if the request has crossed too. -/
def State.ahead (s : State) (a : Op) (scope : Nat) (at_ : Option Nat) (locs : List Nat) : Bool :=
  a.leftAt.any fun x => (locs.any fun y => x.1.1 / 64 == y / 64) &&
    (s.crossedAt a.id x.2 scope).any fun n => at_.all fun m => decide (n < m)

/-- R333: an access of an engine waits behind those that have crossed first. `scope j` is the narrowest scope that holds slot `j` and
the engine. -/
def State.crossedBefore (s : State) (scope : Nat → Nat) (locs : List Nat) : Bool :=
  s.slots.any fun p => p.2.ops.any fun a => s.ahead a (scope p.1) none locs

/-- R333: access `a` of slot `j` is ahead of byte `i` of access `b` of slot `k`. -/
def State.opAhead (s : State) (j : Nat) (a : Op) (k : Nat) (b : Op) (i : Nat) : Bool :=
  (j != k || a.id != b.id) &&
    s.ahead a (scopeOfSlots j k) (s.crossedAt b.id i (scopeOfSlots j k)) [(b.kind.locs.getD i (0, 0)).1]

/-- R333: a request of a slot waits behind those of the scope's agents, its own slot's among them, that have crossed first. -/
def State.crossedAhead (s : State) (k : Nat) (b : Op) (is : List Nat) : Bool :=
  s.slots.any fun j => j.2.ops.any fun a => is.any fun i => s.opAhead j.1 a k b i

/-- The bytes `is` of the access may be satisfied or performed now. A load that takes a pending store's value sends no
request. -/
def State.mayPerform (s : State) (k : Nat) (b : Op) (is : List Nat) : Bool :=
  let p := b.locsAt is
  !is.isEmpty && !b.done && b.stuck.isNone && b.fault.isNone && !s.heldBack k b p &&
    (((s.slot k).forwarder b p).isSome || !s.crossedAhead k b is)

/-- The bytes of the slot's accesses that a fence orders and lets stand outside its scope, as their operations and places. -/
def State.lateBytes (s : State) (k kind scope : Nat) : List (Nat × Nat) :=
  (s.slot k).ops.flatMap fun o =>
    if o.done || (kind == 0 && !o.kind.isLoad) then []
    else (o.leftAt.filter fun p => fenced kind p.1 && outside k scope p.1).map fun p => (o.id, p.2)

/-- R333: what must cross a scope's boundary with the bytes that cross it, as slots and accesses: what holds them back in their own
slots, and what is ahead of them already in a narrower scope. The number bounds how far back that goes. -/
def State.crossWith (s : State) (scope : Nat) : Nat → List (Nat × Op) → List (Nat × Op)
  | 0, l => l
  | n + 1, l =>
    let more := s.slots.flatMap fun j => (j.2.ops.filter fun a => !a.done && !(l.any fun b => b.1 == j.1 && b.2.id == a.id) &&
      l.any fun b => if b.1 == j.1 then a.holdsBack b.2 b.2.left false
        else decide (scopeOfSlots j.1 b.1 ≤ scope) && (List.range b.2.kind.locs.length).any fun i => s.opAhead j.1 a b.1 b.2 i).map
          fun a => (j.1, a)
    if more.isEmpty then l else s.crossWith scope n (l ++ more)

/-- The accesses of slot `k` with a byte that a fence lets stand outside its scope, and all that crosses its boundary with them. -/
def State.crossers (s : State) (k kind scope : Nat) : List (Nat × Op) :=
  let ids := (s.lateBytes k kind scope).map Prod.fst
  s.crossWith scope ((s.slots.map fun p => p.2.ops.length).sum + 1)
    (((s.slot k).ops.filter fun o => ids.contains o.id).map fun o => (k, o))

/-- R333: the bytes of slot `j`'s access cross the boundary of every scope up to this one that their ports lie outside of. -/
def State.crosses (s : State) (j : Nat) (o : Op) (scope stamp : Nat) : List Crossing :=
  o.leftAt.flatMap fun p => ((List.range (scope + 1)).filter fun c => outside j c p.1 && (s.crossedAt o.id p.2 c).isNone).map
    fun c => { op := o.id, place := p.2, scope := c, stamp := stamp }

/-- R333: as a fence is satisfied, the bytes it lets stand outside its scope have crossed its boundary. Those of accesses that are done
are kept no longer. -/
def State.crossOut (s : State) (k kind scope : Nat) : State :=
  let stamp := (s.crossings.map Crossing.stamp).foldl max 0 + 1
  let late := s.lateBytes k kind scope
  let new := (s.crossers k kind scope).flatMap fun p =>
    let l := s.crosses p.1 p.2 scope stamp
    if p.1 == k then l.filter fun c => late.contains (c.op, c.place) || !(late.any fun b => b.1 == c.op) else l
  let live := s.crossings.filter fun c => s.slots.any fun p => p.2.ops.any fun o => o.id == c.op
  { s with crossings := live ++ new }

/-! ## Results of accesses -/

/-- The bytes that the places `is` of a load read: a pending store's, another package's as they came back, or memory's. -/
def State.loadBytes (s : State) (k : Nat) (b : Op) (is : List Nat) (remote : List Byte) : List Byte :=
  let p := b.locsAt is
  match (s.slot k).forwarder b p with
  | some a => match a.kind with
    | .store _ bs ls _ => p.map fun q =>
        match (ls.zip bs).find? fun r => r.1.1 == q.1 with
        | some r => r.2
        | none => 0
    | _ => []
  | none => if b.remote then remote else p.map fun q => Memory.read s.mem q.1

/-- The bytes of an access that is complete, in their order. -/
def Op.gotBytes (o : Op) : List Byte := (List.range o.kind.locs.length).map fun i => o.got.get 0 i

/-- Every byte of the access is satisfied or performed. -/
def Op.whole (o : Op) : Bool := o.left.isEmpty

/-- R111: the value a load writes. -/
def loadValue (bs : List Byte) (sgn : Bool) : Word :=
  let v := leNat bs
  if sgn && decide (2 ^ (8 * bs.length) ≤ 2 * v) then BitVec.ofInt 64 ((v : Int) - 2 ^ (8 * bs.length))
  else BitVec.ofNat 64 v

/-- R150: the entry of a QRD: the bytes of its active lanes, in ascending order, and zero elsewhere. -/
def qrdEntry (mask : Lanes) (bs : List Byte) : Entry :=
  let idx := (List.range 128).filter fun j => mask.getLsbD j
  BitVec.ofNat 1024 ((idx.zip bs).foldl (fun n p => n + p.2.toNat * 2 ^ (8 * p.1)) 0)

/-- Bytes of an entry. -/
def entryByte (e : Entry) (j : Nat) : Byte := e.extractLsb' (8 * j) 8

/-- The register a load writes, as writes are noted: none for s0 (R27). -/
def OpKind.writes : OpKind → List Nat
  | .load d _ _ _ _ => if d = 0 then [] else [d.toNat]
  | _ => []

/-- R244: what stream `x` writes in this cycle is not overtaken by a write of an earlier stream, and no word of the cycle has read it
as an earlier write of the cycle left it. -/
def State.landsInTurn (s : State) (k x : Nat) (rs : List Nat) : Bool :=
  (s.slot k).exposed ||
    !((s.issued ++ s.landed).any fun e => e.1 == k && decide (x < e.2)) && !(rs.any (s.slot k).seen.contains)

/-- A result of an access lands: at once in guarded mode, at its latency in exposed mode (R116, R255); the counter returns
with it. -/
def State.landAccess (s : State) (k : Nat) (b : Op) (e : PendEff) : State :=
  let sl := s.slot k
  if sl.exposed && decide (sl.cycle < b.due) then
    s.setSlot k { sl with ops := updateWhere (fun o => o.id == b.id) (fun o => { o with done := true }) sl.ops,
                          pend := sl.pend ++ [{ due := b.due, x := b.x, eff := e }] }
  else { (s.land k e).modSlot k fun sl => { sl with wrote := sl.wrote ++ b.kind.writes } with landed := s.landed ++ [(k, b.x)] }

/-! ## A slot's accesses at issue -/

/-- What the bytes of an access name together: the first refused byte, else the first that faults, else its locations
(R113, R118, R150). -/
inductive Reach where
  | ok (locs : List (Nat × Nat))
  | hole (va : Nat)
  | fault (va cause : Nat)
  deriving DecidableEq, Repr

/-- Bytes by what each of them names. -/
def reachBy (f : Nat → Place) (vas : List Nat) : Reach :=
  let ps := vas.map fun va => (va, f va)
  match ps.find? fun p => p.2 == .hole with
  | some p => .hole p.1
  | none =>
    match ps.findSome? fun p => match p.2 with
        | .fault c => some (p.1, c)
        | _ => none with
    | some (va, c) => .fault va c
    | none => .ok (ps.filterMap fun p => match p.2 with
        | .at l n => some (l, n)
        | _ => none)

def State.reach (s : State) (who : Who) (parts : Part → Bool) (acc : Acc) (vas : List Nat) : Reach :=
  reachBy (s.place who parts acc false) vas

/-- The bytes of an access, with bits 63:56 of the address ignored (R83, R112). -/
def spanOf (ea n : Nat) : List Nat := (List.range n).map fun i => (ea + i) % 2 ^ 56

/-- Bring the translations of an access into the die's unit. -/
def State.touchAll (s : State) (die asid : Nat) (vas : List Nat) : State :=
  (vas.map fun va => va / 4096 * 4096).eraseDups.foldl (fun s va => s.touch die asid va) s

/-- R353, R356: a slot's word that meets a translation fault at `va` sends the record; its stream then waits for service
or, without the launch's fault service, the word traps with `aux`. -/
def State.slotFault (s : State) (k x va cause : Nat) (write : Bool) (aux : Word) : WRes :=
  let sl := s.slot k
  let t := s.faultRecord { va := va, launch := sl.task.launch, asid := sl.task.asid, cause := cause,
                           access := if write then 1 else 0, agent := 0, who := k }
  if sl.task.fsvc then .wait (t.modSlot k fun sl => sl.modStream x fun st => { st with wait := some (.fault va write) })
  else .trapIn t 7 aux

end Sys2Proof.Machine
end

