-- ==== Sys2Proof/Machine/ScalarMem.lean ====
section
/-! DEFINITION. Sys2Proof/Machine/ScalarMem.lean: scalar loads and stores, decoupled reads and writes, and the events that
end them (R111-R118, R149-R151, R454). -/

namespace Sys2Proof.Machine

/-! ## Issue -/

/-- Add an outstanding operation under the next number. -/
def State.addOp (s : State) (k : Nat) (o : Nat → Op) : State :=
  { s.modSlot k fun sl => sl.addOp (o s.nextId) with nextId := s.nextId + 1 }

/-- R112: the effective address. -/
def scalarEa (v : View) (a : BitVec 5) (i : BitVec 9) (size : Nat) : Nat :=
  addr56 (v.reg a + imm9 i * BitVec.ofNat 64 size)

/-- R118, R151: the first byte read from memory whose unit carries the mark of an uncorrectable error; a byte that a pending
store of the slot writes is not read there (R336, R337). -/
def State.firstMarked (s : State) (k : Nat) (vas : List Nat) (locs : List (Nat × Nat)) : Option Nat :=
  let written := fun l : Nat => (s.slot k).ops.any fun a => a.kind.isStore && a.left.any fun q => q.1 == l
  ((vas.zip locs).find? fun p => s.marked p.2.1 && !written p.2.1).map Prod.fst

/-- R111-R118: a scalar load takes ld and waits for its data. Its data-fault is precise at issue, since R257 names no late
trap for it. DESIGN CHOICE (notes/assumptions/112.md): of several traps that one LDA.D would raise, alignment comes first. -/
def loadWord (k x : Nat) (s : State) (v : View) (d a : BitVec 5) (i : BitVec 9) (size : Nat) (sgn acq : Bool) : WRes :=
  let ea := scalarEa v a i size
  let aux := BitVec.ofNat 64 ea
  if acq && ea % 8 != 0 then .trap 6 aux
  else
    let vas := spanOf ea size
    let s := s.touchAll (dieOf k) (s.slot k).task.asid vas
    match s.reach (s.slotWho k) coreParts .read vas with
    | .hole _ => .trap 5 aux
    | .fault va c => s.slotFault k x va c false aux
    | .ok locs => match s.firstMarked k vas locs with
      | some va => .trap 8 (BitVec.ofNat 64 (va / 8 * 8))
      | none => .done (s.addOp k fun id =>
          { id := id, cls := 0, x := x, kind := .load d sgn ea locs acq, due := (s.slot k).cycle + 6,
            remote := locs.any fun p => isRemote p.1, vas := vas })

/-- R111-R118: a scalar store takes st and waits to be performed. DESIGN CHOICE (notes/assumptions/112.md): of several traps that one STL.D would
raise, alignment comes first. -/
def storeWord (k x : Nat) (s : State) (v : View) (d a : BitVec 5) (i : BitVec 9) (size : Nat) (rel : Bool) : WRes :=
  let ea := scalarEa v a i size
  let aux := BitVec.ofNat 64 ea
  if rel && ea % 8 != 0 then .trap 6 aux
  else
    let vas := spanOf ea size
    let s := s.touchAll (dieOf k) (s.slot k).task.asid vas
    match s.reach (s.slotWho k) coreParts .write vas with
    | .hole _ => .trap 5 aux
    | .fault va c => s.slotFault k x va c true aux
    | .ok locs => .done (s.addOp k fun id =>
        { id := id, cls := 1, x := x, kind := .store ea (leBytes size (v.reg d).toNat) locs rel, due := 0,
          remote := locs.any fun p => isRemote p.1, vas := vas })

/-- LD_B (R111): Loads a sign-extended byte. -/
def execLdB (h : Hdr) (d a : BitVec 5) (i : BitVec 9) (s : State) : Out :=
  .next (s.issueCore (.ldB h d a i) h 1 fun k x s v => loadWord k x s v d a i 1 true false)

/-- LD_BN (R111): Loads a zero-extended byte. -/
def execLdBn (h : Hdr) (d a : BitVec 5) (i : BitVec 9) (s : State) : Out :=
  .next (s.issueCore (.ldBn h d a i) h 1 fun k x s v => loadWord k x s v d a i 1 false false)

/-- LD_H (R111): Loads a sign-extended halfword. -/
def execLdH (h : Hdr) (d a : BitVec 5) (i : BitVec 9) (s : State) : Out :=
  .next (s.issueCore (.ldH h d a i) h 1 fun k x s v => loadWord k x s v d a i 2 true false)

/-- LD_HN (R111): Loads a zero-extended halfword. -/
def execLdHn (h : Hdr) (d a : BitVec 5) (i : BitVec 9) (s : State) : Out :=
  .next (s.issueCore (.ldHn h d a i) h 1 fun k x s v => loadWord k x s v d a i 2 false false)

/-- LD_W (R111): Loads a sign-extended word. -/
def execLdW (h : Hdr) (d a : BitVec 5) (i : BitVec 9) (s : State) : Out :=
  .next (s.issueCore (.ldW h d a i) h 1 fun k x s v => loadWord k x s v d a i 4 true false)

/-- LD_WN (R111): Loads a zero-extended word. -/
def execLdWn (h : Hdr) (d a : BitVec 5) (i : BitVec 9) (s : State) : Out :=
  .next (s.issueCore (.ldWn h d a i) h 1 fun k x s v => loadWord k x s v d a i 4 false false)

/-- LD_D (R111): Loads a doubleword. -/
def execLdD (h : Hdr) (d a : BitVec 5) (i : BitVec 9) (s : State) : Out :=
  .next (s.issueCore (.ldD h d a i) h 1 fun k x s v => loadWord k x s v d a i 8 false false)

/-- ST_B (R111): Stores a byte. -/
def execStB (h : Hdr) (d a : BitVec 5) (i : BitVec 9) (s : State) : Out :=
  .next (s.issueCore (.stB h d a i) h 1 fun k x s v => storeWord k x s v d a i 1 false)

/-- ST_H (R111): Stores a halfword. -/
def execStH (h : Hdr) (d a : BitVec 5) (i : BitVec 9) (s : State) : Out :=
  .next (s.issueCore (.stH h d a i) h 1 fun k x s v => storeWord k x s v d a i 2 false)

/-- ST_W (R111): Stores a word. -/
def execStW (h : Hdr) (d a : BitVec 5) (i : BitVec 9) (s : State) : Out :=
  .next (s.issueCore (.stW h d a i) h 1 fun k x s v => storeWord k x s v d a i 4 false)

/-- ST_D (R111): Stores a doubleword. -/
def execStD (h : Hdr) (d a : BitVec 5) (i : BitVec 9) (s : State) : Out :=
  .next (s.issueCore (.stD h d a i) h 1 fun k x s v => storeWord k x s v d a i 8 false)

/-- LDA_D (R117): Aligned load-acquire of a doubleword at system scope. -/
def execLdaD (h : Hdr) (d a : BitVec 5) (i : BitVec 9) (s : State) : Out :=
  .next (s.issueCore (.ldaD h d a i) h 1 fun k x s v => loadWord k x s v d a i 8 false true)

/-- STL_D (R117): Aligned store-release of a doubleword at system scope. -/
def execStlD (h : Hdr) (d a : BitVec 5) (i : BitVec 9) (s : State) : Out :=
  .next (s.issueCore (.stlD h d a i) h 1 fun k x s v => storeWord k x s v d a i 8 true)

/-! ## Decoupled reads and writes -/

/-- R150: the addresses of the active bytes. -/
def laneAddrs (ea : Nat) (m : Lanes) : List Nat :=
  ((List.range 128).filter fun j => m.getLsbD j).map fun j => (ea + j) % 2 ^ 56

/-- R151, R257: a trap known at issue that is taken where the entry would land; the words of later cycles, which would be
squashed, do not issue. -/
def State.lateTrap (s : State) (k x lat cause : Nat) (aux : Word) : State :=
  s.modSlot k fun sl =>
    let st := sl.stream x
    let t : LateTrap := { due := sl.cycle + (if sl.exposed then lat else 0), x := x, cause := cause, aux := aux,
                          at_ := s.slotClock k, ctl := st.ctl, rv := st.rvCount }
    { sl with late := sl.late ++ [t] }

/-- R353: the record of a fault that a queue-memory word meets. -/
def State.queueFault (s : State) (k va cause : Nat) (write : Bool) : State :=
  let sl := s.slot k
  s.faultRecord { va := va, launch := sl.task.launch, asid := sl.task.asid, cause := cause,
                  access := if write then 1 else 0, agent := 0, who := k }

/-- R150: QRD reserves a place and takes ld. -/
def State.qrdOp (s : State) (k x q : Nat) (m : Lanes) (ea : Nat) (vas : List Nat) (locs : List (Nat × Nat)) (fault : Option Nat) :
    State :=
  let due := (s.slot k).cycle + 8
  let t := s.modSlot k fun sl => sl.setQueue q (sl.queue q ++ [{ op := s.nextId, val := none, due := if sl.exposed then due else 0 }])
  t.addOp k fun id => { id := id, cls := 0, x := x, kind := .qrd q m ea locs, due := due,
                        remote := locs.any fun p => isRemote p.1, vas := vas, fault := fault }

/-- R150, R151: QRD reserves a place and reads its active bytes; a translation fault is taken or serviced at its landing. -/
def qrdWord (k x : Nat) (s : State) (q : Nat) (m : Lanes) (ea : Nat) : WRes :=
  if ea % 64 != 0 then .trap 6 (BitVec.ofNat 64 ea)
  else
    let vas := laneAddrs ea m
    let s := s.touchAll (dieOf k) (s.slot k).task.asid vas
    match s.reach (s.slotWho k) coreParts .read vas with
    | .hole va => .trap 5 (BitVec.ofNat 64 va)
    | .fault va c =>
      let t := s.queueFault k va c false
      if (s.slot k).task.fsvc then .done (t.qrdOp k x q m ea vas [] (some va))
      else .done (t.lateTrap k x 8 7 (BitVec.ofNat 64 va))
    | .ok locs => .done (s.qrdOp k x q m ea vas locs none)

/-- R150: QWR takes the head entry's active bytes, and st. -/
def State.qwrOp (s : State) (k x q : Nat) (peek : Bool) (m : Lanes) (ea : Nat) (e : Entry) (vas : List Nat) (locs : List (Nat × Nat))
    (fault : Option Nat) : State :=
  let bytes := ((List.range 128).filter fun j => m.getLsbD j).map fun j => entryByte e j
  let t := if peek then s else s.modSlot k fun sl => sl.setQueue q ((sl.queue q).drop 1)
  t.addOp k fun id => { id := id, cls := 1, x := x, kind := .store ea bytes locs false, due := 0,
                        remote := locs.any fun p => isRemote p.1, vas := vas, fault := fault,
                        popped := if peek then none else some (q, e), qwr := true }

/-- R150, R151: QWR writes the active bytes of the head entry. -/
def qwrWord (k x : Nat) (s : State) (q : Nat) (peek : Bool) (m : Lanes) (ea : Nat) : WRes :=
  if ea % 64 != 0 then .trap 6 (BitVec.ofNat 64 ea)
  else
    let vas := laneAddrs ea m
    let s := s.touchAll (dieOf k) (s.slot k).task.asid vas
    match s.reach (s.slotWho k) coreParts .write vas, ((s.slot k).queue q).head? with
    | .hole va, _ => .trap 5 (BitVec.ofNat 64 va)
    | .fault va c, some { val := some e, .. } =>
      let t := s.queueFault k va c true
      if (s.slot k).task.fsvc then .done (t.qwrOp k x q peek m ea e vas [] (some va))
      else .done (t.lateTrap k x 8 7 (BitVec.ofNat 64 va))
    | .ok locs, some { val := some e, .. } => .done (s.qwrOp k x q peek m ea e vas locs none)
    | _, _ => .wait s

/-- QRD (R150): Decoupled read of a 128-byte entry into a queue at an immediate offset. -/
def execQrd (h : Hdr) (q : BitVec 4) (a : BitVec 5) (i : BitVec 9) (s : State) : Out :=
  .next (s.issueCore (.qrd h q a i) h 1 fun k x s v => qrdWord k x s q.toNat (v.lanes h.g h.n) (addr56 (v.reg a + imm9 i * 128)))

/-- QRD_S (R150): Decoupled read of a 128-byte entry at a scalar offset. -/
def execQrdS (h : Hdr) (q : BitVec 4) (a b : BitVec 5) (s : State) : Out :=
  .next (s.issueCore (.qrdS h q a b) h 1 fun k x s v => qrdWord k x s q.toNat (v.lanes h.g h.n) (addr56 (v.reg a + v.reg b)))

/-- QWR (R150): Writes the head queue entry to memory at an immediate offset. -/
def execQwr (h : Hdr) (k : Bool) (q : BitVec 4) (a : BitVec 5) (i : BitVec 9) (s : State) : Out :=
  .next (s.issueCore (.qwr h k q a i) h 1 fun kk x s v => qwrWord kk x s q.toNat k (v.lanes h.g h.n) (addr56 (v.reg a + imm9 i * 128)))

/-- QWR_S (R150): Writes the head queue entry at a scalar offset. -/
def execQwrS (h : Hdr) (k : Bool) (q : BitVec 4) (a b : BitVec 5) (s : State) : Out :=
  .next (s.issueCore (.qwrS h k q a b) h 1 fun kk x s v => qwrWord kk x s q.toNat k (v.lanes h.g h.n) (addr56 (v.reg a + v.reg b)))

/-! ## Events -/

/-- The outstanding operation an event names. -/
def Slot.findOp (sl : Slot) (id : Nat) : Option Op := sl.ops.find? fun o => o.id == id

/-- R97, R246: a trap after its word has issued is precise: the stream's control state and rendezvous count are those before its
word. -/
def Slot.trapBack (sl : Slot) (x : Nat) (c : Ctl) (rv cause : Nat) (aux : Word) (late : Bool) : Slot :=
  (sl.modStream x fun st => { st with ctl := c, rvCount := rv }).takeTrap x c.pc cause aux late

/-- The late trap that comes first: by its latency, then by the order A, V, T, M (R233). -/
def LateTrap.first : List LateTrap → Option LateTrap
  | [] => none
  | t :: l => match LateTrap.first l with
    | none => some t
    | some u => some (if t.due < u.due ∨ (t.due = u.due ∧ t.x ≤ u.x) then t else u)

/-- A late trap of the slot is taken (R128, R151, R257). The words of the same cycle that were to trap too have no effect and
raise their traps again when they issue after ERET (R233). -/
def Slot.takeLate (sl : Slot) (t : LateTrap) : Slot :=
  ({ sl with late := sl.late.filter fun u => u.x != t.x } : Slot).trapBack t.x t.ctl t.rv t.cause t.aux true

/-- R257: an outstanding access has no effect: its counter returns, its reservation is released, and an entry it popped goes
back to the head of its queue. -/
def Slot.undo (sl : Slot) (o : Op) : Slot :=
  let sl := sl.retire o.id
  let sl := match o.popped with
    | some (q, e) => sl.setQueue q ({ op := o.id, val := some e, due := 0 } :: sl.queue q)
    | none => sl
  { sl with queues := sl.queues.map fun (q : Nat × List QPlace) => (q.1, q.2.filter fun p => !(p.op == o.id && p.val.isNone)) }

/-- R257: an outstanding access traps and has no effect. -/
def Slot.refuse (sl : Slot) (o : Op) (cause : Nat) (aux : Word) (late : Bool := true) : Slot :=
  (sl.undo o).trapBack o.x o.ctl o.rv cause aux late

/-- R257: no word has issued in a later cycle, so the word of the operation may still trap. Its squashing of later words is
told the other way round: they issue once it is settled that it passes. -/
def Slot.newest (sl : Slot) (o : Op) : Bool := sl.last == some o.at_

/-- R118, R151: the first byte of a piece that comes with an uncorrectable error: the first whose unit is marked, or of another
package's the one the event says came poisoned, by its place in the access plus one (R428). Once a later word has issued, the piece
is one that was read before the error (R257). -/
def State.badByte (s : State) (k : Nat) (o : Op) (is : List Nat) : Option Nat :=
  if !(s.slot k).newest o then none
  else if o.remote then (if s.inp.b ≠ 0 ∧ is.contains (s.inp.b - 1) then o.vas[s.inp.b - 1]? else none)
  else s.firstMarked k (is.map fun i => o.vas.getD i 0) (o.locsAt is)

/-- R253, R356: a QRD or QWR that waits for service is squashed when its slot stops: its stream stands before it again. -/
def Slot.squashWaiting (sl : Slot) : Slot :=
  (sl.ops.filter fun o => o.fault.isSome).foldl (fun sl o =>
    (sl.undo o).modStream o.x fun st => { st with ctl := o.ctl, rvCount := o.rv }) sl

/-- LOAD_DATA_RETURN (R116): a load that may be performed is satisfied, piece by piece (R114); once it is whole it writes d
and returns ld. Another package's bytes come with the event. A byte with an uncorrectable error traps the word (R118). DEDUCED
(notes/assumptions/120.md): marks are looked at as a piece returns, and the event says which byte of another package came poisoned. -/
def execLoadDataReturn (s : State) : Out :=
  .next (
    let k := s.inp.unit
    match (s.slot k).findOp s.inp.id with
    | some o => match o.kind with
      | .load d sgn _ _ _ =>
        let is := o.piece s.inp.a
        if s.mayPerform k o is && (!o.remote || s.inp.data.length == is.length) && s.landsInTurn k o.x o.kind.writes then
          match s.badByte k o is with
          | some va => s.modSlot k fun sl => sl.refuse o 8 (BitVec.ofNat 64 (va / 8 * 8)) false
          | none =>
          let o := o.advance is (s.loadBytes k o is s.inp.data)
          let t := s.setOp k o
          if o.whole then t.landAccess k o (.loaded o.id d (loadValue o.gotBytes sgn)) else t
        else s
      | _ => s
    | none => s)

/-- A store's piece is performed; the whole store returns st (R115), and leaves no mark on a unit that it covers (R453). -/
def State.storeDone (s : State) (k : Nat) (o : Op) (is : List Nat) : State :=
  let o := o.advance is (is.map fun _ => 0)
  if o.whole then { s.modSlot k fun sl => sl.retire o.id with
    marks := if s.marks.isEmpty then [] else marksAfter s.marks (o.kind.locs.map Prod.fst) }
  else s.setOp k o

/-- STORE_PERFORMED (R115): a store or QWR that may be performed reaches its port, piece by piece (R114), and returns st; a
save it causes may fault first (R432). Another package's acknowledgement is the event itself. A QWR that a RETRY lets go on
is translated again first (R356). -/
def execStorePerformed (s : State) : Out :=
  .next (
    let k := s.inp.unit
    match (s.slot k).findOp s.inp.id with
    | some o => match o.kind with
      | .store ea bytes locs rel =>
        if locs.isEmpty && o.fault.isNone then
          match s.reach (s.slotWho k) coreParts .write o.vas with
          | .ok locs => s.setOp k { o with kind := .store ea bytes locs rel, remote := locs.any fun p => isRemote p.1 }
          | .fault va c => (s.queueFault k va c true).setOp k { o with fault := some va }
          | .hole va => s.modSlot k fun sl => sl.refuse o 5 (BitVec.ofNat 64 va)
        else
          let is := o.piece s.inp.a
          let ls := (o.locsAt is).map Prod.fst
          if !s.mayPerform k o is then s
          else if o.remote then s.storeDone k o is
          else match s.cairnFault ls with
            | some (a, va) =>
              let t := s.faultRecord { va := va, launch := (s.slot k).task.launch, asid := a,
                                       cause := fPermission, access := 5, agent := 0, who := k }
              t.setOp k { o with stuck := some va }
            | none => (s.writeLocs (ls.zip (is.map fun i => bytes.getD i 0))).storeDone k o is
      | _ => s
    | none => s)

/-- QRD_LANDING (R150, R151): active bytes arrive, and the whole entry lands; or the word's late trap is taken. A byte with an
uncorrectable error traps the word; once a later word has issued, it is one whose read came before the error. A QRD that a
RETRY lets go on is translated again first (R356). -/
def execQrdLanding (s : State) : Out :=
  .next (
    let k := s.inp.unit
    let sl := s.slot k
    match LateTrap.first sl.late with
    | some t => if t.due ≤ sl.cycle then s.setSlot k (sl.takeLate t) else s
    | none => match sl.findOp s.inp.id with
      | some o => match o.kind with
        | .qrd q m ea locs =>
          if locs.isEmpty && o.fault.isNone then
            match s.reach (s.slotWho k) coreParts .read o.vas with
            | .ok locs => s.setOp k { o with kind := .qrd q m ea locs, remote := locs.any fun p => isRemote p.1 }
            | .fault va c => (s.queueFault k va c false).setOp k { o with fault := some va }
            | .hole va => s.modSlot k fun sl => sl.refuse o 5 (BitVec.ofNat 64 va)
          else
            let is := o.piece s.inp.a
            if !(s.mayPerform k o is && (!o.remote || s.inp.data.length == is.length)) then s
            else match s.badByte k o is with
              | some va => s.modSlot k fun sl => sl.refuse o 8 (BitVec.ofNat 64 (va / 8 * 8))
              | none =>
                let o := o.advance is (s.loadBytes k o is s.inp.data)
                let t := s.setOp k o
                if o.whole then t.landAccess k o (.qloaded o.id q (qrdEntry m o.gotBytes)) else t
        | _ => s
      | none => s)

/-- The address an access-fault of a refused word holds (R454): the access's, or of a QRD or QWR its lowest refused byte's. -/
def OpKind.refusedAddr (o : OpKind) (lowest : Nat) (queue : Bool) : Nat :=
  match o with
  | .load _ _ ea _ _ => ea
  | .store ea _ _ _ => if queue then lowest else ea
  | .qrd .. => lowest
  | _ => 0

/-- LATE_ACCESS_REFUSAL (R454): another package refuses an unbacked address; the word has no effect and traps late (R257). The event
gives the place in the access of the lowest byte refused. -/
def execLateAccessRefusal (s : State) : Out :=
  .next (
    let k := s.inp.unit
    match (s.slot k).findOp s.inp.id with
    | some o =>
      if !o.done && (s.slot k).newest o && o.leftAt.any fun p => p.2 == s.inp.a && isRemote p.1.1 then
        s.modSlot k fun sl => sl.refuse o 5 (BitVec.ofNat 64 (o.kind.refusedAddr (o.vas.getD s.inp.a 0) o.qwr))
      else s
    | none => s)

end Sys2Proof.Machine
end

