-- ==== Sys2Proof/Machine/System.lean ====
section
/-! DEFINITION. Sys2Proof/Machine/System.lean: system registers (R32-R38, R119-R121), traps and returns (R235, R236), modes
(R173), fences and waits (R168, R169), group barriers (R170), responses (R164), cairn words (R174, R175) and landfall (R176). -/

namespace Sys2Proof.Machine

/-! ## System registers -/

/-- R35: SLOTST. -/
def Slot.slotst (sl : Slot) : Word :=
  BitVec.ofNat 64 (sl.task.role.toNat * 64 + sl.lfpend.toNat * 32 + sl.lfrun.toNat * 16 + sl.resumed.toNat * 8 + sl.exposed.toNat)

/-- R37: one group of CXSTAT. -/
def Seg.cxstat (g : Seg) : Nat :=
  g.shadow.valid.toNat * 32768 + (decide (g.mode ≠ 0)).toNat * 16384 + g.trapped.isSome.toNat * 8192 +
    g.active.valid.toNat * 4096 + g.shadow.img * 256 + g.active.img * 16

/-- R37: CXSTAT. -/
def Tile.cxstat (t : Tile) : Word :=
  let f := fun i => (t.segs.get {} i).cxstat
  BitVec.ofNat 64 (f 0 + f 1 * 65536 + f 2 * 4294967296 + f 3 * 281474976710656)

/-- R32: what GETX reads. -/
def State.readSys (s : State) (k r : Nat) : Word :=
  let sl := s.slot k
  let t := s.tile (tileOf k)
  match r with
  | 0 => BitVec.ofNat 64 k
  | 1 => sl.fpcsr
  | 2 => sl.slotst
  | 3 => BitVec.ofNat 64 sl.task.asid
  | 4 => sl.trap.causeWord
  | 5 => sl.trap.pcWord
  | 6 => sl.trap.aux
  | 8 => s.mtime
  | 9 => BitVec.ofNat 64 s.cycle
  | 10 => sl.task.deadline
  | 11 => sl.task.landfall
  | 0x20 => t.ashare
  | 0x21 => BitVec.ofNat 64 (s.agelim.get 0x400 (coreKey k))
  | 0x22 => t.cxstat
  | _ => if r < 0x20 then (t.fmt.get 0 (r - 0x10)).setWidth 64 else (sl.chans.get 0 (r - 0x40)).setWidth 64

/-- R121, R270: a value a format register refuses. -/
def fmtRefused (v : Nat) : Bool :=
  flag v 9 || fld v 24 8 != 0 || fld v 18 2 == 3 || decide (8 < fld v 8 1 + fld v 0 4 + fld v 4 4) || fld v 0 4 + fld v 4 4 == 0

/-- R32, R34, R38, R121: a value that a SETX of register `r` refuses. -/
def setxRefused (r : Nat) (v : Word) : Bool :=
  let n := v.toNat
  if r = 1 then fld n 7 3 != 0 || fld n 15 49 != 0
  else if r < 0x20 then fld n 32 32 != 0 || fmtRefused n
  else fld n 32 32 != 0 || fld n 15 15 != 0

/-! ## Fences (R148, R168) -/

/-- R341: what would cross the fence's boundary with the bytes it lets stand outside its scope is held by an earlier release. -/
def State.crossHeld (s : State) (k kind scope : Nat) : Bool :=
  (s.crossers k kind scope).any fun p => p.2.kind.isStore && s.releaseHolds p.1 (s.slot p.1) p.2.id

/-- A fence of the slot is satisfied. -/
def State.fenceClear (s : State) (k kind scope : Nat) : Bool :=
  !((s.slot k).ops.any fun o => s.awaits k o kind scope) && (kind == 0 || !s.slotJobs k s.nextId (kind == 2)) &&
    !s.crossHeld k kind scope

/-- R333: a fence has been satisfied: what it lets stand outside its scope has crossed its boundary. -/
def State.fencePassed (s : State) (k kind scope : Nat) : State :=
  { s.crossOut k kind scope with nextId := s.nextId + 1 }

/-- The stream waits at its word. -/
def State.waitAt (s : State) (k x : Nat) (w : Wait) : State := s.modSlot k fun sl => sl.modStream x fun st => { st with wait := some w }

/-- R168: FENCE. -/
def fenceWord (k x : Nat) (s : State) (kind scope : Nat) : WRes :=
  if s.fenceClear k kind scope then .done (s.fencePassed k kind scope)
  else .wait (s.waitAt k x (.fence kind scope 0))

/-- R168, R329: a FENCE.REL orders nothing before a later load: it may issue while what it orders is outstanding, and then
holds later stores and copies (R341). -/
def fenceEarly (k : Nat) (s : State) (scope : Nat) : WRes :=
  if s.crossHeld k 1 scope then .wait s else
  let t := s.fencePassed k 1 scope
  .done (t.modSlot k fun sl => { sl with rels := (sl.rels.filter fun r => !sl.ops.isEmpty || s.slotJobs k r.2 false) ++ [(scope, s.nextId)] })

/-! ## WAITC (R169) -/

def waitcMet (sl : Slot) (ld st cp tl : Nat) : Bool :=
  decide (sl.outstanding 0 ≤ ld) && decide (sl.outstanding 1 ≤ st) && decide (sl.outstanding 2 ≤ cp) && decide (sl.outstanding 3 ≤ tl)

/-- R169: WAITC. The copy-status record is looked at as soon as the cp limit is reached (R146). -/
def waitcWord (k x : Nat) (s : State) (ld st cp tl : Nat) : WRes :=
  let sl := s.slot k
  match (if sl.outstanding 2 ≤ cp then sl.copyStatus else none) with
  | some (c, off) => .trapIn (s.setSlot k { sl with copyStatus := none }) 18 (BitVec.ofNat 64 (c * 2 ^ 56 + off % 2 ^ 56))
  | none => if waitcMet sl ld st cp tl then .done s else .wait (s.waitAt k x (.waitc ld st cp tl))

/-! ## Group barriers (R170) -/

/-- The phase that a tile's next arrival counts for. -/
def Group.phaseOf (g : Group) (t : Nat) : Nat := g.arrived.get 0 t / max 1 g.count

def gbarWord (k x : Nat) (s : State) (g : Nat) (wait : Bool) : WRes :=
  let sl := s.slot k
  let pc := (sl.stream x).ctl.pc
  let came := (sl.stream x).arrived.filter fun a => a.1 == pc && a.2.1 == g
  match (s.groups.find? g).filter fun gr => gr.members.contains (tileOf k) && gr.launch == sl.task.launch && sl.task.groups.contains g with
  | none => .trap 19 (BitVec.ofNat 64 g)
  | some gr => match came with
    | some (_, _, ph) =>
      let t := s.modSlot k fun sl => sl.modStream x fun st => { st with arrived := none }
      if ph < gr.phase then .done t else .wait (s.waitAt k x .gbar)
    | none =>
      if s.fenceClear k 1 5 then
        let ph := gr.phaseOf (tileOf k)
        let gr := { gr with arrived := gr.arrived.set (tileOf k) (gr.arrived.get 0 (tileOf k) + 1) }
        let t := { s.fencePassed k 1 5 with groups := s.groups.set g gr }
        if wait then
          .wait ((t.modSlot k fun sl => sl.modStream x fun st => { st with arrived := some (pc, g, ph) }).waitAt k x .gbar)
        else .done t
      else .wait (s.waitAt k x (.fence 1 5 0))

/-- R170: the root has every arrival of the phase. -/
def Group.full (g : Group) : Bool := g.members.all fun t => decide ((g.phase + 1) * g.count ≤ g.arrived.get 0 t)

/-! ## Modes (R173, R258) -/

/-- The mode may be entered: the slot is drained, and for exposed mode no other slot of the core is exposed. -/
def State.modeReady (s : State) (k : Nat) (exposed : Bool) : Bool := (s.slot k).drained && !(exposed && s.otherExposed k)

/-- What was to come in later slot cycles, counted from a new zero. -/
def Slot.rebase (sl : Slot) : Slot :=
  { sl with
    pend := sl.pend.map fun p => { p with due := p.due - sl.cycle },
    ops := sl.ops.map fun o => { o with due := o.due - sl.cycle },
    late := sl.late.map fun t => { t with due := t.due - sl.cycle, at_ := 0 },
    queues := sl.queues.map fun (q : Nat × List QPlace) => (q.1, q.2.map fun p => { p with due := p.due - sl.cycle }) }

/-- SLOTST.EXPOSED is written; the slot cycle count starts at zero (R255). -/
def Slot.setMode (sl : Slot) (exposed : Bool) : Slot :=
  { sl.rebase with
    exposed := exposed, cycle := 0, streams := sl.streams.map fun (p : Nat × Stream) => (p.1, { p.2 with next := 1 }) }

/-- R173; inside a bundle the mode changes once the bundle has issued (R258). -/
def modeWord (k x : Nat) (s : State) (exposed : Bool) : WRes :=
  if s.modeReady k exposed then .done (if s.bundle then s else s.modSlot k fun sl => sl.setMode exposed)
  else .wait (s.waitAt k x (.mode exposed))

/-! ## Responses (R145, R164) -/

def respWord (k x : Nat) (s : State) (d : BitVec 5) (keep : Bool) : WRes :=
  let sl := s.slot k
  match sl.resp with
  | [] => .trap 11 16
  | r :: rest => match r.val with
    | none => .wait s
    | some (0, v, _) => .done ((s.setSlot k (if keep then sl else { sl with resp := rest })).commit k x 2 [.scalar d v])
    | some (st, _, a) => .trapIn (s.setSlot k { sl with resp := rest }) 8 (BitVec.ofNat 64 (st * 2 ^ 56 + a % 2 ^ 56))

/-! ## Cairns (R174, R175) -/

/-- R174: a window range lies in one cluster or die scratchpad. -/
def cairnWindow (k a n : Nat) : Bool :=
  match globalName (some (dieOf k)) (some (tileOf k)) a, globalName (some (dieOf k)) (some (tileOf k)) (a + n - 1) with
  | some g, some e => (globalPart g == some .cluster || globalPart g == some .dieScratch) && globalPart e == globalPart g &&
      e == g + (n - 1)
  | _, _ => false

/-- CAIRN.SET (R174). DESIGN CHOICE (notes/assumptions/112.md): a length out of range raises alignment with the length, and only then a
place out of range access-fault with the base. -/
def cairnSetWord (k x : Nat) (s : State) (d : BitVec 5) (base len : Word) : WRes :=
  let a := base.toNat % 2 ^ 56
  let n := len.toNat
  let sl := s.slot k
  if a % 256 != 0 then .trap 6 (addrWord base)
  else if n % 256 != 0 || n < 256 || 2 ^ 30 < n then .trap 6 len
  else if !(decide (a + n ≤ windowBase) || cairnWindow k a n) then .trap 5 (addrWord base)
  else match firstBelow 4 fun i => (sl.cairns.find? i).isNone with
    | none => .trap 20 0
    | some i =>
      if s.fenceClear k 1 5 then
        let s := s.fencePassed k 1 5
        .done ((s.modSlot k fun sl => { sl with cairns := sl.cairns.set i { base := a, len := n } }).commit k x 1
          [.scalar d (BitVec.ofNat 64 i)])
      else .wait (s.waitAt k x (.fence 1 5 0))

def cairnDropWord (k : Nat) (s : State) (n : Word) : WRes :=
  let sl := s.slot k
  match sl.cairns.find? n.toNat with
  | none => .trap 20 1
  | some c => .done ({ s with cairnFree := s.cairnFree.set (dieOf k) (s.cairnFree.get 0 (dieOf k) + c.saved.length) }.setSlot k
      { sl with cairns := sl.cairns.del n.toNat })

/-! ## Traps and returns (R235, R236) -/

/-- R427: an EVENT to the host on device stream 2 (R438). -/
def State.event (s : State) (data : List Byte) : State := s.send 2 6 data

/-- What varies in an error record (R427). -/
structure ErrInfo where
  cls : Nat
  unit : Nat
  die : Nat := 255
  tile : Nat := 255
  launch : Nat := 0
  addr : Nat := 0
  synd : Nat := 0
  deriving DecidableEq, Repr

def ErrInfo.key (e : ErrInfo) : Nat := ((e.die * 256 + e.tile) * 16 + e.unit) * 16 + e.cls

/-- R426, R427: one error is counted, and recorded when `report`. -/
def State.error (s : State) (e : ErrInfo) (report : Bool) : State :=
  let c := s.errs.get {} e.key
  let sec := s.mtime.toNat / 1000000000
  let c := { count := c.count + 1, second := sec, inSecond := if c.second = sec then c.inSecond + 1 else 1 }
  if report then
    { s with errs := s.errs.set e.key { c with count := 0 } }.event (leBytes 8 s.mtime.toNat ++ leBytes 1 e.cls ++ leBytes 1 e.unit ++
      leBytes 1 e.die ++ leBytes 1 e.tile ++ leBytes 4 e.launch ++ leBytes 8 e.addr ++ leBytes 4 c.count ++ leBytes 4 e.synd ++ leBytes 32 0)
  else { s with errs := s.errs.set e.key c }

/-- R200: the collar trap of segment `g` of tile `t` is delivered to the T stream of a slot: a late trap whose PC is the
stream's continuation. An ended T stream, and a task whose streams had all ended, go on for it. -/
def Slot.collarTrap (sl : Slot) (site t g seq : Nat) : Slot :=
  let sl := { sl.setBack with phase := .running, ending := none, collarTraps := sl.collarTraps.filter (· != 4 * t + g) }
  (sl.modStream 2 fun st => { st with ended := false }).takeTrap 2 (sl.stream 2).ctl.pc 26
    (BitVec.ofNat 64 (site + g * 256 + seq * 65536)) true

/-- The trap of a segment has been handed to its slot. -/
def State.markDelivered (s : State) (t g : Nat) : State :=
  s.modTile t fun ti =>
    let sg := ti.segs.get {} g
    { ti with segs := ti.segs.set g { sg with trapped := sg.trapped.map fun h => { h with delivered := true } } }

/-- R231: whether a further collar trap waits. -/
def State.noteCpend (s : State) (k : Nat) : State :=
  let w := (s.nextCollarTrap k).isSome
  if (s.slot k).trap.cpend = w then s else s.modSlot k fun sl => { sl with trap := { sl.trap with cpend := w } }

/-- R292: deliver the first waiting collar trap. -/
def State.deliverCollar (s : State) (k : Nat) : State :=
  match s.nextCollarTrap k with
  | some (t, g, h) => ((s.modSlot k fun sl => sl.collarTrap h.site t g h.seq).markDelivered t g).noteCpend k
  | none => s.noteCpend k

/-- R236: the control state of the returning stream. -/
def TrapSt.resume (t : TrapSt) (c : Ctl) (skip : Nat) : Ctl :=
  { c with pc := wrapPc (t.pc + skip), depth := t.depth, loops := t.held }

/-- R246: the skipped word is a rendezvous word. -/
def rvWord (w : Nat) : Bool := flag w 23

/-- R236: ERET. -/
def eretWord (k x : Nat) (s : State) (skip : Bool) : WRes :=
  let sl := s.slot k
  let t := sl.trap
  if !t.inHandler then .trap 1 (BitVec.ofNat 64 s.fetched.1)
  else if t.xsave && !s.modeReady k true then .wait (s.waitAt k x (.eret skip))
  else
    let skip := skip && t.cause != 26
    let w := s.imemWord k t.pc
    let n := if skip then (if twoWordCore w then 2 else 1) else 0
    let sl := if t.xsave then sl.setMode true else sl
    let sl := { sl with trap := { t with inHandler := false, held := [] } }
    let sl := sl.modStream x fun st =>
      { st with ctl := t.resume st.ctl n, rvCount := if skip && rvWord w then st.rvCount + 1 else st.rvCount }
    let s := s.setSlot k sl
    .stay (s.deliverCollar k)

/-- R235: BKPT. -/
def bkptWord (k x : Nat) (s : State) (n : BitVec 14) : WRes :=
  if (s.slot k).debug then
    .wait ((s.modSlot k fun sl => { sl with broke := true }).event (leBytes 8 k ++ leBytes 8 x ++ leBytes 8 n.toNat))
  else .trap 28 (n.setWidth 64)

/-! ## The words -/

/-- GETX (R119): Reads a system register into a scalar. -/
def execGetx (h : Hdr) (d : BitVec 5) (x : BitVec 14) (s : State) : Out :=
  .next (s.issueCore (.getx h d x) h 1 fun kk xx s _ => .done (s.commit kk xx 2 [.scalar d (s.readSys kk x.toNat)]))

/-- SETX (R120): Writes a system register from a scalar, with value checks. -/
def execSetx (h : Hdr) (d : BitVec 5) (x : BitVec 14) (s : State) : Out :=
  .next (s.issueCore (.setx h d x) h 1 fun kk xx s v => if setxRefused x.toNat (v.reg d) then .trap 1 (v.reg d) else .done (s.commitSys kk xx x.toNat (v.reg d)))

/-- RESP (R164): Pops the head response into a scalar. -/
def execResp (h : Hdr) (d : BitVec 5) (s : State) : Out :=
  .next (s.issueCore (.resp h d) h 1 fun kk xx s _ => respWord kk xx s d false)

/-- RESP_PK (R164): Reads the head response without popping it. -/
def execRespPk (h : Hdr) (d : BitVec 5) (s : State) : Out :=
  .next (s.issueCore (.respPk h d) h 1 fun kk xx s _ => respWord kk xx s d true)

/-- FENCE_ACQ (R168): Acquire fence at a scope. -/
def execFenceAcq (h : Hdr) (e : BitVec 3) (s : State) : Out :=
  .next (s.issueCore (.fenceAcq h e) h 1 fun kk xx s _ => fenceWord kk xx s 0 e.toNat)

/-- FENCE_REL (R168): Release fence at a scope. -/
def execFenceRel (h : Hdr) (e : BitVec 3) (s : State) : Out :=
  .next (s.issueCore (.fenceRel h e) h 1 fun kk xx s _ => fenceWord kk xx s 1 e.toNat)

/-- FENCE_SC (R168): Sequentially consistent fence at a scope, ordering every page kind. -/
def execFenceSc (h : Hdr) (e : BitVec 3) (s : State) : Out :=
  .next (s.issueCore (.fenceSc h e) h 1 fun kk xx s _ => fenceWord kk xx s 2 e.toNat)

/-- WAITC (R169): Waits until each outstanding counter is at or below its limit. -/
def execWaitc (h : Hdr) (a b c d : BitVec 4) (e : BitVec 3) (s : State) : Out :=
  .next (s.issueCore (.waitc h a b c d e) h 1 fun kk xx s _ => waitcWord kk xx s a.toNat b.toNat c.toNat d.toNat)

/-- GBAR (R170): Arrives at a group barrier and waits for completion. -/
def execGbar (h : Hdr) (m : BitVec 8) (s : State) : Out :=
  .next (s.issueCore (.gbar h m) h 1 fun kk xx s _ => gbarWord kk xx s m.toNat true)

/-- GBAR_ARR (R170): Arrives at a group barrier and continues. -/
def execGbarArr (h : Hdr) (m : BitVec 8) (s : State) : Out :=
  .next (s.issueCore (.gbarArr h m) h 1 fun kk xx s _ => gbarWord kk xx s m.toNat false)

/-- MODE_GUARDED (R173): Drains the slot and enters guarded mode. -/
def execModeGuarded (h : Grd) (s : State) : Out :=
  .next (s.issueCore (.modeGuarded h) { s := true, g := h.g, n := h.n } 1 fun kk xx s _ => modeWord kk xx s false)

/-- MODE_EXPOSED (R173): Drains the slot and enters exposed mode. -/
def execModeExposed (h : Grd) (s : State) : Out :=
  .next (s.issueCore (.modeExposed h) { s := true, g := h.g, n := h.n } 1 fun kk xx s _ => modeWord kk xx s true)

/-- CAIRN_SET (R175): Makes a cairn live over a range. -/
def execCairnSet (h : Hdr) (d a b : BitVec 5) (s : State) : Out :=
  .next (s.issueCore (.cairnSet h d a b) h 1 fun kk xx s v => cairnSetWord kk xx s d (v.reg a) (v.reg b))

/-- CAIRN_DROP (R175): Frees a cairn and its saved granules. -/
def execCairnDrop (h : Hdr) (a : BitVec 5) (s : State) : Out :=
  .next (s.issueCore (.cairnDrop h a) h 1 fun kk _ s v => cairnDropWord kk s (v.reg a))

/-- LFDONE (R176): Writes the validity word and ends the task LANDED once drained. -/
def execLfdone (h : Hdr) (d : BitVec 5) (s : State) : Out :=
  .next (s.issueCore (.lfdone h d) h 1 fun kk _ s v => if (s.slot kk).lfrun then .stay (s.modSlot kk fun sl => { sl with validity := some (v.reg d) }.beginEnding (.landed (v.reg d))) else .trap 21 0)

/-- TRAP (R235): Raises a software trap. -/
def execTrap (h : Hdr) (i : BitVec 14) (s : State) : Out :=
  .next (s.issueCore (.trap h i) h 1 fun _ _ _ _ => .trap 27 (i.setWidth 64))

/-- ERET (R236): Returns from a trap handler, optionally skipping the trapping word. -/
def execEret (h : Hdr) (k : Bool) (s : State) : Out :=
  .next (s.issueCore (.eret h k) h 1 fun kk xx s _ => eretWord kk xx s k)

/-- BKPT (R235): Stops for the debugger or raises the breakpoint trap. -/
def execBkpt (h : Hdr) (i : BitVec 14) (s : State) : Out :=
  .next (s.issueCore (.bkpt h i) h 1 fun kk xx s _ => bkptWord kk xx s i)

/-- HALTX (R235): Stops all streams and ends the task HALTED with an exit value. -/
def execHaltx (h : Hdr) (d : BitVec 5) (s : State) : Out :=
  .next (s.issueCore (.haltx h d) h 1 fun kk _ s v => .stay (s.modSlot kk fun sl => sl.beginEnding (.haltx ((v.reg d).setWidth 32))))


/-- GBAR_PHASE_COMPLETE (R170): the root has every arrival and completion is broadcast to members. -/
def execGbarPhaseComplete (s : State) : Out :=
  .next (match s.groups.find? s.inp.unit with
    | some g => if g.full then { s with groups := s.groups.set s.inp.unit { g with phase := g.phase + 1 } } else s
    | none => s)

/-- The stream the event names, as the agent at hand. -/
def State.atStream (s : State) : State :=
  { s with cur := .stream s.inp.unit s.inp.x, fetched := s.streamWords s.inp.unit s.inp.x }

/-- WAITC_COMPLETE (R169): a waiting WAITC finds its limits met and completes or raises copy-status. -/
def execWaitcComplete (s : State) : Out :=
  match ((s.slot s.inp.unit).stream s.inp.x).wait, s.streamNext s.inp.unit s.inp.x with
  | some (.waitc ..), some (.waitc h a b c d e) => execWaitc h a b c d e s.atStream
  | _, _ => .next s

/-- FENCE_COMPLETE (R168): a waiting fence's earlier accesses are performed and it completes; a FENCE.REL may issue before
that, and then holds later stores and copies. -/
def execFenceComplete (s : State) : Out :=
  match ((s.slot s.inp.unit).stream s.inp.x).wait, s.streamNext s.inp.unit s.inp.x with
  | some (.fence ..), some (.fenceAcq h e) => execFenceAcq h e s.atStream
  | some (.fence ..), some (.fenceRel h e) =>
    if s.inp.a = 0 then execFenceRel h e s.atStream
    else .next (s.atStream.issueCore (.fenceRel h e) h 1 fun kk _ s _ => fenceEarly kk s e.toNat)
  | some (.fence ..), some (.fenceSc h e) => execFenceSc h e s.atStream
  | _, _ => .next s

end Sys2Proof.Machine
end

