-- ==== Sys2Proof/Machine/Records.lean ====
section
/-! DEFINITION. Sys2Proof/Machine/Records.lean: task records (R377-R380), the die ready queues, and what a launch counts
(R384, R385, R389). A record is named by the location of its first byte when it was placed. -/

namespace Sys2Proof.Machine

/-! ## Fields of a record (R377) -/

/-- A little-endian field of bytes. -/
def bytesAt (l : List Byte) (off n : Nat) : Nat := leNat ((l.drop off).take n)

/-- A field of the record at a location; what another package holds is the machine's choice. -/
def State.recField (s : State) (loc off n : Nat) : Nat :=
  if isRemote loc then leNat ((List.range n).map fun i => Config.remoteByte s.fresh (loc + off + i)) else Memory.readLe s.mem (loc + off) n
def State.recWrite (s : State) (loc off n v : Nat) : State :=
  if isRemote loc then s.sendFar none (loc + off) (leBytes n v) else s.writeRun (loc + off) (leBytes n v)

def State.recStatus (s : State) (loc : Nat) : Nat := s.recField loc 58 1
def State.recLaunch (s : State) (loc : Nat) : Nat := s.recField loc 44 4
def State.recAsid (s : State) (loc : Nat) : Nat := s.recField loc 48 1
def State.recPlace (s : State) (loc : Nat) : Nat := s.recField loc 50 2
/-- The die that PLACE names. -/
def State.recDie (s : State) (loc : Nat) : Nat := fld (s.recPlace loc) 11 3

/-- R378: a record is refused; `rd` reads a field of it. -/
def recordRefused (rd : Nat → Nat → Nat) : Bool :=
  let place := rd 50 2
  fld (rd 49 1) 0 2 == 3 || fld (rd 49 1) 2 6 != 0 ||
    decide (1 < fld place 14 2) || fld place 2 6 != 0 || fld place 0 2 == 3 ||
    ([0, 2, 4, 6].any fun o => flag (rd o 2) 15) ||
    fld (rd 56 1) 4 4 != 0 || rd 57 1 != 0 || rd 59 1 != 0

/-- R382: PLACE allows slot `k`. -/
def State.recAllows (s : State) (loc k : Nat) : Bool :=
  let p := s.recPlace loc
  let tile := fld p 8 6
  (if fld p 14 2 = 0 then tile == tileOf k else tile / 8 == dieOf k) && (fld p 0 2 == 2 || fld p 0 2 == coreOf k)

/-! ## The ready queues (R380) -/

def State.queueOf (s : State) (d : Nat) : List ReadyRec := s.ready.get [] d

/-- R380, R430: place a record, whose fields `rd` reads, on the ready queue that it names. A record that stands on any queue is not placed
again, but a cancellation marks it; a record that has run or been cancelled is dropped. -/
def State.placeBy (s : State) (rd : Nat → Nat → Nat) (loc va asid : Nat) (cancel : Bool) : State :=
  let d := fld (rd 50 2) 11 3
  let here := fun r : ReadyRec => r.loc == loc
  let gone := recordRefused rd || (fld (rd 50 2) 14 2 == 0 && s.boot.absent.contains (fld (rd 50 2) 8 6))
  if rd 58 1 ≠ 0xFF then s
  else if s.ready.any fun p => p.2.any here then
    if cancel then
      { s with ready := s.ready.map fun (p : Nat × List ReadyRec) => (p.1, updateWhere here (fun r => { r with cancel := true }) p.2) }
    else s
  else { s with ready := s.ready.set d (s.queueOf d ++ [{ loc := loc, va := va, asid := asid, cancel := cancel || gone }]) }

/-- A record is placed as its place holds it. -/
def State.placeRecord (s : State) (loc va asid : Nat) (cancel : Bool) : State := s.placeBy (s.recField loc) loc va asid cancel

/-- R352: where the address of a placed record leads now, for the pilot of a die; a record in a window stands at its global name. -/
def State.recordNow (s : State) (die va asid loc : Nat) : Option Nat :=
  match s.place { die := none, tile := none, unit := die, asid := asid } copyParts .both false (if windowBase ≤ va then loc else va) with
  | .at l _ => some l
  | _ => none

/-- A saved or parked record goes back to its ready queue (R383, R404), at the head for landfall (R413). -/
def State.placeSaved (s : State) (loc va asid : Nat) (landfall : Bool) : State :=
  let d := s.recDie loc
  let r : ReadyRec := { loc := loc, va := va, asid := asid, landfall := landfall, restore := true }
  let l := (s.queueOf d).filter fun e => e.loc != loc
  { s with ready := s.ready.set d (if landfall then r :: l else l ++ [r]) }

def State.unqueue (s : State) (loc : Nat) : State :=
  { s with ready := s.ready.map fun (p : Nat × List ReadyRec) => (p.1, p.2.filter fun r => r.loc != loc) }

/-- R380: what an add to DEP, from `old` to `new` as 32-bit signed values, does to the record that holds it. -/
def State.depEffect (s : State) (loc va asid : Nat) (old new : Int) : State :=
  if old ≠ 0 ∧ new = 0 then s.placeRecord loc va asid false
  else if -(2 ^ 30 : Int) < old ∧ new ≤ -(2 ^ 30 : Int) then s.placeRecord loc va asid true
  else s

/-! ## Launches (R385) -/

def State.launch (s : State) (n : Nat) : Launch := s.launches.get {} n
def State.modLaunch (s : State) (n : Nat) (f : Launch → Launch) : State :=
  match s.launches.find? n with
  | some l => { s with launches := s.launches.set n (f l) }
  | none => s

/-- R385: the smallest nonzero code stands. -/
def worse (a b : Nat) : Nat := if a = 0 then b else if b = 0 then a else min a b

def State.raiseCensus (s : State) (n k : Nat) : State := s.modLaunch n fun l => { l with census := l.census + k }
/-- An item of the launch ends with a code. -/
def State.lowerCensus (s : State) (n code : Nat) : State :=
  s.modLaunch n fun l => { l with census := l.census - 1, status := worse l.status code }

/-- Who an ONABORT add goes out for. -/
def Owed.who (o : Owed) : Who := { die := some o.die, tile := o.tile, unit := o.die, asid := o.asid }

/-- R331, R333: a pilot's accesses to these locations stay behind those of the slots of a scope that have crossed it first. -/
def State.pilotWaits (s : State) (d : Nat) (locs : List Nat) : Bool := s.crossedBefore (fun k => scopeOfDie k d) locs

/-- R389: −2^31 is added to the signal, and then the census item falls. A translation fault, or a save that would meet one, is recorded
(R353, R432), and the add and the item wait for service (R355). -/
def State.owe (s : State) (o : Owed) : State :=
  let less := leBytes 8 (2 ^ 64 - 2 ^ 31)
  let waits := fun va asid cause acc =>
    let t := s.faultRecord { va := va, launch := o.launch, asid := asid, cause := cause, access := acc, agent := 0, who := o.k }
    { t with owed := t.owed ++ [{ o with wait := va }] }
  if o.signal = 0 then s.lowerCensus o.launch o.code
  else match s.reach o.who copyParts .both (spanOf o.signal 8) with
    | .ok locs =>
      let ls := locs.map Prod.fst
      let a := ls.headD 0
      if isRemote a then (s.sendFar (some (.add64 (leNat less))) a less).lowerCensus o.launch o.code
      else if ls.any s.marked then s.lowerCensus o.launch o.code
      else match s.cairnFault ls with
        | some (asid, va) => waits va asid fPermission 5
        | none => (s.writeLocs (ls.zip (leBytes 8 (leNat (ls.map (Memory.read s.mem)) + leNat less)))).lowerCensus o.launch o.code
    | .fault _ cause => waits o.signal o.asid cause 4
    | .hole _ => s.lowerCensus o.launch o.code

/-- R441: the adds that wait on a page are made, or wait again. -/
def State.retryOwed (s : State) (on : Owed → Bool) : State :=
  (s.owed.filter on).foldl State.owe { s with owed := s.owed.filter fun o => !on o }

/-- R390, R441: the launch is aborted: its adds that wait are not made. -/
def State.dropOwed (s : State) (n : Nat) : State :=
  (s.owed.filter fun o => o.launch == n).foldl (fun s o => s.lowerCensus o.launch o.code) { s with owed := s.owed.filter fun o => o.launch != n }

/-- R384: STATUS and EXIT of an ending. -/
def Ending.codes (e : Ending) (sl : Slot) : Nat × Nat :=
  match e with
  | .endOk => match sl.copyStatus with
    | some (c, off) => (6, c * 2 ^ 24 + off % 2 ^ 24)
    | none => (0, 0)
  | .haltx v => (1, v.toNat)
  | .landed v => (2, v.toNat % 2 ^ 32)
  | .faulted => (3, sl.trap.cause.toNat + sl.trap.stream.toNat * 256 + sl.trap.pc * 1024)
  | .doubleTrap => (4, sl.trap.cause.toNat + sl.trap.stream.toNat * 256 + sl.trap.pc * 1024)
  | .cancelled => (5, 0)
  | .lost v => (3, v % 2 ^ 32)

/-- R385: the code of an ending in its launch. -/
def endCode (status exit : Nat) : Nat :=
  if status = 3 ∨ status = 4 then 3 else if status = 5 then 4 else if status = 6 then exit / 2 ^ 24 else 0

/-- A record that is never bound, and stands at `at_` now, ends CANCELLED (R380, R389). -/
def State.cancelRecord (s : State) (r : ReadyRec) (at_ : Nat) : State :=
  let s := s.unqueue r.loc
  if s.recStatus at_ ≠ 0xFF then s
  else
    let d := s.recDie at_
    ((s.recWrite at_ 60 4 0).recWrite at_ 58 1 5).owe
      { die := d, tile := none, k := 64 * d, asid := s.recAsid at_, launch := s.recLaunch at_, signal := s.recField at_ 72 8, code := 4, wait := 0 }

end Sys2Proof.Machine
end

