-- ==== Sys2Proof/Machine/Engine.lean ====
section
/-! DEFINITION. Sys2Proof/Machine/Engine.lean: how copy engines move bytes: a command's next granule (R157-R163,
R217-R222), when it may move (R144, R148, R214, R333, R340), and suspension on a translation fault (R354). -/

namespace Sys2Proof.Machine

/-! ## What a command reaches -/

/-- R331: the narrowest scope that holds slot `k` and the engine of a command. -/
def Job.scope (j : Job) (k : Nat) : Nat := if j.engine < 64 then scopeOfTile k j.engine else scopeOfDie k ((j.engine - 64) / 4)

/-- R333: the command's requests to these locations stay behind those of the slots of a scope that have crossed it first. -/
def State.jobWaits (s : State) (j : Job) (locs : List (Nat × Nat)) : Bool := s.crossedBefore j.scope (locs.map Prod.fst)

/-- R22: the arrivals of copy bytes at a tile come before the words of its cores in a cycle. -/
def State.arrives (s : State) (t : Nat) : Bool := !((s.issued ++ s.tripped).any fun e => tileOf e.1 == t)

/-- R351: an engine's accesses bring their translations into the die's unit. -/
def State.jobTouch (s : State) (j : Job) (vas : List Nat) : State :=
  if j.phys then s else s.touchAll j.who.unit j.asid (vas.map (· % 2 ^ 56))

def State.jobReach (s : State) (j : Job) (acc : Acc) (vas : List Nat) : Reach := reachBy (s.jobPlace j acc) vas

/-- Bytes of a source: what it holds, or why it cannot be read. -/
inductive SrcRes where
  | ok (bytes : List Byte)
  | other (r : GRes)

/-- Read source bytes (R42, R157, R354); another package's come as `far`. -/
def State.jobReadFrom (s : State) (j : Job) (far : List Byte) (vas : List Nat) : SrcRes :=
  match s.jobReach j .read vas with
  | .hole _ => .other (.fail 2)
  | .fault _ c => .other (.fault (vas.headD 0) c 2 j.asid)
  | .ok locs =>
    if s.jobWaits j locs then .other .wait
    else if locs.any fun p => isRemote p.1 then (if far.length = vas.length then .ok far else .other .wait)
    else if locs.any fun p => s.marked p.1 then .other (.fail 1)
    else .ok (locs.map fun p => Memory.read s.mem p.1)

/-- Read source bytes; another package's come with the event. -/
def State.jobRead (s : State) (j : Job) (vas : List Nat) : SrcRes := s.jobReadFrom j s.inp.data vas

/-! ## Writing a destination -/

/-- Write destination bytes: saved by cairns first (R175, R432), sent as packets where they lie in another package. -/
def State.jobWrite (s : State) (id fi : Nat) (f : Flight) (l : List (Nat × Byte)) : GRes :=
  let near := l.filter fun p => !isRemote p.1
  let far := l.filter fun p => isRemote p.1
  match s.cairnFault (near.map Prod.fst) with
  | some (a, va) => .fault va fPermission 5 a
  | none => match s.sendRuns id fi f none 1 (runsOf far) with
    | .ok s f => .ok (s.writeLocs near) f
    | r => r

/-- Copy bytes to a destination (R218); `before` bytes of their run have been written. -/
def State.jobMove (s : State) (id fi : Nat) (j : Job) (f : Flight) (dvas : List Nat) (bytes : List Byte) (before : Nat := 0) : GRes :=
  match s.jobReach j .write dvas with
  | .hole _ => .fail 2
  | .fault _ c => .fault (dvas.headD 0) c 3 j.asid
  | .ok locs =>
    let l := (locs.headD (0, 0)).1
    if s.jobWaits j locs then .wait
    else match (s.jobWrite id fi f ((locs.map Prod.fst).zip bytes)).at (f.done + bytes.length) with
      | .ok s f => .ok (if before = 0 then s else s.runMarks (l - before) (l + bytes.length) bytes.length) f
      | r => r

/-- The address names another package. -/
def State.farFrom (s : State) (j : Job) (va : Nat) : Bool :=
  match s.jobReach j .write (spanOf va 1) with
  | .ok locs => locs.any fun p => isRemote p.1
  | _ => false

/-- R343, R422: of `m` bytes at hand for the destination at `da`, how many go now: another package's bytes go a 256-byte granule of
the destination at a time, the package's own by units of `unit` bytes, and at the end of the run all of them. -/
def putNow (far last : Bool) (unit da m : Nat) : Nat :=
  if last then m else m - min m ((da + m) % (if far then 256 else unit))

/-! ## CPY (R218, R343) -/

/-- R218: source bytes as the walk finds them, with those that the walk has read and holds for their place. -/
def overlaid (at_ : List (Nat × Nat)) (bs : List Byte) (held : List (Nat × Byte)) : List Byte :=
  (at_.zip bs).map fun p => match held.find? fun h => h.1 == p.1.1 with
    | some h => h.2
    | none => p.2

/-- R218, R343, R422: the next granule of the source run is read whole, and what it fills is written, up to the last aligned 8-byte
unit of the destination that it completes, or the last granule of another package; the bytes that the next granule completes are
held until then. -/
def State.copyPiece (s : State) (id fi : Nat) (j : Job) (f : Flight) (dst src len rows : Nat) (rs rd ps pd : Int) : GRes :=
  let (so, d, left) := runPlace len rows rs rd ps pd (f.done + f.buf.length)
  let sa := addOff src so
  let n := min left (256 - sa % 256)
  let m := f.buf.length + n
  let da := addOff dst (d - f.buf.length)
  match s.jobRead j (spanOf sa n) with
  | .other r => r
  | .ok bytes =>
    match s.jobReach j .write (spanOf da m) with
    | .hole _ => .fail 2
    | .fault _ c => .fault (addOff dst d) c 3 j.asid
    | .ok locs =>
      let bytes := match f.buf, s.jobReach j .read (spanOf sa n) with
        | _ :: _, .ok at_ => overlaid at_ bytes ((locs.map Prod.fst).zip f.buf)
        | _, _ => bytes
      let all := f.buf ++ bytes
      let put := putNow (isRemote (locs.headD (0, 0)).1) (left == n) 8 da m
      match s.jobMove id fi j f (spanOf da put) (all.take put) (f.done % len) with
      | .ok s f => .ok s { f with buf := all.drop put }
      | r => r

/-! ## Accumulates (R163) -/

/-- Elements of `z` bytes of a list. -/
def chunks (z : Nat) : Nat → List α → List (List α)
  | 0, _ => []
  | n + 1, l => l.take z :: chunks z n (l.drop z)

/-- Apply elements at their ports, one after another. -/
def State.applyAll (s : State) (g : Nat → Rmw) (els : List (List Nat × Nat)) : State :=
  els.foldl (fun s e =>
    let old := leNat (e.1.map (Memory.read s.mem))
    s.writeLocs (e.1.zip (leBytes e.1.length ((g e.2).apply old)))) s

/-- Elements for another package go as packets. -/
def State.accSend (s : State) (id fi : Nat) (f : Flight) (op : Nat) (ls : List Nat) (bytes : List Byte) : GRes :=
  (s.sendRuns id fi f (some (.op op (opSize op) 0)) (opSize op) (runsOf (ls.zip bytes))).at (f.done + bytes.length)

/-- One piece of an accumulate: inside one granule of the source and of the destination. A granule of another package goes as one
packet, so what one source granule gives of it is held until it is whole (R422). -/
def State.accPiece (s : State) (id fi : Nat) (j : Job) (f : Flight) (op dst src len : Nat) : GRes :=
  let z := opSize op
  let p := f.done + f.buf.length
  let so := src + p
  let d := dst + f.done
  let sn := min (len - p) (256 - so % 256)
  let dn := min (len - f.done) (256 - d % 256)
  let n := min sn (dn - f.buf.length)
  match s.jobRead j (spanOf so sn) with
  | .other r => r
  | .ok bytes =>
    match s.jobReach j .both (spanOf d dn) with
    | .hole _ => .fail 2
    | .fault _ c => .fault (d % 2 ^ 56) c 4 j.asid
    | .ok locs =>
      let ls := (locs.map Prod.fst).take n
      if s.jobWaits j locs then .wait else
      let vals := (chunks z (n / z) bytes).map leNat
      if locs.any fun p => !isRemote p.1 && s.marked p.1 then .fail 1
      else if locs.any fun p => isRemote p.1 then
        let all := f.buf ++ bytes.take n
        if all.length < dn then .ok s { f with buf := all }
        else match s.accSend id fi f op (locs.map Prod.fst) all with
          | .ok s f => .ok s { f with buf := [] }
          | r => r
      else match s.cairnFault ls with
        | some (a, va) => .fault va fPermission 5 a
        | none => .ok (s.applyAll (fun v => .op op z v) ((chunks z (n / z) ls).zip vals)) { f with done := f.done + n }

/-- One element: ACCR, CAS, SIGNAL, WAKE and their macros. Only an add to a record's DEP carries the WAKE flag (R379). -/
def State.rmwPiece (s : State) (id fi : Nat) (j : Job) (f : Flight) (dst : Nat) (r : Rmw) (wake : Bool) : GRes :=
  match s.jobReach j .both (spanOf dst r.size) with
  | .hole _ => .fail 2
  | .fault _ c => .fault (dst % 2 ^ 56) c 4 j.asid
  | .ok locs =>
    let ls := locs.map Prod.fst
    let a := ls.headD 0
    let wake := wake && dst % 128 == 24
    if s.jobWaits j locs then .wait
    else if isRemote a then
      let v := match r with
        | .op _ _ v => v
        | .add64 v => v
        | .cas z c n => c % 2 ^ (8 * z) + n * 2 ^ (8 * z)
      (s.sendPacket id fi f (some r) r.size a (leBytes (match r with
        | .cas z _ _ => 2 * z
        | _ => r.size) v) wake).at 1
    else if ls.any s.marked then .fail 1
    else match s.cairnFault ls with
      | some (a, va) => .fault va fPermission 5 a
      | none =>
        let old := leNat (ls.map (Memory.read s.mem))
        let t := s.writeLocs (ls.zip (leBytes r.size (r.apply old)))
        let t := if wake then
            t.depEffect (a - 24) (dst % 2 ^ 56 - 24) j.asid (fromCode true 32 old) (fromCode true 32 (r.apply old)) else t
        let t := if j.mac == some .signal then t.modLaunch j.launch fun l => { l with signalled := l.signalled ++ [a] } else t
        .ok t { f with done := 1, old := some (BitVec.ofNat 64 old) }

/-! ## Tile entries as sources and destinations (R158) -/

def State.entry (s : State) (t h : Nat) : TileEntry := (s.tile t).table.get {} h
def State.setEntry (s : State) (t h : Nat) (e : TileEntry) : State := s.modTile t fun ti => { ti with table := ti.table.set h e }

/-- R158, R286: `n` bytes have arrived or left; at zero the entry is READY, or EMPTY after TMOV. -/
def State.moved (s : State) (t h n : Nat) (empty : Bool) : State :=
  let e := s.entry t h
  let p := e.pending - n
  s.setEntry t h (if p = 0 then (if empty then {} else { e with pending := 0, state := 2 }) else { e with pending := p })

/-- R286: a filling or draining command fails. -/
def State.entryFails (s : State) (t h : Nat) (fault : Bool) : State :=
  let e := s.entry t h
  if e.state = 1 ∨ e.state = 3 then s.setEntry t h { e with pending := 0, state := 2, fault := e.fault || fault } else s

/-- The scratchpad addresses of `n` bytes of unit `u` of an entry, from byte `o` on. -/
def TileEntry.bytesAt (e : TileEntry) (t u o n : Nat) : List Nat :=
  (List.range n).map fun i => scratchAddr t (unitOffset e.layout e.base e.pitch u (o + i))

/-- R42, R357: the bytes from place `p` of a walk of runs to the end of the run or of its 256-byte source granule; `start` is the
first run's address, and runs follow each other. -/
def granuleLeft (start run p : Nat) : Nat := min (run - p % run) (256 - (start + p) % 256)

/-- R157, R158, R286: CPL reads a granule of memory, and its bytes arrive 64 at a time. -/
def State.loadPiece (s : State) (id fi : Nat) (j : Job) (f : Flight) (h : Nat) (e : TileEntry) (mem mp : Nat) : GRes :=
  let run := e.pitch * 64
  let u := f.done / run
  let o := f.done % run
  let a := mem + u * mp + o
  if !s.arrives j.engine then .wait
  else match (if f.buf.isEmpty then s.jobRead j (spanOf a (min (run - o) (256 - a % 256))) else .ok f.buf) with
  | .other r => r
  | .ok bytes =>
    let at_ := e.bytesAt j.engine u o 64
    if s.jobWaits j (at_.map fun a => (a, 1)) then .wait
    else match s.jobWrite id fi f (at_.zip bytes) with
    | .ok s f => .ok (s.moved j.engine h 64 false) { f with done := f.done + 64, buf := bytes.drop 64 }
    | r => r

/-- R157, R422: how many of the bytes that a CPS holds it writes now: what fills its source granules to their ends, and of another
package whole granules of the destination. -/
def TileEntry.ready (e : TileEntry) (f : Flight) (far : Bool) (da : Nat) : Nat :=
  let run := e.pitch * 64
  let p := f.done + f.buf.length
  if f.buf.isEmpty || !(p % run == 0 || (64 * e.base + p) % 256 == 0) then 0 else putNow far (p % run == 0) 1 da f.buf.length

/-- The address at which a CPS writes next. -/
def storeAddr (e : TileEntry) (f : Flight) (mem mp : Nat) : Nat := mem + f.done / (e.pitch * 64) * mp + f.done % (e.pitch * 64)

/-- R157, R158, R286: CPS reads its entry 64 bytes at a time, and writes each granule once it is whole. -/
def State.storePiece (s : State) (id fi : Nat) (j : Job) (f : Flight) (h : Nat) (e : TileEntry) (mem mp : Nat) : GRes :=
  let run := e.pitch * 64
  let a := storeAddr e f mem mp
  let put := e.ready f (s.farFrom j a) a
  if put = 0 then
    let p := f.done + f.buf.length
    let offs := e.bytesAt j.engine (p / run) (p % run) 64
    if !s.arrives j.engine || s.jobWaits j (offs.map fun a => (a, 1)) then .wait
    else if offs.any s.marked then .fail 1
    else .ok (s.moved j.engine h 64 false) { f with buf := f.buf ++ offs.map (Memory.read s.mem) }
  else match s.jobMove id fi j f (spanOf a put) (f.buf.take put) (f.done % run) with
    | .ok s f => .ok s { f with buf := f.buf.drop put }
    | r => r

/-- R283: the bytes of a unit that hold elements; the rest is padding, which no instruction that reads elements reads. -/
def TileEntry.used (e : TileEntry) : Nat :=
  if e.layout = 2 then (e.rows * e.cols + 7) / 8 else (if e.layout = 1 then e.rows else e.cols) * tyBytes e.type

/-- R283, R285: the elements that bytes `o` to `o + n` of unit `u` of a layout hold, whole or in part. -/
def elemsOf (layout rows cols type u o n : Nat) : List (Nat × Nat) :=
  let w := tyBytes type
  if layout = 2 then ((List.range (8 * n)).map (8 * o + ·)).filterMap fun i => if i < rows * cols then some (i / cols, i % cols) else none
  else
    let cnt := if layout = 1 then rows else cols
    ((List.range cnt).filter fun c => decide (c * w < o + n) && decide (o < (c + 1) * w)).map fun c => if layout = 1 then (c, u) else (u, c)

/-- The places in an entry's walk of the bytes that hold element (r, c). -/
def TileEntry.elemBytesAt (e : TileEntry) (fmt : Tab (BitVec 32)) (r c : Nat) : List Nat :=
  let run := e.pitch * 64
  if e.layout = 2 then (List.range (bptPlanes fmt e.type)).map fun p => p * run + (r * e.cols + c) / 8
  else
    let (u, i) := elemPlace e.layout e.type r c
    (List.range (tyBytes e.type)).map fun b => u * run + i + b

/-- R159: TMOV reads the entry 64 bytes at a time, then writes converted units. R42: where the entry reads as poisoned, the source
stops, and the destination is written up to the first granule that needs an element of the failing granule or a later one. -/
def State.tmovPiece (s : State) (id fi : Nat) (j : Job) (f : Flight) (h : Nat) (keep : Bool) (e : TileEntry)
    (dst mp dt dl : Nat) (fmt : Tab (BitVec 32)) : GRes :=
  let run := e.pitch * 64
  if f.cut.isNone && decide (f.buf.length < e.extent * 64) then
    let p := f.buf.length
    let offs := e.bytesAt j.engine (p / run) (p % run) 64
    if !s.arrives j.engine || s.jobWaits j (offs.map fun a => (a, 1)) then .wait
    else if decide (p % run < e.used) && offs.any s.marked then
      .ok s { f with cut := some 1, buf := f.buf.take (p - min (p % run) ((64 * e.base + p) % 256)) }
    else .ok (s.moved j.engine h 64 (!keep)) { f with buf := f.buf ++ offs.map (Memory.read s.mem) }
  else
    let dp := leastPitch dl e.rows e.cols dt
    let du := f.done / (dp * 64)
    let o := f.done % (dp * 64)
    let a := dst + du * (if mp = 0 then dp * 64 else mp) + o
    let n := min (dp * 64 - o) (256 - a % 256)
    let rd := fun u i => f.buf.getD (u * run + i) 0
    let code := fun r c => (tyConvert fmt e.type dt (elemCode fmt e.layout e.type e.cols rd r c)).1
    let missing := (elemsOf dl e.rows e.cols dt du o n).any fun p => (e.elemBytesAt fmt p.1 p.2).any fun i => decide (f.buf.length ≤ i)
    match f.cut.filter fun _ => missing with
    | some st => .fail st
    | none => s.jobMove id fi j f (spanOf a n) (((unitBytes fmt dl dt e.rows e.cols dp code du).drop o).take n)

/-! ## Multicasts (R161, R222) -/

/-- Bytes that the slowest branch has written. -/
def Flight.slowest (f : Flight) (tiles : List Nat) : Nat := tiles.foldl (fun m t => min m (f.branch.get 0 t)) f.buf.length

/-- R161: a member's entry is quiet. -/
def State.quiet (s : State) (t h id : Nat) : Bool :=
  (s.entry t h).state == 2 &&
    !((s.tile t).steps.any fun p => p.bh == h || p.oh == some h || (decide (p.ta ≤ h) && decide (h ≤ p.ta + p.cnt))) &&
    !(s.jobs.any fun p => p.1 != id && p.2.engine == t && (match p.2.mac with
      | some (.cpl x) => x == h
      | some (.cps x) => x == h
      | some (.tmov x _) => x == h
      | some (.cpmeta x) => x == h
      | some (.cpmc x _) => x == h
      | _ => false))

/-- R42, R222: a multicast's source reads its next bytes. Where it cannot, it stops, and the command ends once every member has
the bytes before that granule. -/
def State.castRead (s : State) (j : Job) (f : Flight) (tiles : List Nat) (vas : List Nat) : GRes :=
  match f.cut with
  | some st => if f.slowest tiles = f.buf.length then .fail st else .wait
  | none => match s.jobRead j vas with
    | .other (.fail st) => if f.slowest tiles = f.buf.length then .fail st else .ok s { f with cut := some st }
    | .other r => r
    | .ok bytes => .ok s { f with buf := f.buf ++ bytes }

/-- R222: the source reads its next 4 KiB chunk on a permit, or branch `b - 1` writes its next bytes. -/
def State.mcastPiece (s : State) (id fi : Nat) (j : Job) (f : Flight) (b src len off : Nat) (tiles : List Nat) : GRes :=
  if b = 0 then
    if len ≤ f.buf.length ∨ (f.cut.isNone ∧ f.slowest tiles / 4096 + 2 ≤ f.buf.length / 4096) then .wait
    else s.castRead j f tiles (spanOf (src + f.buf.length) (min (len - f.buf.length) (256 - (src + f.buf.length) % 256)))
  else
    let t := b - 1
    let p := f.branch.get 0 t
    let n := min 256 (f.buf.length - p)
    let at_ := (List.range n).map (tileBase t + off + p + ·)
    if !tiles.contains t || n = 0 || s.jobWaits j (at_.map fun a => (a, 1)) then .wait
    else match s.jobWrite id fi f (at_.zip (f.buf.drop p)) with
      | .ok s f => .ok s { f with branch := f.branch.set t (p + n), done := { f with branch := f.branch.set t (p + n) }.slowest tiles }
      | r => r

/-- R161, R286: as MCAST, by units of the member entries, which agree in all but their bases; a branch first waits until its entry is
quiet, and its bytes arrive 64 at a time. -/
def State.cpmcPiece (s : State) (id fi : Nat) (j : Job) (f : Flight) (b src mp h : Nat) (e : TileEntry) (tiles : List Nat) : GRes :=
  let run := e.pitch * 64
  let total := e.extent * 64
  if b = 0 then
    if total ≤ f.buf.length ∨ !(tiles.all fun t => (f.branch.find? t).isSome) ∨
        (f.cut.isNone ∧ f.slowest tiles / run < f.buf.length / run) then .wait
    else
      let a := src + f.buf.length / run * mp + f.buf.length % run
      s.castRead j f tiles (spanOf a (min (run - f.buf.length % run) (256 - a % 256)))
  else
    let t := b - 1
    if !tiles.contains t || !s.arrives t then .wait
    else match f.branch.find? t with
      | none =>
        if s.quiet t h id then
          .ok (s.setEntry t h { s.entry t h with state := 1, pending := total }) { f with branch := f.branch.set t 0 }
        else .wait
      | some p =>
        let at_ := (s.entry t h).bytesAt t (p / run) (p % run) 64
        if f.buf.length ≤ p || s.jobWaits j (at_.map fun a => (a, 1)) then .wait
        else match s.jobWrite id fi f (at_.zip (f.buf.drop p)) with
          | .ok s f =>
            let f := { f with branch := f.branch.set t (p + 64) }
            .ok (s.moved t h 64 false) { f with done := f.slowest tiles }
          | r => r

/-! ## SPAWN, gather and the rest -/

/-- R172, R378: the record a parent emits from an image. -/
def emitRecord (img : List Byte) (asid launch deadline : Nat) (index : Option Nat) : List Byte :=
  let fld8 := fun off n => leNat ((img.drop off).take n)
  let keep := fun off n => (img.drop off).take n
  keep 0 28 ++ (match index with
    | some i => leBytes 4 i
    | none => keep 28 4) ++ leBytes 8 (min (fld8 32 8) deadline) ++ keep 40 4 ++ leBytes 4 launch ++ leBytes 1 asid ++
    keep 49 9 ++ leBytes 1 0xFF ++ keep 59 1 ++ leBytes 4 0 ++ keep 64 64

/-- R390: the launch keeps one more range of records, or may not. -/
def Launch.keepRange (l : Launch) (va asid n : Nat) : Option Launch :=
  if 4096 ≤ l.ranges.length then none else some { l with ranges := l.ranges ++ [(va, asid, n)] }

/-- R172: SPAWN's command. -/
def State.spawnPiece (s : State) (id fi : Nat) (j : Job) (f : Flight) (dst src : Nat) : GRes :=
  match globalName j.who.die j.who.tile src with
  | none => .fail 2
  | some g =>
    if globalPart g ≠ some .scratch ∨ globalTile g ≠ j.who.tile then .fail 2
    else match (s.launch j.launch).keepRange (if windowBase ≤ dst then (globalName j.who.die j.who.tile dst).getD dst else dst) j.asid 1 with
    | none => .fail 5
    | some l =>
      match s.jobRead j (spanOf src 128) with
      | .other r => r
      | .ok img =>
        match s.jobReach j .write (spanOf dst 128) with
        | .hole _ => .fail 2
        | .fault _ c => .fault (dst % 2 ^ 56) c 3 j.asid
        | .ok locs =>
          if s.jobWaits j locs then .wait else
          let rec_ := emitRecord img j.asid j.launch f.word none
          match s.jobWrite id fi f ((locs.map Prod.fst).zip rec_) with
          | .ok s f =>
            let s := s.modLaunch j.launch fun _ => l
            let loc := (locs.headD (0, 0)).1
            let s := if bytesAt rec_ 24 4 = 0 then s.placeBy (bytesAt rec_) loc (dst % 2 ^ 56) j.asid false else s
            .ok s { f with done := 128 }
          | r => r

/-- R221: one element; the indices are read in order. Another package's bytes come with the event, the index before the
element. A GATHER into another package holds its elements until a granule of the destination is whole (R422). -/
def State.gatherPiece (s : State) (id fi : Nat) (j : Job) (f : Flight) (scatter x64 : Bool) (dst src idx n z : Nat) : GRes :=
  let i := (f.done + f.buf.length) / z
  let w := if x64 then 8 else 4
  let at_ := spanOf (idx + i * w) w
  let far := match s.jobReach j .read at_ with
    | .ok locs => locs.any fun p => isRemote p.1
    | _ => false
  match s.jobReadFrom j (s.inp.data.take w) at_ with
  | .other r => r
  | .ok ib =>
    let v : Int := fromCode x64 (8 * w) (leNat ib)
    let reach := fun base : Nat => (((base : Int) + v * z) % (2 ^ 56 : Int)).toNat
    let sa := if scatter then src + i * z else reach src
    match s.jobReadFrom j (if far then s.inp.data.drop w else s.inp.data) (spanOf sa z) with
    | .other r => r
    | .ok bytes =>
      if scatter then s.jobMove id fi j f (spanOf (reach dst) z) bytes
      else
        let all := f.buf ++ bytes
        let da := dst + f.done
        let put := putNow (s.farFrom j da) (i + 1 == n) 1 da all.length
        if put = 0 then .ok s { f with buf := all }
        else match s.jobMove id fi j f (spanOf da put) (all.take put) f.done with
          | .ok s f => .ok s { f with buf := all.drop put }
          | r => r

/-- What a flight holds of bytes before the granule at hand, and where they go: a copy's and an element's for another package, and of a
CPS those of the source granules before. -/
def Flight.kept (f : Flight) : List Byte × Nat :=
  match f.work with
  | .copy dst _ len rows _ _ rd _ pd => (f.buf, addOff dst (runPlace len rows 0 rd 0 pd f.done).2.1)
  | .acc _ dst _ _ => (f.buf, dst + f.done)
  | .gather false _ dst _ _ _ _ => (f.buf, dst + f.done)
  | .tile false _ e mem mp _ =>
    let run := e.pitch * 64
    let p := f.done + f.buf.length
    (f.buf.take (f.buf.length - min (p % run) ((64 * e.base + p) % 256)), storeAddr e f mem mp)
  | _ => ([], 0)

/-- R42, R354: where a command stops, the bytes before the failing granule that it holds are written; none while they must wait. -/
def State.letGo (s : State) (id fi : Nat) (j : Job) (f : Flight) : Option (State × Flight) :=
  let (bytes, a) := f.kept
  if bytes.isEmpty then some (s, { f with buf := match f.work with
    | .tile false .. => []
    | _ => f.buf })
  else
    let r := match f.work with
      | .acc op .. => match s.jobReach j .both (spanOf a bytes.length) with
        | .ok locs => s.accSend id fi f op (locs.map Prod.fst) bytes
        | _ => .fail 2
      | _ => s.jobMove id fi j f (spanOf a bytes.length) bytes
    match r with
    | .ok s f => some (s, { f with buf := [] })
    | .wait => none
    | _ => some (s, { f with buf := [] })

/-- R175: one saved granule is written back, marked again if it was marked (R432). -/
def State.rollPiece (s : State) (j : Job) (f : Flight) (n : Nat) : GRes :=
  match ((s.taskSlot j.owner).getD {}).cairns.find? n with
  | none => .fail 0
  | some c => match c.saved[f.done]? with
    | none => .fail 0
    | some (g, bytes) =>
      let va := c.base + g * 256
      match s.jobReach j .both (spanOf va 256) with
      | .hole _ => .fail 2
      | .fault _ cc => .fault va cc 5 j.asid
      | .ok locs =>
        if s.jobWaits j locs then .wait else
        let t := s.writeLocs ((locs.map Prod.fst).zip bytes)
        let bad := c.bad.contains g
        .ok { t with marks := if bad then ((locs.map fun p => markUnit p.1) ++ t.marks).eraseDups else t.marks }
          { f with done := f.done + 1, old := if bad then some 1 else f.old }

/-- The bytes a data word has to do, when that is known from the start. -/
def Work.total (s : State) (j : Job) (w : Work) : Nat :=
  match w with
  | .copy _ _ len rows planes .. => len * rows * planes
  | .fill _ len rows .. => len * rows
  | .acc _ _ _ len => len
  | .rmw .. => 1
  | .gather _ _ _ _ _ n z => n * z
  | .mcast _ len _ _ => len
  | .cpmc _ _ _ e _ => e.extent * 64
  | .tmov e _ _ dt dl fmt => unitsOf (bptPlanes fmt dt) dl e.rows e.cols * leastPitch dl e.rows e.cols dt * 64
  | .tile _ _ e _ _ units => units * e.pitch * 64
  | .spawn .. => 128
  | .roll .. => match j.mac with
    | some (.roll n) => ((((s.taskSlot j.owner).getD {}).cairns.find? n).map fun c => c.saved.length).getD 0
    | _ => 0

/-- A flight has done its bytes, and every packet of it is acknowledged. -/
def State.flightDone (s : State) (j : Job) (f : Flight) : Bool :=
  decide (f.work.total s j ≤ f.done) && f.packets.isEmpty &&
    (match f.work, j.mac with
      | .tmov e .., _ => decide (e.extent * 64 ≤ f.buf.length)
      | _, _ => true)

/-- Nothing more of the flight will happen: it is done, or its command has ended at it or before it, and no packet of it is
outstanding (R213, R422). -/
def State.flightOver (s : State) (j : Job) (f : Flight) : Bool := s.flightDone j f || (f.closed && f.packets.isEmpty)

/-- The addresses at which a flight's next granule stands, in its source and its destination; a single element that an index finds is
looked up each time. -/
def Flight.here (f : Flight) : List Nat :=
  match f.work with
  | .copy dst src len rows _ rs rd ps pd =>
    [addOff src (runPlace len rows rs rd ps pd (f.done + f.buf.length)).1, addOff dst (runPlace len rows rs rd ps pd f.done).2.1]
  | .fill dst len rows rd _ _ => [addOff dst (runPlace len rows 0 rd 0 0 f.done).2.1]
  | .acc _ dst src _ => [src + f.done + f.buf.length, dst + f.done]
  | .rmw dst _ _ => [dst]
  | .gather _ x64 _ _ idx _ z => [idx + (f.done + f.buf.length) / z * (if x64 then 8 else 4)]
  | .mcast src .. => [src + f.buf.length]
  | .cpmc src mp _ e _ => [src + f.buf.length / (e.pitch * 64) * mp + f.buf.length % (e.pitch * 64)]
  | .tmov e dst mp dt dl _ =>
    let run := leastPitch dl e.rows e.cols dt * 64
    [dst + f.done / run * (if mp = 0 then run else mp) + f.done % run]
  | .tile _ _ e mem mp _ => [storeAddr e f mem mp]
  | .spawn dst _ => [dst]
  | .roll .. => []

/-- R351: the translations of a flight's next granule come into the unit of its die. -/
def State.flightTouch (s : State) (j : Job) (f : Flight) : State := s.jobTouch j (f.here.flatMap fun a => [a, a + 255])

/-- The next granule of a flight. -/
def State.granule (s : State) (id fi : Nat) (j : Job) (f : Flight) : GRes :=
  match f.work with
  | .tmov e dst mp dt dl fmt => match j.mac with
    | some (.tmov h keep) => s.tmovPiece id fi j f h keep e dst mp dt dl fmt
    | _ => .wait
  | .mcast src len off tiles => s.mcastPiece id fi j f s.inp.a src len off tiles
  | .cpmc src mp h e tiles => s.cpmcPiece id fi j f s.inp.a src mp h e tiles
  | w =>
    if w.total s j ≤ f.done then .wait
    else match w with
    | .copy dst src len rows _ rs rd ps pd => s.copyPiece id fi j f dst src len rows rs rd ps pd
    | .fill dst len rows rd pat z =>
      let (_, d, left) := runPlace len rows 0 rd 0 0 f.done
      let da := addOff dst d
      let n := min left (256 - da % 256)
      let o := f.done % len
      s.jobMove id fi j f (spanOf da n) ((List.range n).map fun i => BitVec.ofNat 8 (pat / 2 ^ (8 * ((o + i) % z))))
    | .acc op dst src len => s.accPiece id fi j f op dst src len
    | .rmw dst r wake => s.rmwPiece id fi j f dst r wake
    | .gather sc x64 dst src idx n z => s.gatherPiece id fi j f sc x64 dst src idx n z
    | .tile load h e mem mp _ => if load then s.loadPiece id fi j f h e mem mp else s.storePiece id fi j f h e mem mp
    | .spawn dst src => s.spawnPiece id fi j f dst src
    | .roll _ _ => match j.mac with
      | some (.roll n) => s.rollPiece j f n
      | _ => .wait
    | _ => .wait

/-! ## When a granule may go -/

/-- R340: an earlier command of the same queue of the tile copy engine still works on a location of this one. -/
def State.behind (s : State) (id : Nat) (j : Job) : Bool :=
  s.jobs.any fun p => decide (p.1 < id) && p.2.mac.isSome && j.mac.isSome && p.2.engine == j.engine && p.2.queue == j.queue &&
    !(p.2.flights.all fun f => s.flightOver p.2 f) &&
    (s.spots p.2).any fun a => (s.spots j).any fun b => decide (a.1 < b.1 + b.2.1) && decide (b.1 < a.1 + a.2.1)

/-- R148, R175, R336, R341: the earlier operations and commands of its slot that a macro's command waits for. `reads` says that the
bytes at hand are only read: a copy's writes come after every earlier load (R336). SIGNAL and SPAWN come after everything the
slot has issued but what touches UNORDERED pages alone (R148), and ROLL after every earlier write (R175). Of a task that has ended
only commands are left to wait for (R386). -/
def State.released (s : State) (id : Nat) (j : Job) (reads : Bool) : Bool :=
  match j.mac with
  | none => true
  | some m =>
    let sl := (s.taskSlot j.owner).getD {}
    let k := (s.boundAt j.owner).getD j.k
    let early := sl.ops.filter fun o => decide (o.id < id) && !o.done
    let stores := match m with
      | .cpmeta _ => false
      | .roll _ => early.any fun o => o.kind.isStore
      | _ => early.any fun o => o.kind.isStore && !allKind 2 o.left
    let loads := !reads && early.any fun o => o.kind.isLoad && !o.left.isEmpty
    let all := early.any (fun o => s.awaits k o 1 7) || s.taskJobs j.owner id false
    let rest := match m with
      | .roll _ => s.taskJobs j.owner id true
      | .signal => all
      | .spawn => all
      | _ => false
    !stores && !loads && !rest && !s.releaseHolds k sl id && !s.taskJobs j.owner (min j.upto id) false

/-- R210: with ORD, every earlier command of the chain is performed. -/
def State.ordered (s : State) (j : Job) : Bool :=
  !j.ord || !(s.jobs.any fun p => p.2.mac.isNone && p.2.chain == j.chain && decide (p.2.seq < j.seq) &&
    !(p.2.stop.isSome && p.2.flights.all fun f => s.flightOver p.2 f))

/-- R214: an accumulate, compare and swap or WAKE is applied only after every earlier word of the command is performed. -/
def Work.serial : Work → Bool
  | .acc .. => true
  | .rmw .. => true
  | _ => false

/-- The event at hand only reads bytes of the flight's source. -/
def State.readsOnly (s : State) (j : Job) (f : Flight) : Bool :=
  match f.work with
  | .mcast .. => s.inp.a == 0
  | .cpmc .. => s.inp.a == 0
  | .tmov e .. => f.cut.isNone && decide (f.buf.length < e.extent * 64)
  | .tile false _ e mem mp _ => e.ready f (s.farFrom j (storeAddr e f mem mp)) (storeAddr e f mem mp) == 0
  | _ => false

/-- R222, R354: the event at hand writes bytes that a multicast has read, which a suspension of its source does not stop. -/
def State.drains (s : State) (f : Flight) : Bool :=
  match f.work with
  | .mcast .. => s.inp.a != 0
  | .cpmc .. => s.inp.a != 0
  | _ => false

/-- R354: while the command is suspended, only what comes before the faulting granule goes on. -/
def State.unsuspended (s : State) (fi : Nat) (j : Job) (f : Flight) : Bool :=
  j.susp.isNone || decide (fi < j.suspFlight) || (fi == j.suspFlight && s.drains f)

/-- R74: a command that ends at an illegal word writes nothing, so none of its data words moves before its program has ended, but
for the word whose old value the program waits for and the words before that (R214). -/
def Job.committed (j : Job) : Bool := j.mac.isSome || j.stop.isSome || j.flights.any fun f => f.reg.isSome && f.old.isNone

def State.mayMove (s : State) (id fi : Nat) (j : Job) (f : Flight) : Bool :=
  j.started && s.unsuspended fi j f && j.committed && j.dead.isNone && !f.closed &&
    s.released id j (s.readsOnly j f) && s.ordered j && !s.behind id j &&
    (!f.work.serial || (j.flights.take fi).all fun e => s.flightDone j e)

/-- R208, R213, R215: the command ends at its data word `fi`: nothing more of that word and of the words after it moves, the words
before go on. Of several failures the first in program order and then in the word's walk gives STATUS, WORD and OFFSET. -/
def Job.failAt (j : Job) (fi off status : Nat) : Job :=
  let word := ((j.flights[fi]?).map Flight.word).getD j.badWord
  let first := j.failed.all fun p => decide (fi < p.1) || (fi == p.1 && decide (off < p.2))
  let j := if first then { j with stop := some status, badWord := word, badOff := off, failed := some (fi, off) } else j
  { j with susp := if fi ≤ j.suspFlight then none else j.susp,
           flights := j.flights.zipIdx.map fun p => if fi ≤ p.2 then { p.1 with closed := true } else p.1 }

/-- R215, R435: a data word fails at the granule it stands at; a FENCED one counts only the bytes acknowledged before its first packet
that is not. -/
def Job.fails (j : Job) (fi : Nat) (f : Flight) (status : Nat) : Job :=
  ({ j with flights := j.flights.set fi f } : Job).failAt fi
    (if status = 10 then f.packets.foldl (fun n pc => min n pc.off) f.done else f.done) status

/-- The old value of an ACCR or CAS reaches its register (R220). -/
def Job.landOld (j : Job) (f : Flight) : Job :=
  match f.reg, f.old with
  | some r, some v => { j with prog := { j.prog with regs := writeScalar j.prog.regs r v } }
  | _, _ => j

/-- One granule of a command, unless it meets a translation fault. -/
def State.moveGranule (s : State) (id fi : Nat) : State :=
  let j := s.job id
  match j.flights[fi]? with
  | none => s
  | some f =>
    if !s.mayMove id fi j f then s
    else match (s.flightTouch j f).granule id fi j f with
      | .ok s f =>
        let j := (s.job id)
        s.setJob id ({ j with flights := j.flights.set fi f }.landOld f)
      | .fail st =>
        if st = 0 then s
        else
          match (s.flightTouch j f).letGo id fi j f with
          | some (s, f) => s.setJob id (j.fails fi f st)
          | none => s
      | _ => s

/-- R353: AGENT and WHO of a command. -/
def Job.agent (j : Job) : Nat := if j.engine < 64 then 1 else 2
def Job.whoCode (j : Job) : Nat := if j.mac.isSome then j.k else if j.engine < 64 then j.engine * 8 else j.engine - 64

/-- R354: the command's next granule meets a translation fault: the record is written and the command suspends there. -/
def State.suspendGranule (s : State) (id fi : Nat) : State :=
  let j := s.job id
  match j.flights[fi]? with
  | none => s
  | some f =>
    if !s.mayMove id fi j f then s
    else match (s.flightTouch j f).granule id fi j f with
      | .fault va c a asid =>
        match (s.flightTouch j f).letGo id fi j f with
        | none => s
        | some (s, f) =>
        let t := s.faultRecord { va := va, launch := j.launch, asid := asid, cause := c, access := a, agent := j.agent,
                                 who := j.whoCode, chain := if j.mac.isSome then 0 else (s.chains.get {} j.chain).ccb, seq := j.seq }
        t.setJob id { j with susp := some va, suspAt := (f.word, f.done), suspFlight := fi, flights := j.flights.set fi f }
      | _ => s

/-- R213, R354, R390: a suspended command ends FAULTED at the granule it could not translate; the bytes before it are written first. A
multicast ends so once every member has the bytes that were read. -/
def Job.faulted (j : Job) : Job :=
  let j := { j with susp := none }
  match j.flights[j.suspFlight]? with
  | none => { j with dead := some 3 }
  | some f => match f.work with
    | .mcast .. => { j with flights := j.flights.set j.suspFlight { f with cut := some 3 } }
    | .cpmc .. => { j with flights := j.flights.set j.suspFlight { f with cut := some 3 } }
    | _ => j.failAt j.suspFlight j.suspAt.2 3

/-- COPY_GRANULE (R158): a granule of a tile copy arrives or is read and PENDING falls. -/
def execCopyGranule (s : State) : Out := .next (s.moveGranule s.inp.id s.inp.x)

/-- COPY_TRANSLATION_FAULT (R354): engine work meets a translation fault and suspends at the faulting granule. -/
def execCopyTranslationFault (s : State) : Out := .next (s.suspendGranule s.inp.id s.inp.x)

end Sys2Proof.Machine
end

