-- ==== Sys2Proof/Machine/TileWords.lean ====
section
/-! DEFINITION. Sys2Proof/Machine/TileWords.lean: the tile-table words (R152-R155) and the macros that hand a command to the
tile copy engine (R142-R148, R156-R163, R171, R172, R175). -/

namespace Sys2Proof.Machine

/-! ## The tile table (R20, R152-R155) -/

/-- R20: word 0. -/
def TileEntry.word0 (e : TileEntry) : Word :=
  BitVec.ofNat 64 (e.cols * 2 ^ 48 + e.rows * 2 ^ 32 + e.base * 65536 + e.type * 2048 + e.layout * 512 + e.state * 128 +
    e.fault.toNat * 64 + e.owner * 8)
/-- R20: word 1. -/
def TileEntry.word1 (e : TileEntry) : Word := BitVec.ofNat 64 (e.pending * 65536 + e.pitch)

/-- The entry that TDEF's operands describe (R152, R154), with the plane count that its type has at TDEF's issue (R153, R285). -/
def tdefEntry (k : Nat) (fmt : Tab (BitVec 32)) (w : Word) (type layout pitch : Nat) : TileEntry :=
  { cols := fld w.toNat 48 16, rows := fld w.toNat 32 16, base := fld w.toNat 16 16, type := type, layout := layout,
    state := 2, owner := k % 8, pitch := pitch, planes := bptPlanes fmt type }

/-- R153, R271: the definition is refused. -/
def tdefRefused (fmt : Tab (BitVec 32)) (w : Word) (e : TileEntry) : Bool :=
  e.rows == 0 || e.cols == 0 || e.pitch == 0 || decide (25 ≤ e.type) || (e.layout == 2 && (!bptType e.type || tyUnset fmt e.type)) ||
    fld w.toNat 0 16 != 0 || !unitFits e.layout e.rows e.cols e.type e.pitch || decide (65536 < e.base + e.extent)

/-- The rows of a step's A entries up to and with entry number `i`. -/
def Step.rowsThrough (p : Step) (i : Nat) : Nat := ((p.aEnts.take (i + 1)).map TileEntry.rows).sum

/-- R188: a step holds entry `h`: an A entry until its last row has entered, B until the end of preload, OH to the end. -/
def Step.holdsEntry (p : Step) (h : Nat) : Bool :=
  (decide (p.ta ≤ h) && decide (h ≤ p.ta + p.cnt) && decide (p.rowsIn < p.rowsThrough (h - p.ta))) ||
    (p.bh == h && !p.loaded) || p.oh == some h

def State.heldByStep (s : State) (t h : Nat) : Bool := (s.tile t).steps.any fun p => p.holdsEntry h

/-- R154, R157, R188, R286: what an owner's word finds: `none` when it may go on. -/
def State.ownerCheck (s : State) (k h : Nat) : Option WRes :=
  let e := s.entry (tileOf k) h
  if e.owner != k % 8 then some (.trap 15 (BitVec.ofNat 64 h))
  else if s.heldByStep (tileOf k) h then some (.wait s)
  else if e.state = 1 ∨ e.state = 3 then some (.trap 14 (BitVec.ofNat 64 h))
  else none

/-- TDEF (R152-R154). -/
def tdefWord (k : Nat) (s : State) (h : Nat) (w : Word) (type layout pitch : Nat) : WRes :=
  let t := tileOf k
  let e := tdefEntry k (s.tile t).fmt w type layout pitch
  match if (s.entry t h).state = 0 then none else s.ownerCheck k h with
  | some r => r
  | none => if tdefRefused (s.tile t).fmt w e then .trap 13 w else .done (s.setEntry t h e)

/-- TFREE (R154). -/
def tfreeWord (k : Nat) (s : State) (h : Nat) : WRes :=
  let t := tileOf k
  if (s.entry t h).state = 0 then .done s
  else match s.ownerCheck k h with
  | some r => r
  | none => .done (s.setEntry t h {})

/-! ## Handing a command to the tile copy engine (R142-R145) -/

/-- R144: the places taken in a queue of the tile copy engine. -/
def State.queued (s : State) (t q : Nat) : Nat :=
  (s.jobs.filter fun (p : Nat × Job) => p.2.mac.isSome && p.2.engine == t && p.2.queue == q && !p.2.started).length

/-- R144: which queue a macro's command enters. -/
def Macro.queue : Macro → Nat
  | .cpl _ => 0
  | .cpmeta _ => 0
  | _ => 1

/-- The word enters its queue with its counter and a census item (R142, R385), or waits for a place; a returning word also
reserves its response place (R145). `word` is what the command keeps of the slot: SPAWN's deadline. -/
def macroWord (k x : Nat) (s : State) (cls : Nat) (m : Macro) (w : Option Work) (word : Nat) : WRes :=
  let t := tileOf k
  let sl := s.slot k
  if 32 ≤ s.queued t m.queue then .wait s
  else if m = .returning ∧ 16 ≤ sl.resp.length then .wait s
  else
    let id := s.nextId
    let fl := match w with
      | some w => [({ word := word, work := w } : Flight)]
      | none => []
    let j : Job := { mac := some m, k := k, engine := t, queue := m.queue, asid := sl.task.asid, launch := sl.task.launch,
                     flights := fl, owner := sl.task.loc, upto := (sl.rels.map Prod.snd).foldl max 0 }
    let sl := sl.addOp { id := id, cls := cls, x := x, kind := .unit, due := 0 }
    let sl := if m = .returning then { sl with resp := sl.resp ++ [{ op := id, val := none }] } else sl
    .done ((({ s with nextId := id + 1 }.setSlot k sl).setJob id j).raiseCensus sl.task.launch 1)

/-- R156: the alignment of an address pair. DESIGN CHOICE (notes/assumptions/114.md): where neither is aligned, the address s[k] is
the one reported. -/
def pairRefused (a p : Word) : Option Word := if a.toNat % 64 != 0 then some a else if p.toNat % 64 != 0 then some p else none

/-- R157, checks 1 to 3 and 5. -/
def State.copyChecks (s : State) (k h : Nat) (source : Bool) : Option WRes :=
  let e := s.entry (tileOf k) h
  let aux := BitVec.ofNat 64 h
  if e.state = 0 then some (.trap 14 aux)
  else match s.ownerCheck k h with
  | some r => some r
  | none => if source && e.fault then some (.trap 8 aux) else none

/-- CPL and CPS (R157, R158): the order of the checks is R157's. -/
def tileCopyWord (k x : Nat) (s : State) (load : Bool) (h : Nat) (va mp : Word) (reint : Bool) (layout : Nat) : WRes :=
  let t := tileOf k
  let e := s.entry t h
  let units := e.units (if reint then layout else e.layout)
  match s.copyChecks k h false with
  | some r => r
  | none =>
    if !reint && layout != e.layout then .trap 16 (BitVec.ofNat 64 layout)
    else if !load && e.fault then .trap 8 (BitVec.ofNat 64 h)
    else match pairRefused va mp with
    | some w => .trap 6 w
    | none =>
      if reint && decide (65536 < e.base + units * e.pitch) then .trap 13 (BitVec.ofNat 64 h)
      else
        let pitch := if mp = 0 then e.pitch * 64 else mp.toNat
        let w := Work.tile load h { e with layout := layout } (addr56 va) pitch units
        match macroWord k x s 2 (if load then .cpl h else .cps h) (some w) 0 with
        | .done s => .done (s.setEntry t h { e with state := if load then 1 else 3, pending := units * e.pitch * 64 })
        | r => r

/-- R159, R271: TMOV refuses the conversion. -/
def tmovRefused (fmt : Tab (BitVec 32)) (ts td layout : Nat) : Bool :=
  (ts != td && (tyInt ts || tyInt td)) || (layout == 2 && !bptType td) || tyUnset fmt ts || tyUnset fmt td

/-- TMOV and TMOV.K (R157-R159). -/
def tmovWord (k x : Nat) (s : State) (keep : Bool) (h : Nat) (va mp : Word) (type layout : Nat) : WRes :=
  let t := tileOf k
  let e := s.entry t h
  let fmt := (s.tile t).fmt
  match s.copyChecks k h true with
  | some r => r
  | none => match pairRefused va mp with
    | some w => .trap 6 w
    | none =>
      if tmovRefused fmt e.type type layout then .trap 13 (BitVec.ofNat 64 h)
      else match macroWord k x s 3 (.tmov h keep) (some (.tmov e (addr56 va) mp.toNat type layout fmt)) 0 with
        | .done s => .done (s.setEntry t h { e with state := 3, pending := e.extent * 64 })
        | r => r

/-- R160: the metadata bytes of an entry. -/
def TileEntry.metaBytes (e : TileEntry) : Nat := (e.rows * e.cols + 511) / 512 * 64

/-- CPMETA (R160). DESIGN CHOICE (notes/assumptions/114.md): the address's alignment is checked before the wait for READY, and the
metadata memory's limit after it. -/
def cpmetaWord (k x : Nat) (s : State) (h off : Nat) (va : Word) : WRes :=
  let t := tileOf k
  let e := s.entry t h
  if e.state = 0 then .trap 14 (BitVec.ofNat 64 h)
  else if va.toNat % 64 != 0 then .trap 6 (addrWord va)
  else if e.state ≠ 2 then .wait s
  else if 262144 < off * 1024 + e.metaBytes then .trap 13 (BitVec.ofNat 64 h)
  else macroWord k x s 2 (.cpmeta h)
    (some (.copy (tileBase t + 0x500000 + off * 1024) (addr56 va) e.metaBytes 1 1 0 0 0 0)) 0

/-- CPMC (R160, R161): its checks of the members are the command's. -/
def cpmcWord (k x : Nat) (s : State) (h g : Nat) (va mp : Word) : WRes :=
  match pairRefused va mp with
  | some w => .trap 6 w
  | none =>
    if s.heldByStep (tileOf k) h then .wait s
    else macroWord k x s 2 (.cpmc h g) (some (.cpmc (addr56 va) mp.toNat h {} [])) 0

/-- CPACC (R162). DESIGN CHOICE (notes/assumptions/114.md): of several misaligned operands the destination is reported first, then the
source, then the length. -/
def cpaccWord (k x : Nat) (s : State) (op : Nat) (d a n : Word) : WRes :=
  let z := opSize op
  if d.toNat % z != 0 then .trap 6 (addrWord d)
  else if a.toNat % z != 0 then .trap 6 (addrWord a)
  else if n.toNat % z != 0 || decide (16777216 < n.toNat) then .trap 6 n
  else macroWord k x s 2 .cpacc (if n = 0 then none else some (.acc op (addr56 d) (addr56 a) n.toNat)) 0

/-- CPACCR, CPCAS (R162): a returning command on one element. -/
def returningWord (k x : Nat) (s : State) (d : Word) (r : Rmw) : WRes :=
  if d.toNat % r.size != 0 then .trap 6 (addrWord d) else macroWord k x s 2 .returning (some (.rmw (addr56 d) r false)) 0

/-- SIGNAL and SIGNAL.W (R171). -/
def signalWord (k x : Nat) (s : State) (d : Word) (r : Rmw) (wake : Bool) : WRes :=
  if d.toNat % r.size != 0 then .trap 6 (addrWord d) else macroWord k x s 2 .signal (some (.rmw (addr56 d) r wake)) 0

/-- SPAWN (R172): the child counts in the census from issue on. -/
def spawnWord (k x : Nat) (s : State) (d a : Word) : WRes :=
  if a.toNat % 128 != 0 then .trap 6 (addrWord a)
  else if d.toNat % 128 != 0 then .trap 6 (addrWord d)
  else
    let task := (s.slot k).task
    match macroWord k x s 2 .spawn (some (.spawn (addr56 d) (addr56 a))) task.deadline.toNat with
    | .done s => .done (s.raiseCensus task.launch 1)
    | r => r

/-- CAIRN.ROLL (R175). -/
def cairnRollWord (k x : Nat) (s : State) (n : Word) : WRes :=
  match (s.slot k).cairns.find? n.toNat with
  | none => .trap 20 1
  | some c => if c.lost then .trap 20 2 else macroWord k x s 2 (.roll n.toNat) (some (.roll [] 0)) 0

/-! ## The words -/

/-- TDEF (R154): Two-word definition of a tile-table entry. -/
def execTdef (h : Hdr) (u : BitVec 6) (k : BitVec 5) (l : BitVec 2) (t : BitVec 5) (p : BitVec 16) (s : State) : Out :=
  .next (s.issueCore (.tdef h u k l t p) h 2 fun kk _ s v => tdefWord kk s u.toNat (v.reg k) t.toNat l.toNat p.toNat)

/-- TFREE (R154): Frees an owned READY tile-table entry. -/
def execTfree (h : Hdr) (t : BitVec 6) (s : State) : Out :=
  .next (s.issueCore (.tfree h t) h 1 fun kk _ s _ => tfreeWord kk s t.toNat)

/-- TQRY_W0 (R154): Reads word 0 of a tile-table entry. -/
def execTqryW0 (h : Hdr) (t : BitVec 6) (d : BitVec 5) (s : State) : Out :=
  .next (s.issueCore (.tqryW0 h t d) h 1 fun kk xx s _ => .done (s.commit kk xx (latencyOf (.tqryW0 h t d)) [.scalar d (s.entry (tileOf kk) t.toNat).word0]))

/-- TQRY_W1 (R154): Reads word 1 of a tile-table entry. -/
def execTqryW1 (h : Hdr) (t : BitVec 6) (d : BitVec 5) (s : State) : Out :=
  .next (s.issueCore (.tqryW1 h t d) h 1 fun kk xx s _ => .done (s.commit kk xx (latencyOf (.tqryW1 h t d)) [.scalar d (s.entry (tileOf kk) t.toNat).word1]))

/-- TMOV (R159): Converted tile-to-memory move that empties the entry. -/
def execTmov (h : Hdr) (u : BitVec 6) (k : BitVec 5) (l : BitVec 2) (t : BitVec 5) (s : State) : Out :=
  .next (s.issueCore (.tmov h u k l t) h 1 fun kk xx s v => tmovWord kk xx s false u.toNat (v.reg k) (v.reg (k + 1)) t.toNat l.toNat)

/-- TMOV_K (R159): Converted tile-to-memory move that keeps the entry. -/
def execTmovK (h : Hdr) (u : BitVec 6) (k : BitVec 5) (l : BitVec 2) (t : BitVec 5) (s : State) : Out :=
  .next (s.issueCore (.tmovK h u k l t) h 1 fun kk xx s v => tmovWord kk xx s true u.toNat (v.reg k) (v.reg (k + 1)) t.toNat l.toNat)

/-- CPL (R157): Raw copy from memory into a tile entry. -/
def execCpl (h : Hdr) (t : BitVec 6) (k : BitVec 5) (r : Bool) (l : BitVec 2) (s : State) : Out :=
  .next (s.issueCore (.cpl h t k r l) h 1 fun kk xx s v => tileCopyWord kk xx s true t.toNat (v.reg k) (v.reg (k + 1)) r l.toNat)

/-- CPS (R157): Raw copy from a tile entry to memory. -/
def execCps (h : Hdr) (t : BitVec 6) (k : BitVec 5) (r : Bool) (l : BitVec 2) (s : State) : Out :=
  .next (s.issueCore (.cps h t k r l) h 1 fun kk xx s v => tileCopyWord kk xx s false t.toNat (v.reg k) (v.reg (k + 1)) r l.toNat)

/-- CPMETA (R160): Loads sparsity metadata for a weight tile. -/
def execCpmeta (h : Hdr) (t : BitVec 6) (k : BitVec 5) (o : BitVec 8) (s : State) : Out :=
  .next (s.issueCore (.cpmeta h t k o) h 1 fun kk xx s v => cpmetaWord kk xx s t.toNat o.toNat (v.reg k))

/-- CPMC (R161): Multicasts into a tile entry of every member of a group. -/
def execCpmc (h : Hdr) (t : BitVec 6) (k : BitVec 5) (m : BitVec 8) (s : State) : Out :=
  .next (s.issueCore (.cpmc h t k m) h 1 fun kk xx s v => cpmcWord kk xx s t.toNat m.toNat (v.reg k) (v.reg (k + 1)))

/-- CPACC (R163): Non-returning accumulate of a source range into a destination. -/
def execCpacc (h : Hdr) (d a b : BitVec 5) (o : BitVec 4) (s : State) : Out :=
  .next (s.issueCore (.cpacc h d a b o) h 1 fun kk xx s v => cpaccWord kk xx s o.toNat (v.reg d) (v.reg a) (v.reg b))

/-- CPACCR (R163): Returning single-element accumulate. -/
def execCpaccr (h : Hdr) (d a : BitVec 5) (o : BitVec 4) (s : State) : Out :=
  .next (s.issueCore (.cpaccr h d a o) h 1 fun kk xx s v => returningWord kk xx s (v.reg d) (.op o.toNat (opSize o.toNat) ((v.reg a).toNat % 2 ^ (8 * opSize o.toNat))))

/-- CPCAS_W (R163): 32-bit compare-and-swap with a response. -/
def execCpcasW (h : Hdr) (d a b : BitVec 5) (s : State) : Out :=
  .next (s.issueCore (.cpcasW h d a b) h 1 fun kk xx s v => returningWord kk xx s (v.reg d) (.cas 4 (v.reg a).toNat (v.reg b).toNat))

/-- CPCAS_D (R163): 64-bit compare-and-swap with a response. -/
def execCpcasD (h : Hdr) (d a b : BitVec 5) (s : State) : Out :=
  .next (s.issueCore (.cpcasD h d a b) h 1 fun kk xx s v => returningWord kk xx s (v.reg d) (.cas 8 (v.reg a).toNat (v.reg b).toNat))

/-- SIGNAL (R171): Non-returning add to a 64-bit signal after a release. -/
def execSignal (h : Hdr) (d a : BitVec 5) (s : State) : Out :=
  .next (s.issueCore (.signal h d a) h 1 fun kk xx s v => signalWord kk xx s (v.reg d) (.add64 (v.reg a).toNat) false)

/-- SIGNAL_W (R171): Non-returning add to a 32-bit dependence counter, with WAKE. -/
def execSignalW (h : Hdr) (d a : BitVec 5) (s : State) : Out :=
  .next (s.issueCore (.signalW h d a) h 1 fun kk xx s v => signalWord kk xx s (v.reg d) (.op 0 4 ((v.reg a).toNat % 4294967296)) true)

/-- SPAWN (R172): Copies a child task record and places it when ready. -/
def execSpawn (h : Hdr) (d a : BitVec 5) (s : State) : Out :=
  .next (s.issueCore (.spawn h d a) h 1 fun kk xx s v => spawnWord kk xx s (v.reg d) (v.reg a))

/-- CAIRN_ROLL (R175): Writes a cairn's saved granules back and frees it. -/
def execCairnRoll (h : Hdr) (a : BitVec 5) (s : State) : Out :=
  .next (s.issueCore (.cairnRoll h a) h 1 fun kk xx s v => cairnRollWord kk xx s (v.reg a))


end Sys2Proof.Machine
end

