-- ==== Sys2Proof/Machine/Copy.lean ====
section
/-! DEFINITION. Sys2Proof/Machine/Copy.lean: the start and the end of copy commands (R144-R146, R385, R386), chains (R209-R213),
and the words of command programs (R217-R223). -/

namespace Sys2Proof.Machine

/-! ## Start and end of a macro's command -/

/-- R161: the members of a multicast agree, as the command finds them. -/
def State.membersAgree (s : State) (h : Nat) (tiles : List Nat) : Bool :=
  match tiles with
  | [] => false
  | t0 :: ts =>
    let e0 := s.entry t0 h
    ts.all fun t =>
      let e := s.entry t h
      e.extent == e0.extent && e.layout == e0.layout && e.pitch == e0.pitch

/-- The tiles of a group (R45). -/
def State.members (s : State) (g : Nat) : List Nat := ((s.groups.find? g).map Group.members).getD []

/-- What starting adds to a command: the members of CPMC, or its end with BADTILE (R161). -/
def State.begun (s : State) (j : Job) : Job :=
  match j.mac, j.flights with
  | some (.cpmc h g), f :: _ =>
    let tiles := s.members g
    if s.membersAgree h tiles then
      match f.work with
      | .cpmc src mp _ _ _ =>
        let e := s.entry (tiles.headD 0) h
        { j with started := true,
                 flights := [{ f with work := .cpmc src (if mp = 0 then e.pitch * 64 else mp) h e tiles }] }
      | _ => { j with started := true }
    else { j with started := true, stop := some 7, flights := [] }
  | _, _ => { j with started := true }

/-- R46: the command that a queue of a tile copy engine pops next. -/
def State.nextQueued (s : State) (t q : Nat) : Option (Nat × Job) :=
  List.find? (fun (p : Nat × Job) => p.2.mac.isSome && p.2.engine == t && p.2.queue == q && !p.2.started) s.jobs

/-- COPY_START (R144, R46): the tile copy engine pops a queue's next command; CPACC and SIGNAL return cp (R386). -/
def execCopyStart (s : State) : Out :=
  .next (match s.nextQueued s.inp.unit s.inp.x with
    | some (id, j) =>
      let s := s.setJob id (s.begun j)
      match j.mac with
      | some .cpacc => s.retireOp id
      | some .signal => s.retireOp id
      | _ => s
    | none => s)

/-- The value that a returning command answers. -/
def Job.answer (j : Job) : Word := (j.flights.findSome? fun f => f.old).getD 0
/-- The destination of a returning command. -/
def Job.target (j : Job) : Nat := (j.flights.findSome? fun f => match f.work with
  | .rmw d _ _ => some d
  | _ => none).getD 0

/-- R145: the response of a returning command lands in its place. -/
def landResp (id : Nat) (v : Nat × Word × Nat) (sl : Slot) : Slot :=
  { sl with resp := updateWhere (fun r : Resp => r.op == id) (fun r => { r with val := some v }) sl.resp }

/-- R146: a status goes to the copy-status record of the task, its first failure kept, or with the task gone to its launch.
The second result is the code with which the census item falls. -/
def State.copyFails (s : State) (j : Job) (status : Nat) : State × Nat :=
  if status = 0 then (s, 0)
  else if (s.taskSlot j.owner).isSome then
    (s.modTask j.owner fun sl => { sl with copyStatus := sl.copyStatus.or (some (status, j.badOff)) }, 0)
  else (s, status)

/-- R175: the cairn is freed, and the die's reserve takes its granules back. -/
def State.freeCairn (s : State) (k owner n : Nat) : State :=
  match ((s.taskSlot owner).getD {}).cairns.find? n with
  | none => s
  | some c => { s with cairnFree := s.cairnFree.set (dieOf k) (s.cairnFree.get 0 (dieOf k) + c.saved.length) }.modTask owner fun sl =>
      { sl with cairns := sl.cairns.del n }

/-- R146, R161: the members that a failing multicast was filling. -/
def State.membersFail (s : State) (j : Job) (h : Nat) : State :=
  (j.flights.flatMap fun f => (f.branch.filter fun (b : Nat × Nat) => decide (b.2 < f.work.total s j)).map Prod.fst).foldl
    (fun s t => s.entryFails t h true) s

/-- R22: what the command's end does at its tile, and a multicast's at its members' tiles, is an arrival of the cycle. -/
def State.endArrives (s : State) (j : Job) : Bool :=
  s.arrives j.engine && j.flights.all fun f => match f.work with
    | .cpmc _ _ _ _ tiles => tiles.all s.arrives
    | _ => true

/-- R146, R161: a multicast that fails before it has filled any member has no entry to report to yet; its status goes where that of
any other command goes. DESIGN CHOICE (notes/assumptions/115.md). -/
def State.castFails (s : State) (j : Job) (h st : Nat) : State × Nat :=
  if st = 7 ∨ j.flights.all (fun f => f.branch.isEmpty) then s.copyFails j st else (s.membersFail j h, 0)

/-- The command of a tile entry has bytes left to move in or out of it. -/
def State.stillMoves (s : State) (j : Job) : Bool :=
  j.flights.any fun f => match f.work with
    | .tmov e .. => decide (f.buf.length < e.extent * 64)
    | .tile false h e m p u => decide (f.done + f.buf.length < (Work.tile false h e m p u).total s j)
    | w => decide (f.done < w.total s j)

/-- R158: a walk of no bytes has nothing to wait for, so its end turns the entry READY. -/
def State.emptyWalk (s : State) (j : Job) (h : Nat) : State :=
  if (j.flights.all fun f => f.work.total s j == 0) && (s.entry j.engine h).pending == 0 then s.entryFails j.engine h false else s

/-- R286: a failing command's entry; one whose walk has no bytes has waited for its command's end. -/
def State.failEntry (s : State) (j : Job) (h : Nat) (fault : Bool) : State :=
  if s.stillMoves j || ((j.flights.all fun f => f.work.total s j == 0) && (s.entry j.engine h).pending == 0) then
    s.entryFails j.engine h fault
  else s

/-- R146, R158, R286: what the end of a macro's command does, with its status. -/
def State.macroEnds (s : State) (id : Nat) (j : Job) (m : Macro) (st : Nat) : State × Nat :=
  match m with
  | .cpl h => (if st = 0 then s.emptyWalk j h else s.failEntry j h true, 0)
  | .cps h => (if st = 0 then s.emptyWalk j h else s.failEntry j h false).copyFails j st
  | .tmov h _ => (if st = 0 then s else s.failEntry j h false).copyFails j st
  | .cpmc h _ => if st = 0 then (s, 0) else s.castFails j h st
  | .returning => (s.modTask j.owner (landResp id (st, if st = 0 then j.answer else 0, j.target)), 0)
  | .spawn => (if st = 0 then s else s.lowerCensus j.launch 0).copyFails j st
  | .roll n => (if st = 0 ∨ st = 1 then s.freeCairn j.k j.owner n else s).copyFails j st
  | _ => s.copyFails j st

/-- The status of a finished command. -/
def Job.status (j : Job) : Nat :=
  match j.dead.or j.stop with
  | some c => c
  | none => match j.mac with
    | some (.roll _) => if j.flights.any fun f => f.old.isSome then 1 else 0
    | _ => 0

/-- Every byte of the command is done, and for a chain command its program has ended; a torn-down one ends at once. -/
def State.finished (s : State) (j : Job) : Bool :=
  j.dead.isSome || (j.started && j.susp.isNone && (j.mac.isSome || j.stop.isSome) && j.flights.all fun f => s.flightOver j f)

/-- COPY_COMPLETE (R146): a macro's command completes: its entry, response or status, its counter and its census item. -/
def execCopyComplete (s : State) : Out :=
  .next (
    let id := s.inp.id
    let j := s.job id
    match j.mac with
    | some m =>
      if s.finished j && s.endArrives j then
        let r := s.macroEnds id j m j.status
        ({ r.1 with jobs := r.1.jobs.del id }.retireOp id).lowerCensus j.launch r.2
      else s
    | none => s)

/-! ## Chains (R209-R213) -/

/-- A command of a chain as an issuer of accesses, before it has an entry. -/
def Chain.job (c : Chain) (id : Nat) : Job :=
  { engine := c.engine, queue := 2, started := true, asid := c.asid, launch := c.launch, phys := c.pilot, chain := id }

/-- R211: the pilot refuses the block; `rest` is its reserved bytes (R7). -/
def ccbRefused (base size cring rest : Nat) : Bool :=
  base % 128 != 0 || decide (2 ^ 56 ≤ base) || !((List.range 13).any fun i => size == 2 ^ (i + 4)) || cring % 16 != 0 || rest != 0

/-- R211, R352: where a chain's control block lies now: a block outside this package, or not in one piece, is reached by nobody. -/
def State.blockAt (s : State) (id : Nat) (c : Chain) : Reach :=
  match s.jobReach (c.job id) .both (spanOf c.ccb 64) with
  | .ok locs =>
    let l := (locs.headD (0, 0)).1
    if isRemote l || locs.map Prod.fst != (List.range 64).map (l + ·) then .hole c.ccb else .ok locs
  | r => r

/-- R211: the chain of a task, a host queue or the pilot itself that the pilot is asked to register: `x` is 0 for a task of launch `c`,
1 for the pilot, 2 for host queue `c`. A task's and a queue's chain has its owner's ASID and PILOT clear. -/
def State.askedChain (s : State) : Chain :=
  let i := s.inp
  if i.x = 0 then { ccb := i.a, engine := i.unit, asid := (s.launch i.c).asid, launch := i.c }
  else if i.x = 1 then { ccb := i.a, engine := i.unit, asid := i.b % 256, pilot := true }
  else { ccb := i.a, engine := i.unit, asid := (s.hqueue i.c).asid }

/-- CHAIN_REGISTER (R211): chain `id` of engine `unit`, its block at `a`; a refusal is reported to who asked. -/
def execChainRegister (s : State) : Out :=
  .next (
    let i := s.inp
    let c := s.askedChain
    match s.blockAt i.id c with
    | .ok locs =>
      let l := (locs.headD (0, 0)).1
      let rd := fun o n => Memory.readLe s.mem (l + o) n
      if (s.chains.find? i.id).isSome || ccbRefused (rd 0 8) (rd 8 4) (rd 24 8) (rd 42 22) then { s with refusals := s.refusals ++ [(i.x, i.c, i.a)] }
      else
        let c := { c with base := rd 0 8, size := rd 8 4, tail := rd 32 4, head := rd 32 4, bias := rd 36 4, done := rd 16 8, loc := l }
        { s.writeRun (l + 40) [BitVec.ofNat 8 c.asid, BitVec.ofNat 8 c.pilot.toNat] with chains := s.chains.set i.id c }
    | _ => { s with refusals := s.refusals ++ [(i.x, i.c, i.a)] })

/-- R211: where entry index `j` and its record lie. -/
def Chain.entryAt (c : Chain) (j : Nat) : Nat := c.base + (j + 2 ^ 32 - c.bias) % 2 ^ 32 % c.size * 128
def Chain.recordAt (c : Chain) (cring j : Nat) : Nat := cring + (j + 2 ^ 32 - c.bias) % 2 ^ 32 % c.size * 16

/-- R212: the largest TAIL seen. -/
def Chain.keep (c : Chain) (tail : Nat) : Chain :=
  let d := (tail + 2 ^ 32 - c.tail) % 2 ^ 32
  if 0 < d ∧ d < 2 ^ 31 then { c with tail := tail } else c

/-- The chain's commands that have not completed. -/
def State.chainJobs (s : State) (id : Nat) : List (Nat × Job) :=
  s.jobs.filter fun (p : Nat × Job) => p.2.mac.isNone && p.2.chain == id

/-- R223: a LINK that has yet to apply decides where the next entry lies. -/
def State.linking (s : State) (id : Nat) : Bool := (s.chainJobs id).any fun p => p.2.code.any fun w => w / 2 ^ 24 == 0x8D

/-- R64, R94: the word stays inside the program it stands in. -/
def inProgram (i : Instr) (pc len : Nat) : Bool :=
  match i with
  | .br _ o => decide (0 ≤ (pc : Int) + o.toInt) && decide ((pc : Int) + o.toInt < len)
  | .call _ o => decide (0 ≤ (pc : Int) + o.toInt) && decide ((pc : Int) + o.toInt < len)
  | .loop _ _ l _ => decide (pc + l.toNat < len)
  | .loopx _ _ l _ => decide (pc + l.toNat < len)
  | _ => true

/-- The instruction at a word of a copy program, if the word is legal there (R57, R70-R74). DESIGN CHOICE (notes/assumptions/116.md): a
two-word form whose first word is the program's last is an illegal word. -/
def copyDecode (code : List Nat) (len pc : Nat) : Option Instr :=
  let w := code.getD pc 0
  if twoWordCopy w && decide (len ≤ pc + 1) then none
  else (decode .copy w (code.getD (pc + 1) 0)).filter fun i : Instr => inProgram i pc len

/-- R74: the first illegal word of a program, read through word by word: the command writes nothing. -/
def copyScan (code : List Nat) (len : Nat) : Nat → Nat → Option Nat
  | 0, _ => none
  | n + 1, pc =>
    if len ≤ pc then none
    else match copyDecode code len pc with
    | none => some pc
    | some _ => copyScan code len n (if twoWordCopy (code.getD pc 0) then pc + 2 else pc + 1)

/-- The words that may follow a word of a program, its transfer taken or not; what JMPR names is not known. -/
def copyNext (pc : Nat) (two : Bool) : Instr → List Nat
  | .br _ o => [pc + 1, ((pc : Int) + o.toInt).toNat]
  | .call _ o => [pc + 1, ((pc : Int) + o.toInt).toNat]
  | _ => [if two then pc + 2 else pc + 1]

/-- The words that a program may come to, from those to do; the number bounds how many are looked at. -/
def copyReach (code : List Nat) (len : Nat) : Nat → List Nat → List Nat → List Nat
  | 0, seen, _ => seen
  | _, seen, [] => seen
  | n + 1, seen, pc :: todo =>
    if len ≤ pc || seen.contains pc then copyReach code len n seen todo
    else
      let next := (copyDecode code len pc).toList.flatMap (copyNext pc (twoWordCopy (code.getD pc 0)))
      copyReach code len n (pc :: seen) (next ++ todo)

/-- R57, R74: the words that are illegal where the program comes to them: as a first word, or as a pair at the end of a loop's body. -/
def copyTraps (code : List Nat) (len : Nat) : List Nat :=
  (copyReach code len (3 * len + 3) [] [0]).flatMap fun pc => match copyDecode code len pc with
    | none => [pc]
    | some (.loop _ _ l _) => if twoWordCopy (code.getD (pc + l.toNat) 0) then [pc + l.toNat] else []
    | some (.loopx _ _ l _) => if twoWordCopy (code.getD (pc + l.toNat) 0) then [pc + l.toNat] else []
    | some _ => []

/-- The word hands an old value to a register (R220). -/
def returnsOld : Instr → Bool
  | .accr _ _ _ b _ => b != 0
  | .casW _ _ _ b => b != 0
  | .casD _ _ _ b => b != 0
  | _ => false

/-- R74: the word at which a command ends before anything of it is written. A program whose words wait for an old value that the command
itself writes is looked through for what it may come to (notes/assumptions/121.md). -/
def copyIllegal (code : List Nat) (len : Nat) : Option Nat :=
  match copyScan code len len 0 with
  | some w => some w
  | none =>
    if (List.range len).any fun pc => (copyDecode code len pc).any returnsOld then (copyTraps code len).foldl (fun m w => some (min w (m.getD w))) none
    else none

/-- R208, R210: the command that an entry starts. -/
def Chain.command (c : Chain) (id seq : Nat) (entry : List Byte) (code : List Byte ⊕ Nat) : Job :=
  let h := leNat (entry.take 8)
  let len := h % 256
  let j := { c.job id with seq := seq, index := c.head, ord := flag h 8, intr := flag h 9, len := len }
  match code with
  | .inr st => { j with stop := some st, len := 0 }
  | .inl bs =>
    let ws := (chunks 4 len bs).map leNat
    let regs := (List.range 8).foldl (fun t i => writeScalar t (BitVec.ofNat 5 (i + 1))
      (BitVec.ofNat 64 (leNat ((entry.drop (8 + 8 * i)).take 8)))) ([] : Tab Word)
    let j := { j with code := ws, prog := { regs := regs } }
    match copyIllegal ws len with
    | some w => { j with stop := some 5, badWord := w }
    | none => j

/-- R209, R210: the program that an entry at `va` names, read up to its length; `entry` is its header and arguments. A refused header
ends the command; a program on a page that does not translate waits (R354, R456). Another package's bytes are `far`. -/
def State.chainCode (s : State) (j : Job) (va : Nat) (entry far : List Byte) : SrcRes :=
  let h := leNat (entry.take 8)
  let len := h % 256
  let paddr := fld h 10 54 * 4
  if len = 0 ∨ (14 < len ∧ paddr = 0) then .other (.fail 5)
  else s.jobReadFrom j far (spanOf (if paddr = 0 then va + 72 else paddr) (len * 4))

/-- R353, R354, R456: the chain's engine meets a translation fault on the ring, the block or a program: it is recorded, and the chain
waits there. -/
def State.chainWaits (s : State) (id : Nat) (c : Chain) (seq va cause acc asid : Nat) : State :=
  let j := c.job id
  let t := s.faultRecord { va := va, launch := c.launch, asid := asid, cause := cause, access := acc, agent := j.agent,
                           who := j.whoCode, chain := c.ccb, seq := seq }
  { t with chains := t.chains.set id { c with wait := some va } }

/-- R212: the command of an entry starts: HEAD moves on. -/
def State.entryStarts (s : State) (id : Nat) (c : Chain) (j : Job) : State :=
  let c' := { c with head := (c.head + 1) % 2 ^ 32 }
  let s := { s with chains := s.chains.set id c', nextId := s.nextId + 1 }.setJob s.nextId j
  (s.writeRun (c.loc + 32) (leBytes 4 c'.head)).raiseCensus c.launch 1

/-- R209, R212: the engine reads the entry at its head: the header and the arguments, then the program. The bytes of an entry or a
program in another package come with the event, the entry's first. -/
def State.readEntry (s : State) (id : Nat) (c : Chain) (seq : Nat) : State :=
  let j := c.job id
  let va := c.entryAt c.head
  let far := match s.jobReach j .read (spanOf va 72) with
    | .ok locs => locs.any fun p => isRemote p.1
    | _ => false
  let ended := fun st : Nat => s.entryStarts id c { j with seq := seq, index := c.head, stop := some st }
  match s.jobReadFrom j (s.inp.data.take 72) (spanOf va 72) with
  | .ok entry => match s.chainCode j va entry (if far then s.inp.data.drop 72 else s.inp.data) with
    | .ok code => s.entryStarts id c (c.command id seq entry (.inl code))
    | .other (.fail st) => s.entryStarts id c (c.command id seq entry (.inr st))
    | .other (.fault v cause acc asid) => s.chainWaits id c seq v cause acc asid
    | .other _ => s
  | .other (.fail st) => ended st
  | .other (.fault v cause acc asid) => s.chainWaits id c seq v cause acc asid
  | .other _ => s

/-- R212: the engine looks at TAIL, in the block whose first byte lies at `l`. -/
def State.seenTail (s : State) (c : Chain) (l : Nat) : Chain := ({ c with loc := l } : Chain).keep (Memory.readLe s.mem (l + 12) 4)

/-- R212: the engine reads the next entry, if one lies before the kept TAIL. -/
def State.nextEntry (s : State) (id : Nat) (c : Chain) (seq : Nat) : State :=
  if c.tail == c.head then s else s.readEntry id c seq

/-- CHAIN_ENTRY_READ (R212): the engine looks at TAIL and reads its next entry; a translation fault waits for service. -/
def execChainEntryRead (s : State) : Out :=
  .next (
    let id := s.inp.id
    match s.chains.find? id with
    | none => s
    | some c =>
      let seq := c.done + (s.chainJobs id).length + 1
      if c.wait.isSome || s.linking id then s
      else
      let s := s.jobTouch (c.job id) [c.ccb, c.entryAt c.head]
      match s.blockAt id c with
        | .ok locs =>
          let c := s.seenTail c (locs.headD (0, 0)).1
          { s with chains := s.chains.set id c }.nextEntry id c seq
        | .fault _ cause => s.chainWaits id c seq c.ccb cause 2 c.asid
        | .hole _ => s)

/-- R213: SEQ, and STATUS, WORD and OFFSET. -/
def Job.record (j : Job) : List Byte :=
  leBytes 8 j.seq ++ leBytes 6 (if j.status = 0 then 0 else j.badOff) ++ leBytes 1 (if j.status = 0 then 0 else j.badWord) ++
    leBytes 1 j.status

/-- An EVENT to the pilot. -/
def State.tell (s : State) (ws : List Nat) : State := { s with told := s.told ++ [ws] }

/-- R213, R223: LINK applies, DONE is written, and the command is gone. `written` says that its record stands. -/
def State.chainDone (s : State) (id : Nat) (c : Chain) (j : Job) (written : Bool) : State :=
  let s := match j.link with
    | some (b, n) =>
      let c := { c with base := b, size := n, bias := (j.index + 1) % 2 ^ 32, done := j.seq }
      let t := (s.writeRun c.loc (leBytes 8 b ++ leBytes 4 n)).writeRun (c.loc + 36) (leBytes 4 c.bias)
      { t with chains := t.chains.set j.chain c }
    | none => { s with chains := s.chains.set j.chain { c with done := j.seq } }
  let s := s.writeRun (c.loc + 16) (leBytes 8 j.seq)
  let s := if written then s else (s.tell [c.ccb, j.seq, j.status]).event (leBytes 8 c.ccb ++ leBytes 8 j.seq ++ leBytes 8 j.status)
  let s := if j.intr then s.tell [c.ccb, j.seq, j.status] else s
  { s with jobs := s.jobs.del id }.lowerCensus j.launch 0

/-- CHAIN_COMMAND_COMPLETE (R213): the next command in index order completes: its record, a LINK, then DONE. -/
def execChainCommandComplete (s : State) : Out :=
  .next (match s.chains.find? s.inp.id with
    | none => s
    | some c =>
      match (s.chainJobs s.inp.id).find? fun p => p.2.seq == c.done + 1 with
      | none => s
      | some (id, j) =>
        if !s.finished j then s
        else match s.blockAt s.inp.id c with
        | .hole _ => s
        | .fault _ cause =>
          let t := s.faultRecord { va := c.ccb, launch := j.launch, asid := c.asid, cause := cause, access := 3, agent := j.agent,
                                   who := j.whoCode, chain := c.ccb, seq := j.seq }
          t.setJob id { j with susp := some c.ccb, atRecord := true }
        | .ok locs =>
        let c := { c with loc := (locs.headD (0, 0)).1 }
        if j.recorded then s.chainDone id c j (!j.flights.isEmpty)
        else
          let at_ := c.recordAt (Memory.readLe s.mem (c.loc + 24) 8) j.index
          let f : Flight := { word := j.badWord, work := .fill at_ 16 1 0 (leNat j.record) 16 }
          match s.granule id j.flights.length j f with
          | .ok s f =>
            if f.packets.isEmpty then s.chainDone id c j true
            else s.setJob id { j with recorded := true, flights := j.flights ++ [f] }
          | .fault va cause acc asid =>
            let t := s.faultRecord { va := va, launch := j.launch, asid := asid, cause := cause, access := acc, agent := j.agent,
                                     who := j.whoCode, chain := c.ccb, seq := j.seq }
            t.setJob id { j with susp := some va, atRecord := true }
          | .fail _ => s.chainDone id c j false
          | .wait => s)

/-! ## Words of a command program (R214, R217-R223) -/

/-- A copy-engine word's effect. -/
inductive CRes where
  | ok (es : List PendEff)
  /-- data work, and the register that takes the old value of an ACCR or CAS -/
  | fly (w : Work) (reg : Option (BitVec 5))
  | link (base n : Nat)
  /-- R223: an illegal LINK, which leaves the chain unchanged -/
  | unlink
  | fail (status : Nat)

/-- The command after a word that goes on to the next. -/
def Job.pass (j : Job) (len : Nat) : Job :=
  let v := j.prog.view
  { j with prog := { j.prog with ctl := j.prog.ctl.advance (fun g => lane0 (v.pred g)) (j.prog.ctl.pc + len - 1) (j.prog.ctl.pc + len) } }

/-- A command after one of its own words, under its guard (R54). -/
def Job.copyWord (j : Job) (h : Grd) (len : Nat) (f : Job → View → CRes) : Job :=
  if !j.prog.view.guard h.g h.n then j.pass len
  else match f j j.prog.view with
    | .ok es => { j.pass len with prog := es.foldl Prog.write (j.pass len).prog }
    | .fly w r => { j.pass len with flights := j.flights ++ [{ word := j.prog.ctl.pc, work := w, reg := r }] }
    | .link b n => { j.pass len with link := some (b, n) }
    | .unlink => { j with stop := some 5, badWord := j.prog.ctl.pc, badOff := 0, link := none }
    | .fail st => { j with stop := some st, badWord := j.prog.ctl.pc, badOff := 0 }

/-- A copy-engine private word: only a command program runs it. -/
def State.copyWord (s : State) (h : Grd) (len : Nat) (f : State → Job → View → CRes) : State :=
  match s.cur with
  | .command id => let j := s.job id; if j.busy || !j.started then s else s.setJob id (j.copyWord h len (f s))
  | _ => s

/-- R217: the signed row pitches of source and destination. -/
def pitches (v : Word) : Int × Int := (fromCode true 32 (fld v.toNat 0 32), fromCode true 32 (fld v.toNat 32 32))

/-- R217, R218. -/
def cpyRes (d a n : Word) (rows planes : Nat) (row plane : Word) : CRes :=
  if 2 ^ 32 ≤ n.toNat then .fail 5
  else if n = 0 ∨ rows = 0 ∨ planes = 0 then .ok []
  else .fly (.copy (addr56 d) (addr56 a) n.toNat rows planes (pitches row).1 (pitches row).2 (pitches plane).1 (pitches plane).2) none

/-- R219. DESIGN CHOICE (notes/assumptions/117.md): all 64 bits of s[b] are the length. -/
def fillRes (d n : Word) (z : Nat) (pat : Word) (one : Bool) (c p : Word) : CRes :=
  let rows := if one then 1 else fld c.toNat 0 32
  if d.toNat % z != 0 || n.toNat % z != 0 then .fail 2
  else if n = 0 ∨ rows = 0 then .ok []
  else .fly (.fill (addr56 d) n.toNat rows (if one then 0 else (pitches p).2) (pat.toNat % 2 ^ (8 * z)) z) none

/-- R220: ACC. -/
def accRes (op : Nat) (d a n : Word) : CRes :=
  let z := opSize op
  if d.toNat % z != 0 || a.toNat % z != 0 || n.toNat % z != 0 || decide (16777216 < n.toNat) then .fail 2
  else if n = 0 then .ok [] else .fly (.acc op (addr56 d) (addr56 a) n.toNat) none

/-- R220: ACCR, CAS and WAKE. -/
def rmwRes (d : Word) (r : Rmw) (wake : Bool) (reg : Option (BitVec 5)) : CRes :=
  if d.toNat % r.size != 0 then .fail 2 else .fly (.rmw (addr56 d) r wake) reg

/-- R221. -/
def gatherRes (scatter x64 : Bool) (d a b : Word) (z : Nat) (c : Word) : CRes :=
  let n := fld c.toNat 0 32
  if 2 ^ 24 < n then .fail 5
  else if d.toNat % z != 0 || a.toNat % z != 0 || b.toNat % (if x64 then 8 else 4) != 0 then .fail 2
  else if n = 0 then .ok [] else .fly (.gather scatter x64 (addr56 d) (addr56 a) (addr56 b) n z) none

/-- R222. DESIGN CHOICE (notes/assumptions/117.md): a length of zero at an offset in a hole ends BADADDR too. -/
def mcastRes (s : State) (d a n : Word) (g : Nat) : CRes :=
  let o := d.toNat
  let e := o + n.toNat
  if o % 64 != 0 || a.toNat % 64 != 0 || n.toNat % 64 != 0 || decide (0x1000000 ≤ o) ||
      (tilePart o).isNone || (n != 0 && tilePart (e - 1) != tilePart o) || decide (0x1000000 < e) then .fail 2
  else if (s.members g).isEmpty then .fail 7
  else if n = 0 then .ok [] else .fly (.mcast (addr56 a) n.toNat o (s.members g)) none

/-- R223: LINK, of a chain command alone. -/
def linkRes (j : Job) (d : Word) (n : Nat) : CRes :=
  if j.mac.isSome || d.toNat % 128 != 0 || !((List.range 13).any fun i => n == 2 ^ (i + 4)) then .unlink else .link (addr56 d) n

/-- CPY_1D (R218): Copy-engine one-dimensional byte copy. -/
def execCpy1d (h : Grd) (d a b : BitVec 5) (s : State) : Out :=
  .next (s.copyWord h 2 fun _ _ v => cpyRes (v.reg d) (v.reg a) (v.reg b) 1 1 0 0)

/-- CPY_2D (R218): Copy-engine two-dimensional byte copy. -/
def execCpy2d (h : Grd) (d a b c p : BitVec 5) (s : State) : Out :=
  .next (s.copyWord h 2 fun _ _ v => if 2 ^ 32 ≤ (v.reg c).toNat then .fail 5 else cpyRes (v.reg d) (v.reg a) (v.reg b) (v.reg c).toNat 1 (v.reg p) 0)

/-- CPY_3D (R218): Copy-engine three-dimensional byte copy. -/
def execCpy3d (h : Grd) (d a b c p : BitVec 5) (s : State) : Out :=
  .next (s.copyWord h 2 fun _ _ v => cpyRes (v.reg d) (v.reg a) (v.reg b) (fld (v.reg c).toNat 0 32) (fld (v.reg c).toNat 32 32) (v.reg p) (v.reg (p + 1)))

/-- ZERO (R219): Copy-engine write of zeros. -/
def execZero (h : Grd) (d b c p : BitVec 5) (s : State) : Out :=
  .next (s.copyWord h 2 fun _ _ v => fillRes (v.reg d) (v.reg b) 1 0 (c == 0) (v.reg c) (v.reg p))

/-- FILL (R219): Copy-engine write of a repeated pattern. -/
def execFill (h : Grd) (d a b : BitVec 5) (z : BitVec 2) (c p : BitVec 5) (s : State) : Out :=
  .next (s.copyWord h 2 fun _ _ v => fillRes (v.reg d) (v.reg b) (2 ^ z.toNat) (v.reg a) (c == 0) (v.reg c) (v.reg p))

/-- ACC (R220): Copy-engine non-returning accumulate. -/
def execAcc (h : Grd) (d a b : BitVec 5) (o : BitVec 4) (s : State) : Out :=
  .next (s.copyWord h 1 fun _ _ v => accRes o.toNat (v.reg d) (v.reg a) (v.reg b))

/-- ACCR (R220): Copy-engine returning accumulate into s[b]. -/
def execAccr (h : Grd) (d a b : BitVec 5) (o : BitVec 4) (s : State) : Out :=
  .next (s.copyWord h 1 fun _ _ v => rmwRes (v.reg d) (.op o.toNat (opSize o.toNat) ((v.reg a).toNat % 2 ^ (8 * opSize o.toNat))) false (if b = 0 then none else some b))

/-- CAS_W (R220): Copy-engine 32-bit compare-and-swap. -/
def execCasW (h : Grd) (d a b : BitVec 5) (s : State) : Out :=
  .next (s.copyWord h 1 fun _ _ v => rmwRes (v.reg d) (.cas 4 (v.reg a).toNat (v.reg b).toNat) false (if b = 0 then none else some b))

/-- CAS_D (R220): Copy-engine 64-bit compare-and-swap. -/
def execCasD (h : Grd) (d a b : BitVec 5) (s : State) : Out :=
  .next (s.copyWord h 1 fun _ _ v => rmwRes (v.reg d) (.cas 8 (v.reg a).toNat (v.reg b).toNat) false (if b = 0 then none else some b))

/-- GATHER (R221): Gathers elements through an index list. -/
def execGather (h : Grd) (d a b : BitVec 5) (z : BitVec 2) (x : Bool) (c : BitVec 5) (s : State) : Out :=
  .next (s.copyWord h 2 fun _ _ v => gatherRes false x (v.reg d) (v.reg a) (v.reg b) (2 ^ z.toNat) (v.reg c))

/-- SCATTER (R221): Scatters elements through an index list. -/
def execScatter (h : Grd) (d a b : BitVec 5) (z : BitVec 2) (x : Bool) (c : BitVec 5) (s : State) : Out :=
  .next (s.copyWord h 2 fun _ _ v => gatherRes true x (v.reg d) (v.reg a) (v.reg b) (2 ^ z.toNat) (v.reg c))

/-- MCAST (R222): Writes one source into every member tile of a group. -/
def execMcast (h : Grd) (d a b : BitVec 5) (m : BitVec 8) (s : State) : Out :=
  .next (s.copyWord h 2 fun s _ v => mcastRes s (v.reg d) (v.reg a) (v.reg b) m.toNat)

/-- WAKE (R220): Adds to a task dependence counter and places the task at zero. -/
def execWake (h : Grd) (d a : BitVec 5) (s : State) : Out :=
  .next (s.copyWord h 1 fun _ _ v => rmwRes (v.reg d) (.op 0 4 ((v.reg a).toNat % 4294967296)) true none)

/-- SEQ (R223): Reads the sequence this command will complete with. -/
def execSeq (h : Grd) (d : BitVec 5) (s : State) : Out :=
  .next (s.copyWord h 1 fun _ j _ => .ok [.scalar d (BitVec.ofNat 64 j.seq)])

/-- LINK (R223): Moves the chain to a new ring at command completion. -/
def execLink (h : Grd) (d : BitVec 5) (c : BitVec 17) (s : State) : Out :=
  .next (s.copyWord h 2 fun _ j v => linkRes j (v.reg d) c.toNat)


end Sys2Proof.Machine
end

