-- ==== Sys2Proof/Machine/Units.lean ====
section
/-! DEFINITION. Sys2Proof/Machine/Units.lean: the function units of the collar: what a site does with the tokens at its inputs
(R298, R300-R303, R316, R317). -/

namespace Sys2Proof.Machine

/-! ## Arithmetic beyond R130-R134 (R301) -/

/-- R301: DIV. -/
def WFmt.divVal (f : WFmt) (x y : FVal) : Nat × BitVec 5 :=
  match x, y with
  | .nan, _ => (f.nanCode, 0)
  | _, .nan => (f.nanCode, 0)
  | .inf _, .inf _ => (f.nanCode, flagIV)
  | .inf a, .num b _ _ => (f.infCode (a != b), 0)
  | .num a _ _, .inf b => (f.zeroCode (a != b), 0)
  | .num a m e, .num b n g =>
    if n = 0 then (if m = 0 then (f.nanCode, flagIV) else (f.infCode (a != b), flagDZ))
    else if m = 0 then (f.zeroCode (a != b), 0)
    else
      let p := bitLen n + f.mb + 4
      f.round 0 (a != b) (cutDiv m n p) (e - g - p - 1)

/-- Fixed-point bits that 2^x is worked out with. -/
def expBits : Nat := 192

/-- The integer part of a square root, `n` bits long. -/
def isqrt (n v : Nat) : Nat := sqrtBits v n 0

/-- 2^(0.b1b2…) with `expBits` fixed-point bits: the product of the roots 2^(1/2), 2^(1/4), … that the bits of `fr` choose,
from its highest bit down. -/
def expFrac : Nat → Nat → Nat → Nat → Nat
  | 0, _, _, acc => acc
  | n + 1, fr, root, acc =>
    let root := isqrt (expBits + 1) (root * 2 ^ expBits)
    expFrac n fr root (if fr.testBit n then acc * root / 2 ^ expBits else acc)

/-- R301: EXP2, correctly rounded: an inexact result lies strictly between two fixed-point neighbours. -/
def WFmt.exp2 (f : WFmt) (x : FVal) : Nat × BitVec 5 :=
  match x with
  | .nan => (f.nanCode, 0)
  | .inf s => if s then (f.zeroCode false, 0) else (f.infCode false, 0)
  | .num s m e =>
    if m = 0 then f.round 0 false 1 0
    else if 2 ^ 12 * 2 ^ (-e).toNat ≤ m * 2 ^ e.toNat then
      (if s then (f.zeroCode false, flagUF ||| flagIX) else (f.infCode false, flagOF ||| flagIX))
    else
      let v := signed s (m * 2 ^ e.toNat)
      let d := (-e).toNat
      let n := v / 2 ^ d
      let fr := (v % 2 ^ d).toNat
      if fr = 0 then f.round 0 false 1 n
      else
        -- fraction bits past the first 160 move the result by less than any rounding looks at
        let fb := if d ≤ 160 then fr * 2 ^ (160 - d) else fr / 2 ^ (d - 160)
        let y := expFrac 160 fb (2 ^ (expBits + 1)) (2 ^ expBits)
        f.round 0 false (2 * y + 1) (n - expBits - 1)

/-! ## What a firing gives -/

/-- R317: what a delivered value adds to the counts. -/
def FVal.log (v : FVal) : Option Int :=
  match v with
  | .num _ m e => if m = 0 then none else some (log2Of m e)
  | _ => none

def Sound.log (c : Sound) (v : FVal) : Sound :=
  match v.log with
  | some e => { c with maxExp := max c.maxExp e }
  | none => c

/-- R318: counts saturate. -/
def sat32 (n : Nat) : Nat := min n 0xFFFFFFFF

def Sound.tally (c : Sound) (t : Tally) : Sound :=
  match t with
  | .none => c
  | .nan => { c with nan := sat32 (c.nan + 1) }
  | .inf => { c with inf := sat32 (c.inf + 1) }
  | .sat => { c with sat := sat32 (c.sat + 1) }
  | .ftz => { c with ftz := sat32 (c.ftz + 1) }

/-- A firing: the inputs whose heads go, tokens passed on, the operation's result with its output, its exceptional cause
(R302), the operands of a trap record (R306), and what else it leaves. -/
structure Firing where
  pops : List Nat
  emits : List (Nat × Tok) := []
  result : Option (Nat × Tok) := none
  cause : Nat := 0
  neg : Bool := false
  op0 : Nat := 0
  op1 : Nat := 0
  op2 : Nat := 0
  pos : Nat := 0
  /-- the site's reduction afterwards -/
  red : Option RowAcc := none
  /-- debts of a voter's inputs: the input and the token it is to match, or the input whose debt is paid -/
  owed : List (Nat × Tok) := []
  paid : List Nat := []
  /-- a voter's disagreeing inputs (R316) -/
  votes : List Nat := []
  /-- counts of the conversion, and what a codebook counts beside them (R317) -/
  tally : Tally := .none
  also : Tally := .none
  /-- delivered values count toward MAXEXP -/
  logs : Bool := false
  /-- the firing uses one token of the codebook's head table -/
  table : Bool := false

/-- R302: the lowest exceptional cause that flags name. -/
def causeOf (fl : BitVec 5) : Nat :=
  if fl &&& flagIV != 0 then 1 else if fl &&& flagDZ != 0 then 2 else if fl &&& flagOF != 0 then 3 else 0

/-- The poison of a result: that of the first poisoned input in input order (R303). -/
def poisonOf (ts : List Tok) : Bool × Nat :=
  match ts.find? fun t => t.poison with
  | some t => (true, t.origin)
  | none => (false, 0)

/-- A result token like `t` with a value, poisoned as its inputs are. -/
def Tok.withVal (t : Tok) (v : Nat) (ins : List Tok) : Tok :=
  let p := poisonOf ins
  { t with val := v, poison := p.1, origin := p.2 }

/-- R301: BINOP. -/
def binop (op : Nat) (f : WFmt) (x y : Nat) : Nat × BitVec 5 :=
  let a := f.read x
  let b := f.read y
  match op with
  | 0 => f.addVal 0 a b
  | 1 => f.addVal 0 a b.neg
  | 2 => f.mul 0 a b
  | 3 => f.divVal a b
  | 4 => (f.minNum x y, 0)
  | _ => (f.maxNum x y, 0)

/-- R301: UNARY. -/
def unary (op : Nat) (f : WFmt) (c0 c1 x : Nat) : Nat × BitVec 5 :=
  let a := f.read x
  let mag := x % 2 ^ (f.width - 1)
  let sign := x / 2 ^ (f.width - 1) % 2
  match op with
  | 0 => (if a.isNan then f.nanCode else mag + (1 - sign) * 2 ^ (f.width - 1), 0)
  | 1 => (if a.isNan then f.nanCode else mag, 0)
  | 2 => (if a.isNan then f.nanCode else if sign = 1 then 0 else x, 0)
  | 3 => f.recip 0 x
  | 4 => f.rsqrt 0 x
  | 5 => f.mul 0 a a
  | 6 => f.exp2 a
  | _ => (f.minNum (f.maxNum x c0) c1, 0)

/-- The sign bit of a code of a type. -/
def tyNeg (fmt : Tab (BitVec 32)) (t c : Nat) : Bool :=
  match tyRead fmt t c with
  | .nan => false
  | .inf s => s
  | .num s _ _ => s

/-- R303: the replacement of SATURATE mode. -/
def satCode (fmt : Tab (BitVec 32)) (t cause : Nat) (neg : Bool) : Nat :=
  if cause = 2 ∨ cause = 3 then
    (if tyNarrow t then (nfmtOf fmt t).maxCode neg else if tyWide t then (tyWfmt t).maxCode neg else 0)
  else 0

/-- R301, R205: the index that a codebook token holds. -/
def cbIndex (fmt : Tab (BitVec 32)) (tin c : Nat) : Nat :=
  if tin = 22 then c % 256 else c % 2 ^ (nfmtOf fmt tin).m

/-- R302: heads of different sequence: the oldest go. -/
def seqBefore (a b : Nat) : Bool := decide (0 < (b + 65536 - a) % 65536) && decide ((b + 65536 - a) % 65536 < 32768)

def seqMismatch (heads : List (Nat × Tok)) : Option Firing :=
  match heads with
  | [] => none
  | h :: hs =>
    if hs.all fun p => p.2.seq == h.2.seq then none
    else
      let old := hs.foldl (fun s p => if seqBefore p.2.seq s then p.2.seq else s) h.2.seq
      let goes := heads.filter fun p => p.2.seq == old
      let t := (goes.headD h).2
      let at_ := fun (l : List (Nat × Tok)) (i : Nat) => ((l.find? fun p => p.1 == i).map fun p => p.2.val).getD 0
      let res := t.withVal (at_ goes 0) (goes.map Prod.snd)
      some { pops := goes.map Prod.fst, result := some (0, res), cause := if res.poison then 0 else 4, op0 := at_ heads 0,
             op1 := at_ heads 1, op2 := at_ heads 2, pos := t.pos }

/-- R316: a voter: a late input is checked against the token that was sent without it, else the heads vote; two that differ wait for
the third. DESIGN CHOICE (notes/assumptions/155.md): so do two that are equal but for their SEQ. -/
def voterFiring (heads : Nat → Option Tok) (debts : Nat → List Tok) : Option Firing :=
  match [0, 1, 2].find? fun i => !(debts i).isEmpty && (heads i).isSome with
  | some i => match heads i, debts i with
    | some t, d :: _ =>
      some { pops := [i], paid := [i], votes := if t.val = d.val ∧ t.poison = d.poison then [] else [i] }
    | _, _ => none
  | none =>
    let here := [0, 1, 2].filterMap fun i => if (debts i).isEmpty then (heads i).map fun t => (i, t) else none
    let agree := fun (a b : Nat × Tok) => a.2.val == b.2.val && a.2.poison == b.2.poison
    if [0, 1, 2].any fun i => decide (8 ≤ (debts i).length) then none
    else match (if here.length < 3 then none else seqMismatch here) with
    | some f => some f
    | none =>
      let pair := match here with
        | [a, b] => if agree a b && a.2.seq == b.2.seq then some (a, b) else none
        | [a, b, c] => if agree a b then some (a, b) else if agree a c then some (a, c) else if agree b c then some (b, c) else none
        | _ => none
      match pair with
      | some (a, b) =>
        let odd := [0, 1, 2].filter fun i => i != a.1 && i != b.1
        let present := odd.filter fun i => here.any fun p => p.1 == i
        let wrong := present.filter fun i => here.any fun p => p.1 == i && !agree p a
        some { pops := [a.1, b.1] ++ present, emits := [(0, a.2)], votes := wrong,
               owed := (odd.filter fun i => !present.contains i).map fun i => (i, a.2) }
      | none => match here with
        | [a, b, c] =>
          let res := a.2.withVal a.2.val [a.2, b.2, c.2]
          some { pops := [0, 1, 2], result := some (0, res), cause := if res.poison then 0 else 5, op0 := a.2.val, op1 := b.2.val,
                 op2 := c.2.val, pos := a.2.pos }
        | _ => none

/-- R301: ROWRED: output 0 passes the token, output 1 the row's reduction behind the LAST one. -/
def rowredFiring (r : SiteRec) (t : Tok) (acc : RowAcc) : Firing :=
  let f := tyWfmt r.tin
  let step := fun old => if r.op = 0 then f.addVal 0 (f.read old) (f.read t.val)
                         else (if r.op = 1 then f.minNum old t.val else f.maxNum old t.val, 0)
  let v := match acc.val with
    | none => (t.val, 0)
    | some old => step old
  let cause := if acc.cause = 0 then causeOf v.2 else if causeOf v.2 = 0 then acc.cause else min acc.cause (causeOf v.2)
  let poison := acc.poison || t.poison
  let origin := if acc.poison then acc.origin else if t.poison then t.origin else 0
  if t.last then
    let res : Tok := { t with val := v.1, poison := poison, origin := origin, last := true, pos := 0 }
    { pops := [0], emits := [(0, t)], result := some (1, res), cause := if poison then 0 else cause, neg := tyNeg [] r.tin v.1,
      op0 := acc.val.getD 0, op1 := t.val, pos := acc.count + 1, red := some {} }
  else
    { pops := [0], emits := [(0, t)],
      red := some { val := some v.1, count := acc.count + 1, poison := poison, origin := origin, cause := cause, seq := t.seq } }

/-- R298, R301: the firing of a site of some kind on its heads; `none` when it cannot fire. DESIGN CHOICE: a BINOP result has LAST, ROW
and POS of input 0 (notes/assumptions/158.md), and a CODEBOOK's counts read the entry under TOUT (notes/assumptions/157.md). -/
def siteFiring (fmt : Tab (BitVec 32)) (cb : List CbTable) (site : Nat) (r : SiteRec) (heads : Nat → Option Tok)
    (debts : Nat → List Tok) (acc : RowAcc) : Option Firing :=
  match r.kind with
  | 7 => voterFiring heads debts
  | 3 =>
    let f := tyWfmt r.tin
    match heads 0, (if r.const then some ({ val := r.c0 % 2 ^ f.width } : Tok) else heads 1) with
    | some x, some y =>
      let heads2 := if r.const then [(0, x)] else [(0, x), (1, y)]
      match seqMismatch heads2 with
      | some m => some m
      | none =>
        let v := binop r.op f x.val y.val
        let res := x.withVal v.1 (if r.const then [x] else [x, y])
        some { pops := if r.const then [0] else if r.hold && !x.last then [0] else [0, 1], result := some (0, res),
               cause := if res.poison then 0 else causeOf v.2, neg := tyNeg fmt r.tout v.1, op0 := x.val, op1 := y.val, pos := x.pos }
    | _, _ => none
  | k => match heads 0 with
    | none => none
    | some x =>
      match k with
      | 1 =>
        let v := tyThrough fmt r.tin r.tout x.val
        let res := x.withVal v.1 [x]
        let c := causeOf (v.2.1 &&& (flagIV ||| flagOF))
        some { pops := [0], result := some (0, res), cause := if res.poison then 0 else c, neg := tyNeg fmt r.tin x.val, op0 := x.val,
               pos := x.pos, tally := v.2.2, logs := true }
      | 2 => match cb with
        | [] => none
        | tb :: _ =>
          let i := cbIndex fmt r.tin x.val
          let v := tb.vals.getD (min i (tb.vals.length - 1)) 0
          let res := x.withVal v [x]
          let res := if tb.type = r.tout ∨ res.poison then res else { res with poison := true, origin := site }
          let out := tyRead fmt r.tout v
          let t := match out with
            | .nan => Tally.nan
            | .inf _ => .inf
            | _ => .none
          some { pops := [0], result := some (0, res), op0 := x.val, pos := x.pos,
                 tally := t, also := if tb.vals.length ≤ i then .sat else .none, logs := true, table := true }
      | 4 =>
        let f := tyWfmt r.tin
        let v := unary r.op f (r.c0 % 2 ^ f.width) (r.c1 % 2 ^ f.width) x.val
        let res := x.withVal v.1 [x]
        some { pops := [0], result := some (0, res), cause := if res.poison then 0 else causeOf v.2, neg := tyNeg fmt r.tout v.1,
               op0 := x.val, pos := x.pos }
      | 5 => some (rowredFiring r x acc)
      | 6 => some { pops := [0], emits := (List.range r.nout).map fun i => (i, x) }
      | _ => some { pops := [0], emits := [(0, x)] }

end Sys2Proof.Machine
end

