-- ==== Sys2Proof/Machine/Planes.lean ====
section
/-! DEFINITION. Sys2Proof/Machine/Planes.lean: reading an image segment of the context store into a plane, and what refuses it
(R15, R297, R319-R323). -/

namespace Sys2Proof.Machine

/-- R15: the first site of a segment, and how many it has. -/
def segSite (g : Nat) : Nat := if g = 0 then 0 else if g = 1 then 24 else if g = 2 then 48 else 80
def segSites (g : Nat) : Nat := if g = 2 then 32 else if g = 3 then 16 else 24

/-- R319: the first byte of segment `g` of an image. -/
def imageAt (t img g : Nat) : Nat := tileBase t + 0x600000 + img * 0x10000 + g * 0x4000

/-! ## Reading (R314, R319-R322) -/

def readSite (m : Memory) (a : Nat) : SiteRec :=
  let mode := Memory.readLe m (a + 4) 1
  { kind := Memory.readLe m a 1, op := Memory.readLe m (a + 1) 1, tin := Memory.readLe m (a + 2) 1,
    tout := Memory.readLe m (a + 3) 1, mode := fld mode 0 2, hold := flag mode 2, const := flag mode 3,
    nout := Memory.readLe m (a + 5) 1, block := Memory.readLe m (a + 6) 2, c0 := Memory.readLe m (a + 8) 4,
    c1 := Memory.readLe m (a + 12) 4 }

def readRoute (w : Nat) : Route := { src := fld w 24 7, oidx := fld w 22 2, dst := fld w 15 7, iidx := fld w 13 2 }

def readSink (w : Nat) : Sink := { op := fld w 44 4, len := fld w 22 22, base := fld w 0 22 }

/-- The plane that an image segment describes, refused or not. -/
def readPlane (m : Memory) (t img g : Nat) : Plane :=
  let a := imageAt t img g
  let sites := (List.range (segSites g)).foldl (fun tb j =>
    let r := readSite m (a + 0x40 + 32 * j)
    if r.kind = 0 then tb else Tab.set tb (segSite g + j) r) ([] : Tab SiteRec)
  { valid := true, img := img, inType := Memory.readLe m (a + 4) 1, outType := Memory.readLe m (a + 5) 1,
    trapRec := Memory.readLe m (a + 8) 4, soundRec := Memory.readLe m (a + 12) 4,
    sinks := if g = 3 then (List.range 4).map fun i => readSink (Memory.readLe m (a + 16 + 8 * i) 8) else [],
    sites := sites,
    routes := (List.range (min 256 (Memory.readLe m (a + 6) 2))).map fun n => readRoute (Memory.readLe m (a + 0x800 + 4 * n) 4) }

/-! ## Shapes of units -/

def Plane.site (p : Plane) (n : Nat) : SiteRec := p.sites.get {} n

/-- R300: inputs and outputs of a site. -/
def SiteRec.inputs (r : SiteRec) : Nat := if r.kind = 7 then 3 else if r.kind = 3 ∧ !r.const then 2 else 1
def SiteRec.outputs (r : SiteRec) : Nat := if r.kind = 5 then 2 else if r.kind = 6 then r.nout else 1

def isSite (g n : Nat) : Bool := decide (segSite g ≤ n) && decide (n < segSite g + segSites g)

/-- R297: the exits of a segment. -/
def segExits (g : Nat) : List Nat := if g = 3 then [100, 101, 102, 103] else if g = 2 then [97, 98] else [97]

def Plane.outRoute (p : Plane) (src oidx : Nat) : Option Route := p.routes.find? fun r => r.src == src && r.oidx == oidx
def Plane.inRoute (p : Plane) (dst iidx : Nat) : Option Route := p.routes.find? fun r => r.dst == dst && r.iidx == iidx

/-- R323: the type of a route, looking through BYPASS sites. -/
def Plane.routeType (p : Plane) : Nat → Route → Option Nat
  | 0, _ => none
  | n + 1, r =>
    if r.src = 96 then some p.inType
    else if (p.site r.src).kind = 0 then (p.inRoute r.src 0).bind fun q => p.routeType n q
    else some (p.site r.src).tout

/-! ## Refusals (R323) -/

/-- R300, R301, R321: a site record is refused. -/
def SiteRec.refused (r : SiteRec) (g : Nat) : Bool :=
  let wide := r.tin == r.tout && tyWide r.tin
  let clamp := r.kind == 4 && r.op == 7
  decide (7 < r.kind) ||
  (r.kind == 0 && (r.op != 0 || r.tin != 0 || r.tout != 0 || r.mode != 0 || r.hold || r.const || r.nout != 0 || r.block != 0)) ||
  (r.kind == 1 && (decide (24 < r.tin) || decide (24 < r.tout))) ||
  (r.kind == 2 && (g != 1 || !(tyNarrow r.tin || r.tin == 22) || decide (18 < r.tout))) ||
  ((r.kind == 3 || r.kind == 4 || r.kind == 5) && !wide) ||
  ((r.kind == 6 || r.kind == 7) && (r.tin != r.tout || decide (24 < r.tin))) ||
  decide ((if r.kind = 3 then 5 else if r.kind = 4 then 7 else if r.kind = 5 then 2 else 0) < r.op) ||
  r.mode == 3 || ((r.hold || r.const) && r.kind != 3) || (r.hold && r.const) ||
  (if r.kind = 6 then decide (r.nout < 2) || decide (4 < r.nout) else r.nout != 0) ||
  (if r.kind = 2 then r.block == 0 else r.block != 0) ||
  (!(r.const || clamp) && r.c0 != 0) || (!clamp && r.c1 != 0)

/-- The bits of a segment's bytes that R319 to R322 reserve: the byte and its reserved bits. -/
def reservedBits (m : Memory) (g a o : Nat) : Nat :=
  let n := Memory.readLe m (a + 6) 2
  if o < 0x10 then 0
  else if o < 0x30 then
    (if g = 3 then (if o % 8 = 6 ∨ o % 8 = 7 then 255 else 0) else 255)
  else if o < 0x40 then 255
  else if o < 0x40 + 32 * segSites g then
    (let j := (o - 0x40) % 32; if j = 4 then 0xF0 else if 16 ≤ j then 255 else 0)
  else if 0x800 ≤ o ∧ o < 0x800 + 4 * n then (if o % 4 = 0 then 255 else if o % 4 = 1 then 0x1F else 0)
  else 255

/-- Every route's endpoints exist (R323 item 3). -/
def Route.bad (r : Route) (p : Plane) (g : Nat) : Bool :=
  let src := (r.src == 96 && r.oidx == 0) || (isSite g r.src && decide (r.oidx < (p.site r.src).outputs))
  let dst := ((segExits g).contains r.dst && r.iidx == 0 && (g != 3 || decide ((p.sinks.getD (r.dst - 100) { op := 0, len := 0, base := 0 }).len ≠ 0))) ||
    (isSite g r.dst && decide (r.iidx < (p.site r.dst).inputs))
  !src || !dst

/-- One sweep of sites reached along the routes from those already reached. -/
def sweep (routes : List Route) (fwd : Bool) : Nat → List Nat → List Nat
  | 0, l => l
  | n + 1, l =>
    let more := routes.filterMap fun r =>
      let a := if fwd then r.src else r.dst
      let b := if fwd then r.dst else r.src
      if l.contains a && !l.contains b then some b else none
    if more.isEmpty then l else sweep routes fwd n (l ++ more.eraseDups)

/-- Sites left after taking away, again and again, those that no remaining route leads into: a cycle leaves some. -/
def peel (routes : List Route) : Nat → List Nat → List Nat
  | 0, l => l
  | n + 1, l =>
    let keep := l.filter fun x => routes.any fun r => r.dst == x && l.contains r.src
    if keep.length = l.length then l else peel routes n keep

/-- R323: the whole check. -/
def Plane.refused (p : Plane) (m : Memory) (marks : List Nat) (t g : Nat) : Bool :=
  let a := imageAt t p.img g
  let ends := p.routes.flatMap fun r => [r.src, r.dst]
  let named := (ends.filter fun n => decide (n < 96)).eraseDups
  let recs := p.sites.map Prod.snd
  let trapRec := recs.any fun r => r.mode == 2 || decide (1 < r.inputs)
  let off := fun o => o % 64 != 0 || decide (0x400000 ≤ o)
  Memory.readLe m a 2 != 0xC01A || Memory.readLe m (a + 2) 1 != g || Memory.readLe m (a + 3) 1 != 1 ||
  decide (256 < Memory.readLe m (a + 6) 2) || (g == 3 && p.outType != 0) || decide (24 < p.inType) || decide (24 < p.outType) ||
  (m.any fun c => decide (a ≤ c.1) && decide (c.1 < a + 0x4000) && c.2.toNat &&& reservedBits m g a (c.1 - a) != 0) ||
  ((List.range (segSites g)).any fun j => (readSite m (a + 0x40 + 32 * j)).refused g) ||
  decide (4 < (recs.filter fun r => r.hold).length) ||
  ((List.range p.routes.length).any fun n => !flag (Memory.readLe m (a + 0x800 + 4 * n) 4) 31) ||
  (p.routes.any fun r => r.bad p g) ||
  (p.routes.any fun r => decide (1 < (p.routes.filter fun q => q.src == r.src && q.oidx == r.oidx).length) ||
    decide (1 < (p.routes.filter fun q => q.dst == r.dst && q.iidx == r.iidx).length)) ||
  (p.sites.any fun s => (List.range s.2.inputs).any fun i => (p.inRoute s.1 i).isNone) ||
  !(peel p.routes 97 named).isEmpty ||
  (let fwd := sweep p.routes true 100 [96]
   let bwd := sweep p.routes false 100 (segExits g)
   named.any fun n => !fwd.contains n || !bwd.contains n) ||
  (p.routes.any fun r => match p.routeType 257 r with
    | none => true
    | some ty =>
      if r.dst = 97 then ty != p.outType
      else if 100 ≤ r.dst then decide (1 ≤ (p.sinks.getD (r.dst - 100) { op := 0, len := 0, base := 0 }).op) && ty != 16
      else if r.dst < 96 ∧ (p.site r.dst).kind ≠ 0 then ty != (p.site r.dst).tin else false) ||
  (trapRec && off p.trapRec) || (g == 2 && off p.soundRec) ||
  (p.sinks.any fun k => decide (3 < k.op) || k.base % 4 != 0 || decide (0x100000 < k.len) || decide (0x400000 < k.base + 4 * k.len)) ||
  (marks.any fun u => decide (a ≤ u) && decide (u < a + 0x4000))

/-- R195: the plane that loading gives, unless the image segment is refused. -/
def State.loadPlane (s : State) (t img g : Nat) : Option Plane :=
  let p := readPlane s.mem t img g
  if p.refused s.mem s.marks t g then none else some p

end Sys2Proof.Machine
end

