-- ==== Sys2Proof/Machine/Collar.lean ====
section
/-! DEFINITION. Sys2Proof/Machine/Collar.lean: how tokens move through a collar segment: admission, firing, exits, traps, replay
and the cancelling of a step (R200-R203, R295-R318). -/

namespace Sys2Proof.Machine

/-! ## Segments and their queues -/

def State.seg (s : State) (t g : Nat) : Seg := (s.tile t).segs.get {} g
def State.modSeg (s : State) (t g : Nat) (f : Seg → Seg) : State :=
  s.modTile t fun ti => { ti with segs := ti.segs.set g (f (ti.segs.get {} g)) }

/-- The step of a sequence, and the format registers it latched (R19). -/
def Tile.stepOf (t : Tile) (seq : Nat) : Option Step := t.steps.find? fun p => p.seq == seq
def Tile.fmtOf (t : Tile) (seq : Nat) : Tab (BitVec 32) :=
  match t.stepOf seq with
  | some p => p.fmt
  | none => t.fmt
def State.modStep (s : State) (t id : Nat) (f : Step → Step) : State :=
  s.modTile t fun ti => { ti with steps := updateWhere (fun p : Step => p.id == id) f ti.steps }

/-- R298: the tokens an input holds. -/
def Plane.inCap (p : Plane) (dst iidx : Nat) : Nat :=
  if 96 ≤ dst then 2
  else
    let r := p.site dst
    if r.kind = 7 then 8 else if r.hold ∧ iidx = 0 then 4096 else 2

def Seg.inAt (g : Seg) (site i : Nat) : List Tok := g.inq.get [] (4 * site + i)
def Seg.outAt (g : Seg) (site o : Nat) : List Tok := g.outq.get [] (4 * site + o)

/-- Tokens pass along a route as places allow; route delay is not architectural (R297). -/
def Seg.flowRoute (g : Seg) (r : Route) : Seg :=
  let o := g.outAt r.src r.oidx
  let i := g.inAt r.dst r.iidx
  let n := g.active.inCap r.dst r.iidx - i.length
  if o.isEmpty || n = 0 then g
  else { g with outq := g.outq.set (4 * r.src + r.oidx) (o.drop n), inq := g.inq.set (4 * r.dst + r.iidx) (i ++ o.take n) }

def Seg.flow (g : Seg) : Seg := g.active.routes.foldl Seg.flowRoute g

/-- Every token inside the segment. -/
def Seg.tokens (g : Seg) : List Tok := (g.inq.flatMap Prod.snd) ++ (g.outq.flatMap Prod.snd)
def Seg.empty (g : Seg) : Bool := g.tokens.isEmpty

/-- R307: the oldest row of which something has yet to leave. -/
def Seg.oldestRow (g : Seg) : Nat := ((g.tokens ++ g.replay).map Tok.row).foldl min g.nextRow

/-- What a replay needs is kept from the oldest row on. -/
def Seg.prune (g : Seg) : Seg :=
  let o := g.oldestRow
  { g with hist := g.hist.filter fun t => decide (o ≤ t.row), left := g.left.filter fun e => decide (o ≤ e.2.1),
           skip := g.skip.filter fun e => decide (o ≤ e.2.1) }

/-- Routes move, and what is past is forgotten. -/
def Seg.settle (g : Seg) : Seg := g.flow.prune

/-- The plane is loaded, and its first queue has a place. -/
def Seg.hasRoom (g : Seg) : Bool :=
  g.active.valid && (match g.active.outRoute 96 0 with
    | some r => decide ((g.inAt r.dst r.iidx).length < g.active.inCap r.dst r.iidx)
    | none => true)

/-- A token may enter by IN. -/
def Seg.canAdmit (g : Seg) (seq : Nat) : Bool :=
  g.hasRoom && g.mode == 0 && (match g.swaps with
    | w :: _ => seqBefore seq w.q
    | [] => true)

/-- A token enters. -/
def Seg.push (g : Seg) (t : Tok) : Seg :=
  match g.active.outRoute 96 0 with
  | some r => { g with inq := g.inq.set (4 * r.dst + r.iidx) (g.inAt r.dst r.iidx ++ [t]) }
  | none => g

/-- A new token of a row enters; the row's number is the segment's next. -/
def Seg.accept (g : Seg) (t : Tok) (step : Nat) : Seg :=
  let t := { t with row := g.nextRow }
  let g := { g with hist := g.hist ++ [t] }.push t
  { g with nextRow := if t.last then g.nextRow + 1 else g.nextRow, midRow := if t.last then none else some step }.settle

/-! ## Traps (R200, R302-R306) -/

/-- R306: the trap record. DEDUCED (notes/assumptions/141.md): no site traps on a token of origin 127, and no byte names a bank unit (R15). -/
def trapRecord (site g : Nat) (r : SiteRec) (f : Firing) (mtime : Word) : List Byte :=
  let res := (f.result.map Prod.snd).getD {}
  leBytes 1 site ++ leBytes 1 g ++ leBytes 1 r.kind ++ leBytes 1 r.op ++ leBytes 1 f.cause ++ leBytes 1 0 ++ leBytes 2 res.seq ++
    leBytes 8 f.op0 ++ leBytes 8 f.op1 ++ leBytes 8 f.op2 ++ leBytes 8 res.val ++ leBytes 4 res.srow ++ leBytes 4 f.pos ++
    leBytes 8 mtime.toNat ++ leBytes 8 0

/-- The task of a step gets or loses a waiting collar trap; CPEND clears with the last one (R231). -/
def State.noteTrap (s : State) (t g seq : Nat) (on : Bool) : State :=
  match (s.tile t).stepOf seq with
  | some p => s.modTask p.owner fun sl =>
      let l := sl.collarTraps.filter fun e => e != 4 * t + g
      let l := if on then l ++ [4 * t + g] else l
      { sl with collarTraps := l, trap := { sl.trap with cpend := sl.trap.cpend && !l.isEmpty } }
  | none => s

/-- What a site would do now: its firing, with unset formats of an east unit poisoning (R271). -/
def State.firing (s : State) (t g site : Nat) : Option Firing :=
  let ti := s.tile t
  let sg := s.seg t g
  let r := sg.active.site site
  let heads := fun i => if (sg.active.inRoute site i).isSome then (sg.inAt site i).head? else none
  let seq := (([0, 1, 2].findSome? heads).getD {}).seq
  let fmt := ti.fmtOf seq
  let bad := g == 3 && r.kind != 0 && (tyUnset fmt r.tin || tyUnset fmt r.tout)
  let mark := fun (e : Nat × Tok) => (e.1, if e.2.poison then e.2 else { e.2 with poison := true, origin := site })
  (siteFiring fmt (ti.codebooks.get [] site) site r heads (fun i => sg.owe.get [] (4 * site + i)) (sg.red.get {} site)).map fun f =>
    if bad then { f with emits := f.emits.map mark, result := f.result.map mark, cause := 0 } else f

/-- R298: every output that a firing writes has a place; an output without a route discards (R297). -/
def Seg.room (g : Seg) (site : Nat) (f : Firing) : Bool :=
  (f.emits.map Prod.fst ++ (f.result.map Prod.fst).toList).all fun o =>
    (g.active.outRoute site o).isNone || decide ((g.outAt site o).length < 2)

def Seg.emit (g : Seg) (site : Nat) (e : Nat × Tok) : Seg :=
  if (g.active.outRoute site e.1).isNone then g
  else { g with outq := g.outq.set (4 * site + e.1) (g.outAt site e.1 ++ [e.2]) }

/-- The firing's tokens move: inputs go, outputs come, and the site keeps what it must. -/
def Seg.fire (g : Seg) (site : Nat) (f : Firing) (result : Option (Nat × Tok)) : Seg :=
  let g := f.pops.foldl (fun g i => { g with inq := g.inq.set (4 * site + i) ((g.inAt site i).drop 1) }) g
  let g := f.paid.foldl (fun g i => { g with owe := g.owe.set (4 * site + i) ((g.owe.get [] (4 * site + i)).drop 1) }) g
  let g := f.owed.foldl (fun g e => { g with owe := g.owe.set (4 * site + e.1) (g.owe.get [] (4 * site + e.1) ++ [e.2]) }) g
  let g := match f.red with
    | some a => { g with red := g.red.set site a }
    | none => g
  ((f.emits ++ result.toList).foldl (fun g e => g.emit site e) g).settle

/-- R205: the head table of a codebook unit serves one token of its block. -/
def useTable (block : Nat) : List CbTable → List CbTable
  | [] => []
  | t :: ts =>
    if t.served + 1 < block then { t with served := t.served + 1 } :: ts
    else if 1 < t.blocks then { t with blocks := t.blocks - 1, served := 0 } :: ts
    else ts

/-- R317: the counts of a firing; `tally` is what the conversion or a replacement adds. -/
def Sound.count (c : Sound) (fmt : Tab (BitVec 32)) (r : SiteRec) (f : Firing) (tally : Tally) (result : Option (Nat × Tok)) : Sound :=
  let c := (c.tally tally).tally f.also
  let c := f.votes.foldl (fun c i => { c with vote := sat32 (c.vote + 1), voteMask := c.voteMask ||| 2 ^ i }) c
  match result with
  | some (_, t) => if f.logs then c.log (tyRead fmt r.tout t.val) else c
  | none => c

/-- A firing takes place with this result. -/
def State.fireWith (s : State) (t g site : Nat) (f : Firing) (result : Option (Nat × Tok)) (tally : Tally) : State :=
  let r := (s.seg t g).active.site site
  let seq := ((f.result.map Prod.snd).getD ((f.emits.headD (0, {})).2)).seq
  let fmt := (s.tile t).fmtOf seq
  let s := s.modSeg t g fun sg => sg.fire site f result
  s.modTile t fun ti =>
    { ti with sound := ti.sound.count fmt r f tally result,
              codebooks := if f.table then ti.codebooks.set site (useTable r.block (ti.codebooks.get [] site)) else ti.codebooks }

/-- R200, R305: a site meets an exceptional result in TRAP mode: the first of its segment traps it, another one waits. -/
def State.holdSite (s : State) (t g site : Nat) (f : Firing) (since : Nat) : State :=
  let sg := s.seg t g
  let seq := ((f.result.map Prod.snd).getD {}).seq
  if sg.trapped.isSome then s.modSeg t g fun sg => { sg with waiting := sg.waiting ++ [(site, since)] }
  else
    let r := sg.active.site site
    let s := s.writeRun (scratchAddr t sg.active.trapRec) (trapRecord site g r f (BitVec.ofNat 64 since))
    (s.modSeg t g fun sg => { sg with trapped := some { site := site, seq := seq } }).noteTrap t g seq true

/-- A site fires if it can (R298, R303). -/
def State.fireSite (s : State) (t g site : Nat) : State :=
  let sg := s.seg t g
  if !sg.active.valid || (sg.waiting.any fun w => w.1 == site) || (sg.trapped.any fun h => h.site == site) then s
  else match s.firing t g site with
  | none => s
  | some f =>
    let r := sg.active.site site
    if !sg.room site f then s
    else if f.cause = 0 then s.fireWith t g site f f.result f.tally
    else match r.mode with
      | 0 => s.fireWith t g site f (f.result.map fun e => (e.1, { e.2 with poison := true, origin := site })) f.tally
      | 1 =>
        let fmt := (s.tile t).fmtOf ((f.result.map Prod.snd).getD {}).seq
        s.fireWith t g site f (f.result.map fun e => (e.1, { e.2 with val := satCode fmt r.tout f.cause f.neg })) .sat
      | _ => s.holdSite t g site f s.mtime.toNat

/-- R305: the sites of a list that still hold an exceptional result. -/
def State.stillHeld (s : State) (t g : Nat) (l : List (Nat × Nat)) : List (Nat × Nat) :=
  l.filter fun w => (s.firing t g w.1).any fun f => f.cause != 0

/-- R305: the next site that waits with an exceptional result takes the segment's trap, with the time of its own fault (R306). -/
def State.nextHeld (s : State) (t g : Nat) : State :=
  match s.stillHeld t g (s.seg t g).waiting with
  | [] => s.modSeg t g fun sg => { sg with waiting := [] }
  | w :: ws =>
    let s := s.modSeg t g fun sg => { sg with waiting := ws }
    match s.firing t g w.1 with
    | some f => s.holdSite t g w.1 f w.2
    | none => s

/-! ## Switches (R196, R198) -/

/-- R199: plane words pending on a segment. -/
def Seg.pendingWords (g : Seg) : Nat := g.loads.length + g.swaps.length + g.drains.length

/-- A plane word's operation is still referred to by some segment of the tile. -/
def Tile.refers (t : Tile) (op : Nat) : Bool := t.segs.any fun (p : Nat × Seg) =>
  (p.2.loads.any fun l => l.1 == op) || (p.2.swaps.any fun w => w.op == op) || p.2.drains.any fun d => d.op == op

/-- tl returns once every named segment is done. -/
def State.planeDone (s : State) (t op : Nat) : State := if (s.tile t).refers op then s else s.retireOp op

/-- The A rows of a step. -/
def Step.rows (p : Step) : Nat := (p.aEnts.map TileEntry.rows).sum
/-- Elements of an A row and tokens of a step's A operand; the elements of its B entry. -/
def Step.kd (p : Step) : Nat := (p.aEnts.headD {}).cols
def Step.aTokens (p : Step) : Nat := p.rows * p.kd
def Step.bTokens (p : Step) : Nat := p.bEnt.rows * p.bEnt.cols

/-- A token of a sequence before Q is in the segment, or has yet to enter it from an armed step. -/
def State.olderLeft (s : State) (t g q : Nat) : Bool :=
  let sg := s.seg t g
  let older := fun k : Tok => seqBefore k.seq q
  (sg.tokens ++ sg.replay).any older ||
    ((s.tile t).steps.any fun p => seqBefore p.seq q &&
      (if g = 0 then p.aSent != p.aTokens
       else if g = 1 then p.bSent != p.bTokens
       else p.oh.isSome && p.sent != p.rows * p.bEnt.cols)) ||
    (g == 3 && ((s.seg t 2).tokens ++ (s.seg t 2).replay).any older)

/-- R196, R198, R199, R315: the first waiting switch of a segment happens now: no token before its Q is left, no trap stands, and a
TSWAP that found the segment DRAINING has the drain behind it. -/
def State.switchReady (s : State) (t g : Nat) : Bool :=
  let sg := s.seg t g
  match sg.swaps with
  | [] => false
  | w :: _ => !(w.late && sg.mode == 1) && sg.trapped.isNone && ((g == 3 && !sg.active.valid) || !s.olderLeft t g w.q)

/-- R196: the planes of a segment change roles. -/
def Seg.swapped (g : Seg) : Seg := { g with active := g.shadow, shadow := g.active, swaps := g.swaps.drop 1, turns := g.turns + 1 }.settle

/-- R196: the first waiting switch of a segment, if it can happen. -/
def State.switchSeg (s : State) (t g : Nat) : State :=
  if s.switchReady t g then
    match (s.seg t g).swaps with
    | w :: _ => (s.modSeg t g Seg.swapped).planeDone t w.op
    | [] => s
  else s

/-- R196: every switch of a tile that can happen does, at once; a segment has at most two waiting (R199). -/
def State.switchAll (s : State) (t : Nat) : State := [0, 1, 2, 3, 0, 1, 2, 3].foldl (fun s g => s.switchSeg t g) s

/-- R202: REPL and DISC: the held operation's result is a replacement word, or a poisoned zero. DESIGN CHOICE (notes/assumptions/156.md):
it adds no NAN, INF, SAT or FTZ, and MAXEXP is that of the word delivered. -/
def State.resolveTrap (s : State) (t g : Nat) (repl : Option Nat) : State :=
  match (s.seg t g).trapped with
  | none => s
  | some h =>
    let s := (s.noteTrap t g h.seq false).modSeg t g fun sg => { sg with trapped := none }
    match s.firing t g h.site with
    | none => (s.nextHeld t g).switchAll t
    | some f =>
      let w := tyBits ((s.seg t g).active.site h.site).tout
      let res := f.result.map fun e => match repl with
        | some v => (e.1, { e.2 with val := v % 2 ^ w, poison := false, origin := 0 })
        | none => (e.1, { e.2 with val := 0, poison := true, origin := h.site })
      ((s.fireWith t g h.site f res .none).nextHeld t g).switchAll t

/-! ## Preload (R190) -/

/-- The step's earlier companions on its core. -/
def Tile.before (t : Tile) (p : Step) : List Step := t.steps.filter fun q => coreKey q.k == coreKey p.k && decide (q.id < p.id)

/-- R190: a preload starts when the steps before it on its core have streamed their last rows. -/
def State.startPreloads (s : State) (t : Nat) : State :=
  s.modTile t fun ti => { ti with steps := ti.steps.map fun p =>
    if p.preload.isNone && (ti.before p).all fun q => q.rowsIn == q.rows then { p with preload := some s.cycle } else p }

/-! ## Cancelling a step (R203) -/

/-- Nothing of a sequence stays in the segment. -/
def Seg.without (g : Seg) (seq id : Nat) : Seg :=
  let keep := fun (p : Nat × List Tok) => (p.1, p.2.filter fun t => t.seq != seq)
  let mid := g.midRow == some id
  { g with inq := g.inq.map keep, outq := g.outq.map keep, owe := g.owe.map keep,
           red := g.red.filter fun (p : Nat × RowAcc) => p.2.seq != seq || p.2.val.isNone,
           hist := g.hist.filter fun t => t.seq != seq, replay := g.replay.filter fun t => t.seq != seq,
           midRow := if mid then none else g.midRow, nextRow := if mid then g.nextRow + 1 else g.nextRow }.settle

/-- A segment loses a cancelled step's tokens; a trap on one of them is gone, and the next waiting site takes its place. -/
def State.dropSeq (s : State) (t g seq id : Nat) : State :=
  let hit := (s.seg t g).trapped.any fun h => h.seq == seq
  let s := if hit then s.noteTrap t g seq false else s
  let s := s.modSeg t g fun sg => { sg with trapped := if hit then none else sg.trapped }.without seq id
  if hit then s.nextHeld t g else s.modSeg t g fun sg => { sg with waiting := s.stillHeld t g sg.waiting }

/-- R203: OH's FAULT bit is set, also where every element of OH has come; a later TDEF of the handle has its own (R153). -/
def State.cancelEntry (s : State) (t : Nat) (p : Step) : State :=
  match p.oh, p.ohEnt with
  | some h, some e =>
    let c := s.entry t h
    if c.state = 2 ∧ c.base = e.base ∧ c.type = e.type ∧ c.rows = e.rows ∧ c.cols = e.cols ∧ c.layout = e.layout then
      s.setEntry t h { c with fault := true }
    else s.entryFails t h true
  | _, _ => s

/-- R203: the step's remaining rows are not written, its output entry fails, its slot's copy-status record takes CANCELLED,
and tl returns. -/
def State.cancelStep (s : State) (t id : Nat) : State :=
  match (s.tile t).steps.find? fun p => p.id == id with
  | none => s
  | some p =>
    let s := [0, 1, 2, 3].foldl (fun s g => s.dropSeq t g p.seq id) s
    let s := s.modTile t fun ti => { ti with steps := ti.steps.filter fun q => q.id != id }
    let s := s.cancelEntry t p
    let s := s.modTask p.owner fun sl => { sl with copyStatus := sl.copyStatus.or (some (4, 0)) }
    (((s.retireOp id).lowerCensus p.launch 0).startPreloads t).switchAll t

/-! ## ABORT and rollback (R202, R307-R310) -/

/-- Flush the segment and stand ready to replay from the oldest row that has not left whole. -/
def Seg.rewind (g : Seg) (p : Plane) : Seg :=
  let o := g.oldestRow
  { g with active := p, inq := [], outq := [], red := [], owe := [], trapped := none, waiting := [],
           replay := g.hist.filter fun t => decide (o ≤ t.row), skip := g.left.filter fun e => decide (o ≤ e.2.1) }

/-- R206: the south plane whose turn it is has been read again, or is gone: what it names for the steps that send it no token, those
that it serves once two pending switches have made it active again among them. -/
def State.renewSound (s : State) (t g : Nat) (p : Option Plane) : State :=
  if g = 2 then s.modTile t fun ti => { ti with steps := ti.steps.map fun q =>
    if q.oh.isNone && (q.southTurn - (ti.segs.get {} 2).turns) % 2 == 0 then { q with sound := p.map Plane.soundRec } else q }
  else s

/-- R202: the step's tokens pass the segment: for the east one, tokens of the step that have been accepted there and not left it. -/
def State.sends (s : State) (t g : Nat) (p : Step) : Bool :=
  g < 2 || (g == 2 && p.oh.isSome) || (g == 3 && ((s.seg t 3).tokens ++ (s.seg t 3).replay).any fun k => k.seq == p.seq)

/-- R196, R202: the active plane serves the sequence: before the first waiting switch, or after the second, which makes it active
again. -/
def servedNow (l : List Swap) (seq : Nat) : Bool :=
  match l with
  | [] => true
  | [w] => seqBefore seq w.q
  | w :: u :: _ => seqBefore seq w.q || !seqBefore seq u.q

/-- R202: a segment whose image is now refused is flushed and reopened without a plane, and the drains it was asked for are done. -/
def State.reopenBare (s : State) (t g : Nat) : State :=
  let sg := s.seg t g
  let s := s.modSeg t g fun sg => { sg.rewind { sg.active with valid := false } with
    mode := if s.segHeld t g then 2 else 0, drains := [], swaps := sg.swaps.map fun w => { w with late := false } }
  sg.drains.foldl (fun s d => s.planeDone t d.op) s

/-- R202, R307: a TRESUME.ABORT or a hardware rollback of a segment. -/
def State.abortSeg (s : State) (t g : Nat) : State :=
  let sg := s.seg t g
  let s := match sg.trapped with
    | some h => s.noteTrap t g h.seq false
    | none => s
  let tooOld := g != 2 && decide (4096 < sg.hist.length)
  let doomed := ((s.tile t).stepOf ((sg.trapped.map Held.seq).getD ((sg.hist.headD {}).seq))).map Step.id
  let s := if g = 1 then s.modTile t fun ti => { ti with codebooks := [] } else s
  match s.loadPlane t sg.active.img g with
  | some p =>
    let s := (s.modSeg t g fun sg => sg.rewind p).renewSound t g (some p)
    match tooOld, doomed with
    | true, some id => s.cancelStep t id
    | _, _ => s.switchAll t
  | none =>
    let served := (s.tile t).steps.filter fun p => s.sends t g p && servedNow sg.swaps p.seq
    let s := (s.reopenBare t g).renewSound t g none
    (served.foldl (fun s p => s.cancelStep t p.id) s).switchAll t

/-! ## Exits (R188, R291, R304, R314) -/

/-- R304: a poisoned token that an exit accepts is counted. -/
def Sound.exit (c : Sound) (k : Tok) : Sound :=
  if k.poison then { c with pois := sat32 (c.pois + 1), poisOrig := if c.poisOrig = 255 then k.origin else c.poisOrig } else c

/-- Poison of a token that enters the array. -/
def Tok.mark (k : Tok) : Option Nat := if k.poison then some k.origin else none

/-- R188, R291: the south sink writes an element of the output entry. -/
def State.sinkElem (s : State) (t : Nat) (p : Step) (k : Tok) : State :=
  match p.oh, p.ohEnt with
  | some h, some e =>
    let s := if p.sinkPos < e.cols then s.writeLocs (s.elemBytes t p.fmt e p.sinkRow p.sinkPos k.val) else s
    let cur := s.entry t h
    let total := e.extent * 64
    let left := if k.last then total - (p.sinkRow + 1) * total / max 1 e.rows else cur.pending
    let s := s.setEntry t h { cur with fault := cur.fault || k.poison, pending := left, state := if left = 0 then 2 else cur.state }
    s.modStep t p.id fun q => { q with sinkRow := if k.last then q.sinkRow + 1 else q.sinkRow,
                                       sinkPos := if k.last then 0 else q.sinkPos + 1 }
  | _, _ => s

/-- R314: the k-th token of a step at a sink. -/
def State.sinkWord (s : State) (t i : Nat) (p : Step) (k : Tok) : State :=
  match (s.seg t 3).active.sinks[i]? with
  | none => s
  | some d =>
    let n := p.sinks.get 0 i
    let a := scratchAddr t (d.base + 4 * (n % max 1 d.len))
    let old := Memory.readLe s.mem a 4
    let v := match d.op with
      | 1 => (fp32.addVal 0 (fp32.read old) (fp32.read k.val)).1
      | 2 => fp32.maxNum old k.val
      | 3 => fp32.minNum old k.val
      | _ => k.val
    let s := (s.writeRun a (leBytes 4 v)).modStep t p.id fun q => { q with sinks := q.sinks.set i (n + 1) }
    if k.poison then { s with marks := (markUnit a :: s.marks).eraseDups } else s

/-- The exit takes its next token: what that does, or `none` while it cannot. -/
def State.exitTakes (s : State) (t g port : Nat) (k : Tok) : Option State :=
  match (s.tile t).stepOf k.seq with
  | none => some s
  | some p =>
    if port = 98 then
      if (s.seg t 3).replay.isEmpty && (s.seg t 3).canAdmit k.seq then some (s.modSeg t 3 fun sg => sg.accept { k with src := 0 } p.id) else none
    else if 100 ≤ port then some (s.sinkWord t (port - 100) p k)
    else if g = 0 then
      if p.edgeFull then none
      else some (s.modStep t p.id fun q => { q with edge := q.edge ++ [(k.val, k.mark)], edgeFull := k.last })
    else if g = 1 then
      if p.preload.isSome then some (s.modStep t p.id fun q => { q with weights := q.weights ++ [(k.val, k.mark)] }) else none
    else some (s.sinkElem t p k)

/-- Add to the count of an exit and a row. -/
def bumpExit (port row : Nat) : List (Nat × Nat × Nat) → List (Nat × Nat × Nat)
  | [] => [(port, row, 1)]
  | (p, r, n) :: l => if p = port ∧ r = row then (p, r, n + 1) :: l else (p, r, n) :: bumpExit port row l

/-- An exit accepts the token at its head; a position that it accepted before a replay is discarded there (R307). -/
def State.exitSeg (s : State) (t g port : Nat) : State :=
  let sg := s.seg t g
  match sg.inAt port 0 with
  | [] => s
  | k :: rest =>
    let gone := fun (sg : Seg) => { sg with inq := sg.inq.set (4 * port) rest }
    if sg.skip.any fun (e : Nat × Nat × Nat) => e.1 == port && e.2.1 == k.row && decide (0 < e.2.2) then
      s.modSeg t g fun sg => { gone sg with skip := sg.skip.map fun (e : Nat × Nat × Nat) =>
        if e.1 = port ∧ e.2.1 = k.row then (e.1, e.2.1, e.2.2 - 1) else e }.settle
    else match s.exitTakes t g port k with
    | none => s
    | some s =>
      let s := s.modSeg t g fun sg => { gone sg with left := bumpExit port k.row sg.left }.settle
      s.modTile t fun ti => { ti with sound := ti.sound.exit k }

/-! ## Entries (R188, R264, R296) -/

/-- The A entry that holds row `r` of the step, and the row in it. -/
def rowIn : List TileEntry → Nat → TileEntry × Nat
  | [], r => ({}, r)
  | e :: es, r => if r < e.rows then (e, r) else rowIn es (r - e.rows)

/-- R304, R310: an element with a marked byte is poisoned at the entry port. -/
def State.elemTok (s : State) (t : Nat) (p : Step) (e : TileEntry) (r c : Nat) (last : Bool) (srow pos : Nat) : Tok :=
  let bad := (elemAddrs p.fmt t e r c).any s.marked
  { val := s.elemAt t p.fmt e r c, poison := bad, origin := if bad then 127 else 0, seq := p.seq, last := last, srow := srow, pos := pos }

/-- R188: token `n` of a step's A rows. -/
def State.westTok (s : State) (t : Nat) (p : Step) (n : Nat) : Tok :=
  let r := n / p.kd
  let k := n % p.kd
  let (e, er) := rowIn p.aEnts r
  s.elemTok t p e er k (k + 1 == p.kd) r k

/-- R264: the row and column of token `n` of a B entry, and whether it ends its unit (R296). DESIGN CHOICE (notes/assumptions/152.md):
a SWZ entry goes in logical order, row by row. -/
def bPlace (e : TileEntry) (n : Nat) : Nat × Nat × Bool :=
  if e.layout = 1 then (n % e.rows, n / e.rows, n % e.rows + 1 == e.rows)
  else (n / e.cols, n % e.cols, if e.layout = 2 then n + 1 == e.rows * e.cols else n % e.cols + 1 == e.cols)

def State.northTok (s : State) (t : Nat) (p : Step) (n : Nat) : Tok :=
  let (r, c, last) := bPlace p.bEnt n
  let unit := if p.bEnt.layout = 1 then c else if p.bEnt.layout = 2 then 0 else r
  let pos := if p.bEnt.layout = 1 then r else if p.bEnt.layout = 2 then n else c
  s.elemTok t p p.bEnt r c last unit pos

/-- R17: accumulator word `n` of a tile, row by row. -/
def accAddr (t n : Nat) : Nat := tileBase t + 0x400000 + n * 4
def State.accWord (s : State) (t n : Nat) : Nat := Memory.readLe s.mem (accAddr t n) 4
/-- R188: the poison tag of an accumulator word, with its origin. -/
def State.accPoison (s : State) (t n : Nat) : Option Nat :=
  if s.marked (accAddr t n) then some ((s.tile t).origins.get 127 n) else none

/-- A token read from an accumulator word. -/
def State.accTok (s : State) (t n : Nat) (k : Tok) : Tok :=
  let o := s.accPoison t n
  { k with val := s.accWord t n, poison := o.isSome, origin := o.getD 0, src := n + 1 }

def State.southTok (s : State) (t : Nat) (p : Step) (n : Nat) : Tok :=
  let cols := p.bEnt.cols
  let r := n / cols
  let c := n % cols
  s.accTok t (((p.accbase + r) % 2048) * 128 + c) { seq := p.seq, last := c + 1 == cols, srow := r, pos := c }

/-- R182: every earlier store of the slot that armed the step is performed. -/
def State.storesDone (s : State) (p : Step) : Bool :=
  match s.taskSlot p.owner with
  | some sl => !(sl.ops.any fun o => o.kind.isStore && !o.done && decide (o.id < p.id))
  | none => true

/-- The next token that a step sends into a segment, if it has one now, and the step after sending it. -/
def State.nextTok (s : State) (t g : Nat) (p : Step) : Option (Tok × (Step → Step)) :=
  let prev := (s.tile t).before p
  if g = 0 then
    if p.aSent < p.aTokens ∧ (prev.all fun q => q.aSent == q.aTokens) ∧ s.storesDone p then
      some (s.westTok t p p.aSent, fun q => { q with aSent := q.aSent + 1 })
    else none
  else if g = 1 then
    if p.bSent < p.bTokens ∧ (prev.all fun q => q.bSent == q.bTokens) ∧ s.storesDone p then
      some (s.northTok t p p.bSent, fun q => { q with bSent := q.bSent + 1 })
    else none
  else if g = 2 then
    if p.oh.isSome ∧ p.sent < p.rowsOut * p.bEnt.cols then
      some (s.southTok t p p.sent, fun q => { q with sent := q.sent + 1, sound := some (s.seg t 2).active.soundRec })
    else none
  else none

/-- R206: the south plane that serves a token of a step with EMIT. -/
def State.servedBy (s : State) (t g seq off : Nat) : State :=
  if g = 2 then s.modTile t fun ti => { ti with steps := updateWhere (fun p : Step => p.seq == seq) (fun p => { p with sound := some off }) ti.steps }
  else s

/-- R307: a token is sent again; an accumulator word is read again. It was admitted before, so a segment that has closed its entry
since takes it too (R198). -/
def State.resend (s : State) (t g : Nat) (k : Tok) (rest : List Tok) : State :=
  if (s.seg t g).hasRoom then
    let k := if k.src = 0 then k else s.accTok t (k.src - 1) k
    (s.modSeg t g fun sg => ({ sg with replay := rest }.push k).settle).servedBy t g k.seq (s.seg t g).active.soundRec
  else s

/-- A token enters a segment by IN: a replayed one first, else the next of the step named, whole rows at a time. -/
def State.enterSeg (s : State) (t g id : Nat) : State :=
  let sg := s.seg t g
  match sg.replay with
  | k :: rest => s.resend t g k rest
  | [] =>
    match (s.tile t).steps.find? fun p => p.id == id with
    | none => s
    | some p =>
      if sg.midRow.any fun i => i != id then s
      else match s.nextTok t g p with
      | some (k, f) => if sg.canAdmit k.seq then (s.modSeg t g fun sg => sg.accept k id).modStep t id f else s
      | none => s

/-- SITE_FIRE (R298): of tile `unit` and segment `x`, site `a` fires; or port `a` takes a token: IN (96) the next one of step
`b`, an exit the head of its queue (R297). -/
def execSiteFire (s : State) : Out :=
  let i := s.inp
  .next ((if i.a < 96 then (if isSite i.x i.a then s.fireSite i.unit i.x i.a else s)
    else if i.a = 96 then s.enterSeg i.unit i.x i.b
    else if (segExits i.x).contains i.a then s.exitSeg i.unit i.x i.a
    else s).switchAll i.unit)

/-- R310: the segment holds a token, or has a serving plane, in which an error can arise. -/
def Seg.atRisk (g : Seg) : Bool := g.active.valid || !g.empty

/-- HARDWARE_ROLLBACK (R310): an uncorrectable error in segment `x` of tile `unit` is answered as TRESUME.ABORT, counted in RBACK, and
reported as a class 2 record (R426). -/
def execHardwareRollback (s : State) : Out :=
  let t := s.inp.unit
  .next (if (s.seg t s.inp.x).atRisk then
      ((s.abortSeg t s.inp.x).modTile t fun ti => { ti with sound := { ti.sound with rback := min 65535 (ti.sound.rback + 1) } }).error
        { cls := 2, unit := 8, die := t / 8, tile := t % 8 } true
    else s)

/-- COLLAR_TRAP_DELIVERY (R200, R292): slot `unit`'s first waiting collar trap reaches its T stream at a bundle boundary; while
a handler runs it sets CPEND instead (R234). -/
def execCollarTrapDelivery (s : State) : Out :=
  .next (
    let k := s.inp.unit
    let sl := s.slot k
    if sl.collarTraps.isEmpty || sl.diverting || !(sl.phase == .running || (sl.phase == .ending && sl.ending == some .endOk)) then s
    else if sl.trap.inHandler then s.setSlot k { sl with trap := { sl.trap with cpend := true } }
    else s.deliverCollar k)

end Sys2Proof.Machine
end

