-- ==== Sys2Proof/Machine/Array.lean ====
section
/-! DEFINITION. Sys2Proof/Machine/Array.lean: array steps from arming to completion (R183-R191, R278-R282), SCACC (R192-R194),
the plane words and switches (R195-R199), TRESUME (R201, R202), TCBK (R204, R205) and the sounding records (R206, R318). -/

namespace Sys2Proof.Machine

/-! ## Windows (R36, R260) -/

/-- R36: the core holds windows under SHARE. -/
def Tile.sharesArray (t : Tile) (core : Nat) : Bool :=
  match fld t.ashare.toNat 0 2 with
  | 0 => true
  | 1 => core == 0
  | 2 => core == 1
  | _ => false

/-- R260: the window cycles the core holds among the first `n` of the window counter. -/
def Tile.windowCycles (t : Tile) (core n : Nat) : Nat :=
  let l := 2 ^ fld t.ashare.toNat 2 4
  match fld t.ashare.toNat 0 2 with
  | 0 => n / (2 * l) * l + (if core = 0 then min (n % (2 * l)) l else n % (2 * l) - l)
  | 1 => if core = 0 then n else 0
  | 2 => if core = 1 then n else 0
  | _ => 0

/-- Window cycles of the core from cycle `a` up to and without cycle `b`. -/
def Tile.windowsHeld (t : Tile) (core a b : Nat) : Nat := t.windowCycles core (b - t.window) - t.windowCycles core (a - t.window)

/-! ## Arming (R183-R188) -/

/-- R184: the fields of a TSTEP descriptor. -/
structure StepDesc where
  bh : Nat
  oh : Nat
  aty : Nat
  bty : Nat
  cnt : Nat
  accbase : Nat
  acclen : Nat
  moff : Nat
  rsv : Nat
  deriving DecidableEq, Repr

def stepDesc (w : Word) : StepDesc :=
  let n := w.toNat
  { bh := fld n 58 6, oh := fld n 52 6, aty := fld n 47 5, bty := fld n 42 5, cnt := fld n 38 4, accbase := fld n 27 11,
    acclen := fld n 15 12, moff := fld n 7 8, rsv := fld n 0 7 }

/-- R184: the array types. -/
def arrayType (t : Nat) : Bool := tyNarrow t || t == 17 || t == 18 || t == 19 || t == 22

/-- R186, check 2, with R271 and R279. -/
def StepDesc.formed (d : StepDesc) (ta : Nat) (sp emit : Bool) (fmt : Tab (BitVec 32)) : Bool :=
  let wide := fun t => t == 17 || t == 18
  d.rsv == 0 && (sp || d.moff == 0) && (emit || d.oh == 0) && arrayType d.aty && arrayType d.bty && wide d.aty == wide d.bty &&
    d.acclen != 0 && decide (d.acclen ≤ 2048) && decide (ta + d.cnt ≤ 63) && !tyUnset fmt d.aty && !tyUnset fmt d.bty

/-- R185: the dense depth of a step. -/
def depthMax (fmt : Tab (BitVec 32)) (aty bty : Nat) (sp : Bool) : Nat :=
  128 * 64 / (arrayPlanes fmt aty * arrayPlanes fmt bty) * (if sp then 2 else 1)

/-- The A handles of a step. -/
def StepDesc.handles (d : StepDesc) (ta : Nat) : List Nat := (List.range (d.cnt + 1)).map (ta + ·)

/-- R186, check 4, with R271. -/
def StepDesc.fits (d : StepDesc) (ta : Nat) (sp emit : Bool) (fmt : Tab (BitVec 32)) (as : List TileEntry) (b o : TileEntry) : Bool :=
  let kd := if sp then 2 * b.rows else b.rows
  let rows := (as.map TileEntry.rows).sum
  (as.all fun a => a.cols == kd && !tyUnset fmt a.type) && decide (kd ≤ depthMax fmt d.aty d.bty sp) && decide (b.cols ≤ 128) &&
    !tyUnset fmt b.type && decide (rows ≤ d.acclen) &&
    (!emit || (o.rows == rows && o.cols == b.cols && d.oh != d.bh && !(d.handles ta).contains d.oh && !tyUnset fmt o.type)) &&
    (!sp || decide (d.moff * 1024 + (b.rows * b.cols + 511) / 512 * 64 ≤ 262144))

/-- R186: the plane that will be active after every TSWAP so far. -/
def Seg.planned (g : Seg) : Plane := if g.swaps.length % 2 = 0 then g.active else g.shadow

/-- R271: a site of the plane names an unset register. -/
def Plane.unset (p : Plane) (fmt : Tab (BitVec 32)) : Bool := p.sites.any fun (e : Nat × SiteRec) => tyUnset fmt e.2.tin || tyUnset fmt e.2.tout

/-- R186, R320: a planned plane reads `tin` and delivers `tout`. -/
def Plane.serves (p : Plane) (fmt : Tab (BitVec 32)) (tin tout : Nat) : Bool :=
  p.valid && p.inType == tin && p.outType == tout && !p.unset fmt

/-- R186, check 5, and R271: the mask bit of the first segment whose planned plane does not fit; a site of the planned south plane may
name no unset register under any step. -/
def Tile.planBit (t : Tile) (d : StepDesc) (emit : Bool) (as : List TileEntry) (b o : TileEntry) : Option Nat :=
  let plan := fun g => (t.segs.get {} g).planned
  if !(as.all fun a => (plan 0).serves t.fmt a.type d.aty) then some 1
  else if !(plan 1).serves t.fmt b.type d.bty then some 2
  else if (emit && !(plan 2).serves t.fmt 16 o.type) || ((plan 2).valid && (plan 2).unset t.fmt) then some 4
  else none

/-- The entry is FILLING or DRAINING. -/
def TileEntry.moving (e : TileEntry) : Bool := e.state == 1 || e.state == 3

/-- R188, R180: the step is armed with the next sequence; OH turns FILLING. -/
def State.armStep (s : State) (k x ta : Nat) (sp acc emit : Bool) (d : StepDesc) (as : List TileEntry) (b o : TileEntry) : State :=
  let t := tileOf k
  let ti := s.tile t
  let task := (s.slot k).task
  let south := (ti.segs.get {} 2).planned
  let p : Step := { id := s.nextId, k := k, owner := task.loc, seq := ti.stepSeq, launch := task.launch, ta := ta, cnt := d.cnt, bh := d.bh,
                    oh := if emit then some d.oh else none, aty := d.aty, bty := d.bty, accbase := d.accbase, acclen := d.acclen,
                    moff := d.moff, sp := sp, acc := acc, fmt := ti.fmt, aEnts := as, bEnt := b,
                    ohEnt := if emit then some o else none, sound := if south.valid then some south.soundRec else none,
                    southTurn := (ti.segs.get {} 2).turns + (ti.segs.get {} 2).swaps.length }
  let s := s.modSlot k fun sl => sl.addOp { id := s.nextId, cls := 3, x := x, kind := .unit, due := 0 }
  let s := { s with nextId := s.nextId + 1 }.modTile t fun ti =>
    { ti with stepSeq := (ti.stepSeq + 1) % 65536, steps := ti.steps ++ [p] }
  let s := if emit then s.setEntry t d.oh { o with state := 1, pending := o.extent * 64 } else s
  (s.raiseCensus task.launch 1).startPreloads t

/-- TSTEP (R183-R188). -/
def tstepWord (k x : Nat) (s : State) (sp : Bool) (ta : Nat) (w : Word) (emit acc : Bool) : WRes :=
  let t := tileOf k
  let ti := s.tile t
  let d := stepDesc w
  let hs := d.handles ta
  let as := hs.map (s.entry t)
  let b := s.entry t d.bh
  let o := s.entry t d.oh
  if !ti.sharesArray (coreOf k) then .trap 22 0
  else if !d.formed ta sp emit ti.fmt then .trap 23 w
  else match (hs ++ [d.bh] ++ (if emit then [d.oh] else [])).find? fun h => (s.entry t h).state == 0 with
  | some h => .trap 14 (BitVec.ofNat 64 h)
  | none =>
    if emit && o.owner != k % 8 then .trap 15 (BitVec.ofNat 64 d.oh)
    else if !d.fits ta sp emit ti.fmt as b o then .trap 23 w
    else match ti.planBit d emit as b o with
    | some m => .trap 24 (BitVec.ofNat 64 m)
    | none => match (hs ++ [d.bh]).find? fun h => (s.entry t h).fault with
      | some h => .trap 8 (BitVec.ofNat 64 h)
      | none =>
        if (as.any TileEntry.moving) || b.moving || (emit && o.moving) then .wait s
        else if 2 ≤ (ti.steps.filter fun p => coreKey p.k == coreKey k).length then .wait s
        else .done (s.armStep k x ta sp acc emit d as b o)

/-! ## Preload and stream (R189, R190, R281) -/

/-- The weight of row `i` and column `n`, as it reached the array (R264). -/
def Step.weight (p : Step) (i n : Nat) : Nat × Option Nat :=
  p.weights.getD (if p.bEnt.layout = 1 then n * p.bEnt.rows + i else i * p.bEnt.cols + n) (0, none)

/-- R189: the metadata bit of kept element `i` of column `n`. -/
def State.metaBit (s : State) (t : Nat) (p : Step) (i n : Nat) : Nat :=
  let b := i * p.bEnt.cols + n
  ((Memory.read s.mem (tileBase t + 0x500000 + p.moff * 1024 + b / 8)).toNat / 2 ^ (b % 8)) % 2

/-- The products of output column `n`: pairs of an A element and a weight (R188, R189, R280). -/
def State.pairsOf (s : State) (t : Nat) (p : Step) (n : Nat) : List ((Nat × Option Nat) × (Nat × Option Nat)) :=
  (List.range p.bEnt.rows).map fun i =>
    let k := if p.sp then 4 * (i / 2) + 2 * (i % 2) + s.metaBit t p i n else i
    (p.edge.getD k (0, none), p.weight i n)

/-- R281: the window's sum of exact products, rounded once to FP32. -/
def windowSum (ps : List (FVal × FVal)) : Nat :=
  let prods := ps.map fun q => mulVal q.1 q.2
  let sums := prods.filterMap id
  let infs := sums.filterMap fun v => match v with
    | .inf g => some g
    | _ => none
  if prods.any Option.isNone || sums.any FVal.isNan || (infs.contains true && infs.contains false) then 0x7FC00000
  else match infs with
    | g :: _ => fp32.infCode g
    | [] =>
      let z := sums.filterMap fun v => match v with
        | .num g m e => if m = 0 then none else some (g, m, e)
        | _ => none
      match z with
      | [] => 0
      | (_, m, e) :: rest =>
        let l := rest.foldl (fun (l : Int) (q : Bool × Nat × Int) => max l (log2Of q.2.1 q.2.2)) (log2Of m e)
        let term := fun (q : Bool × Nat × Int) =>
          let sh := q.2.2 - (l - 40)
          signed q.1 (q.2.1 * 2 ^ sh.toNat / 2 ^ (-sh).toNat)
        (fp32.roundInt 0 (z.map term).sum (l - 40) false).1

/-- R188: the origins that poison a sum; where there are several, the machine picks one. -/
def State.sumOrigin (s : State) (ps : List ((Nat × Option Nat) × (Nat × Option Nat))) : Option Nat :=
  match (ps.flatMap fun q => q.1.2.toList ++ q.2.2.toList).eraseDups with
  | [] => none
  | os => os[Config.poisonPick s.fresh % os.length]?

/-- The sums of the row at the edge. -/
def State.rowSums (s : State) (t : Nat) (p : Step) : List (Nat × Option Nat) :=
  (List.range p.bEnt.cols).map fun n =>
    let ps := s.pairsOf t p n
    (windowSum (ps.map fun q => (tyRead p.fmt p.aty q.1.1, tyRead p.fmt p.bty q.2.1)), { s with fresh := s.fresh + n }.sumOrigin ps)

/-- R190, R260: the preload of a step may end: its window cycles have passed and its last weight is at the array. -/
def State.preloadOver (s : State) (t : Nat) (p : Step) : Bool :=
  match p.preload with
  | some c => !p.loaded && decide (p.bTokens ≤ p.weights.length) &&
      decide ((p.bEnt.extent * 64 + 2047) / 2048 ≤ (s.tile t).windowsHeld (coreOf p.k) c s.cycle)
  | none => false

/-- The step that an event names. -/
def State.stepAt (s : State) (t id : Nat) : Option Step := (s.tile t).steps.find? fun p => p.id == id

/-- R190, R260: the row at the west edge may enter in this cycle. -/
def State.rowReady (s : State) (t : Nat) (p : Step) : Bool :=
  p.loaded && p.edgeFull && decide (p.rowsIn < p.rows) && p.lastCycle != some s.cycle &&
    decide ((s.tile t).windowsHeld (coreOf p.k) s.cycle (s.cycle + 1) = 1)

/-! ## Accumulator memory (R188, R191, R308) -/

/-- Write an accumulator word with its poison tag. -/
def State.setAcc (s : State) (t n code : Nat) (o : Option Nat) : State :=
  let a := accAddr t n
  let s := s.writeRun a (leBytes 4 code)
  match o with
  | some g => { s with marks := (a :: s.marks).eraseDups }.modTile t fun ti => { ti with origins := ti.origins.set n g }
  | none => { s with marks := s.marks.filter (· != a) }.modTile t fun ti => { ti with origins := ti.origins.del n }

/-- The accumulator row of row `o` of a step. -/
def Step.accRow (p : Step) (o : Nat) : Nat := (p.accbase + o) % 2048

/-- Every token of row `o` that the step emits has left the south segment (R308). -/
def State.rowLeft (s : State) (t : Nat) (p : Step) (o : Nat) : Bool :=
  let sg := s.seg t 2
  p.oh.isNone || (decide ((o + 1) * p.bEnt.cols ≤ p.sent) && !((sg.tokens ++ sg.replay).any fun k => k.seq == p.seq && k.srow == o))

/-- An earlier step has still to write or to read an accumulator row. -/
def State.stepHolds (s : State) (t : Nat) (p : Step) (row : Nat) : Bool :=
  (List.range p.rows).any fun o => p.accRow o == row && (decide (p.rowsOut ≤ o) || !s.rowLeft t p o)

/-- An SCACC under way reads or writes an accumulator row. -/
def Scacc.holds (a : Scacc) (row : Nat) : Bool :=
  (List.range a.nrows).any fun r => (a.src + r) % 2048 == row || (a.dst + r) % 2048 == row

/-- R191: every operation earlier in tile order is done with the row. -/
def State.rowFree (s : State) (t id row : Nat) : Bool :=
  !((s.tile t).steps.any fun p => decide (p.id < id) && s.stepHolds t p row) &&
    !((s.tile t).scaccs.any fun a => decide (a.id < id) && a.holds row)

/-- The sums of a row take their places; ACC adds with a second rounding. -/
def State.writeRow (s : State) (t : Nat) (p : Step) (tr : Transit) : State :=
  tr.sums.zipIdx.foldl (fun s (q : (Nat × Option Nat) × Nat) =>
    let n := p.accRow tr.row * 128 + q.2
    if p.acc then
      let old := s.accPoison t n
      s.setAcc t n (fp32.addVal 0 (fp32.read (s.accWord t n)) (fp32.read q.1.1)).1 (old.or q.1.2)
    else s.setAcc t n q.1.1 q.1.2) s

/-! ## SCACC (R192-R194) -/

/-- R193: the fields of the descriptor. -/
structure ScaccDesc where
  src : Nat
  dst : Nat
  nrows : Nat
  ncols : Nat
  br : Nat
  bc : Nat
  rsv : Nat
  deriving DecidableEq, Repr

def scaccDesc (w : Word) : ScaccDesc :=
  let n := w.toNat
  { src := fld n 53 11, dst := fld n 42 11, nrows := fld n 30 12, ncols := fld n 22 8, br := fld n 18 4, bc := fld n 15 3, rsv := fld n 0 15 }

/-- R194: the scale index of element (r, c); kind 0 ROW, 1 COL, 2 BLK. -/
def ScaccDesc.index (d : ScaccDesc) (kind r c : Nat) : Nat :=
  if kind = 0 then r else if kind = 1 then c else r / 2 ^ d.br * ((d.ncols + 2 ^ d.bc - 1) / 2 ^ d.bc) + c / 2 ^ d.bc

def ScaccDesc.formed (d : ScaccDesc) (kind : Nat) : Bool :=
  d.rsv == 0 && d.nrows != 0 && decide (d.nrows ≤ 2048) && d.ncols != 0 && decide (d.ncols ≤ 128) &&
    (if kind = 2 then decide (d.br ≤ 11) else d.br == 0 && d.bc == 0)

/-- R193: an exponent-only format. -/
def expOnly (fmt : Tab (BitVec 32)) (t : Nat) : Bool :=
  let f := nfmtOf fmt t
  !tyUnset fmt t && f.e != 0 && f.m == 0 && !f.s

/-- R193: the scale entry fits. -/
def ScaccDesc.fits (d : ScaccDesc) (kind : Nat) (fmt : Tab (BitVec 32)) (e : TileEntry) : Bool :=
  (e.type == 16 || (tyNarrow e.type && expOnly fmt e.type)) && decide (d.index kind (d.nrows - 1) (d.ncols - 1) < e.rows * e.cols)

/-- SCACC (R193): the checks and waits of a TSTEP operand. -/
def scaccWord (k x : Nat) (s : State) (kind ts : Nat) (w : Word) (set : Bool) : WRes :=
  let t := tileOf k
  let ti := s.tile t
  let d := scaccDesc w
  let e := s.entry t ts
  if !d.formed kind then .trap 23 w
  else if e.state = 0 then .trap 14 (BitVec.ofNat 64 ts)
  else if !d.fits kind ti.fmt e then .trap 23 w
  else if e.fault then .trap 8 (BitVec.ofNat 64 ts)
  else if e.moving then .wait s
  else
    let a : Scacc := { id := s.nextId, k := k, ent := e, fmt := ti.fmt.get 0 e.type, src := d.src, dst := d.dst, nrows := d.nrows,
                       ncols := d.ncols, br := d.br, bc := d.bc, set := set, kind := kind }
    .done ({ (s.modSlot k fun sl => sl.addOp { id := s.nextId, cls := 3, x := x, kind := .unit, due := 0 }) with nextId := s.nextId + 1 }.modTile t
      fun ti => { ti with scaccs := ti.scaccs ++ [a] })

/-- R194: element (r, c); a scale with a marked byte poisons. -/
def State.scaccElem (s : State) (t : Nat) (a : Scacc) (r c : Nat) : State :=
  let d : ScaccDesc := { src := a.src, dst := a.dst, nrows := a.nrows, ncols := a.ncols, br := a.br, bc := a.bc, rsv := 0 }
  let fmt : Tab (BitVec 32) := [(a.ent.type, a.fmt)]
  let i := d.index a.kind r c
  let sc := tyRead fmt a.ent.type (s.elemAt t fmt a.ent (i / a.ent.cols) (i % a.ent.cols))
  let bad := (elemAddrs fmt t a.ent (i / a.ent.cols) (i % a.ent.cols)).any s.marked
  let from_ := (a.src + r) % 2048 * 128 + c
  let to_ := (a.dst + r) % 2048 * 128 + c
  let p := fp32.read (s.accWord t from_)
  let o := (s.accPoison t from_).or (if bad then some 127 else none)
  if a.set then s.setAcc t to_ (fp32.mul 0 p sc).1 o
  else s.setAcc t to_ (fp32.fma 0 p sc (fp32.read (s.accWord t to_))).1 (o.or (s.accPoison t to_))

/-- R194: the walk in row-major order. -/
def State.scaccWalk (s : State) (t : Nat) (a : Scacc) : State :=
  (List.range a.nrows).foldl (fun s r => (List.range a.ncols).foldl (fun s c => s.scaccElem t a r c) s) s

/-- Every earlier store of the slot `k` is performed (R182). -/
def State.slotStored (s : State) (k id : Nat) : Bool := !((s.slot k).ops.any fun o => o.kind.isStore && !o.done && decide (o.id < id))

/-! ## Sounding (R206, R317, R318) -/

/-- R318: the record. -/
def Sound.bytes (c : Sound) (mtime : Word) : List Byte :=
  leBytes 4 c.nan ++ leBytes 4 c.inf ++ leBytes 4 c.sat ++ leBytes 4 c.ftz ++ leBytes 4 c.pois ++ leBytes 1 c.poisOrig ++
    leBytes 1 c.voteMask ++ leBytes 2 (toCode 16 c.maxExp) ++ leBytes 2 (if c.nstep = 0 then 0 else c.firstSeq) ++
    leBytes 2 (if c.nstep = 0 then 0 else c.lastSeq) ++ leBytes 4 c.nstep ++ leBytes 4 c.vote ++ leBytes 2 c.rback ++ leBytes 2 0 ++
    leBytes 8 mtime.toNat ++ leBytes 16 0

/-- R206: a record is written and the counts start afresh. -/
def State.writeSound (s : State) (t off : Nat) : State :=
  let c := (s.tile t).sound
  (s.writeRun (scratchAddr t off) (c.bytes s.mtime)).modTile t fun ti => { ti with sound := { on := c.on, since := c.since } }

/-- R318: a step is complete. DESIGN CHOICE (notes/assumptions/154.md): it counts while sounding is OFF too (R206), where R294 shows zero. -/
def Sound.step (c : Sound) (seq : Nat) : Sound :=
  { c with nstep := sat32 (c.nstep + 1), firstSeq := if c.nstep = 0 then seq else c.firstSeq, lastSeq := seq }

/-- R206: a step's end writes its record. -/
def State.soundEnd (s : State) (t : Nat) (p : Step) : State :=
  let s := s.modTile t fun ti => { ti with sound := ti.sound.step p.seq }
  let c := (s.tile t).sound
  match p.sound with
  | some off => if c.on && decide (c.since ≤ p.id) then s.writeSound t off else s
  | none => s

/-! ## The end of a step (R190, R312) -/

/-- R312: no token of the step's sequence is in the collar or waits at an entry. -/
def State.collarDone (s : State) (t : Nat) (p : Step) : Bool :=
  p.aSent == p.aTokens && p.bSent == p.bTokens && (p.oh.isNone || p.sent == p.rows * p.bEnt.cols) &&
    [0, 1, 2, 3].all fun g => !(((s.seg t g).tokens ++ (s.seg t g).replay).any fun k => k.seq == p.seq)

/-- R190: the step is complete. -/
def State.stepOver (s : State) (t : Nat) (p : Step) : Bool :=
  decide (p.rows ≤ p.rowsOut) && s.collarDone t p &&
    (match p.oh with
      | some h => (s.entry t h).state == 2
      | none => true)

/-! ## Planes (R195-R199) -/

/-- The segments a mask names, west first (R181). -/
def maskSegs (m : BitVec 4) : List Nat := [0, 1, 2, 3].filter fun g => m.getLsbD g

/-- A plane word takes its counter. -/
def State.planeOp (s : State) (k x : Nat) : State :=
  { (s.modSlot k fun sl => sl.addOp { id := s.nextId, cls := 3, x := x, kind := .unit, due := 0 }) with nextId := s.nextId + 1 }

/-- TCFG (R195, R199): the shadow planes are not loaded until their loads end, 16 cycles for each segment in order. -/
def tcfgWord (k x : Nat) (s : State) (m : BitVec 4) (img : Nat) : WRes :=
  let t := tileOf k
  let gs := maskSegs m
  if gs.any fun g => !(s.seg t g).swaps.isEmpty || decide (2 ≤ (s.seg t g).pendingWords) then .wait s
  else .done (gs.zipIdx.foldl (fun st q => st.modSeg t q.1 fun sg =>
    { sg with shadow := { sg.shadow with valid := false }, loads := sg.loads ++ [(s.nextId, img, s.cycle + 16 * (q.2 + 1))] })
    (s.planeOp k x))

/-- TSWAP (R196, R198, R199): Q is the next step sequence; a HELD segment reopens, and a switch that nothing holds happens at once. -/
def tswapWord (k x : Nat) (s : State) (m : BitVec 4) : WRes :=
  let t := tileOf k
  let gs := maskSegs m
  match gs.find? fun g => !(s.seg t g).shadow.valid && (s.seg t g).loads.isEmpty with
  | some g => .trap 24 (BitVec.ofNat 64 (2 ^ g))
  | none =>
    if gs.any fun g => !(s.seg t g).loads.isEmpty || decide (2 ≤ (s.seg t g).pendingWords) then .wait s
    else .done ((gs.foldl (fun st g => st.modSeg t g fun sg =>
      { sg with swaps := sg.swaps ++ [{ q := (s.tile t).stepSeq, op := s.nextId, late := sg.mode == 1 }],
                mode := if sg.mode = 2 && !s.segHeld t g then 0 else sg.mode }) (s.planeOp k x)).switchAll t)

/-- TDRAIN (R197, R198). -/
def tdrainWord (k x : Nat) (s : State) (m : BitVec 4) (open_ : Bool) : WRes :=
  let t := tileOf k
  let gs := maskSegs m
  if gs.any fun g => decide (2 ≤ (s.seg t g).pendingWords) then .wait s
  else
    let id := s.nextId
    let s := gs.foldl (fun st g => st.modSeg t g fun sg =>
      if sg.mode = 1 then { sg with drains := sg.drains ++ [{ open_ := open_, op := id }] }
      else if open_ then { sg with mode := if s.segHeld t g then sg.mode else 0 }
      else if sg.mode = 0 then { sg with mode := 1, drains := sg.drains ++ [{ open_ := false, op := id }] }
      else sg) (s.planeOp k x)
    .done (s.planeDone t id)

/-! ## TRESUME (R201, R202) -/

/-- R201: what TRESUME refuses; the segment it names. -/
def State.resumeSeg (s : State) (k : Nat) (a : Word) : Option Nat :=
  let g := a.toNat % 4
  let t := tileOf k
  if 4 ≤ a.toNat then none
  else match (s.seg t g).trapped with
  | none => none
  | some h => match (s.tile t).stepOf h.seq with
    | some p => if p.owner = (s.slot k).task.loc then some g else none
    | none => none

def tresumeWord (k : Nat) (s : State) (a : Word) (f : State → Nat → Nat → State) : WRes :=
  match s.resumeSeg k a with
  | none => .trap 25 a
  | some g => .done (f s (tileOf k) g)

/-! ## TCBK (R204, R205) -/

def tcbkWord (k : Nat) (s : State) (tc : Nat) (n : Word) (site : Nat) : WRes :=
  let t := tileOf k
  let ti := s.tile t
  let e := s.entry t tc
  let north := (s.seg t 1).active
  if n = 0 ∨ 65535 < n.toNat then .trap 23 n
  else if e.state = 0 then .trap 14 (BitVec.ofNat 64 tc)
  else if e.rows ≠ 1 ∨ e.cols = 0 ∨ 16 < e.cols ∨ !(tyNarrow e.type || tyWide e.type) ∨ tyUnset ti.fmt e.type then .trap 23 n
  else if !north.valid || (north.site site).kind != 2 then .trap 24 2
  else if e.fault || ((List.range e.cols).any fun c => (elemAddrs ti.fmt t e 0 c).any s.marked) then .trap 8 (BitVec.ofNat 64 tc)
  else if e.moving || !s.slotStored k s.nextId || decide (4 ≤ (ti.codebooks.get [] site).length) then .wait s
  else
    let tb : CbTable := { vals := (List.range e.cols).map fun c => s.elemAt t ti.fmt e 0 c, type := e.type, blocks := n.toNat }
    .done (s.modTile t fun ti => { ti with codebooks := ti.codebooks.set site (ti.codebooks.get [] site ++ [tb]) })

/-- TSOUND.NOW (R206): a record at the south active plane, if it is loaded. -/
def soundNow (k : Nat) (s : State) : State :=
  let p := (s.seg (tileOf k) 2).active
  if p.valid then s.writeSound (tileOf k) p.soundRec else s

/-! ## The words -/

/-- TSTEP (R186): Checks and arms a dense array step. -/
def execTstep (h : Hdr) (t : BitVec 6) (k : BitVec 5) (e a : Bool) (s : State) : Out :=
  .next (s.issueCore (.tstep h t k e a) h 1 fun kk xx s v => tstepWord kk xx s false t.toNat (v.reg k) e a)

/-- TSTEP_SP (R189): Checks and arms a 2:4 sparse array step. -/
def execTstepSp (h : Hdr) (t : BitVec 6) (k : BitVec 5) (e a : Bool) (s : State) : Out :=
  .next (s.issueCore (.tstepSp h t k e a) h 1 fun kk xx s v => tstepWord kk xx s true t.toNat (v.reg k) e a)

/-- SCACC_ROW (R194): Scales accumulator words by a per-row scale. -/
def execScaccRow (h : Hdr) (t : BitVec 6) (k : BitVec 5) (e : Bool) (s : State) : Out :=
  .next (s.issueCore (.scaccRow h t k e) h 1 fun kk xx s v => scaccWord kk xx s 0 t.toNat (v.reg k) e)

/-- SCACC_COL (R194): Scales accumulator words by a per-column scale. -/
def execScaccCol (h : Hdr) (t : BitVec 6) (k : BitVec 5) (e : Bool) (s : State) : Out :=
  .next (s.issueCore (.scaccCol h t k e) h 1 fun kk xx s v => scaccWord kk xx s 1 t.toNat (v.reg k) e)

/-- SCACC_BLK (R194): Scales accumulator words by a per-block scale. -/
def execScaccBlk (h : Hdr) (t : BitVec 6) (k : BitVec 5) (e : Bool) (s : State) : Out :=
  .next (s.issueCore (.scaccBlk h t k e) h 1 fun kk xx s v => scaccWord kk xx s 2 t.toNat (v.reg k) e)

/-- TCFG (R195): Starts loading image segments into the named shadow planes. -/
def execTcfg (h : Hdr) (m i : BitVec 4) (s : State) : Out :=
  .next (s.issueCore (.tcfg h m i) h 1 fun kk xx s _ => tcfgWord kk xx s m i.toNat)

/-- TSWAP (R196): Fixes a switch sequence and swaps active and shadow planes. -/
def execTswap (h : Hdr) (m : BitVec 4) (s : State) : Out :=
  .next (s.issueCore (.tswap h m) h 1 fun kk xx s _ => tswapWord kk xx s m)

/-- TDRAIN (R197): Closes segment entries and sends drain tokens, or reopens with OPEN. -/
def execTdrain (h : Hdr) (o : Bool) (m : BitVec 4) (s : State) : Out :=
  .next (s.issueCore (.tdrain h o m) h 1 fun kk xx s _ => tdrainWord kk xx s m o)

/-- TRESUME_REPL (R202): Resolves a collar trap with a replacement result. -/
def execTresumeRepl (h : Hdr) (a b : BitVec 5) (s : State) : Out :=
  .next (s.issueCore (.tresumeRepl h a b) h 1 fun kk _ s v => tresumeWord kk s (v.reg a) fun s t g => s.resolveTrap t g (some (v.reg b).toNat))

/-- TRESUME_DISC (R202): Resolves a collar trap by emitting a poisoned zero. -/
def execTresumeDisc (h : Hdr) (a : BitVec 5) (s : State) : Out :=
  .next (s.issueCore (.tresumeDisc h a) h 1 fun kk _ s v => tresumeWord kk s (v.reg a) fun s t g => s.resolveTrap t g none)

/-- TRESUME_ABORT (R202): Flushes, reloads and replays a trapped segment. -/
def execTresumeAbort (h : Hdr) (a : BitVec 5) (s : State) : Out :=
  .next (s.issueCore (.tresumeAbort h a) h 1 fun kk _ s v => tresumeWord kk s (v.reg a) State.abortSeg)

/-- TCBK (R205): Queues a codebook table at a north codebook unit. -/
def execTcbk (h : Hdr) (t : BitVec 6) (k x : BitVec 5) (s : State) : Out :=
  .next (s.issueCore (.tcbk h t k x) h 1 fun kk _ s v => tcbkWord kk s t.toNat (v.reg k) (x.toNat + 24))

/-- TSOUND_ON (R206): Turns per-step sounding records on. -/
def execTsoundOn (h : Hdr) (s : State) : Out :=
  .next (s.issueCore (.tsoundOn h) h 1 fun kk _ s _ => .done (s.modTile (tileOf kk) fun t => { t with sound := { t.sound with on := true, since := if t.sound.on then t.sound.since else s.nextId } }))

/-- TSOUND_OFF (R206): Turns per-step sounding records off. -/
def execTsoundOff (h : Hdr) (s : State) : Out :=
  .next (s.issueCore (.tsoundOff h) h 1 fun kk _ s _ => .done (s.modTile (tileOf kk) fun t => { t with sound := { t.sound with on := false } }))

/-- TSOUND_NOW (R206): Writes a sounding record of the counts so far. -/
def execTsoundNow (h : Hdr) (s : State) : Out :=
  .next (s.issueCore (.tsoundNow h) h 1 fun kk _ s _ => .done (soundNow kk s))


/-! ## Events: tile `unit`, step `id`, segment `x` -/

/-- STEP_ARM (R188): a waiting TSTEP finds its entries ready and a step place free, and arms. -/
def execStepArm (s : State) : Out :=
  match s.streamNext s.inp.unit s.inp.x with
  | some (.tstep h t k e a) => execTstep h t k e a s.atStream
  | some (.tstepSp h t k e a) => execTstepSp h t k e a s.atStream
  | _ => .next s

/-- STEP_PRELOAD_DONE (R190): the weight bank holds B, and the B entry is released. -/
def execStepPreloadDone (s : State) : Out :=
  .next (match s.stepAt s.inp.unit s.inp.id with
    | some p => if s.preloadOver s.inp.unit p then s.modStep s.inp.unit p.id fun q => { q with loaded := true } else s
    | none => s)

/-- STEP_ROW_ENTERS (R188, R190): an A row enters the array; its sums are due 136 cycles later. -/
def execStepRowEnters (s : State) : Out :=
  .next (match s.stepAt s.inp.unit s.inp.id with
    | some p =>
      if !s.rowReady s.inp.unit p then s
      else
        let tr : Transit := { row := p.rowsIn, due := s.cycle + 136, sums := s.rowSums s.inp.unit p }
        ({ s with fresh := s.fresh + p.bEnt.cols }.modStep s.inp.unit p.id fun q =>
          { q with rowsIn := q.rowsIn + 1, transit := q.transit ++ [tr], edge := [], edgeFull := false,
                   lastCycle := some s.cycle }).startPreloads s.inp.unit
    | none => s)

/-- STEP_ROW_WRITTEN (R190, R191): the oldest row of sums on its way is written. -/
def execStepRowWritten (s : State) : Out :=
  .next (match s.stepAt s.inp.unit s.inp.id with
    | some p => match p.transit with
      | tr :: rest =>
        if decide (tr.due ≤ s.cycle) && s.rowFree s.inp.unit p.id (p.accRow tr.row) then
          (s.writeRow s.inp.unit p tr).modStep s.inp.unit p.id fun q => { q with transit := rest, rowsOut := q.rowsOut + 1 }
        else s
      | [] => s
    | none => s)

/-- STEP_COMPLETE (R190): every row and OH byte is written; the sounding record is written and tl returns. -/
def execStepComplete (s : State) : Out :=
  .next (match s.stepAt s.inp.unit s.inp.id with
    | some p =>
      if !s.stepOver s.inp.unit p then s
      else
        let t := (s.soundEnd s.inp.unit p).modTile s.inp.unit fun ti => { ti with steps := ti.steps.filter fun q => q.id != p.id }
        ((t.retireOp p.id).lowerCensus p.launch 0).startPreloads s.inp.unit
    | none => s)

/-- SCACC_DONE (R194, R191): the walk, once every earlier operation is done with its rows; tl returns. -/
def execScaccDone (s : State) : Out :=
  .next (
    let t := s.inp.unit
    match (s.tile t).scaccs.find? fun a => a.id == s.inp.id with
    | some a =>
      if s.slotStored a.k a.id && ((List.range a.nrows).all fun r => s.rowFree t a.id ((a.src + r) % 2048) && s.rowFree t a.id ((a.dst + r) % 2048))
      then ((s.scaccWalk t a).modTile t fun ti => { ti with scaccs := ti.scaccs.filter fun b => b.id != a.id }).retireOp a.id
      else s
    | none => s)

/-- TCFG_LOAD_DONE (R195): the oldest shadow load of a segment ends, loaded or refused. -/
def execTcfgLoadDone (s : State) : Out :=
  .next (
    let t := s.inp.unit
    let g := s.inp.x
    match (s.seg t g).loads with
    | (op, img, due) :: rest =>
      if s.cycle < due then s
      else
        let p := (s.loadPlane t img g).getD { valid := false, img := img }
        (s.modSeg t g fun sg => { sg with shadow := p, loads := rest }).planeDone t op
    | [] => s)

/-- SEGMENT_SWITCH (R196): the planes of a segment change roles. -/
def execSegmentSwitch (s : State) : Out := .next (s.switchSeg s.inp.unit s.inp.x)

/-- DRAIN_EMPTY (R197, R198): a draining segment is empty; it becomes HELD, or reopens for a TDRAIN OPEN or a TSWAP that came while it
drained. TDRAIN's tl returns, then TSWAP's. -/
def execDrainEmpty (s : State) : Out :=
  .next (
    let t := s.inp.unit
    let g := s.inp.x
    let sg := s.seg t g
    if sg.mode != 1 || !sg.empty || !sg.replay.isEmpty || sg.trapped.isSome then s
    else
      let opens := ((sg.drains.any fun d => d.open_) || sg.swaps.any fun w => w.late) && !s.segHeld t g
      let s := s.modSeg t g fun sg =>
        { sg with mode := if opens then 0 else 2, drains := [], swaps := sg.swaps.map fun w => { w with late := false } }
      (sg.drains.foldl (fun s d => s.planeDone t d.op) s).switchAll t)

end Sys2Proof.Machine
end

