-- ==== Sys2Proof/Machine/Tasks.lean ====
section
/-! DEFINITION. Sys2Proof/Machine/Tasks.lean: binding, ending, pre-emption, saving and restoring of tasks (R382-R391), tenant
scrubs, landfall and the hard stop (R395, R412-R418). -/

namespace Sys2Proof.Machine

/-! ## Steps, segments and commands of a task -/

/-- The armed steps of a task: tile and step. -/
def State.stepsOf (s : State) (owner : Nat) : List (Nat × Step) :=
  s.tiles.flatMap fun (p : Nat × Tile) => (p.2.steps.filter fun q => q.owner == owner).map fun q => (p.1, q)

/-- Segments trapped on a step of a task: tile and segment (R200). -/
def State.trapsOf (s : State) (owner : Nat) : List (Nat × Nat) :=
  s.tiles.flatMap fun (p : Nat × Tile) => ([0, 1, 2, 3].filter fun g => match (p.2.segs.get {} g).trapped with
    | some h => (p.2.stepOf h.seq).any fun q => q.owner == owner
    | none => false).map fun g => (p.1, g)

/-- R200: the trapped segments of a task that can no longer resolve them are resolved as by TRESUME.DISC. -/
def State.discTraps (s : State) (owner : Nat) : State := (s.trapsOf owner).foldl (fun s e => s.resolveTrap e.1 e.2 none) s

/-- R203, R372: every armed step of a task is cancelled. -/
def State.cancelSteps (s : State) (owner : Nat) : State := (s.stepsOf owner).foldl (fun s e => s.cancelStep e.1 e.2.id) s

/-- R390, R416: a command that a stop reaches: cancelled before its start, FAULTED when suspended; else it goes on. -/
def Job.kill (j : Job) : Job :=
  if j.dead.isSome then j
  else if j.susp.isSome && j.atRecord then { j with susp := none, atRecord := false, recorded := true, flights := [] }
  else if j.susp.isSome then j.faulted
  else if !j.started then { j with dead := some 4 } else j

def State.killJobs (s : State) (p : Job → Bool) : State :=
  { s with jobs := s.jobs.map fun (e : Nat × Job) => (e.1, if p e.2 then e.2.kill else e.2) }

/-- The commands of a task. -/
def ofTask (owner : Nat) (j : Job) : Bool := j.mac.isSome && j.owner == owner

/-- R146, R386: the commands that outlive their task belong to no record any more, and stay in the order they have among themselves. -/
def State.orphan (s : State) (owner : Nat) : State :=
  { s with jobs := s.jobs.map fun (e : Nat × Job) => (e.1, if ofTask owner e.2 then { e.2 with owner := 2 ^ 64 + s.nextId } else e.2) }

/-! ## The end of a task (R383, R384, R389) -/

/-- R175: the reserve takes a task's cairns back. -/
def State.dropCairns (s : State) (k : Nat) (sl : Slot) : State :=
  { s with cairnFree := s.cairnFree.set (dieOf k) (s.cairnFree.get 0 (dieOf k) + (sl.cairns.map fun (c : Nat × Cairn) => c.2.saved.length).sum) }

/-- R352: where the record of a task of slot `k` stands now. -/
def State.taskRecord (s : State) (k : Nat) (t : Task) : Option Nat := s.recordNow (dieOf k) t.record t.asid t.loc

/-- R389: the add and the census item of a task that ends. DESIGN CHOICE (notes/assumptions/145.md): the own-tile and own-die aliases of
its signal name the tile and the die of the slot it ends in. -/
def Slot.owed (sl : Slot) (k code : Nat) : Owed :=
  { die := dieOf k, tile := some (tileOf k), k := k, asid := sl.task.asid, launch := sl.task.launch, signal := sl.task.onabort, code := code,
    wait := 0 }

/-- R384, R389, R385: EXIT and then STATUS, ONABORT, the launch's summary and census, and the EVENTs. -/
def State.finishTask (s : State) (k : Nat) (sl : Slot) (e : Ending) : State :=
  let c := e.codes sl
  let s := (s.dropCairns k sl).orphan sl.task.loc
  let s := match s.taskRecord k sl.task with
    | some at_ => (s.recWrite at_ 60 4 c.2).recWrite at_ 58 1 c.1
    | none => s
  let s := match e with
    | .landed v => s.modLaunch sl.task.launch fun l => { l with validity := l.validity ||| v, landed := true }
    | _ => s
  let s := if 3 ≤ c.1 ∧ c.1 ≤ 5 then s.owe (sl.owed k (endCode c.1 c.2)) else s.lowerCensus sl.task.launch (endCode c.1 c.2)
  let s := s.tell [k, sl.task.record, c.1, c.2, (match e with
    | .landed v => v.toNat
    | _ => 0)]
  if c.1 = 3 ∨ c.1 = 4 then s.event (leBytes 8 k ++ leBytes 8 sl.task.record ++ leBytes 8 sl.trap.aux.toNat) else s

/-- A slot that its task has left: its registers keep what they hold until the next bind (R294, R383, R397). -/
def Slot.freed (sl : Slot) : Slot :=
  { phase := .free, task := sl.task, lfrun := sl.lfrun, resumed := sl.resumed, regs := sl.regs, preds := sl.preds, queues := sl.queues, chans := sl.chans, fpcsr := sl.fpcsr, trap := sl.trap,
    streams := sl.streams.map fun (p : Nat × Stream) => (p.1, { ctl := p.2.ctl, ended := p.2.ended }), resp := sl.resp,
    copyStatus := sl.copyStatus, validity := sl.validity, debug := sl.debug }

/-- The slot is FREE again, and VALID clears. -/
def State.freeSlot (s : State) (k : Nat) : State :=
  { s with binds := s.binds.set k { s.bind k with valid := false, preempt := false, restore := false } }.setSlot k (s.slot k).freed

/-- R331, R333: the pilot's accesses to the record of a task of slot `k`, and to the signal of its end, are held back. -/
def State.endWaits (s : State) (k : Nat) (sl : Slot) : Bool :=
  (match s.taskRecord k sl.task with
    | some at_ => s.pilotWaits (dieOf k) ((List.range 128).map (at_ + ·))
    | none => false) ||
  (match sl.task.onabort, s.reach (sl.owed k 0).who copyParts .both (spanOf sl.task.onabort 8) with
    | 0, _ => false
    | _, .ok locs => s.pilotWaits (dieOf k) (locs.map Prod.fst)
    | _, _ => false)

/-- TASK_END_DRAINED (R383, R86): an ending task whose counters are zero ends; one that cannot resolve its collar traps has them
resolved first (R200). -/
def execTaskEndDrained (s : State) : Out :=
  .next (
    let k := s.inp.unit
    let sl := s.slot k
    match sl.phase, sl.ending with
    | .ending, some e =>
      if e != .endOk && !(s.trapsOf sl.task.loc).isEmpty then s.discTraps sl.task.loc
      else if !sl.ops.isEmpty || !sl.pend.isEmpty || s.endWaits k sl then s
      else (s.finishTask k sl e).freeSlot k
    | _, _ => s)

/-- R390, R418: a teardown reaches a bound task: it ends CANCELLED, its armed steps follow STEPSTOP. -/
def State.tearTask (s : State) (k : Nat) : State :=
  let sl := s.slot k
  let stop := sl.phase == .running || sl.phase == .stopping || sl.phase == .saving || (match sl.ending with
    | some (.landed _) => true
    | _ => false)
  let s := if stop then s.setSlot k { (sl.beginEnding .cancelled) with late := [], diverting := false, parking := none } else s
  if (s.launch sl.task.launch).abortSteps then s.cancelSteps sl.task.loc else s

/-- A saved or parked task that a stop reaches ends CANCELLED without binding (R405, R416). -/
def State.endSaved (s : State) (v : Saved) : State :=
  let s := ((s.discTraps v.slot.task.loc).unqueue v.slot.task.loc)
  let s := match v.parked with
    | some (c, rd) => let ch := s.chan c
      { s with chans := s.chans.set c (if rd then { ch with rpark := false } else { ch with wpark := false }) }
    | none => s
  { s.finishTask v.k v.slot .cancelled with saved := s.saved.filter fun u => u.slot.task.loc != v.slot.task.loc }

/-! ## The ready queue (R380) -/

/-- R380: where the pilot of die `d` can read and write the record (R352). -/
def State.recordOpen (s : State) (d : Nat) (r : ReadyRec) : Option Nat :=
  (s.recordNow d r.va r.asid r.loc).filter fun at_ => !((List.range 16).any fun i => s.marked (at_ + 8 * i))

/-- The launch whose ranges hold a record, by its address. -/
def State.launchOf (s : State) (va asid : Nat) : Nat :=
  ((List.find? (fun (p : Nat × Launch) => p.2.ranges.any fun r => r.2.1 == asid && decide (r.1 ≤ va) && decide (va < r.1 + 128 * r.2.2)) s.launches).map Prod.fst).getD 0

/-- R380: a placed record that the pilot cannot read or write is dropped: STATUS 5 where that can be written, its launch's census as of
a CANCELLED ending, and an EVENT with its address. -/
def State.dropRecord (s : State) (d : Nat) (r : ReadyRec) : State :=
  let s := match s.recordNow d r.va r.asid r.loc with
    | some at_ => s.recWrite at_ 58 1 5
    | none => s
  (((s.unqueue r.loc).tell [r.va, r.asid, 5]).event (leBytes 8 r.va ++ leBytes 8 r.asid)).lowerCensus (s.launchOf r.va r.asid) 4

/-- TASK_CANCEL_AT_HEAD (R380): the head of die `unit`'s ready queue ends CANCELLED if it is marked for cancellation; one that
the pilot cannot read or write is dropped. -/
def execTaskCancelAtHead (s : State) : Out :=
  .next (match s.queueOf s.inp.unit with
    | r :: _ =>
      if r.restore then s
      else match s.recordOpen s.inp.unit r with
        | some at_ =>
          if s.pilotWaits s.inp.unit ((List.range 128).map (at_ + ·)) then s
          else if r.cancel then s.cancelRecord r at_ else if s.recStatus at_ ≠ 0xFF then s.unqueue r.loc else s
        | none => s.dropRecord s.inp.unit r
    | [] => s)

/-! ## Binding (R26, R261, R383) -/

/-- R382: the tile holds no other tenant. -/
def State.tenantFits (s : State) (k asid : Nat) : Bool :=
  !s.away.contains (tileOf k) && match (s.tile (tileOf k)).tenant with
  | none => true
  | some a => a == asid

/-- R377: stream entries of 16 bits; only those whose bit 15 says present, when `opt`. -/
def State.entries (s : State) (loc off : Nat) (opt : Bool) : Tab Nat :=
  (List.range 4).filterMap fun x =>
    let e := s.recField loc (off + 2 * x) 2
    if opt && !flag e 15 then none else some (x, e % 32768)

/-- The deadline that means none (R412). -/
def noDeadline : Nat := 0xFFFFFFFFFFFFFFFF

/-- R377, R412: what binding latches from a record that stands at `loc` now. -/
def State.taskOf (s : State) (r : ReadyRec) (loc : Nat) : Task :=
  let n := s.recLaunch loc
  let l := s.launch n
  let dl := s.recField loc 32 8
  let b := s.recField loc 40 4
  let b := if b = 0 then l.budget else b
  let gv := s.recField loc 56 1
  { record := r.va, loc := r.loc, asid := s.recAsid loc, launch := n, role := BitVec.ofNat 2 (s.recField loc 49 1),
    trapEntry := s.entries loc 8 true, landEntry := s.entries loc 16 true, entry := s.entries loc 0 false,
    deadline := BitVec.ofNat 64 dl,
    landfall := BitVec.ofNat 64 (if dl = noDeadline then noDeadline else dl - b), ctx := s.recField loc 64 8 / 256 * 256,
    groups := (List.range 4).filterMap fun i => if flag gv i then some (s.recField loc (52 + i) 1) else none,
    onabort := s.recField loc 72 8, fsvc := l.fsvc }

/-- R412: the landfall point, or the deadline, has come. -/
def State.past (s : State) (deadline point : Word) : Bool := deadline.toNat != noDeadline && decide (point.toNat ≤ s.mtime.toNat)

/-- R372: the launch's format records go into the tile's registers. -/
def State.writeFormats (s : State) (t n : Nat) : State :=
  s.modTile t fun ti => { ti with fmt := (s.launch n).fmts.foldl (fun f p => Tab.set f p.1 p.2) ti.fmt }

/-- The locations of the area, the translation fault that keeps them from being reached, or that they lie in no place that the pilot can
use: the pilot's pool by its first location, else under the task's translations. -/
def State.areaLocs (s : State) (d asid ctx : Nat) (pool : Bool) (acc : Acc) : Except (Option (Nat × Nat)) (List Nat) :=
  if pool then .ok ((List.range 16384).map (ctx + ·))
  else match s.reach { die := some d, tile := none, unit := d, asid := asid } copyParts acc (spanOf ctx 16384) with
    | .ok locs => if locs.any fun p => isRemote p.1 then .error none else .ok (locs.map Prod.fst)
    | .fault va cause => .error (some (va, cause))
    | _ => .error none

/-- R413: a saved record of the die's ready queue whose landfall point has passed, and which slot `k` fits, goes ahead of every task of
positive slack. -/
def State.landfallAhead (s : State) (k : Nat) : Bool :=
  (s.queueOf (dieOf k)).any fun r => r.landfall && (match s.recordOpen (dieOf k) r, s.saved.find? fun v => v.slot.task.loc == r.loc with
    | some at_, some v => s.recAllows at_ k && s.tenantFits k v.slot.task.asid && !v.stale &&
        (s.areaLocs (dieOf k) v.slot.task.asid v.ctx v.pool .read).toOption.isSome
    | _, _ => false)

/-- BIND_FRESH (R383): the pilot binds the record at `a` of the die's ready queue to slot `unit`, with bind record CTX that of the record,
or the area `b` of its pool (R382). A task whose landfall point has passed is diverted before its first issue (R413). -/
def execBindFresh (s : State) : Out :=
  .next (
    let k := s.inp.unit
    let d := dieOf k
    match (s.queueOf d).find? fun r => r.loc == s.inp.a && !r.restore && !r.cancel with
    | none => s
    | some r => match s.recordOpen d r with
    | none => s
    | some at_ =>
      if (s.slot k).phase != .free || s.recStatus at_ != 0xFF || !s.recAllows at_ k || !s.tenantFits k (s.recAsid at_) then s
      else
        let task := s.taskOf r at_
        let late := s.past task.deadline task.landfall
        if (s.landfallAhead k && !late) || s.pilotWaits d ((List.range 128).map (at_ + ·)) then s
        else
        let ctx := if task.ctx = 0 then s.inp.b % 2 ^ 56 / 256 * 256 else task.ctx
        let sl : Slot := { phase := .running, task := task, debug := (s.slot k).debug, bound := s.cycle, lfpend := late,
                           diverting := late, streams := task.entry.map fun (e : Nat × Nat) => (e.1, { ctl := { pc := e.2 } }) }
        let s := ((s.unqueue r.loc).writeFormats (tileOf k) task.launch).modTile (tileOf k) fun t => { t with tenant := some task.asid }
        { s with binds := s.binds.set k { ctx := ctx, record := r.va, valid := true } }.setSlot k sl)

/-! ## Pre-emption (R383, R253) -/

/-- BIND_PREEMPT (R383, R416, R418): PREEMPT stops the streams of a running slot; the hard stop and landfall come first, once their points
have passed. -/
def execBindPreempt (s : State) : Out :=
  .next (
    let k := s.inp.unit
    let sl := s.slot k
    if sl.phase != .running then s
    else
      let s := { s with binds := s.binds.set k { s.bind k with preempt := true } }
      if sl.diverting || s.past sl.task.deadline sl.task.deadline || (!sl.lfrun && s.past sl.task.deadline sl.task.landfall) then s
      else s.setSlot k { sl with phase := .stopping })

/-- A stream at its boundary, as it is saved. -/
def Stream.atRest (st : Stream) : Stream := { st with wait := none, presented := false, qsince := none, next := 0, readySince := none }

/-- Words of the slot that have not completed: accesses and late traps; copies and tile work go on (R253). -/
def Slot.wordsOut (sl : Slot) : Bool :=
  !sl.late.isEmpty || !sl.pend.isEmpty || sl.ops.any fun o => match o.kind with
    | .load .. => true
    | .store .. => true
    | .qrd .. => true
    | _ => false

/-- R356: the addresses that the slot's streams wait on for service. -/
def Slot.askedFor (sl : Slot) : List Nat := sl.streams.filterMap fun (p : Nat × Stream) => match p.2.wait with
  | some (.fault ea _) => some ea
  | _ => none

/-- R200: the segment of a task's trap stays TRAPPED while the task is saved, and with it the step it trapped on. -/
def State.trapStep (s : State) (owner : Nat) (e : Nat × Step) : Bool :=
  (s.trapsOf owner).any fun h => h.1 == e.1 && ((s.seg h.1 h.2).trapped.any fun t => t.seq == e.2.seq)

/-- The step is the one a segment of its tile has trapped on for the task, or comes after it. -/
def State.heldByTrap (s : State) (owner : Nat) (e : Nat × Step) : Bool :=
  (s.trapsOf owner).any fun h => h.1 == e.1 && ((s.seg h.1 h.2).trapped.any fun t => !seqBefore e.2.seq t.seq)

/-- SLOT_STOPPED (R383, R372): the issued words of a stopping slot are done, and its steps have run to their end, or under ABORT are
cancelled. DEDUCED (notes/assumptions/72.md): the step of a collar trap stays, and FINISH does not await those behind it. -/
def execSlotStopped (s : State) : Out :=
  .next (
    let k := s.inp.unit
    let sl := s.slot k
    if sl.phase != .stopping then s
    else if sl.ops.any fun o => o.fault.isSome then s.setSlot k { sl.squashWaiting with asked := sl.asked ++ sl.ops.filterMap Op.fault }
    else if sl.wordsOut then s
    else
      let abort := (s.launch sl.task.launch).abortSteps
      let open_ := (s.stepsOf sl.task.loc).filter fun e => !(if abort then s.trapStep sl.task.loc e else s.heldByTrap sl.task.loc e)
      if abort && !open_.isEmpty then open_.foldl (fun s e => s.cancelStep e.1 e.2.id) s
      else if !open_.isEmpty then s
      else s.setSlot k { sl with phase := .saving, asked := sl.asked ++ sl.askedFor,
                                 streams := sl.streams.map fun (p : Nat × Stream) => (p.1, p.2.atRest) })

/-! ## The context area (R387) -/

/-- R387, R253: the 16 bytes of a response place in the area: the value, and then the address with the status in bits 58:56, bit 62
of a held entry and bit 63 of a reservation. -/
def Resp.areaBytes (r : Resp) : List Byte :=
  match r.val with
  | some (st, v, a) => leBytes 8 v.toNat ++ leBytes 8 (a % 2 ^ 56 + st % 8 * 2 ^ 56 + 2 ^ 62)
  | none => leBytes 8 0 ++ leBytes 8 (2 ^ 63)

/-- The response place that its 16 bytes, as two words, give back. -/
def Resp.ofArea (r : Resp) (v w : Nat) : Resp :=
  { r with val := if flag w 62 then some (fld w 56 3, BitVec.ofNat 64 v, fld w 0 56) else none }

/-- Fields side by side, the first in the low bits: width and value. -/
def packBits : List (Nat × Nat) → Nat
  | [] => 0
  | (w, v) :: l => v % 2 ^ w + 2 ^ w * packBits l

/-- The fields of a list of widths. -/
def unpackBits : List Nat → Nat → List Nat
  | [], _ => []
  | w :: l, n => n % 2 ^ w :: unpackBits l (n / 2 ^ w)

/-! DESIGN CHOICE (notes/assumptions/74.md): R387 gives the places of the parts of an area and not how the control state, the collar
record, the cairns and the copy status are laid out inside theirs; the packing below is the model's. -/

/-- A loop counter in its stream's record: active, how deep among the active loops, count, start, and call depth. -/
def Ctl.loopBits (c : Ctl) (lc : Nat) : List (Nat × Nat) :=
  match c.loops.zipIdx.find? fun p => p.1.lc == lc with
  | some (l, i) => [(1, 1), (2, i), (32, l.count), (15, l.start), (3, l.depth)]
  | none => [(1, 0), (2, 0), (32, c.counts.get 0 lc), (15, 0), (3, 0)]

/-- What a loop holds beside that: its last place and the guard of a LOOPX. -/
def Loop.restBits (l : Loop) : List (Nat × Nat) := [(15, l.last), (1, l.x.toNat), (3, l.g.toNat), (1, l.n.toNat)]

def Ctl.restBits (c : Ctl) (lc : Nat) : Nat := ((c.loops.find? fun l => l.lc == lc).map fun l => packBits l.restBits).getD 0

/-- A stream in 39 bytes: PC, ended, rendezvous count, depth and return stack, and its four loop counters. -/
def Stream.areaBits (st : Stream) : List (Nat × Nat) :=
  [(15, st.ctl.pc), (1, st.ended.toNat), (21, st.rvCount), (3, st.ctl.depth)] ++
    (List.range 4).map (fun i => (15, st.ctl.rs.get 0 i)) ++ (List.range 4).flatMap st.ctl.loopBits

/-- A loop that a trap handler holds for its return, in 9 bytes. -/
def Loop.heldBits (l : Loop) : List (Nat × Nat) := [(2, l.lc), (32, l.count), (15, l.start), (3, l.depth)] ++ l.restBits

/-- The loops from the widths of `Ctl.loopBits` and `Loop.restBits`; the active ones innermost first. -/
def loopsOf (rec_ : List (List Nat)) (rest : List (List Nat)) : List Loop :=
  (List.range 4).filterMap fun ord => ((List.range 4).find? fun lc =>
    let r := rec_.getD lc []
    r.getD 0 0 == 1 && r.getD 1 0 == ord).map fun lc =>
      let r := rec_.getD lc []
      let q := rest.getD lc []
      { lc := lc, count := r.getD 2 0, start := r.getD 3 0, depth := r.getD 4 0, last := q.getD 0 0, x := q.getD 1 0 == 1,
        g := BitVec.ofNat 3 (q.getD 2 0), n := q.getD 3 0 == 1 }

def loopWidths : List Nat := [1, 2, 32, 15, 3]
def restWidths : List Nat := [15, 1, 3, 1]

/-- R387, R388: a stream from its 39 bytes `n` and the rest of its loops; `st` keeps what no area holds. -/
def Stream.ofArea (st : Stream) (n : Nat) (rest : List Nat) : Stream :=
  let v := unpackBits ([15, 1, 21, 3] ++ List.replicate 4 15) n
  let recs := (List.range 4).map fun i => unpackBits loopWidths (n / 2 ^ (100 + 53 * i))
  let loops := loopsOf recs (rest.map (unpackBits restWidths))
  { ctl := { pc := v.getD 0 0, depth := v.getD 3 0, rs := (List.range 4).map fun i => (i, v.getD (4 + i) 0),
             counts := (List.range 4).filterMap fun i => if (recs.getD i []).getD 0 0 = 1 then none else some (i, (recs.getD i []).getD 2 0),
             loops := loops },
    ended := v.getD 1 0 == 1, rvCount := st.rvCount / 2 ^ 21 * 2 ^ 21 + v.getD 2 0, arrived := st.arrived, after := st.after }

/-- A loop of a trap's return from its 9 bytes. -/
def Loop.ofHeld (n : Nat) : Loop :=
  let v := unpackBits ([2, 32, 15, 3] ++ restWidths) n
  { lc := v.getD 0 0, count := v.getD 1 0, start := v.getD 2 0, depth := v.getD 3 0, last := v.getD 4 0, x := v.getD 5 0 == 1,
    g := BitVec.ofNat 3 (v.getD 6 0), n := v.getD 7 0 == 1 }

/-- A cairn in 16 bytes: base, present and LOST, length and granules saved. -/
def Cairn.areaBytes (c : Option Cairn) : List Byte :=
  match c with
  | some c => leBytes 7 c.base ++ leBytes 1 (1 + 2 * c.lost.toNat) ++ leBytes 4 (c.len / 256) ++ leBytes 4 c.saved.length
  | none => List.replicate 16 0

/-- R387: the bytes of the area; every byte that it gives no contents is zero. -/
def Slot.areaBytes (sl : Slot) (slotst : Word) : List Byte :=
  let streams := (List.range 4).map sl.stream
  let traps := sl.collarTraps.take 256
  let held := fun q => (sl.queue q).filterMap QPlace.val
  (List.range 32).flatMap (fun i => leBytes 8 (readScalar sl.regs (BitVec.ofNat 5 i)).toNat) ++
  (List.range 8).flatMap (fun i => leBytes 16 (readPred sl.preds (BitVec.ofNat 3 i)).toNat) ++
  (List.range 16).flatMap (fun q => leBytes 4 (held q).length) ++
  streams.flatMap (fun st => leBytes 39 (packBits st.areaBits)) ++ (List.range 4).flatMap (fun c => leBytes 1 (sl.counter c)) ++
  leBytes 8 sl.fpcsr.toNat ++ leBytes 8 slotst.toNat ++ leBytes 8 sl.trap.causeWord.toNat ++ leBytes 8 sl.trap.pcWord.toNat ++
  leBytes 8 sl.trap.aux.toNat ++
  leBytes 2 traps.length ++ traps.flatMap (leBytes 1) ++ List.replicate (256 - traps.length) 0 ++
  leBytes 1 sl.trap.depth ++ leBytes 1 sl.trap.held.length ++
  (List.range 4).flatMap (fun i => leBytes 9 ((sl.trap.held[i]?.map fun l => packBits l.heldBits).getD 0)) ++
  streams.flatMap (fun st => (List.range 4).flatMap fun i => leBytes 3 (st.ctl.restBits i)) ++ List.replicate 0x80 0 ++
  (List.range 64).flatMap (fun i => leBytes 4 (sl.chans.get 0 i).toNat) ++
  ((List.range 16).flatMap fun i => (sl.resp[i]?.map Resp.areaBytes).getD (List.replicate 16 0)) ++
  (List.range 4).flatMap (fun i => Cairn.areaBytes (sl.cairns.find? i)) ++
  (match sl.copyStatus with
    | some (c, off) => leBytes 1 1 ++ leBytes 7 c ++ leBytes 24 off
    | none => List.replicate 32 0) ++ List.replicate 0x940 0 ++
  (List.range 16).flatMap (fun q => (List.range 4).flatMap fun i => leBytes 128 ((held q).getD i 0).toNat) ++
  List.replicate 0x1000 0

/-- R353, R441: a translation fault on the area of a task is recorded once, and its task waits on the page: `asked` are the faults it
already waits on. -/
def State.areaFault (s : State) (k : Nat) (task : Task) (asked : List Nat) (acc : Nat) (why : Option (Nat × Nat)) : State × List Nat :=
  match why with
  | some (va, cause) =>
    if asked.any (samePage va) then (s, asked)
    else (s.faultRecord { va := va, launch := task.launch, asid := task.asid, cause := cause, access := acc, agent := 0, who := k }, asked ++ [va])
  | none => (s, asked)

/-- The saved task of a record. -/
def State.modSaved (s : State) (loc : Nat) (f : Saved → Saved) : State :=
  { s with saved := updateWhere (fun u : Saved => u.slot.task.loc == loc) f s.saved }

/-- The fault of a saved task's area. -/
def State.savedFault (s : State) (v : Saved) (acc : Nat) (why : Option (Nat × Nat)) : State :=
  let r := s.areaFault v.k v.slot.task v.slot.asked acc why
  r.1.modSaved v.slot.task.loc fun u => { u with slot := { u.slot with asked := r.2 } }

/-- R253, R387: what completed after the save is written into the area, where the area can be reached. -/
def State.flushArea (s : State) (v : Saved) : State :=
  if !v.stale then s
  else match s.areaLocs (dieOf v.k) v.slot.task.asid v.ctx v.pool .write with
    | .error why => s.savedFault v 1 why
    | .ok locs =>
      { s.writeLocs (locs.zip (v.slot.areaBytes v.slot.slotst)) with
        saved := updateWhere (fun u : Saved => u.slot.task.loc == v.slot.task.loc) (fun u => { u with stale := false }) s.saved }

def State.flushAreas (s : State) : State := if s.saved.any Saved.stale then s.saved.foldl State.flushArea s else s

/-- R48: 16 KiB at `a` can be an area of the pilot's pool: in HBM, aligned, and clear of the areas in use. -/
def State.poolFree (s : State) (a : Nat) : Bool :=
  a % 256 == 0 && inHbm a && inHbm (a + 16383) && decide (a / 0x2000000000 = (a + 16383) / 0x2000000000) &&
    !(s.saved.any fun v => v.pool && decide (v.ctx < a + 16384) && decide (a < v.ctx + 16384))

/-- The fields of the channel table that a park sets. -/
def State.setPark (s : State) (c : Nat) (reader on : Bool) : State :=
  let ch := s.chan c
  { s with chans := s.chans.set c (if reader then { ch with rpark := on } else { ch with wpark := on }) }

/-- SLOT_SAVE_DONE (R383, R404): the context area that the bind record names is written, the record takes STATUS 0xFE and CTX, and goes
back to its ready queue unless its task has parked. `a` is an area of the pilot's pool, for a bind record without CTX. -/
def execSlotSaveDone (s : State) : Out :=
  .next (
    let k := s.inp.unit
    let sl := s.slot k
    if sl.phase != .saving then s
    else
      let pool := sl.task.ctx == 0
      let ctx := if (s.bind k).ctx = 0 then s.inp.a else (s.bind k).ctx
      if (pool && !s.poolFree ctx) || s.endWaits k sl then s
      else match s.areaLocs (dieOf k) sl.task.asid ctx pool .write with
      | .error why =>
        let r := s.areaFault k sl.task sl.asked 1 why
        r.1.modSlot k fun sl => { sl with asked := r.2 }
      | .ok locs =>
        let s := s.writeLocs (locs.zip (sl.areaBytes sl.slotst))
        let s := match s.taskRecord k sl.task with
          | some at_ => (s.recWrite at_ 64 8 ctx).recWrite at_ 58 1 0xFE
          | none => s
        let v : Saved := { k := k, ctx := ctx, slot := { sl with phase := .free, parking := none }, pool := pool, parked := sl.parking }
        let s := { s with saved := s.saved ++ [v] }
        let s := match sl.parking with
          | some (c, rd) => s.setPark c rd true
          | none => s.placeSaved sl.task.loc sl.task.record sl.task.asid false
        s.freeSlot k)

/-- R231, R32: the trap fields of an area. -/
def TrapSt.ofWords (t : TrapSt) (cause pc aux : Nat) : TrapSt :=
  { t with cause := BitVec.ofNat 8 cause, inHandler := flag cause 31, late := flag cause 30, cpend := flag cause 29, xsave := flag cause 28,
           stream := BitVec.ofNat 2 (fld pc 16 2), pc := pc % 32768, aux := BitVec.ofNat 64 aux }

/-- R38, R7: a handle without its reserved bits. -/
def handleBits (n : Nat) : BitVec 32 := BitVec.ofNat 32 (n / 2 ^ 30 * 2 ^ 30 + n % 2 ^ 15)

/-- R387, R388: the saved slot with what its area holds; reserved bits read as zero (R7). -/
def Slot.restored (sl : Slot) (rd : Nat → Nat → Nat) : Slot :=
  let st := rd 0x268 8
  let cairn := fun i => rd (0x660 + 16 * i) 16
  { sl with
    phase := .running,
    regs := (List.range 32).foldl (fun t i => writeScalar t (BitVec.ofNat 5 i) (BitVec.ofNat 64 (rd (8 * i) 8))) [],
    preds := (List.range 8).foldl (fun t i => writePred t (BitVec.ofNat 3 i) (BitVec.ofNat 128 (rd (0x100 + 16 * i) 16))) [],
    queues := (List.range 16).foldl (fun t q => Tab.set t q ((List.range (rd (0x180 + 4 * q) 4 % 8)).map fun i =>
      ({ op := 0, val := some (BitVec.ofNat 1024 (rd (0x1000 + 512 * q + 128 * i) 128)), due := 0 } : QPlace))) [],
    fpcsr := BitVec.ofNat 64 (rd 0x260 8 % 2 ^ 15 / 2 ^ 10 * 2 ^ 10 + rd 0x260 8 % 2 ^ 7),
    resp := sl.resp.zipIdx.map fun r => r.1.ofArea (rd (0x560 + 16 * r.2) 8) (rd (0x568 + 16 * r.2) 8),
    trap := { sl.trap.ofWords (rd 0x270 8) (rd 0x278 8) (rd 0x280 8) with
      depth := rd 0x38A 1, held := (List.range (min 4 (rd 0x38B 1))).map fun i => Loop.ofHeld (rd (0x38C + 9 * i) 9) },
    collarTraps := (List.range (min 256 (rd 0x288 2))).map fun i => rd (0x28A + i) 1,
    streams := (List.range 4).map fun x => (x, (sl.stream x).ofArea (rd (0x1C0 + 39 * x) 39) ((List.range 4).map fun i => rd (0x3B0 + 12 * x + 3 * i) 3)),
    cairns := (List.range 4).filterMap fun i => if flag (cairn i) 56
      then some (i, { sl.cairns.get { base := 0, len := 0 } i with
        base := fld (cairn i) 0 56, lost := flag (cairn i) 57, len := fld (cairn i) 64 32 * 256 }) else none,
    copyStatus := if rd 0x6A0 1 = 1 then some (rd 0x6A1 7, rd 0x6A8 24) else none,
    chans := (List.range 64).foldl (fun t i => Tab.set t i (handleBits (rd (0x460 + 4 * i) 4))) [],
    task := { sl.task with role := BitVec.ofNat 2 (fld st 6 2) },
    lfpend := flag st 5, lfrun := flag st 4, resumed := true, exposed := false, reenter := flag st 0, cycle := 0 }

/-- R401: every channel end that names the slot a task left names the one it is bound to; a REMOTE end names none. -/
def State.moveEnds (s : State) (old new : Nat) : State :=
  if old = new then s
  else
    let f := fun e : BitVec 32 =>
      if flag e.toNat 31 && !flag e.toNat 30 && fld e.toNat 0 9 == old then BitVec.ofNat 32 (e.toNat - old + new) else e
    { s with chans := s.chans.map fun (p : Nat × Chan) => (p.1, { p.2 with wend := f p.2.wend, rend := f p.2.rend }) }

/-- BIND_RESTORE (R388, R383): the saved task of the record at `a` is bound to slot `unit` from its area; an exposed one drains
before its first word (R258), one placed for landfall is diverted before it (R413). An area with an uncorrectable error ends
the task FAULTED (R428), and a record that the pilot can no longer read or write is dropped (R380). -/
def execBindRestore (s : State) : Out :=
  .next (
    let k := s.inp.unit
    let d := dieOf k
    match (s.queueOf d).find? fun r => r.loc == s.inp.a && r.restore, s.saved.find? fun v => v.slot.task.loc == s.inp.a with
    | some r, some v =>
      let task := v.slot.task
      if (s.slot k).phase != .free || v.stale then s
      else match s.recordOpen d r with
      | none => (s.endSaved v).event (leBytes 8 r.va ++ leBytes 8 r.asid)
      | some at_ =>
      if !s.recAllows at_ k || !s.tenantFits k task.asid || (s.landfallAhead k && !r.landfall && !s.past task.deadline task.landfall) ||
        s.pilotWaits d ((List.range 128).map (at_ + ·)) then s
      else match s.areaLocs d task.asid v.ctx v.pool .read with
      | .error why => s.savedFault v 0 why
      | .ok locs =>
        let s := { s.unqueue r.loc with saved := s.saved.filter fun u => u.slot.task.loc != r.loc }
        if locs.any s.marked then s.finishTask v.k v.slot (.lost 8)
        else
          let rd := fun off n => leNat (((locs.drop off).take n).map (Memory.read s.mem))
          let late := r.landfall || s.past task.deadline task.landfall
          let sl := v.slot.restored rd
          let sl := { sl with debug := (s.slot k).debug, bound := s.cycle, lfpend := sl.lfpend || (late && !sl.lfrun),
                              diverting := (late || sl.lfpend) && !sl.lfrun }
          let s := (s.moveEnds v.k k).modTile (tileOf k) fun t => { t with tenant := some task.asid }
          { s with binds := s.binds.set k { ctx := v.ctx, record := r.va, restore := true, valid := true } }.setSlot k sl
    | _, _ => s)

/-! ## Tenants (R391) -/

/-- The location lies in a tile's window. -/
def inTile (t loc : Nat) : Bool := decide (tileBase t ≤ loc) && decide (loc < tileBase t + 0x1000000)

/-- The tile with every memory zero and every state reset, ASHARE and AGELIM rewritten (R391, R23, R180, R206). -/
def State.scrubTile (s : State) (t : Nat) (tenant : Option Nat) (ashare age : Word) : State :=
  { s with mem := s.mem.filter fun c => !inTile t c.1, marks := s.marks.filter fun a => !inTile t a,
           tiles := s.tiles.set t { tenant := tenant, ashare := ashare, window := s.cycle },
           agelim := (s.agelim.set (2 * t) age.toNat).set (2 * t + 1) age.toNat }

/-- Every slot of the tile is FREE, and no step or command of it is under way. -/
def State.tileFree (s : State) (t : Nat) : Bool :=
  ((List.range 8).all fun i => (s.slot (8 * t + i)).phase == .free) && (s.tile t).steps.isEmpty && (s.tile t).scaccs.isEmpty &&
    !(s.jobs.any fun p => p.2.engine == t && p.2.mac.isSome)

/-- R36, R8: a value of ASHARE, its reserved bits zero; none for a reserved SHARE or WLOG. -/
def ashareOf (n : Nat) : Option Word := if fld n 0 2 = 3 ∨ 6 < fld n 2 4 then none else some (BitVec.ofNat 64 (n % 64))

/-- R248, R8: a value of AGELIM, its reserved bits zero. -/
def agelimOf (n : Nat) : Nat := n % 65536

/-- TENANT_SCRUB (R391): the pilot zeroes and resets tile `unit` for another tenant `a`, with ASHARE `b` and AGELIM `c`. -/
def execTenantScrub (s : State) : Out :=
  .next (match s.tileFree s.inp.unit && (s.tile s.inp.unit).tenant != some s.inp.a, ashareOf s.inp.b with
    | true, some w => s.scrubTile s.inp.unit (some s.inp.a) w (BitVec.ofNat 64 (agelimOf s.inp.c))
    | _, _ => s)

/-! ## Landfall (R395, R413-R415) -/

/-- R395, R414: a stream at its landfall entry, or ended; its return stack is empty and its loop counters are idle with count
zero (R93). -/
def Stream.divert (st : Stream) (entry : Option Nat) : Stream :=
  match entry with
  | some e => { ctl := { pc := e }, after := st.after }
  | none => { ctl := { pc := st.ctl.pc }, ended := true, after := st.after }

/-- R395: the diversion itself. -/
def Slot.divert (sl : Slot) : Slot :=
  let trap := { sl.trap with cause := 0, inHandler := false, late := false, cpend := false, xsave := false, held := [] }
  let streams := [0, 1, 2, 3].map fun x => (x, (sl.stream x).divert (sl.task.landEntry.find? x))
  let sl := { sl with trap := trap, streams := streams, collarTraps := [], lfpend := false, lfrun := true, diverting := false, broke := false }
  if sl.task.landEntry.isEmpty then { sl with validity := some 0 }.beginEnding (.landed 0) else sl

/-- A bound task whose landfall point has come, and whose deadline has not (R418): its streams stop, the words it has issued complete, its
collar traps are resolved, its steps finish or are cancelled, and then its landfall entries start. -/
def State.landfallSlot (s : State) (k : Nat) : State :=
  let sl := s.slot k
  if sl.phase != .running || sl.lfrun || !s.past sl.task.deadline sl.task.landfall || s.past sl.task.deadline sl.task.deadline then s
  else if !sl.diverting then s.setSlot k { sl with lfpend := true, diverting := true, parking := none }
  else if !sl.late.isEmpty || sl.ops.any (fun o => o.fault.isSome) then s
  else if !(s.trapsOf sl.task.loc).isEmpty then s.discTraps sl.task.loc
  else if !(s.stepsOf sl.task.loc).isEmpty then
    (if (s.launch sl.task.launch).abortSteps then s.cancelSteps sl.task.loc else s)
  else
    let sl := sl.divert
    s.setSlot k (if (s.bind k).preempt && sl.phase == .running then { sl with phase := .stopping } else sl)

/-- A saved or parked task whose landfall point has come is placed at the head of its ready queue (R413). -/
def State.landfallSaved (s : State) (loc : Nat) : State :=
  match s.saved.find? fun v => v.slot.task.loc == loc with
  | none => s
  | some v =>
    if v.slot.lfrun || !s.past v.slot.task.deadline v.slot.task.landfall then s
    else
      let s := match v.parked with
        | some (c, rd) => s.setPark c rd false
        | none => s
      { s with saved := updateWhere (fun u : Saved => u.slot.task.loc == loc) (fun u => { u with parked := none }) s.saved }.placeSaved
        loc v.slot.task.record v.slot.task.asid true

/-- LANDFALL (R413): of slot `unit`, or with `x` = 1 of the saved task whose record is at `a`. -/
def execLandfall (s : State) : Out :=
  .next (if s.inp.x = 0 then s.landfallSlot s.inp.unit else s.landfallSaved s.inp.a)

/-! ## The hard stop (R416) -/

/-- The deadline of a bound task, whatever ending it has begun but LFDONE's: its steps and unstarted commands are cancelled, and it ends CANCELLED, or LANDED after LFDONE. -/
def State.hardStopSlot (s : State) (k : Nat) : State :=
  let sl := s.slot k
  if sl.phase == .free || !s.past sl.task.deadline sl.task.deadline then s
  else
    let s := match sl.ending with
      | some (.landed _) => s
      | _ => s.setSlot k { (sl.squashWaiting.beginEnding .cancelled) with late := [], diverting := false, parking := none }
    ((s.discTraps sl.task.loc).cancelSteps sl.task.loc).killJobs (ofTask sl.task.loc)

def State.hardStopSaved (s : State) (loc : Nat) : State :=
  match s.saved.find? fun v => v.slot.task.loc == loc with
  | none => s
  | some v =>
    if s.past v.slot.task.deadline v.slot.task.deadline then ((s.endSaved v).cancelSteps loc).killJobs (ofTask loc) else s

/-- R390: record `i` of range `r` of a launch, by the location its address has now. -/
def State.rangeRecord (s : State) (n r i : Nat) : Option ReadyRec :=
  match (s.launch n).ranges[r]? with
  | some (va, asid, cnt) =>
    if i < cnt then match s.place { die := none, tile := none, unit := 0, asid := asid } copyParts .both false ((va + 128 * i) % 2 ^ 56) with
      | .at l _ => some { loc := l, va := (va + 128 * i) % 2 ^ 56, asid := asid }
      | _ => none
    else none
  | none => none

/-- R416: a record of the launch that has not been bound, at its deadline. -/
def State.hardStopRecord (s : State) (n r i : Nat) : State :=
  match s.rangeRecord n r i with
  | none => s
  | some rc =>
    if s.pilotWaits (s.recDie rc.loc) ((List.range 128).map (rc.loc + ·)) then s
    else
    let dl := BitVec.ofNat 64 (s.recField rc.loc 32 8)
    if s.recStatus rc.loc == 0xFF && s.recLaunch rc.loc == n && (s.boundAt rc.loc).isNone && s.past dl dl then s.cancelRecord rc rc.loc else s

/-- DEADLINE_HARD_STOP (R416): of slot `unit`; with `x` = 1 of the saved task whose record is at `a`; with `x` = 2 of record `b` of
range `a` of launch `id`. -/
def execDeadlineHardStop (s : State) : Out :=
  .next (match s.inp.x with
    | 0 => s.hardStopSlot s.inp.unit
    | 1 => s.hardStopSaved s.inp.a
    | _ => s.hardStopRecord s.inp.id s.inp.a s.inp.b)

end Sys2Proof.Machine
end

