-- ==== Sys2Proof/Machine/Channels.lean ====
section
/-! DEFINITION. Sys2Proof/Machine/Channels.lean: channels, their rings and sumps, parking and waking, and the deadlock detector
(R38, R165-R167, R398-R408). A channel's key is 4096 * die + index. -/

namespace Sys2Proof.Machine

def State.setChan (s : State) (c : Nat) (v : Chan) : State := { s with chans := s.chans.set c v }

/-- R38: the channel that a handle names. -/
def handleKey (hv : Nat) : Nat := fld hv 12 3 * 4096 + fld hv 0 12

/-- R399: the end belongs to the slot, and lies in this package. -/
def endIs (e : BitVec 32) (k : Nat) : Bool := flag e.toNat 31 && !flag e.toNat 30 && fld e.toNat 0 9 == k

/-- R38, R401: the handle names an open channel of the slot's address space whose end, the reader's or not, the slot holds. -/
def State.handleOk (s : State) (k hv : Nat) : Bool :=
  let ch := s.chan (handleKey hv)
  flag hv 31 && ch.isOpen && ch.asid == (s.slot k).task.asid && endIs (if flag hv 30 then ch.rend else ch.wend) k

/-- R399: bytes of an element, and the elements of a segment. -/
def Chan.esize (c : Chan) : Nat := if c.big then 128 else 8
def Chan.perSeg (c : Chan) : Nat := 65536 / c.esize

/-! ## Where elements lie (R398, R402) -/

/-- The location of a ring place. -/
def Chan.ringAt (ch : Chan) (c place : Nat) : Nat := dieBase (c / 4096) + 0x20000000 + ch.ringOff * 64 + place % ch.rplaces * ch.esize

/-- The last used segment has a place left. -/
def Chan.tailOpen (c : Chan) : Bool := !c.used.isEmpty && decide (c.tailPos < c.perSeg)

/-- The next free segment. -/
def Chan.freeSeg (c : Chan) : Option Nat := c.segs.find? fun a => !c.used.contains a

/-- The sump has a free element place. -/
def Chan.sumpOpen (c : Chan) : Bool := c.tailOpen || c.freeSeg.isSome

/-- The address of the sump's tail: a segment is filled whole before the next is used. -/
def Chan.tailAddr (c : Chan) : Nat :=
  if c.tailOpen then c.used.getLastD 0 + c.tailPos * c.esize else c.freeSeg.getD 0

/-- The address of the sump's oldest element. -/
def Chan.headAddr (c : Chan) : Nat := c.used.headD 0 + c.headPos * c.esize

/-- Where a sump element lies under the channel's address space; sump traffic stays in the package (R409). -/
def State.sumpPlace (s : State) (c va : Nat) (acc : Acc) : Place :=
  match s.translate (c / 4096) (s.chan c).asid va acc true with
  | .at l n => if isRemote l then .fault fUnbacked else .at l n
  | p => p

/-- The sump's tail with one more element. -/
def Chan.grown (c : Chan) : Chan :=
  if c.tailOpen then { c with tailPos := c.tailPos + 1, scnt := c.scnt + 1 }
  else { c with used := c.used ++ c.freeSeg.toList, tailPos := 1, scnt := c.scnt + 1 }

/-- The sump without its oldest element: a segment whose last element has gone is free again. -/
def Chan.shrunk (c : Chan) : Chan :=
  let c := { c with scnt := c.scnt - 1, headPos := c.headPos + 1 }
  if c.scnt = 0 then { c with used := [], headPos := 0, tailPos := 0 }
  else if c.perSeg ≤ c.headPos then { c with used := c.used.drop 1, headPos := 0 } else c

/-! ## Pushing and popping (R166, R402, R407) -/

/-- R402: the push would be accepted. -/
def Chan.canPush (c : Chan) : Bool := !c.frozen && ((c.scnt == 0 && decide (c.rcnt < c.rplaces)) || c.sumpOpen)

/-- R402: a push, or nothing where the sump's place does not translate (R408). -/
def State.pushElem (s : State) (c : Nat) (e : List Byte) : Option State :=
  let ch := s.chan c
  let got := { ch with pushed := (ch.pushed + 1) % 2 ^ 64, declined := false }
  if ch.scnt = 0 ∧ ch.rcnt < ch.rplaces then
    some ((s.rawRun (ch.ringAt c ch.pushed) e).setChan c { got with rcnt := ch.rcnt + 1 })
  else
    let s := s.touch (c / 4096) ch.asid ch.tailAddr
    match s.sumpPlace c ch.tailAddr .write with
    | .at l _ => some ((s.rawRun l e).setChan c got.grown)
    | _ => none

/-- R399, R409: the node of a writer's end in another package. -/
def Chan.writerNode (c : Chan) : Option Nat := if flag c.wend.toNat 30 then some (fld c.wend.toNat 9 16) else none

/-- R409: a place given back to a writer in another package goes to it as a credit, one packet of the torus unit, under the key of the
node-map entry that names its node. -/
def State.creditBack (s : State) (c : Nat) : State :=
  match (s.chan c).writerNode with
  | none => s
  | some node =>
    let key := ((List.find? (fun (e : Nat × NodeEnt) => e.2.valid && e.2.node == node) s.nodemap).map fun e => e.2.key).getD 0
    s.handFar node { seq := 0, job := 0, flight := 0, addr := c, rmw := none, data := [], size := 0, key := key, credit := some c }

/-- R407: a push that finds ring and sump full asks the pilot to grow the sump. -/
def State.askSump (s : State) (c : Nat) : State :=
  let ch := s.chan c
  if !ch.frozen && !ch.declined && !ch.canPush && decide (ch.segs.length < ch.maxseg) then
    (s.setChan c { ch with frozen := true, sumpFull := true }).tell [c, ch.asid]
  else s

/-- R166: the word cannot proceed: its stall begins, or goes on. -/
def State.stall (s : State) (k x : Nat) : State :=
  s.modSlot k fun sl => sl.modStream x fun st => match st.wait with
    | some (.channel (some _)) => st
    | _ => { st with wait := some (.channel (some s.cycle)) }

/-- CHPUSH (R166): after its release, one element. -/
def chpushWord (k x : Nat) (s : State) (u : Uses) (hv : Nat) (big : Bool) (e : List Byte) : WRes :=
  let c := handleKey hv
  if flag hv 30 || !s.handleOk k hv || (s.chan c).big != big then .trap 17 (BitVec.ofNat 64 hv)
  else if !s.fenceClear k 1 5 then .wait (s.waitAt k x (.channel none))
  else if (s.chan c).canPush then match s.pushElem c e with
    | some t =>
      .done ((t.fencePassed k 1 5).modSlot k fun sl => sl.popAll u.q)
    | none => .wait (s.stall k x)
  else .wait ((s.askSump c).stall k x)

/-- CHPOP and CHPOP.PK (R166, R402): the oldest element of the ring; one refilled from marked bytes is a data fault that
consumes it (R403, R164). -/
def chpopWord (k x : Nat) (s : State) (hv : Nat) (big keep : Bool) (d : BitVec 5) : WRes :=
  let c := handleKey hv
  let ch := s.chan c
  if !flag hv 30 || !s.handleOk k hv || ch.big != big then .trap 17 (BitVec.ofNat 64 hv)
  else if ch.rcnt = 0 then .wait (s.stall k x)
  else
    let a := ch.ringAt c ch.popped
    let gone := (s.setChan c { ch with rcnt := ch.rcnt - 1, popped := (ch.popped + 1) % 2 ^ 64 }).creditBack c
    let v := Memory.readLe s.mem a ch.esize
    if (List.range (ch.esize / 8)).any fun i => s.marked (a + 8 * i) then .trapIn gone 8 (BitVec.ofNat 64 hv)
    else
      let t := if keep then s else gone
      if big then
        let sl := t.slot k
        let q := d.toNat
        let pl : QPlace := { op := s.nextId, val := none, due := s.queueDue k 8 }
        let t := { t with nextId := s.nextId + 1 }.setSlot k (sl.setQueue q (sl.queue q ++ [pl]))
        .done (t.commit k x 8 [.entry q s.nextId (BitVec.ofNat 1024 v) 0])
      else .done (t.commit k x 1 [.scalar d (BitVec.ofNat 64 v)])

/-- R167: the channel status word. -/
def Chan.status (c : Chan) (reader : Bool) : Word :=
  let cnt := if reader then c.rcnt + c.scnt else c.rplaces - c.rcnt
  BitVec.ofNat 64 (c.frozen.toNat * 2 ^ 63 + (decide (0 < c.scnt)).toNat * 2 ^ 62 + (if reader then c.wpark else c.rpark).toNat * 2 ^ 61 +
    cnt % 2 ^ 32)

/-- CHQRY (R167). -/
def chqryWord (k x : Nat) (s : State) (hv : Nat) (d : BitVec 5) : WRes :=
  if !s.handleOk k hv then .trap 17 (BitVec.ofNat 64 hv)
  else .done (s.commit k x 1 [.scalar d ((s.chan (handleKey hv)).status (flag hv 30))])

/-- The handle in a channel register of the slot. -/
def State.handle (s : State) (k : Nat) (t : BitVec 6) : Nat := ((s.slot k).chans.get 0 t.toNat).toNat

/-- The element a CHPUSH gives: a scalar, or the head of a queue register. -/
def Slot.pushed (sl : Slot) (v : View) (k : BitVec 5) (big : Bool) : List Byte :=
  if big then leBytes 128 ((((sl.queue k.toNat)[0]?).bind QPlace.val).getD 0).toNat else leBytes 8 (v.reg k).toNat

/-- CHPUSH (R166): Appends an element to a channel. -/
def execChpush (h : Hdr) (t : BitVec 6) (k : BitVec 5) (y q : Bool) (s : State) : Out :=
  .next (s.issueCore (.chpush h t k y q) h 1 fun kk xx s v => chpushWord kk xx s (usesOf (.chpush h t k y q)) (s.handle kk t) q ((s.slot kk).pushed v k q))

/-- CHPOP (R166): Removes the oldest element of a channel. -/
def execChpop (h : Hdr) (t : BitVec 6) (k : BitVec 5) (q : Bool) (s : State) : Out :=
  .next (s.issueCore (.chpop h t k q) h 1 fun kk xx s _ => chpopWord kk xx s (s.handle kk t) q false k)

/-- CHPOP_PK (R166): Copies the oldest channel element without removing it. -/
def execChpopPk (h : Hdr) (t : BitVec 6) (k : BitVec 5) (q : Bool) (s : State) : Out :=
  .next (s.issueCore (.chpopPk h t k q) h 1 fun kk xx s _ => chpopWord kk xx s (s.handle kk t) q true k)

/-- CHQRY (R167): Writes a channel status word without waiting. -/
def execChqry (h : Hdr) (t : BitVec 6) (k : BitVec 5) (s : State) : Out :=
  .next (s.issueCore (.chqry h t k) h 1 fun kk xx s _ => chqryWord kk xx s (s.handle kk t) k)

/-! ## Parking and waking (R404) -/

/-- The stream and handle of a channel word that has stalled for 2,048 cycles. -/
def State.parkable (s : State) (k : Nat) : Option (Nat × Bool) :=
  [0, 1, 2, 3].findSome? fun x => match ((s.slot k).stream x).wait with
    | some (.channel (some t)) =>
      if s.cycle < t + 2048 then none
      else match s.streamNext k x with
        | some (.chpush _ c _ _ _) => some (handleKey (s.handle k c), false)
        | some (.chpop _ c _ _) => some (handleKey (s.handle k c), true)
        | some (.chpopPk _ c _ _) => some (handleKey (s.handle k c), true)
        | _ => none
    | _ => none

/-- CHANNEL_PARK (R404): the slot `unit` stops, saves as for pre-emption, and its task parks. -/
def execChannelPark (s : State) : Out :=
  .next (let k := s.inp.unit
    let sl := s.slot k
    match s.parkable k with
    | some p => if sl.phase == .running && !sl.diverting then s.setSlot k { sl with phase := .stopping, parking := some p } else s
    | none => s)

/-- R404: the writer end's task is not running: parked, saved, ended or unbound. Of a writer in another package only the event can
say so. -/
def State.writerAway (s : State) (ch : Chan) : Bool :=
  if flag ch.wend.toNat 30 then s.inp.b == 1
  else
    let sl := s.slot (fld ch.wend.toNat 0 9)
    !(flag ch.wend.toNat 31 && sl.phase != .free && sl.task.asid == ch.asid)

/-- R404: the wait condition of a parked end. -/
def State.wakes (s : State) (c : Nat) (reader : Bool) : Bool :=
  let ch := s.chan c
  let n := ch.rcnt + ch.scnt
  !ch.isOpen || (if reader then decide (ch.wmark ≤ n) || (decide (1 ≤ n) && s.writerAway ch) else ch.canPush)

/-- CHANNEL_WAKE (R404): the parked task whose record is at `a` goes back to its ready queue. -/
def execChannelWake (s : State) : Out :=
  .next (match s.saved.find? fun v => v.slot.task.loc == s.inp.a with
    | some v => match v.parked with
      | some (c, rd) =>
        if s.wakes c rd then
          let saved := updateWhere (fun u : Saved => u.slot.task.loc == s.inp.a) (fun u => { u with parked := none }) s.saved
          { s.setPark c rd false with saved := saved }.placeSaved s.inp.a v.slot.task.record v.slot.task.asid false
        else s
      | none => s
    | none => s)

/-! ## The sump (R402, R403, R407, R408) -/

/-- R453: the units of a run of bytes are marked. -/
def State.markRun (s : State) (a n : Nat) : State :=
  { s with marks := (((List.range n).map fun i => markUnit (a + i)) ++ s.marks).eraseDups }

/-- R402, R408: a refill waits for its turn; refills stop at an element whose own refill has faulted. -/
def Chan.refills (c : Chan) : Bool := c.isOpen && decide (0 < c.scnt) && decide (c.rcnt < c.rplaces) && !c.refillStuck

/-- SUMP_REFILL (R402, R403): of channel `unit`; marked bytes are refilled marked. -/
def execSumpRefill (s : State) : Out :=
  .next (
    let c := s.inp.unit
    let ch := s.chan c
    if !ch.refills then s
    else
      let s := s.touch (c / 4096) ch.asid ch.headAddr
      match s.sumpPlace c ch.headAddr .read with
      | .at l _ =>
        let a := ch.ringAt c (ch.popped + ch.rcnt)
        let bad := (List.range (ch.esize / 8)).any fun i => s.marked (l + 8 * i)
        let t := s.rawRun a (Memory.readBytes s.mem l ch.esize)
        (if bad then t.markRun a ch.esize else t).setChan c { ch.shrunk with rcnt := ch.rcnt + 1 }
      | _ => s)

/-- Segments for a channel, from the reserve of its die and address space, into SEGLIST (R398, R399); a writer in another package is
told (R409). -/
def State.giveSegs (s : State) (c n : Nat) : State :=
  let ch := s.chan c
  let key := 256 * (c / 4096) + ch.asid
  let free := s.sumpFree.get [] key
  let new := free.take n
  let at_ := ch.seglist + 8 * ch.segs.length
  let t := if inHbm at_ then s.rawRun at_ (new.flatMap (leBytes 8)) else s
  let t := { t with sumpFree := s.sumpFree.set key (free.drop n) }.setChan c { ch with segs := ch.segs ++ new }
  if new.isEmpty then t else t.creditBack c

/-- A SUMP_FULL is answered (R407). -/
def Chan.answered (c : Chan) : Chan := { c with sumpFull := false, frozen := c.spFault }

/-- SUMP_GRANT (R407): `a` segments for channel `unit`. -/
def execSumpGrant (s : State) : Out :=
  .next (
    let c := s.inp.unit
    let ch := s.chan c
    let n := s.inp.a
    if ch.sumpFull && decide (0 < n) && decide (ch.segs.length + n ≤ ch.maxseg) &&
        decide (n ≤ (s.sumpFree.get [] (256 * (c / 4096) + ch.asid)).length) then
      let t := s.giveSegs c n
      t.setChan c (t.chan c).answered
    else s)

/-- SUMP_DECLINE (R407): the push becomes an ordinary wait for space. -/
def execSumpDecline (s : State) : Out :=
  .next (let ch := s.chan s.inp.unit
    if ch.sumpFull then s.setChan s.inp.unit { ch.answered with declined := true } else s)

/-- R408: the launch that holds the writer end. -/
def State.writerLaunch (s : State) (ch : Chan) : Nat :=
  let k := fld ch.wend.toNat 0 9
  if flag ch.wend.toNat 30 then 0
  else if (s.slot k).phase != .free && (s.slot k).task.asid == ch.asid then (s.slot k).task.launch
  else ((s.saved.find? fun v => v.k == k && v.slot.task.asid == ch.asid).map fun v => v.slot.task.launch).getD 0

/-- R408: the writer's push waits for the sump: a stalled CHPUSH, or another package's packet at its window's base. -/
def State.pushWaits (s : State) (c : Nat) : Bool :=
  let k := fld (s.chan c).wend.toNat 0 9
  match (s.chan c).writerNode with
  | some node =>
    let w := s.torus.windows.get {} node
    w.held.any fun p => p.seq == w.base && p.op % 64 == 3 && p.addr == c
  | none => [0, 1, 2, 3].any fun x => (match ((s.slot k).stream x).wait with
    | some (.channel (some _)) => true
    | _ => false) && (match s.streamNext k x with
    | some (.chpush _ h _ _ _) => handleKey (s.handle k h) == c
    | _ => false)

/-- SUMP_SPILL_FAULT (R408): the next spill (`x` = 0) or refill of channel `unit`, by engine `a` of its die, meets a translation fault. -/
def execSumpSpillFault (s : State) : Out :=
  .next (
    let c := s.inp.unit
    let ch := s.chan c
    let spill := s.inp.x == 0
    let va := if spill then ch.tailAddr else ch.headAddr
    let due := if spill then ch.canPush && !(ch.scnt == 0 && decide (ch.rcnt < ch.rplaces)) && s.pushWaits c else ch.refills
    match s.sumpPlace c va (if spill then .write else .read) with
    | .fault cause =>
      if due && !ch.spFault then
        (s.faultRecord { va := va, launch := s.writerLaunch ch, asid := ch.asid, cause := cause, access := 6, agent := 2,
                         who := c / 4096 * 4 + s.inp.a % 4 }).setChan c
          { ch with spFault := true, frozen := true, faultVa := va, faultLaunch := s.writerLaunch ch, refillStuck := !spill }
      else s
    | _ => s)

/-! ## The deadlock detector (R406) -/

/-- R406: a DEADLOCK EVENT, naming the channels: to the pilot, and as an EVENT on device stream 2 (R438). -/
def State.deadlock (s : State) (cs : List Nat) : State := (s.tell cs).event (cs.flatMap (leBytes 4))

/-- The channels with writer edges and all channels of the cycle of parked tasks that starts at a parked task, if it closes. -/
def State.cycleFrom (s : State) (start : Nat) : Nat → Saved → List (Nat × Bool) → Option (List (Nat × Bool))
  | 0, _, _ => none
  | n + 1, v, path =>
    match v.parked with
    | none => none
    | some (c, rd) =>
      let ch := s.chan c
      let e := (if rd then ch.wend else ch.rend).toNat
      if !flag e 31 || flag e 30 then none
      else match s.saved.find? fun u => u.parked.isSome && u.k == fld e 0 9 && u.slot.task.asid == ch.asid with
        | none => none
        | some u => if u.slot.task.loc = start then some (path ++ [(c, rd)]) else s.cycleFrom start n u (path ++ [(c, rd)])

/-- DEADLOCK_SCAN (R406): the cycle through the parked task whose record is at `a`. -/
def execDeadlockScan (s : State) : Out :=
  .next (match s.saved.find? fun v => v.slot.task.loc == s.inp.a with
    | none => s
    | some v => match s.cycleFrom s.inp.a (s.saved.length + 1) v [] with
      | none => s
      | some cyc =>
        let grow := (cyc.filter fun e => !e.2 && decide ((s.chan e.1).segs.length < (s.chan e.1).maxseg)).map Prod.fst
        let c := grow.foldl min (grow.headD 0)
        if grow.isEmpty || (s.sumpFree.get [] (256 * (c / 4096) + (s.chan c).asid)).isEmpty then s.deadlock (cyc.map Prod.fst)
        else
          let t := s.giveSegs c 1
          t.setChan c (t.chan c).answered)

end Sys2Proof.Machine
end

