-- ==== Sys2Proof/Machine/Hash.lean ====
section
/-! DEFINITION. Sys2Proof/Machine/Hash.lean: SHA-256, which R444 and R445 name; its definition is FIPS 180-4's (PRESUMED,
notes/assumptions/95.md). -/

namespace Sys2Proof.Machine

/-! ## Constants: fractions of roots of the first primes -/

/-- The first 64 primes: the numbers from 2 to 311 that no smaller prime up to 17 divides. -/
def shaPrimes : List Nat :=
  ((List.range 310).map (· + 2)).filter fun p => [2, 3, 5, 7, 11, 13, 17].all fun q => p == q || p % q != 0

/-- The greatest number whose `k`-th power is at most `n`, bit by bit from bit `i` down, above those found in `r`. -/
def rootBelow (k n : Nat) : Nat → Nat → Nat
  | 0, r => r
  | i + 1, r => rootBelow k n i (if (r + 2 ^ i) ^ k ≤ n then r + 2 ^ i else r)

/-- The first 32 bits of the fraction of the `k`-th root of a number. -/
def rootFraction (k p : Nat) : BitVec 32 := BitVec.ofNat 32 (rootBelow k (p * 2 ^ (32 * k)) 38 0)

/-! ## Words -/

/-- The 32-bit words of a run of bytes, each with its first byte highest. -/
def bigEndian : Nat → List Byte → List (BitVec 32)
  | 0, _ => []
  | n + 1, bs => BitVec.ofNat 32 (leNat (bs.take 4).reverse) :: bigEndian n (bs.drop 4)

/-- The sum modulo 2 of a word turned right by each of some distances. -/
def turned (x : BitVec 32) (by_ : List Nat) : BitVec 32 := (by_.map x.rotateRight).foldl (· ^^^ ·) 0

/-- Bit by bit: the second or the third word, as the first says; and what most of three words hold. -/
def chosen (x y z : BitVec 32) : BitVec 32 := z ^^^ (x &&& (y ^^^ z))
def mostly (x y z : BitVec 32) : BitVec 32 := (x &&& (y ||| z)) ||| (y &&& z)

/-! ## A block -/

/-- The schedule's last 16 words, oldest first, in their `n` further places: each word as it leaves. -/
def shaWords : Nat → List (BitVec 32) → List (BitVec 32)
  | 0, win => win
  | n + 1, win =>
    let at_ := fun i => win.getD i 0
    let next := at_ 0 + (turned (at_ 1) [7, 18] ^^^ (at_ 1 >>> 3)) + at_ 9 + (turned (at_ 14) [17, 19] ^^^ (at_ 14 >>> 10))
    at_ 0 :: shaWords n (win.drop 1 ++ [next])

/-- A round on the eight working words: the last leaves, a new one comes in front, and the fourth takes part of it. -/
def shaStep (ws : List (BitVec 32)) (add : BitVec 32) : List (BitVec 32) :=
  let w := fun i => ws.getD i 0
  let low := add + w 7 + turned (w 4) [6, 11, 25] + chosen (w 4) (w 5) (w 6)
  let new := low + turned (w 0) [2, 13, 22] + mostly (w 0) (w 1) (w 2)
  new :: (ws.take 3 ++ (w 3 + low) :: (ws.drop 4).take 3)

/-- The hash words after one block of 64 bytes. -/
def shaBlock (keys hash : List (BitVec 32)) (block : List Byte) : List (BitVec 32) :=
  List.zipWith (· + ·) hash ((List.zipWith (· + ·) keys (shaWords 48 (bigEndian 16 block))).foldl shaStep hash)

/-- What follows a message of `n` bytes: a one bit, zeros to the last 8 bytes of a block, and the length in bits. -/
def shaTail (n : Nat) : List Byte := [0x80] ++ List.replicate (63 - (n + 8) % 64) 0 ++ (leBytes 8 (8 * n)).reverse

/-- The hash words after the first `n` blocks of some bytes. -/
def shaBlocks (keys : List (BitVec 32)) : Nat → List (BitVec 32) → List Byte → List (BitVec 32)
  | 0, hash, _ => hash
  | n + 1, hash, bs => shaBlocks keys n (shaBlock keys hash (bs.take 64)) (bs.drop 64)

/-- The digest of a message. -/
def sha256 (m : List Byte) : List Byte :=
  let bs := m ++ shaTail m.length
  let start := (shaPrimes.take 8).map (rootFraction 2)
  (shaBlocks (shaPrimes.map (rootFraction 3)) (bs.length / 64) start bs).flatMap fun w => (leBytes 4 w.toNat).reverse

end Sys2Proof.Machine
end

