-- ==== Sys2Proof/Machine/FrontEnd.lean ====
section
/-! DEFINITION. Sys2Proof/Machine/FrontEnd.lean: the host front end: packets and queue programs (R224-R230, R358-R371), launches
(R372-R376, R385), teardown (R390) and retirement (R359-R361). -/

namespace Sys2Proof.Machine

/-! ## Packets and their queue -/

def State.modHqueue (s : State) (q : Nat) (f : HQueue → HQueue) : State := s.setHqueue q (f (s.hqueue q))

/-- Change the packet whose program runs. -/
def State.modPacket (s : State) (q : Nat) (f : Packet → Packet) : State :=
  s.modHqueue q fun hq => { hq with cur := hq.cur.map f }

/-! ## Accesses of the front end (R224, R455, R456) -/

/-- The front end's own aliases are holes; die 0's unit translates for it. -/
def State.feWho (s : State) (q : Nat) : Who := { die := none, tile := none, unit := 0, asid := (s.hqueue q).asid }

/-- A step of a check: a value, the status that ends the packet, a translation fault, or nothing yet: the torus unit takes no
further packet of the pair (R422), or an access that has crossed first is ahead (R333). -/
inductive FeRes (α : Type) where
  | ok (v : α)
  | stop (status : Nat)
  | fault (va cause access : Nat)
  | hold
  deriving DecidableEq, Repr

def FeRes.bind {α β : Type} (r : FeRes α) (f : α → FeRes β) : FeRes β :=
  match r with
  | .ok v => f v
  | .stop n => .stop n
  | .fault v c a => .fault v c a
  | .hold => .hold

/-- Go on if no check refuses. -/
def FeRes.need {α : Type} (ok : Bool) (status : Nat) (r : FeRes α) : FeRes α := if ok then r else .stop status

/-- Where bytes of the queue's address space lie. -/
def State.feReach (s : State) (q : Nat) (acc : Acc) (va n : Nat) : FeRes (List Nat) :=
  match s.reach (s.feWho q) copyParts acc (spanOf va n) with
  | .hole _ => .stop 2
  | .fault a c => .fault a c (match acc with
      | .read => 0
      | .write => 1
      | .both => 4)
  | .ok locs => if s.crossedBefore (fun _ => 5) (locs.map Prod.fst) then .hold else .ok (locs.map Prod.fst)

/-- Bytes of memory, or of another package, whose content is open here. -/
def State.feBytes (s : State) (locs : List Nat) : List Byte :=
  locs.map fun a => if isRemote a then Config.remoteByte s.fresh a else Memory.read s.mem a

/-- A read by the front end; a marked byte poisons the packet (R428). -/
def State.feRead (s : State) (q va n : Nat) : FeRes (List Byte) :=
  (s.feReach q .read va n).bind fun locs =>
    if locs.any fun a => !isRemote a && s.marked a then .stop 1 else .ok (s.feBytes locs)

/-- The queue's translations are brought into die 0's unit. -/
def State.feTouch (s : State) (q va n : Nat) : State := { s.touchAll 0 (s.hqueue q).asid (spanOf va n) with fresh := s.fresh + n + 1 }

/-- R456, R353: the record of a front-end fault. -/
def State.feRecord (s : State) (q va cause access : Nat) : State :=
  s.faultRecord { va := va, launch := 0, asid := (s.hqueue q).asid, cause := cause, access := access, agent := 3, who := 0 }

/-! ## Ending and tearing down (R370, R390) -/

/-- R161, R390: a multicast of the launch that still waits for a member ends CANCELLED. -/
def Job.unquiet (j : Job) : Bool := j.flights.any fun f => match f.work with
  | .cpmc _ _ _ _ tiles => tiles.any fun t => (f.branch.find? t).isNone
  | _ => false

def Job.cancelMember (j : Job) : Job := if j.dead.isNone && j.started && j.unquiet then { j with dead := some 4 } else j

/-- A write that waits for a cairn save, and a QRD or QWR that waits for service, is given up when its launch is aborted. -/
def Slot.dropStuck (sl : Slot) : Slot :=
  (sl.ops.filter fun o => o.stuck.isSome).foldl (fun sl o => sl.retire o.id) sl.squashWaiting

/-- R390: records of the launch that were never bound. -/
def State.cancelRanges (s : State) (n : Nat) : State :=
  (s.launch n).ranges.zipIdx.foldl (fun s r => (List.range r.1.2.2).foldl (fun s i =>
    match s.rangeRecord n r.2 i with
    | some rc => if s.recStatus rc.loc == 0xFF && s.recLaunch rc.loc == n && (s.boundAt rc.loc).isNone then s.cancelRecord rc rc.loc else s
    | none => s) s) s

/-- R456: a chain whose next ring entry or its program could not be read ends that command FAULTED; where no entry lies before its TAIL,
it only looks again. -/
def State.abortChain (s : State) (id : Nat) : State :=
  match s.chains.find? id with
  | none => s
  | some c =>
    let seq := c.done + (s.chainJobs id).length + 1
    let c' := { c with wait := none, head := (c.head + 1) % 2 ^ 32 }
    let j := { c.job id with seq := seq, index := c.head, stop := some 3 }
    if c.tail = c.head then { s with chains := s.chains.set id { c with wait := none } }
    else
      let t := match s.blockAt id c with
        | .ok locs => s.rawRun ((locs.headD (0, 0)).1 + 32) (leBytes 4 c'.head)
        | _ => s
      { t.setJob s.nextId j with chains := s.chains.set id c', nextId := s.nextId + 1 }

/-- R390 step 3: a launch is aborted; its packet then retires with `status`. -/
def State.tearLaunch (s : State) (n status : Nat) : State :=
  match s.launches.find? n with
  | none => s
  | some l =>
    if l.retired then s
    else
      let s := s.modLaunch n fun l => { l with aborted := l.aborted.or (some status) }
      let s := s.slots.foldl (fun s (p : Nat × Slot) =>
        if p.2.phase != .free && p.2.task.launch == n then (s.tearTask p.1).modSlot p.1 Slot.dropStuck else s) s
      let s := (s.saved.filter fun v => v.slot.task.launch == n).foldl (fun s v =>
        if l.abortSteps then (s.endSaved v).cancelSteps v.slot.task.loc else s.endSaved v) s
      let s := ((s.cancelRanges n).killJobs fun j => j.launch == n).dropOwed n
      let s := (s.chains.filter fun (p : Nat × Chain) => p.2.launch == n && p.2.wait.isSome).foldl (fun s p => s.abortChain p.1) s
      { s with jobs := s.jobs.map fun (p : Nat × Job) => (p.1, if p.2.launch = n then p.2.cancelMember else p.2) }

/-- R228, R390: an EMTASK that a teardown stops has emitted the first `m` records of its range, and no more. -/
def Launch.cutRange (l : Launch) (m : Nat) : Launch :=
  match l.ranges.getLast? with
  | some (va, asid, cnt) => { l with ranges := l.ranges.dropLast ++ [(va, asid, m)], census := l.census - (cnt - m) }
  | none => l

/-- A packet whose program has ended makes room for the next; an ending other than OK tears its launch down (R370). -/
def State.settle (s : State) (q : Nat) : State :=
  let hq := s.hqueue q
  match hq.cur with
  | none => s
  | some p => match p.ended with
    | none => s
    | some st =>
      let s := match p.launch with
        | some n => if p.emitted = 0 then s else s.modLaunch n fun l => l.cutRange p.emitted
        | none => s
      let p := { p with wait := none, emitted := 0, image := [] }
      let state := if hq.state = 3 then 3 else if hq.head = hq.tail then 0 else 1
      let s := s.setHqueue q { hq with cur := none, started := hq.started ++ [p], state := state }
      match p.launch with
      | some n => if st = 0 then s else s.tearLaunch n st
      | none => s

/-- The packet's program ends with a status. -/
def State.endPacket (s : State) (q status : Nat) : State :=
  (s.modPacket q fun p => { p with ended := p.ended.or (some status) }).settle q

/-- R376: a tile of a delta goes on, its segments reopened; one that still drains for the delta reopens once it is empty. -/
def State.unhalt (s : State) (t : Nat) : State :=
  let gs := (s.tile t).halted.getD []
  let wake := fun v : Seg => { v with mode := if v.mode = 2 then 0 else v.mode
                                      drains := v.drains.map fun d => { d with open_ := d.open_ || d.op == 0 } }
  s.modTile t fun ti => { ti with halted := none, segs := gs.foldl (fun sg g => Tab.set sg g (wake (Tab.get {} sg g))) ti.segs }

/-- R390: the queue is torn down. -/
def State.tearQueue (s : State) (q : Nat) : State :=
  let hq := s.hqueue q
  if hq.state = 3 then s
  else
    let s := match hq.cur with
      | some p => match p.wait with
        | some (.delta _ _ (t :: _) (some _)) => s.unhalt t
        | _ => s
      | none => s
    let s := (s.setHqueue q { hq with state := 3 }).endPacket q 4
    let s := (s.hqueue q).started.foldl (fun s p => match p.launch with
      | some n => s.tearLaunch n 4
      | none => s) s
    s.modHqueue q fun hq =>
      let rest := (List.range ((hq.tail + 2 ^ 32 - hq.head) % 2 ^ 32)).map fun i =>
        ({ idx := (hq.head + i) % 2 ^ 32, ended := some 4 } : Packet)
      { hq with started := hq.started ++ rest, head := hq.tail }

/-! ## How a word of a queue program runs (R84, R224, R358) -/

inductive FRes where
  | ok (s : State) (es : List PendEff)
  | stop (s : State) (status : Nat)
  | fault (s : State) (va cause access : Nat)
  | wait (s : State) (w : FeWait)
  /-- the word runs again at its next turn -/
  | hold (s : State)

/-- The outcome of a check as a word's outcome. -/
def FeRes.to {α : Type} (r : FeRes α) (s : State) (f : α → FRes) : FRes :=
  match r with
  | .ok v => f v
  | .stop n => .stop s n
  | .fault v c a => .fault s v c a
  | .hold => .hold s

/-- The queue runs, or waits at a SIGWAIT or an EMLAUNCH (R367). -/
def State.feState (s : State) (q n : Nat) : State := s.modHqueue q fun hq => { hq with state := if hq.state = 3 then 3 else n }

/-- A word of the packet's program takes effect; `es` are the registers it writes. -/
def State.frontPass (s : State) (q : Nat) (es : List PendEff) : State :=
  (s.modPacket q fun p => { p.after (p.prog.run p.code.length 0 false 1 0 fun _ => .ok es) with wait := none }).feState q 1

/-- A private word of a queue program. -/
def State.frontWord (s : State) (h : Grd) (f : State → Nat → HQueue → Packet → View → FRes) : State :=
  match s.cur with
  | .queue q =>
    let hq := s.hqueue q
    match hq.cur with
    | none => s
    | some p =>
      if p.still then s
      else if !p.prog.view.guard h.g h.n then s.frontPass q []
      else match f s q hq p p.prog.view with
        | .ok t es => t.frontPass q es
        | .stop t st => (t.modPacket q fun p => { p with words := p.words + 1 }).endPacket q st
        | .fault t va c a => (t.feRecord q va c a).modPacket q fun p => { p with wait := some (.fault va) }
        | .wait t w => (t.modPacket q fun p => { p with wait := some w }).feState q 2
        | .hold t => t
  | _ => s

/-! ## Packet and shadow words (R225, R226) -/

/-- R225: packet bytes, shadow words; an index out of range, which the load refuses, ends the packet ILLEGAL. -/
def pkgetRes (s : State) (p : Packet) (d : BitVec 5) (n z : Nat) : FRes :=
  if n * z + z ≤ 256 then .ok s [.scalar d (BitVec.ofNat 64 (bytesAt p.bytes (n * z) z))] else .stop s 5

def shdrRes (s : State) (hq : HQueue) (d : BitVec 5) (n : Nat) : FRes :=
  if n < 32 then .ok s [.scalar d (hq.sh.get 0 n)] else .stop s 5

def shdwRes (s : State) (q n : Nat) (w : Word) : FRes :=
  if n < 32 then .ok (s.modHqueue q fun hq => { hq with sh := hq.sh.set n w }) [] else .stop s 5

/-- R226: the shadow words from `n` on; the last result says that a packet dword ran out. -/
def deltaFill (bytes : List Byte) (m w : Nat) : Nat → Nat → Tab Word → Nat → Tab Word × Nat × Bool
  | 0, _, sh, k => (sh, k, false)
  | i + 1, n, sh, k =>
    if flag m n then
      (if 31 < w + k then (sh, k, true)
       else deltaFill bytes m w i (n + 1) (sh.set n (BitVec.ofNat 64 (bytesAt bytes (8 * (w + k)) 8))) (k + 1))
    else deltaFill bytes m w i (n + 1) sh k

def deltaRes (s : State) (q : Nat) (hq : HQueue) (p : Packet) (w m : Word) (b : BitVec 5) : FRes :=
  if 2 ^ 32 ≤ m.toNat then .stop s 5
  else
    let r := deltaFill p.bytes m.toNat w.toNat 32 0 hq.sh 0
    let t := s.modHqueue q fun hq => { hq with sh := r.1 }
    if r.2.2 then .stop t 5 else .ok t [.scalar b (BitVec.ofNat 64 r.2.1)]

/-- PKGET_W (R225): Reads a 32-bit packet word. -/
def execPkgetW (h : Grd) (d : BitVec 5) (i : BitVec 14) (s : State) : Out :=
  .next (s.frontWord h fun s _ _ p _ => pkgetRes s p d i.toNat 4)

/-- PKGET_D (R225): Reads a 64-bit packet word. -/
def execPkgetD (h : Grd) (d : BitVec 5) (i : BitVec 14) (s : State) : Out :=
  .next (s.frontWord h fun s _ _ p _ => pkgetRes s p d i.toNat 8)

/-- SHDR (R225): Reads a queue shadow word. -/
def execShdr (h : Grd) (d : BitVec 5) (i : BitVec 14) (s : State) : Out :=
  .next (s.frontWord h fun s _ hq _ _ => shdrRes s hq d i.toNat)

/-- SHDW (R225): Writes a queue shadow word. -/
def execShdw (h : Grd) (d : BitVec 5) (i : BitVec 14) (s : State) : Out :=
  .next (s.frontWord h fun s q _ _ v => shdwRes s q i.toNat (v.reg d))

/-- DELTA (R226): Fills shadow words named by a mask from packet dwords. -/
def execDelta (h : Grd) (d a b : BitVec 5) (s : State) : Out :=
  .next (s.frontWord h fun s q hq p v => deltaRes s q hq p (v.reg d) (v.reg a) b)

/-! ## EMTASK (R228, R378) -/

/-- Write bytes for the front end: saved by cairns first (R175, R432), sent as packets where they lie in another package (R422). -/
def State.feWrite (s : State) (l : List (Nat × Byte)) : FeRes State :=
  let near := l.filter fun p => !isRemote p.1
  match s.cairnFault (near.map Prod.fst) with
  | some (_, va) => .fault va fPermission 5
  | none => match s.sendRuns 0 0 { word := 0, work := .spawn 0 0 } none 1 (runsOf (l.filter fun p => isRemote p.1)) with
    | .ok t _ => .ok (t.writeLocs near)
    | .fail st => .stop st
    | _ => .hold

/-- Records `i` to `i + n - 1` of an EMTASK are written at their locations, and those that are ready go on their queues. -/
def State.emitRun (s : State) (locs : List Nat) (img : List Byte) (asid ln deadline dst i n : Nat) : FeRes State :=
  let rec_ := fun j => emitRecord img asid ln deadline (some j)
  let is := (List.range n).map (i + ·)
  (s.feWrite (((locs.drop (128 * i)).take (128 * n)).zip (is.flatMap rec_))).bind fun t =>
    .ok (is.foldl (fun t j =>
      if bytesAt (rec_ j) 24 4 != 0 then t
      else t.placeBy (bytesAt (rec_ j)) (locs.getD (128 * j) 0) ((dst + 128 * j) % 2 ^ 56) asid false) t)

/-- EMTASK (R228, R390): `n` records from the image at `src` to `dst`. The census rises by `n` with the first; where the torus unit takes no
more packets, the records it has room for go out one by one (R422). -/
def emtaskRes (s : State) (q : Nat) (hq : HQueue) (p : Packet) (dst src n : Nat) : FRes :=
  match p.launch with
  | none => .stop s 5
  | some ln =>
    if 4096 < n || dst % 128 != 0 || src % 128 != 0 then .stop s 5
    else if n = 0 then .ok s []
    else match if p.emitted = 0 then (s.launch ln).keepRange (dst % 2 ^ 56) hq.asid n else some (s.launch ln) with
    | none => .stop s 5
    | some l =>
      let i := p.emitted
      let s := (s.feTouch q src 128).feTouch q dst (128 * n)
      ((if i = 0 then s.feRead q src 128 else .ok p.image).bind fun img =>
        (s.feReach q .write dst (128 * n)).bind fun locs => .ok (img, locs)).to s fun r =>
          let t := if i = 0 then s.modLaunch ln fun _ => { l with census := l.census + n } else s
          let run := fun m => t.emitRun r.2 r.1 hq.asid ln l.deadline.toNat dst i m
          match run (n - i), run 1 with
          | .ok t, _ => .ok (t.modPacket q fun p => { p with emitted := 0, image := [] }) []
          | .hold, .ok t => .hold (t.modPacket q fun p => { p with emitted := i + 1, image := r.1 })
          | .hold, _ => .hold s
          | .fault v c a, _ => .fault s v c a
          | .stop n, _ => .stop s n

/-- EMTASK (R228): Emits task records of the open launch. -/
def execEmtask (h : Grd) (d a b : BitVec 5) (s : State) : Out :=
  .next (s.frontWord h fun s q hq p v => emtaskRes s q hq p (v.reg d).toNat (v.reg a).toNat (v.reg b).toNat)

/-! ## SIGWAIT (R229) -/

inductive SigCc where
  | le | lt | eq | ne
  deriving DecidableEq, Repr

def SigCc.holds (c : SigCc) (x y : Int) : Bool :=
  match c with
  | .le => decide (x ≤ y)
  | .lt => decide (x < y)
  | .eq => decide (x = y)
  | .ne => decide (x ≠ y)

/-- R365: the launches that have added to the signal at a location and have not retired. DEDUCED (notes/assumptions/146.md): the packet
that the signal lets go on retires after such a launch that has nothing left to do. -/
def State.signallers (s : State) (loc : Nat) : List Nat :=
  (s.launches.filter fun (p : Nat × Launch) => !p.2.retired && p.2.signalled.contains loc).map Prod.fst

/-- SIGWAIT (R229): an abort value ends the packet as ABORT.PKT does. -/
def sigwaitRes (s : State) (q : Nat) (c : SigCc) (d a : Word) : FRes :=
  let va := addr56 d
  if va % 8 ≠ 0 then .stop s 2
  else
    let s := s.feTouch q va 8
    (s.feRead q va 8).to s fun bs =>
      let x := (BitVec.ofNat 64 (leNat bs)).toInt
      let s := if decide (x ≤ -(2 ^ 30 : Int)) || c.holds x a.toInt then match s.feReach q .read va 8 with
          | .ok locs => s.modPacket q fun p => { p with heeds := p.heeds ++ s.signallers (locs.headD 0) }
          | _ => s
        else s
      if x ≤ -(2 ^ 30 : Int) then .stop s 8
      else if c.holds x a.toInt then .ok s []
      else .wait s (.signal va)

/-- SIGWAIT_LE (R229): Holds the packet until a signal is at most a value. -/
def execSigwaitLe (h : Grd) (d a : BitVec 5) (s : State) : Out :=
  .next (s.frontWord h fun s q _ _ v => sigwaitRes s q .le (v.reg d) (v.reg a))

/-- SIGWAIT_LT (R229): Holds the packet until a signal is below a value. -/
def execSigwaitLt (h : Grd) (d a : BitVec 5) (s : State) : Out :=
  .next (s.frontWord h fun s q _ _ v => sigwaitRes s q .lt (v.reg d) (v.reg a))

/-- SIGWAIT_EQ (R229): Holds the packet until a signal equals a value. -/
def execSigwaitEq (h : Grd) (d a : BitVec 5) (s : State) : Out :=
  .next (s.frontWord h fun s q _ _ v => sigwaitRes s q .eq (v.reg d) (v.reg a))

/-- SIGWAIT_NE (R229): Holds the packet until a signal differs from a value. -/
def execSigwaitNe (h : Grd) (d a : BitVec 5) (s : State) : Out :=
  .next (s.frontWord h fun s q _ _ v => sigwaitRes s q .ne (v.reg d) (v.reg a))

/-! ## Ending words (R230) -/

/-- COMPLETE (R230): what retirement will do; a misaligned signal ends the packet BADADDR (R456). -/
def completeRes (s : State) (q : Nat) (p : Packet) (sig addend user : Word) : FRes :=
  if p.comp.isSome then .stop s 5
  else if addr56 sig % 8 ≠ 0 then .stop s 2
  else .ok (s.modPacket q fun p => { p with comp := some (if sig = 0 then none else some (addr56 sig), addend, user) }) []

/-- ABORT_PKT (R230): Ends the packet ABORTED and tears down its launch. -/
def execAbortPkt (h : Grd) (s : State) : Out :=
  .next (s.frontWord h fun s _ _ _ _ => .stop s 8)

/-- ABORT_QUEUE (R390): Tears down the whole queue. -/
def execAbortQueue (h : Grd) (s : State) : Out :=
  .next (s.frontWord h fun s q _ p _ => .stop ((s.modPacket q fun p => { p with ended := some 4 }).tearQueue q) 4)

/-- COMPLETE (R230): Registers the signal, addend and user word for the packet's retirement. -/
def execComplete (h : Grd) (d a b : BitVec 5) (s : State) : Out :=
  .next (s.frontWord h fun s q _ p v => completeRes s q p (v.reg d) (v.reg a) (v.reg b))

/-- BARRIER (R230): Holds the queue's next packet until this packet's launch retires. -/
def execBarrier (s : State) : Out :=
  .next (s.frontWord (grd s.fetched.1) fun s q _ p _ => .ok (s.modPacket q fun p => { p with barrier := true }) [])

/-! ## Launches (R372-R374) -/

/-- What a launch descriptor and its tables say. -/
structure LaunchPlan where
  fsvc : Bool
  abortSteps : Bool
  deadline : Word
  budget : Nat
  lines : List (List Nat)
  groups : List (Nat × Group)
  fmts : List (Nat × BitVec 32)
  deriving DecidableEq, Repr

/-- The records of a table, `n` of `z` bytes, aligned; the address of an empty table is not looked at. -/
def State.feTable (s : State) (q va n z al : Nat) : FeRes (List (List Byte)) :=
  if n = 0 then .ok []
  else FeRes.need (va % al == 0) 2 ((s.feRead q va (n * z)).bind fun bs => .ok (chunks z n bs))

/-- R347: the words of a chart line, and the line if it is valid. -/
def lineWords (bs : List Byte) : List Nat := (chunks 8 4 bs).map leNat
def lineOf (ws : List Nat) : Option ChartLine := chartLineOf (ws.getD 0 0) (ws.getD 1 0) (ws.getD 2 0) (ws.getD 3 0)

/-- R347: a reserved field of the line is nonzero, whether it is valid or not. -/
def lineBad (ws : List Nat) : Bool :=
  match chartLineOf (ws.getD 0 0 / 2 * 2 + 1) (ws.getD 1 0) (ws.getD 2 0) (ws.getD 3 0) with
  | some l => l.bad
  | none => true

def linesMeet (a b : ChartLine) : Bool := decide (a.base < b.limit) && decide (b.base < a.limit)

/-- Some two of a list meet. -/
def anyPair {α : Type} (f : α → α → Bool) : List α → Bool
  | [] => false
  | a :: l => l.any (f a) || anyPair f l

/-- R373: a group record. -/
def groupOf (bs : List Byte) : Nat × Group :=
  let m := bytesAt bs 0 8
  (bytesAt bs 8 1, { launch := 0, members := (List.range 64).filter fun t => flag m t, count := bytesAt bs 9 1 })

def groupBad (bs : List Byte) : Bool :=
  bytesAt bs 0 8 == 0 || bytesAt bs 9 1 == 0 || decide (8 < bytesAt bs 9 1) || bytesAt bs 10 6 != 0

/-- R374: a tile would belong to five or more live groups. -/
def State.crowded (s : State) (gs : List (Nat × Group)) : Bool :=
  (List.range 64).any fun t =>
    let live := (s.groups.filter fun (p : Nat × Group) => !(gs.any fun g => g.1 == p.1) && p.2.members.contains t).length
    decide (5 ≤ live + (gs.filter fun g => g.2.members.contains t).length)

def fmtRecBad (bs : List Byte) : Bool := decide (15 < bytesAt bs 0 1) || bytesAt bs 1 3 != 0 || fmtRefused (bytesAt bs 4 4)

/-- R374: the new lines are refused. -/
def State.linesBad (s : State) (asid : Nat) (lines : List (List Nat)) : Bool :=
  let new := lines.filterMap lineOf
  lines.any lineBad || decide (4096 < (s.asids.get {} asid).nchart + lines.length) || anyPair linesMeet new ||
    new.any fun a => (s.readChart (wordAt s.mem) asid).any (linesMeet a)

/-- R372-R374: read and check a launch descriptor and everything it names. -/
def State.planLaunch (s : State) (q va : Nat) : FeRes LaunchPlan :=
  let asid := (s.hqueue q).asid
  FeRes.need (va % 64 == 0) 2 <| (s.feRead q va 64).bind fun d =>
  let fl := bytesAt d 0 8
  let nch := bytesAt d 32 4
  let ngr := bytesAt d 36 4
  let nfm := bytesAt d 56 1
  FeRes.need (fl < 4 && bytesAt d 20 4 == 0 && bytesAt d 57 7 == 0 && decide (nch ≤ 256) && decide (ngr ≤ 16) && decide (nfm ≤ 16)) 5 <|
  (s.feTable q (bytesAt d 24 8) nch 32 32).bind fun ch =>
  (s.feTable q (bytesAt d 40 8) ngr 16 16).bind fun gr =>
  (s.feTable q (bytesAt d 48 8) nfm 8 8).bind fun fm =>
  let lines := ch.map lineWords
  let gs := gr.map groupOf
  FeRes.need (!(gr.any groupBad) && !(fm.any fmtRecBad) && !anyPair (fun a b : Nat × Group => a.1 == b.1) gs && !s.crowded gs &&
    !s.linesBad asid lines) 5 <|
  .ok { fsvc := flag fl 0, abortSteps := flag fl 1, deadline := BitVec.ofNat 64 (bytesAt d 8 8), budget := bytesAt d 16 4,
        lines := lines, groups := gs, fmts := fm.map fun b => (bytesAt b 0 1, BitVec.ofNat 32 (bytesAt b 4 4)) }

/-- R352: every die forgets the chart of an address space. -/
def State.dropCharts (s : State) (asid : Nat) : State :=
  { s with dies := s.dies.map fun (p : Nat × Die) => (p.1, { p.2 with charts := p.2.charts.filter fun l => l.1 != asid }) }

/-- The chart of an address space, as raw lines, is rewritten. -/
def State.writeChart (s : State) (asid : Nat) (lines : List (List Nat)) : State :=
  let d := s.asids.get {} asid
  let t := s.rawRun d.chart (lines.flatMap fun ws => ws.flatMap (leBytes 8))
  { t with asids := t.asids.set asid { d with nchart := lines.length } }.dropCharts asid

/-- The raw lines of an address space's chart. -/
def State.rawChart (s : State) (asid : Nat) : List (List Nat) :=
  let d := s.asids.get {} asid
  (List.range d.nchart).map fun i => (List.range 4).map fun j => wordAt s.mem (d.chart + 32 * i + 8 * j)

/-- R373: group entries, chart lines, launch number. -/
def State.openLaunch (s : State) (q : Nat) (p : LaunchPlan) : State × Nat :=
  let hq := s.hqueue q
  let n := s.nextLaunch
  let idx := (hq.cur.map Packet.idx).getD 0
  let l : Launch := { asid := hq.asid, queue := q, packet := idx, fsvc := p.fsvc, abortSteps := p.abortSteps,
                      deadline := p.deadline, budget := p.budget, fmts := p.fmts, groups := p.groups.map Prod.fst, lines := p.lines }
  let s := { s with launches := s.launches.set n l,
                    nextLaunch := if n + 1 = 2 ^ 32 then 1 else n + 1,
                    groups := p.groups.foldl (fun t (g : Nat × Group) => Tab.set t g.1 { g.2 with launch := n }) s.groups }
  let s := if p.lines.isEmpty then s else s.writeChart hq.asid (s.rawChart hq.asid ++ p.lines)
  (s.modPacket q fun p => { p with launch := some n }, n)

/-- Touch what an EMLAUNCH reads (R351). -/
def State.touchLaunch (s : State) (q va : Nat) : State :=
  let s := s.feTouch q va 64
  match s.feRead q va 64 with
  | .ok d =>
    let tab := fun (s : State) (o no z most : Nat) =>
      let n := bytesAt d no (if no = 56 then 1 else 4)
      if n ≤ most then s.feTouch q (bytesAt d o 8) (n * z) else s
    tab (tab (tab s 24 32 32 256) 40 36 16 16) 48 56 8 16
  | _ => s

/-- EMLAUNCH (R227, R373): checks, the wait for its group entries, and the launch. -/
def emlaunchRes (s : State) (q : Nat) (p : Packet) (d : BitVec 5) (va : Nat) : FRes :=
  if p.launch.isSome then .stop s 5
  else
    let s := s.touchLaunch q va
    (s.planLaunch q va).to s fun plan =>
      if plan.groups.any fun g => (s.groups.find? g.1).isSome then .wait s .groups
      else
        let r := s.openLaunch q plan
        .ok r.1 [.scalar d (BitVec.ofNat 64 r.2)]

/-- EMLAUNCH (R373): Opens the packet's launch from a descriptor. -/
def execEmlaunch (h : Grd) (d a : BitVec 5) (s : State) : Out :=
  .next (s.frontWord h fun s q _ p v => emlaunchRes s q p d (addr56 (v.reg a)))

/-! ## Configuration deltas (R375, R376) -/

/-- R375: a patch entry is in range. -/
def patchOk (e : List Byte) : Bool :=
  let off := bytesAt e 4 4
  let len := bytesAt e 8 4
  decide (bytesAt e 0 1 < 64) && decide (bytesAt e 1 1 < 4) && bytesAt e 2 2 == 0 && bytesAt e 12 4 == 0 && bytesAt e 24 8 == 0 &&
    off % 4 == 0 && decide (off < 16384) && len % 4 == 0 && decide (4 ≤ len) && decide (len ≤ 16384 - off)

/-- R445: MEASn is extended by an item. -/
def State.extend (s : State) (n : Nat) (x : List Byte) : State :=
  { s with boot := { s.boot with meas := s.boot.meas.set n (sha256 (s.boot.meas.get (List.replicate 32 0) n ++ sha256 x)) } }

/-- R375: read the entries and their sources. -/
def State.readPatches (s : State) (q : Nat) : List (List Byte) → FeRes (List Patch)
  | [] => .ok []
  | e :: es =>
    FeRes.need (patchOk e) 5 <| FeRes.need (bytesAt e 16 8 % 4 == 0) 2 <|
    (s.feRead q (bytesAt e 16 8) (bytesAt e 8 4)).bind fun bs => (s.readPatches q es).bind fun ps =>
      .ok ({ tile := bytesAt e 0 1, seg := bytesAt e 1 1, off := bytesAt e 4 4, data := bs } :: ps)

/-- R375: the delta record; a misaligned record ends the packet BADADDR. -/
def State.planDelta (s : State) (q va : Nat) : FeRes (Nat × List Patch × List Byte) :=
  FeRes.need (va % 32 == 0) 2 <| (s.feRead q va 32).bind fun h =>
  let n := bytesAt h 0 4
  FeRes.need (decide (1 ≤ n) && decide (n ≤ 64) && decide (bytesAt h 4 1 < 16) && bytesAt h 5 27 == 0) 5 <|
  (s.feRead q (va + 32) (32 * n)).bind fun es => (s.readPatches q (chunks 32 n es)).bind fun ps => .ok (bytesAt h 4 1, ps, h ++ es)

/-- R376: a plane of the segment holds the image. -/
def Plane.holds (p : Plane) (img : Nat) : Bool := p.valid && p.img == img

/-- R376 step 2: the segments of a tile to drain. -/
def State.deltaSegs (s : State) (t img : Nat) : List Nat :=
  [0, 1, 2, 3].filter fun g => (s.seg t g).active.holds img || (s.seg t g).shadow.holds img

/-- R376 steps 1 and 2: the slots stand still and the segments close. -/
def State.haltTile (s : State) (t img : Nat) : State :=
  let gs := s.deltaSegs t img
  let s := s.modTile t fun ti => { ti with halted := some gs }
  gs.foldl (fun s g => s.modSeg t g fun sg =>
    if sg.mode = 0 then { sg with mode := 1, drains := sg.drains ++ [{ open_ := false, op := 0 }] } else sg) s

/-- R376: the front end resolves a trap that no bound slot holds: its task has ended, or has no T trap entry. -/
def State.orphanTrap (s : State) (t g : Nat) : Bool :=
  match (s.seg t g).trapped with
  | none => false
  | some h => match (s.tile t).stepOf h.seq with
    | none => true
    | some p => match s.taskSlot p.owner with
      | none => true
      | some sl => (sl.task.trapEntry.find? 2).isNone

/-- R376: the trap of a segment is resolved, and never delivered. -/
def State.feDisc (s : State) (t g : Nat) : State :=
  let s := s.resolveTrap t g none
  { s with slots := s.slots.map fun (p : Nat × Slot) => (p.1, { p.2 with collarTraps := p.2.collarTraps.filter (· != 4 * t + g) }) }

/-- R376 steps 3 to 5 of a tile whose segments are empty: patches, reloads, and the slots go on. -/
def State.patchTile (s : State) (t img : Nat) (ps : List Patch) : State :=
  let gs := (s.tile t).halted.getD []
  let s := (ps.filter fun p => p.tile == t).foldl (fun s p => s.rawRun (imageAt t img p.seg + p.off) p.data) s
  let s := gs.foldl (fun s g =>
    let new := (s.loadPlane t img g).getD { valid := false, img := img }
    s.modSeg t g fun sg => { sg with active := if sg.active.holds img then new else sg.active,
                                     shadow := if sg.shadow.holds img then new else sg.shadow }) s
  s.unhalt t

/-- One turn of a delta: the state, and the wait that goes on, if any. -/
def State.deltaTurn (s : State) (ps : List Patch) (img : Nat) (tiles : List Nat) (since : Option Nat) : State × Option FeWait :=
  match tiles with
  | [] => (s, none)
  | t :: rest => match since with
    | none => (s.haltTile t img, some (.delta ps img tiles (some s.mtime.toNat)))
    | some n =>
      let gs := (s.tile t).halted.getD []
      match gs.find? fun g => s.orphanTrap t g with
      | some g => (s.feDisc t g, some (.delta ps img tiles (some n)))
      | none =>
        if gs.all fun g => (s.seg t g).mode == 2 then
          (s.patchTile t img ps, if rest.isEmpty then none else some (.delta ps img rest none))
        else (s, some (.delta ps img tiles (some n)))

/-- EMLAUNCH.CFG (R227, R375, R376): the descriptor and the delta are read and checked before a tile is touched; the launch opens
when every touched tile goes on. -/
def emlaunchCfgRes (s : State) (q : Nat) (p : Packet) (d : BitVec 5) (va dva : Nat) : FRes :=
  if p.launch.isSome then .stop s 5
  else match p.wait with
  | some (.delta ps img tiles since) => match s.deltaTurn ps img tiles since with
    | (t, some w) => .wait t w
    | (t, none) => emlaunchRes t q p d va
  | some .groups => emlaunchRes s q p d va
  | _ =>
    let s := (s.touchLaunch q va).feTouch q dva 32
    ((s.planLaunch q va).bind fun _ => s.planDelta q dva).to s fun r =>
      .wait (s.extend 3 r.2.2) (.delta r.2.1 r.1 ((List.range 64).filter fun t => r.2.1.any fun e => e.tile == t) none)

/-- EMLAUNCH_CFG (R376): Opens a launch after applying a configuration delta to touched tiles. -/
def execEmlaunchCfg (h : Grd) (d a b : BitVec 5) (s : State) : Out :=
  .next (s.frontWord h fun s q _ p v => emlaunchCfgRes s q p d (addr56 (v.reg a)) (addr56 (v.reg b)))

/-- CFG_TRAP_TIMEOUT (R376): segments of queue `unit`'s delta still TRAPPED 100 µs after step 1 began are resolved; a slot that runs
the handler of such a trap ends FAULTED. -/
def execCfgTrapTimeout (s : State) : Out :=
  .next (match ((s.hqueue s.inp.unit).cur.bind Packet.wait) with
    | some (.delta _ _ (t :: _) (some since)) =>
      if s.mtime.toNat < since + 100000 then s
      else ((s.tile t).halted.getD []).foldl (fun s g =>
        if (s.seg t g).trapped.isNone then s
        else
          let aux := (s.seg t g).trapped.bind fun h => if h.delivered then some (h.site + g * 256 + h.seq * 65536) else none
          let s := s.feDisc t g
          (List.range 8).foldl (fun s i =>
            let k := 8 * t + i
            let sl := s.slot k
            if sl.phase == .running && sl.trap.inHandler && sl.trap.cause == 26 && aux == some sl.trap.aux.toNat then
              s.setSlot k (sl.beginEnding .faulted)
            else s) s) s
    | _ => s)

/-! ## The life of a packet (R224, R359, R369) -/

/-- R359, R230, R443: the next packet may start: none that it waits for has still to retire. -/
def HQueue.mayStart (hq : HQueue) : Bool :=
  hq.state != 3 && hq.head != hq.tail && decide (hq.started.length < 64) && hq.started.all fun p => p.launch.isSome && !p.barrier

/-- The packet is read and checked (R369), and its program starts (R224); a queue without a program fails it ILLEGAL. -/
def State.readPacket (s : State) (q : Nat) (idx : Nat) : State :=
  let hq := s.hqueue q
  let va := hq.ring + idx % hq.size * 256
  let s := s.feTouch q va 256
  match s.feRead q va 256 with
  | .fault v c a => (s.feRecord q v c a).modPacket q fun p => { p with wait := some (.fault v) }
  | .stop st => s.endPacket q st
  | .hold => s
  | .ok bs =>
    let code := s.progs.get [] hq.prog
    let s := s.modPacket q fun p => { p with bytes := bs, code := code, wait := none }
    if bytesAt bs 0 8 ≠ idx ∨ code.isEmpty then s.endPacket q 5 else s

/-- PACKET_START (R369): the front end takes the next kicked packet of queue `unit`, or reads one again after service. -/
def execPacketStart (s : State) : Out :=
  .next (
    let q := s.inp.unit
    let hq := s.hqueue q
    match hq.cur with
    | some p => if p.bytes.isEmpty && p.ended.isNone && p.wait.isNone then s.readPacket q p.idx else s
    | none =>
      if hq.mayStart then
        (s.setHqueue q { hq with cur := some { idx := hq.head }, head := (hq.head + 1) % 2 ^ 32, state := 1 }).readPacket q hq.head
      else s)

/-- PACKET_BUDGET (R224): the 513th word is not run. -/
def execPacketBudget (s : State) : Out :=
  .next (
    let q := match s.cur with
      | .queue q => q
      | _ => s.inp.unit
    match (s.hqueue q).cur with
    | some p => if p.ended.isNone && p.wait.isNone && decide (512 ≤ p.words) then s.endPacket q 9 else s
    | none => s)

/-- R371: the word that a queue's program runs next. -/
def frontDecode (code : List Nat) (pc : Nat) : Option Instr :=
  let w := code.getD pc 0
  if decide (code.length ≤ pc) || (twoWordFront w && decide (code.length ≤ pc + 1)) then none
  else (decode .front w (code.getD (pc + 1) 0)).filter fun i : Instr => inProgram i pc code.length

/-- The word and the word after it at a packet's PC. -/
def Packet.fetch (p : Packet) : Nat × Nat := (p.code.getD p.prog.ctl.pc 0, p.code.getD (p.prog.ctl.pc + 1) 0)

/-- SIGWAIT_REREAD (R229): a changed signal is read again. -/
def execSigwaitReread (s : State) : Out :=
  let q := s.inp.unit
  match (s.hqueue q).cur with
  | some p =>
    let t := { s with cur := .queue q, fetched := p.fetch }
    match p.wait, frontDecode p.code p.prog.ctl.pc with
    | some (.signal _), some (.sigwaitLe h d a) => execSigwaitLe h d a t
    | some (.signal _), some (.sigwaitLt h d a) => execSigwaitLt h d a t
    | some (.signal _), some (.sigwaitEq h d a) => execSigwaitEq h d a t
    | some (.signal _), some (.sigwaitNe h d a) => execSigwaitNe h d a t
    | _, _ => .next s
  | none => .next s

/-- EMLAUNCH_GROUPS_FREE (R373): a suspended EMLAUNCH looks at its group entries again. -/
def execEmlaunchGroupsFree (s : State) : Out :=
  let q := s.inp.unit
  match (s.hqueue q).cur with
  | some p =>
    let t := { s with cur := .queue q, fetched := p.fetch }
    match p.wait, frontDecode p.code p.prog.ctl.pc with
    | some .groups, some (.emlaunch h d a) => execEmlaunch h d a t
    | some .groups, some (.emlaunchCfg h d a b) => execEmlaunchCfg h d a b t
    | _, _ => .next s
  | none => .next s

/-! ## Retirement (R359, R361, R370, R385) -/

/-- LAUNCH_RETIRE (R385): launch `id`, whose packet's program has ended and whose census is zero. -/
def execLaunchRetire (s : State) : Out :=
  .next (
    let n := s.inp.id
    match s.launches.find? n with
    | none => s
    | some l =>
      let done := (s.hqueue l.queue).started.any fun p => p.launch == some n
      if l.retired || l.census != 0 || !done then s
      else
        let s := if l.lines.isEmpty then s else s.writeChart l.asid (l.lines.foldl List.erase (s.rawChart l.asid))
        let s := { s with groups := s.groups.filter fun (g : Nat × Group) => g.2.launch != n }
        s.modLaunch n fun l => { l with retired := true })

/-- R370: the packet, or its launch, has been aborted. -/
def State.packetAborted (s : State) (p : Packet) : Bool :=
  decide (p.ended.getD 0 ≠ 0) || (match p.launch with
    | some n => (s.launch n).aborted.isSome
    | none => false)

/-- R370, R385: the status of a packet. -/
def State.packetStatus (s : State) (p : Packet) : Nat :=
  if p.ended.getD 0 ≠ 0 then p.ended.getD 0
  else match p.launch with
    | some n => (s.launch n).aborted.getD (s.launch n).status
    | none => 0

/-- R440: the COMPLETION payload. -/
def State.completion (s : State) (q : Nat) (p : Packet) (status : Nat) (applied : Bool) : List Byte :=
  let l := (p.launch.map s.launch).getD {}
  leBytes 2 q ++ leBytes 1 status ++ leBytes 1 (l.landed.toNat + 2 * applied.toNat) ++ leBytes 4 p.idx ++
    leBytes 8 ((p.comp.map fun c => c.2.2.toNat).getD 0) ++ leBytes 8 l.validity.toNat ++ leBytes 4 (p.launch.getD 0) ++ leBytes 4 0 ++
    leBytes 8 s.mtime.toNat ++ leBytes 8 0

/-- The packet is gone, and the host is told. -/
def State.retire (s : State) (q : Nat) (p : Packet) (status : Nat) (applied : Bool) : State :=
  let s := s.send 0 4 (s.completion q p status applied)
  let s := s.modHqueue q fun hq => { hq with started := hq.started.filter fun e => e.idx != p.idx }
  match p.launch with
  | some n => { s with launches := s.launches.del n }
  | none => s

def State.modStarted (s : State) (q idx : Nat) (f : Packet → Packet) : State :=
  s.modHqueue q fun hq => { hq with started := updateWhere (fun e : Packet => e.idx == idx) f hq.started }

/-- R230, R456: the completion add, and then the COMPLETION. -/
def State.addSignal (s : State) (q : Nat) (p : Packet) (va addend : Nat) : State :=
  let st := s.packetStatus p
  let s := s.feTouch q va 8
  let held := fun (s : State) v c a => (s.feRecord q v c a).modStarted q p.idx fun e => { e with addFault := some v }
  match s.feReach q .both va 8 with
  | .stop n => s.retire q p (if st = 0 then n else st) false
  | .fault v c a => held s v c a
  | .hold => s
  | .ok locs =>
    let a := locs.headD 0
    if isRemote a then
      match s.sendPacket 0 0 { word := 0, work := .spawn 0 0 } (some (.add64 addend)) 8 a (leBytes 8 addend) with
      | .ok t f => match f.packets with
        | pc :: _ => t.modStarted q p.idx fun e => { e with addSent := some (pc.node, pc.seq) }
        | [] => t
      | .fail _ => s.retire q p st false
      | _ => s
    else if locs.any s.marked then s.retire q p st false
    else match s.cairnFault locs with
      | some (_, v) => held s v fPermission 5
      | none =>
        let old := leNat (locs.map (Memory.read s.mem))
        (s.writeLocs (locs.zip (leBytes 8 (old + addend)))).retire q p st true

/-- The stream of a slot has nothing more to do than END. -/
def State.streamOver (s : State) (k x : Nat) (st : Stream) : Bool :=
  st.ended || (match decode .core (s.imemWord k st.ctl.pc) 0 with
    | some (.endStream h) => h.g == 0 && !h.n && !(s.slot k).trap.inHandler && x < 4
    | _ => false)

/-- R365: a launch that has nothing left to do: each item of its census is a task at its END or a command that waits for no service. -/
def State.closing (s : State) (n : Nat) : Bool :=
  let slots := s.slots.filter fun (p : Nat × Slot) => p.2.phase != .free && p.2.task.launch == n
  let jobs := s.jobs.filter fun (p : Nat × Job) => p.2.launch == n && p.2.mac.isSome
  (s.launch n).census == slots.length + jobs.length && (jobs.all fun p => p.2.susp.isNone) &&
    slots.all fun p => !p.2.broke && (p.2.phase == .ending || p.2.phase == .running && !p.2.streams.isEmpty && p.2.streams.all fun e => s.streamOver p.1 e.1 e.2)

/-- R365: the packet retires after the launches whose signal it went on by, as far as they have nothing left to do and their packets have
ended and heed no other launch. -/
def State.heedful (s : State) (p : Packet) : Bool := p.heeds.any fun n => (s.launches.find? n).any fun l =>
  ((s.hqueue l.queue).started.any fun e => e.launch == some n && e.heeds.isEmpty) && (l.retired || s.closing n)

/-- R359, R390: the packet may retire, as far as stream 0 has room. -/
def State.mayRetire (s : State) (q : Nat) (p : Packet) : Bool :=
  let hq := s.hqueue q
  p.addFault.isNone && p.addSent.isNone && !s.heedful p &&
    (match p.launch with
      | some n => (s.launch n).retired
      | none => true) &&
    (if hq.state = 3 then (hq.started.head?.map Packet.idx) == some p.idx
     else (hq.started.takeWhile fun e => e.idx != p.idx).all fun e => e.addFault.isNone)

/-- R439: stream 0 takes another COMPLETION. -/
def State.roomToRetire (s : State) : Bool := decide ((s.devOut.get {} 0).unacked.length < 65536)

/-- R439: the retirement that has waited longest for room, of those that may still go on. -/
def State.firstRetiring (s : State) : Option (Nat × Nat) :=
  s.retiring.find? fun e => (s.hqueue e.1).started.any fun p => p.idx == e.2 && s.mayRetire e.1 p

/-- PACKET_RETIRE (R359, R439): packet `id` of queue `unit`; without room on stream 0 its retirement waits its turn. -/
def execPacketRetire (s : State) : Out :=
  .next (
    let q := s.inp.unit
    match (s.hqueue q).started.find? fun p => p.idx == s.inp.id with
    | none => s
    | some p =>
      if !s.mayRetire q p then s
      else if !s.roomToRetire then (if s.retiring.contains (q, p.idx) then s else { s with retiring := s.retiring ++ [(q, p.idx)] })
      else if s.firstRetiring.any fun e => e != (q, p.idx) then s
      else
      let s := { s with retiring := s.retiring.filter fun e => e != (q, p.idx) }
      match p.comp with
        | some (none, _, _) => s.retire q p (s.packetStatus p) false
        | some (some va, addend, _) =>
          if p.noAdd || p.added then s.retire q p (s.packetStatus p) p.added
          else s.addSignal q p va (if s.packetAborted p then 2 ^ 64 - 2 ^ 31 else addend.toNat)
        | none => s.retire q p (s.packetStatus p) false)

/-! ## Loading a queue program (R371) -/

/-- R57: the word at a place of a program is the first of a pair. -/
def pairAt (code : List Nat) (pc : Nat) : Bool := twoWordFront (code.getD pc 0)

/-- R57: read word by word from `pc` on, the place `last` is the first word of a pair; the second word of one is none. -/
def pairEnds (code : List Nat) (last : Nat) : Nat → Nat → Bool
  | 0, _ => false
  | n + 1, pc =>
    if pc < last then pairEnds code last n (if pairAt code pc then pc + 2 else pc + 1) else pc == last && pairAt code pc

/-- R371, items 1, 2, 3, 5: the word is refused where it stands. -/
def loadWordBad (code : List Nat) (pc : Nat) : Bool :=
  match frontDecode code pc with
  | none => true
  | some i => flag (code.getD pc 0) 23 || (match i with
    | .jmpr .. => true
    | .br _ o => decide (o.toInt ≤ 0)
    | .call _ o => decide (o.toInt ≤ 0)
    | .loop _ _ l _ => pairEnds code (pc + l.toNat) (l.toNat + 1) (pc + 1)
    | .loopx _ _ l _ => pairEnds code (pc + l.toNat) (l.toNat + 1) (pc + 1)
    | .pkgetW _ _ n => decide (63 < n.toNat)
    | .pkgetD _ _ n => decide (31 < n.toNat)
    | .shdr _ _ n => decide (31 < n.toNat)
    | .shdw _ _ n => decide (31 < n.toNat)
    | _ => false)

/-- What a walk from a word on can meet, at each static call depth: whether its RET can leave the depth, and the first word
refused by item 4 or 6. -/
structure Walk where
  ret : Bool := false
  bad : Option Nat := none
  deriving DecidableEq, Repr

def Walk.or (a b : Walk) : Walk :=
  { ret := a.ret || b.ret, bad := match a.bad, b.bad with
      | some x, some y => some (min x y)
      | some x, none => some x
      | none, y => y }

/-- The walk from a word at depth `d`, by those from the words after it: `at_ n d` is the walk `n` words on at depth `d`. -/
def walkWord (code : List Nat) (pc d : Nat) (at_ : Nat → Nat → Walk) : Walk :=
  if loadWordBad code pc then { bad := some pc }
  else
    let w := code.getD pc 0
    let size := if pairAt code pc then 2 else 1
    let never := fld w 20 3 == 0 && flag w 19
    let always := fld w 20 3 == 0 && !flag w 19
    let next := at_ size d
    let fall := if always then {} else next
    if never then (match frontDecode code pc with
      | some (.loop _ _ l _) => at_ (1 + l.toNat) d
      | some (.loopx _ _ l _) => at_ (1 + l.toNat) d
      | _ => next)
    else match frontDecode code pc with
    | some (.br _ o) => (at_ o.toNat d).or fall
    | some (.call _ o) =>
      if d = 4 then Walk.or { bad := some pc } fall
      else
        let sub := at_ o.toNat (d + 1)
        (Walk.or { bad := sub.bad } (if sub.ret then next else {})).or fall
    | some (.ret _) => (if d = 0 then ({ bad := some pc } : Walk) else { ret := true }).or fall
    | some (.loop _ _ l _) => next.or (at_ (1 + l.toNat) d)
    | some (.loopx _ _ l _) => next.or (at_ (1 + l.toNat) d)
    | some (.endStream _) => fall
    | some (.abortPkt _) => fall
    | some (.abortQueue _) => fall
    | _ => next

/-- The walks of the last `n` words of a program, nearest first, each at the five depths. -/
def walks (code : List Nat) : Nat → List (List Walk)
  | 0 => []
  | n + 1 =>
    let rest := walks code n
    let at_ := fun m d => match m with
      | 0 => ({} : Walk)
      | m + 1 => match rest[m]? with
        | some l => l.getD d {}
        | none => { bad := some (code.length - 1) }
    (List.range 5).map (fun d => walkWord code (code.length - (n + 1)) d at_) :: rest

/-- The first refused word, read through word by word. -/
def loadScan (code : List Nat) : Nat → Nat → Option Nat
  | 0, _ => none
  | n + 1, pc =>
    if code.length ≤ pc then none
    else if loadWordBad code pc then some pc
    else loadScan code n (if pairAt code pc then pc + 2 else pc + 1)

/-- R371: the index of the first refused word of a program, none when it is accepted. -/
def loadCheck (code : List Nat) : Option Nat :=
  if code.isEmpty || decide (1024 < code.length) then some 0
  else (Walk.or { bad := loadScan code code.length 0 } (((walks code code.length).headD []).headD {})).bad

end Sys2Proof.Machine
end

