-- ==== Sys2Proof/Machine/Control.lean ====
section
/-! DEFINITION. Sys2Proof/Machine/Control.lean: the no-operation, stream end, transfers and hardware loops of the shared half
(R85-R98). -/

namespace Sys2Proof.Machine

/-- R96: a taken transfer at the last PC of an active loop of this depth raises the loop trap. -/
def transfer (v : View) (c : Ctl) (es : List PendEff) : SRes :=
  match v.ctl.loopEnding v.ctl.pc with
  | some l => .trap 3 (BitVec.ofNat 64 l.lc)
  | none => .jump c es

/-- R90: BR, and R96 on the loops it leaves. -/
def brRes (v : View) (o : BitVec 19) : SRes :=
  transfer v { v.ctl.leaveLoops (v.target o) with pc := v.target o } []

/-- R90: CALL pushes the word after it. -/
def callRes (v : View) (o : BitVec 19) : SRes :=
  if v.ctl.depth = 4 then .trap 2 0
  else transfer v { v.ctl with rs := v.ctl.rs.set v.ctl.depth (v.after 1), depth := v.ctl.depth + 1, pc := v.target o } []

/-- R90: RET pops. -/
def retRes (v : View) : SRes :=
  if v.ctl.depth = 0 then .trap 2 1
  else
    let n := v.ctl.depth - 1
    transfer v { v.ctl.returnLoops n with depth := n, pc := v.ctl.rs.get 0 n } []

/-- R90: JMPR takes bits 14:0 of s[a], read before s[d] is written. -/
def jmprRes (v : View) (d a : BitVec 5) : SRes :=
  let t := (v.reg a).toNat % 32768
  transfer v { v.ctl.leaveLoops t with pc := t } [.scalar d (BitVec.ofNat 64 (v.after 1))]

/-- R92: the iteration count. -/
def loopCount (v : View) (x : BitVec 8) : Nat :=
  if x.getLsbD 7 then (lo (v.reg (x.setWidth 5))).toNat else x.toNat % 128

/-- R94: LOOP and LOOPX under a true guard; a counter that a running handler's stream holds active counts as active. -/
def loopRes (v : View) (c : BitVec 2) (l : BitVec 9) (count : Nat) (isX : Bool) (g : BitVec 3) (n : Bool) : SRes :=
  let last := v.after l.toNat
  if (v.ctl.loops ++ v.held).any fun e => e.lc == c.toNat then .trap 3 (c.setWidth 64)
  else match v.ctl.loops.find? fun e => e.depth = v.ctl.depth ∧ e.holds v.ctl.pc with
    | some e => if e.rel last > e.rel e.last then .trap 3 (c.setWidth 64) else enter last
    | none => enter last
where
  enter (last : Nat) : SRes :=
    if count = 0 then .goto { v.ctl with counts := v.ctl.counts.set c.toNat 0, pc := v.after (1 + l.toNat) }
    else .goto { v.ctl with
      loops := { lc := c.toNat, count := count, start := v.after 1, last := last, depth := v.ctl.depth, x := isX, g := g, n := n } ::
        v.ctl.loops,
      pc := v.after 1 }

/-- NOP (R85): does nothing; with S set it takes part in a rendezvous. -/
def execNop (h : Hdr) (s : State) : Out := .next (s.runShared (.nop h) h 1 0 fun _ => .ok [])

/-- R86: the stream stops fetching and its loops are discarded (R96); the fourth end begins the task's end. -/
def Slot.endStream (sl : Slot) (x : Nat) : Slot :=
  let sl := sl.modStream x fun st => { st with ended := true, ctl := { st.ctl with loops := [] } }
  if [0, 1, 2, 3].all fun y => (sl.stream y).ended then sl.beginEnding .endOk else sl

/-- END (R86, R87): ends the stream, the copy command or the queue program's work on its packet. -/
def execEndStream (h : Hdr) (s : State) : Out :=
  .next (match s.cur with
    | .stream k x => s.issueStream k x (.endStream h) h.g h.n h.s 1 0 fun s _ => .stay (s.modSlot k fun sl => sl.endStream x)
    | _ => s.runEngine fun p bound =>
        if p.view.guard h.g h.n then (p, some 0) else p.run bound h.g h.n 1 0 fun _ => .ok [])

/-- BR (R90). -/
def execBr (h : Hdr) (o : BitVec 19) (s : State) : Out := .next (s.runShared (.br h o) h 1 0 fun v => brRes v o)
/-- CALL (R90). -/
def execCall (h : Hdr) (o : BitVec 19) (s : State) : Out := .next (s.runShared (.call h o) h 1 0 fun v => callRes v o)
/-- RET (R90). -/
def execRet (h : Hdr) (s : State) : Out := .next (s.runShared (.ret h) h 1 0 retRes)
/-- JMPR (R90, R91). -/
def execJmpr (h : Hdr) (d a : BitVec 5) (s : State) : Out := .next (s.runShared (.jmpr h d a) h 1 0 fun v => jmprRes v d a)
/-- LOOP (R94): a false guard skips the body. -/
def execLoop (h : Hdr) (c : BitVec 2) (l : BitVec 9) (x : BitVec 8) (s : State) : Out :=
  .next (s.runShared (.loop h c l x) h 1 l.toNat fun v => loopRes v c l (loopCount v x) false h.g h.n)
/-- LOOPX (R94, R95). -/
def execLoopx (h : Hdr) (c : BitVec 2) (l : BitVec 9) (x : BitVec 8) (s : State) : Out :=
  .next (s.runShared (.loopx h c l x) h 1 l.toNat fun v => loopRes v c l (loopCount v x) true h.g h.n)

end Sys2Proof.Machine
end

