-- ==== Sys2Proof/Machine/Scalar.lean ====
section
/-! DEFINITION. Sys2Proof/Machine/Scalar.lean: the arithmetic, compare, predicate, bit-field, multiply, divide and hint words
of the shared half (R99-R109). -/

namespace Sys2Proof.Machine

/-- R101: the innermost active loop at the current return-stack depth is in its last iteration. DESIGN CHOICE
(notes/assumptions/119.md): in a trap handler only the handler's own loops are looked at, none of those held (R234). -/
def agenLast (v : View) : Bool :=
  match v.ctl.loops.find? fun l => l.depth = v.ctl.depth with
  | some l => l.count == 1
  | none => false

/-- R108: a zero divisor traps with the dividend in TRAPAUX. -/
def divide (zero : Bool) (dividend : Word) (d : BitVec 5) (q : Word) : SRes :=
  if zero then .trap 4 dividend else .ok [.scalar d q]

/-- ADD (R99): 64-bit add of two scalars. -/
def execAdd (h : Hdr) (d a b : BitVec 5) (s : State) : Out :=
  .next (s.runShared (.add h d a b) h 1 0 fun v => .ok [.scalar d ((v.reg a) + (v.reg b))])

/-- ADD_W (R99): 32-bit add, sign-extended to 64 bits. -/
def execAddW (h : Hdr) (d a b : BitVec 5) (s : State) : Out :=
  .next (s.runShared (.addW h d a b) h 1 0 fun v => .ok [.scalar d (wr (lo (v.reg a) + lo (v.reg b)))])

/-- SUB (R99): 64-bit subtract. -/
def execSub (h : Hdr) (d a b : BitVec 5) (s : State) : Out :=
  .next (s.runShared (.sub h d a b) h 1 0 fun v => .ok [.scalar d ((v.reg a) - (v.reg b))])

/-- SUB_W (R99): 32-bit subtract, sign-extended to 64 bits. -/
def execSubW (h : Hdr) (d a b : BitVec 5) (s : State) : Out :=
  .next (s.runShared (.subW h d a b) h 1 0 fun v => .ok [.scalar d (wr (lo (v.reg a) - lo (v.reg b)))])

/-- ADDI (R99): Adds a sign-extended 9-bit immediate. -/
def execAddi (h : Hdr) (d a : BitVec 5) (i : BitVec 9) (s : State) : Out :=
  .next (s.runShared (.addi h d a i) h 1 0 fun v => .ok [.scalar d ((v.reg a) + imm9 i)])

/-- LUI (R100): Writes a sign-extended imm14 into bits 63:32 and keeps the low word of d. -/
def execLui (h : Hdr) (d : BitVec 5) (i : BitVec 14) (s : State) : Out :=
  .next (s.runShared (.lui h d i) h 1 0 fun v => .ok [.scalar d (luiVal (v.reg d) i)])

/-- LI32 (R99): Two-word load of a sign-extended 32-bit immediate. -/
def execLi32 (h : Hdr) (d : BitVec 5) (i : BitVec 32) (s : State) : Out :=
  .next (s.runShared (.li32 h d i) h 2 0 fun v => .ok [.scalar d (i.signExtend 64)])

/-- AND (R99): Bitwise AND of two scalars. -/
def execAnd (h : Hdr) (d a b : BitVec 5) (s : State) : Out :=
  .next (s.runShared (.and h d a b) h 1 0 fun v => .ok [.scalar d ((v.reg a) &&& (v.reg b))])

/-- OR (R99): Bitwise OR of two scalars. -/
def execOr (h : Hdr) (d a b : BitVec 5) (s : State) : Out :=
  .next (s.runShared (.or h d a b) h 1 0 fun v => .ok [.scalar d ((v.reg a) ||| (v.reg b))])

/-- XOR (R99): Bitwise XOR of two scalars. -/
def execXor (h : Hdr) (d a b : BitVec 5) (s : State) : Out :=
  .next (s.runShared (.xor h d a b) h 1 0 fun v => .ok [.scalar d ((v.reg a) ^^^ (v.reg b))])

/-- ANDI (R99): Bitwise AND with a sign-extended immediate. -/
def execAndi (h : Hdr) (d a : BitVec 5) (i : BitVec 9) (s : State) : Out :=
  .next (s.runShared (.andi h d a i) h 1 0 fun v => .ok [.scalar d ((v.reg a) &&& imm9 i)])

/-- ORI (R99): Bitwise OR with a sign-extended immediate. -/
def execOri (h : Hdr) (d a : BitVec 5) (i : BitVec 9) (s : State) : Out :=
  .next (s.runShared (.ori h d a i) h 1 0 fun v => .ok [.scalar d ((v.reg a) ||| imm9 i)])

/-- XORI (R99): Bitwise XOR with a sign-extended immediate. -/
def execXori (h : Hdr) (d a : BitVec 5) (i : BitVec 9) (s : State) : Out :=
  .next (s.runShared (.xori h d a i) h 1 0 fun v => .ok [.scalar d ((v.reg a) ^^^ imm9 i)])

/-- SHL (R99): 64-bit left shift by b[5:0]. -/
def execShl (h : Hdr) (d a b : BitVec 5) (s : State) : Out :=
  .next (s.runShared (.shl h d a b) h 1 0 fun v => .ok [.scalar d ((v.reg a) <<< sh6 (v.reg b))])

/-- SHL_W (R99): 32-bit left shift, sign-extended. -/
def execShlW (h : Hdr) (d a b : BitVec 5) (s : State) : Out :=
  .next (s.runShared (.shlW h d a b) h 1 0 fun v => .ok [.scalar d (wr (lo (v.reg a) <<< sh5 (v.reg b)))])

/-- SHR (R99): 64-bit logical right shift. -/
def execShr (h : Hdr) (d a b : BitVec 5) (s : State) : Out :=
  .next (s.runShared (.shr h d a b) h 1 0 fun v => .ok [.scalar d ((v.reg a) >>> sh6 (v.reg b))])

/-- SHR_W (R99): 32-bit logical right shift, sign-extended. -/
def execShrW (h : Hdr) (d a b : BitVec 5) (s : State) : Out :=
  .next (s.runShared (.shrW h d a b) h 1 0 fun v => .ok [.scalar d (wr (lo (v.reg a) >>> sh5 (v.reg b)))])

/-- SRA (R99): 64-bit arithmetic right shift. -/
def execSra (h : Hdr) (d a b : BitVec 5) (s : State) : Out :=
  .next (s.runShared (.sra h d a b) h 1 0 fun v => .ok [.scalar d ((v.reg a).sshiftRight (sh6 (v.reg b)))])

/-- SRA_W (R99): 32-bit arithmetic right shift, sign-extended. -/
def execSraW (h : Hdr) (d a b : BitVec 5) (s : State) : Out :=
  .next (s.runShared (.sraW h d a b) h 1 0 fun v => .ok [.scalar d (wr ((lo (v.reg a)).sshiftRight (sh5 (v.reg b))))])

/-- SHLI (R99): Left shift by an immediate of 0-63. -/
def execShli (h : Hdr) (d a : BitVec 5) (i : BitVec 6) (s : State) : Out :=
  .next (s.runShared (.shli h d a i) h 1 0 fun v => .ok [.scalar d ((v.reg a) <<< i.toNat)])

/-- SHRI (R99): Logical right shift by an immediate of 0-63. -/
def execShri (h : Hdr) (d a : BitVec 5) (i : BitVec 6) (s : State) : Out :=
  .next (s.runShared (.shri h d a i) h 1 0 fun v => .ok [.scalar d ((v.reg a) >>> i.toNat)])

/-- SRAI (R99): Arithmetic right shift by an immediate of 0-63. -/
def execSrai (h : Hdr) (d a : BitVec 5) (i : BitVec 6) (s : State) : Out :=
  .next (s.runShared (.srai h d a i) h 1 0 fun v => .ok [.scalar d ((v.reg a).sshiftRight i.toNat)])

/-- MIN (R99): Signed 64-bit minimum. -/
def execMin (h : Hdr) (d a b : BitVec 5) (s : State) : Out :=
  .next (s.runShared (.min h d a b) h 1 0 fun v => .ok [.scalar d (minS (v.reg a) (v.reg b))])

/-- MIN_W (R99): Signed 32-bit minimum, sign-extended. -/
def execMinW (h : Hdr) (d a b : BitVec 5) (s : State) : Out :=
  .next (s.runShared (.minW h d a b) h 1 0 fun v => .ok [.scalar d (wr (minS (lo (v.reg a)) (lo (v.reg b))))])

/-- MAX (R99): Signed 64-bit maximum. -/
def execMax (h : Hdr) (d a b : BitVec 5) (s : State) : Out :=
  .next (s.runShared (.max h d a b) h 1 0 fun v => .ok [.scalar d (maxS (v.reg a) (v.reg b))])

/-- MAX_W (R99): Signed 32-bit maximum, sign-extended. -/
def execMaxW (h : Hdr) (d a b : BitVec 5) (s : State) : Out :=
  .next (s.runShared (.maxW h d a b) h 1 0 fun v => .ok [.scalar d (wr (maxS (lo (v.reg a)) (lo (v.reg b))))])

/-- MINN (R99): Natural 64-bit minimum. -/
def execMinn (h : Hdr) (d a b : BitVec 5) (s : State) : Out :=
  .next (s.runShared (.minn h d a b) h 1 0 fun v => .ok [.scalar d (minU (v.reg a) (v.reg b))])

/-- MINN_W (R99): Natural 32-bit minimum, sign-extended. -/
def execMinnW (h : Hdr) (d a b : BitVec 5) (s : State) : Out :=
  .next (s.runShared (.minnW h d a b) h 1 0 fun v => .ok [.scalar d (wr (minU (lo (v.reg a)) (lo (v.reg b))))])

/-- MAXN (R99): Natural 64-bit maximum. -/
def execMaxn (h : Hdr) (d a b : BitVec 5) (s : State) : Out :=
  .next (s.runShared (.maxn h d a b) h 1 0 fun v => .ok [.scalar d (maxU (v.reg a) (v.reg b))])

/-- MAXN_W (R99): Natural 32-bit maximum, sign-extended. -/
def execMaxnW (h : Hdr) (d a b : BitVec 5) (s : State) : Out :=
  .next (s.runShared (.maxnW h d a b) h 1 0 fun v => .ok [.scalar d (wr (maxU (lo (v.reg a)) (lo (v.reg b))))])

/-- SEL (R99): Selects a or b by lane 0 of predicate pk. -/
def execSel (h : Hdr) (d a b : BitVec 5) (k : BitVec 3) (s : State) : Out :=
  .next (s.runShared (.sel h d a b k) h 1 0 fun v => .ok [.scalar d (if lane0 (v.pred k) then (v.reg a) else (v.reg b))])

/-- MOV (R99): Copies one scalar to another. -/
def execMov (h : Hdr) (d a : BitVec 5) (s : State) : Out :=
  .next (s.runShared (.mov h d a) h 1 0 fun v => .ok [.scalar d ((v.reg a))])

/-- ADDSH (R99): Adds b shifted left by 0-15 to a. -/
def execAddsh (h : Hdr) (d a b : BitVec 5) (t : BitVec 4) (s : State) : Out :=
  .next (s.runShared (.addsh h d a b t) h 1 0 fun v => .ok [.scalar d ((v.reg a) + ((v.reg b) <<< t.toNat))])

/-- CLZ (R99): Counts the leading zeros of a 64-bit scalar. -/
def execClz (h : Hdr) (d a : BitVec 5) (s : State) : Out :=
  .next (s.runShared (.clz h d a) h 1 0 fun v => .ok [.scalar d (BitVec.ofNat 64 (clz (v.reg a)))])

/-- CLZ_W (R99): Counts the leading zeros of the low 32 bits. -/
def execClzW (h : Hdr) (d a : BitVec 5) (s : State) : Out :=
  .next (s.runShared (.clzW h d a) h 1 0 fun v => .ok [.scalar d (BitVec.ofNat 64 (clz (lo (v.reg a))))])

/-- POPC (R99): Counts the one bits of a 64-bit scalar. -/
def execPopc (h : Hdr) (d a : BitVec 5) (s : State) : Out :=
  .next (s.runShared (.popc h d a) h 1 0 fun v => .ok [.scalar d (BitVec.ofNat 64 (popc (v.reg a)))])

/-- POPC_W (R99): Counts the one bits of the low 32 bits. -/
def execPopcW (h : Hdr) (d a : BitVec 5) (s : State) : Out :=
  .next (s.runShared (.popcW h d a) h 1 0 fun v => .ok [.scalar d (BitVec.ofNat 64 (popc (lo (v.reg a))))])

/-- AGEN2 (R101): Steps an address by a within a row, or by b on a loop's last iteration. -/
def execAgen2 (h : Hdr) (d a b : BitVec 5) (s : State) : Out :=
  .next (s.runShared (.agen2 h d a b) h 1 0 fun v => .ok [.scalar d ((v.reg d) + if agenLast v then (v.reg b) else (v.reg a))])

/-- CMP_EQ (R103): Compares for equality and writes a predicate pair by mode. -/
def execCmpEq (h : Hdr) (m : BitVec 2) (p : BitVec 3) (a b : BitVec 5) (e : BitVec 3) (s : State) : Out :=
  .next (s.runShared (.cmpEq h m p a b e) h 1 0 fun v => .ok (comparePreds v m p e (lanesOf (Cc.holds .eq (v.reg a) (v.reg b))) (BitVec.allOnes 128)))

/-- CMP_NE (R103): Compares for inequality and writes a predicate pair by mode. -/
def execCmpNe (h : Hdr) (m : BitVec 2) (p : BitVec 3) (a b : BitVec 5) (e : BitVec 3) (s : State) : Out :=
  .next (s.runShared (.cmpNe h m p a b e) h 1 0 fun v => .ok (comparePreds v m p e (lanesOf (Cc.holds .ne (v.reg a) (v.reg b))) (BitVec.allOnes 128)))

/-- CMP_LT (R103): Signed less-than compare into a predicate pair. -/
def execCmpLt (h : Hdr) (m : BitVec 2) (p : BitVec 3) (a b : BitVec 5) (e : BitVec 3) (s : State) : Out :=
  .next (s.runShared (.cmpLt h m p a b e) h 1 0 fun v => .ok (comparePreds v m p e (lanesOf (Cc.holds .lt (v.reg a) (v.reg b))) (BitVec.allOnes 128)))

/-- CMP_GE (R103): Signed greater-or-equal compare into a predicate pair. -/
def execCmpGe (h : Hdr) (m : BitVec 2) (p : BitVec 3) (a b : BitVec 5) (e : BitVec 3) (s : State) : Out :=
  .next (s.runShared (.cmpGe h m p a b e) h 1 0 fun v => .ok (comparePreds v m p e (lanesOf (Cc.holds .ge (v.reg a) (v.reg b))) (BitVec.allOnes 128)))

/-- CMP_LTN (R103): Natural less-than compare into a predicate pair. -/
def execCmpLtn (h : Hdr) (m : BitVec 2) (p : BitVec 3) (a b : BitVec 5) (e : BitVec 3) (s : State) : Out :=
  .next (s.runShared (.cmpLtn h m p a b e) h 1 0 fun v => .ok (comparePreds v m p e (lanesOf (Cc.holds .ltn (v.reg a) (v.reg b))) (BitVec.allOnes 128)))

/-- CMP_GEN (R103): Natural greater-or-equal compare into a predicate pair. -/
def execCmpGen (h : Hdr) (m : BitVec 2) (p : BitVec 3) (a b : BitVec 5) (e : BitVec 3) (s : State) : Out :=
  .next (s.runShared (.cmpGen h m p a b e) h 1 0 fun v => .ok (comparePreds v m p e (lanesOf (Cc.holds .gen (v.reg a) (v.reg b))) (BitVec.allOnes 128)))

/-- CMP_TST (R103): Tests whether a AND b is nonzero, into a predicate pair. -/
def execCmpTst (h : Hdr) (m : BitVec 2) (p : BitVec 3) (a b : BitVec 5) (e : BitVec 3) (s : State) : Out :=
  .next (s.runShared (.cmpTst h m p a b e) h 1 0 fun v => .ok (comparePreds v m p e (lanesOf (Cc.holds .tst (v.reg a) (v.reg b))) (BitVec.allOnes 128)))

/-- CMP_NTST (R103): Tests whether a AND b is zero, into a predicate pair. -/
def execCmpNtst (h : Hdr) (m : BitVec 2) (p : BitVec 3) (a b : BitVec 5) (e : BitVec 3) (s : State) : Out :=
  .next (s.runShared (.cmpNtst h m p a b e) h 1 0 fun v => .ok (comparePreds v m p e (lanesOf (Cc.holds .ntst (v.reg a) (v.reg b))) (BitVec.allOnes 128)))

/-- CMPI_EQ (R103): Compares for equality with a sign-extended imm6. -/
def execCmpiEq (h : Hdr) (m : BitVec 2) (p : BitVec 3) (a : BitVec 5) (i : BitVec 6) (e : BitVec 3) (s : State) : Out :=
  .next (s.runShared (.cmpiEq h m p a i e) h 1 0 fun v => .ok (comparePreds v m p e (lanesOf (Cc.holds .eq (v.reg a) (imm6 i))) (BitVec.allOnes 128)))

/-- CMPI_NE (R103): Compares for inequality with imm6. -/
def execCmpiNe (h : Hdr) (m : BitVec 2) (p : BitVec 3) (a : BitVec 5) (i : BitVec 6) (e : BitVec 3) (s : State) : Out :=
  .next (s.runShared (.cmpiNe h m p a i e) h 1 0 fun v => .ok (comparePreds v m p e (lanesOf (Cc.holds .ne (v.reg a) (imm6 i))) (BitVec.allOnes 128)))

/-- CMPI_LT (R103): Signed less-than compare with imm6. -/
def execCmpiLt (h : Hdr) (m : BitVec 2) (p : BitVec 3) (a : BitVec 5) (i : BitVec 6) (e : BitVec 3) (s : State) : Out :=
  .next (s.runShared (.cmpiLt h m p a i e) h 1 0 fun v => .ok (comparePreds v m p e (lanesOf (Cc.holds .lt (v.reg a) (imm6 i))) (BitVec.allOnes 128)))

/-- CMPI_GE (R103): Signed greater-or-equal compare with imm6. -/
def execCmpiGe (h : Hdr) (m : BitVec 2) (p : BitVec 3) (a : BitVec 5) (i : BitVec 6) (e : BitVec 3) (s : State) : Out :=
  .next (s.runShared (.cmpiGe h m p a i e) h 1 0 fun v => .ok (comparePreds v m p e (lanesOf (Cc.holds .ge (v.reg a) (imm6 i))) (BitVec.allOnes 128)))

/-- CMPI_LTN (R103): Natural less-than compare with the sign-extended imm6. -/
def execCmpiLtn (h : Hdr) (m : BitVec 2) (p : BitVec 3) (a : BitVec 5) (i : BitVec 6) (e : BitVec 3) (s : State) : Out :=
  .next (s.runShared (.cmpiLtn h m p a i e) h 1 0 fun v => .ok (comparePreds v m p e (lanesOf (Cc.holds .ltn (v.reg a) (imm6 i))) (BitVec.allOnes 128)))

/-- CMPI_GEN (R103): Natural greater-or-equal compare with the sign-extended imm6. -/
def execCmpiGen (h : Hdr) (m : BitVec 2) (p : BitVec 3) (a : BitVec 5) (i : BitVec 6) (e : BitVec 3) (s : State) : Out :=
  .next (s.runShared (.cmpiGen h m p a i e) h 1 0 fun v => .ok (comparePreds v m p e (lanesOf (Cc.holds .gen (v.reg a) (imm6 i))) (BitVec.allOnes 128)))

/-- CMPI_TST (R103): Tests a AND imm6 for nonzero. -/
def execCmpiTst (h : Hdr) (m : BitVec 2) (p : BitVec 3) (a : BitVec 5) (i : BitVec 6) (e : BitVec 3) (s : State) : Out :=
  .next (s.runShared (.cmpiTst h m p a i e) h 1 0 fun v => .ok (comparePreds v m p e (lanesOf (Cc.holds .tst (v.reg a) (imm6 i))) (BitVec.allOnes 128)))

/-- PAND (R104): Lane-wise AND of two predicates. -/
def execPand (h : Hdr) (p q r : BitVec 3) (s : State) : Out :=
  .next (s.runShared (.pand h p q r) h 1 0 fun v => .ok [.pred p (v.pred q &&& v.pred r) (BitVec.allOnes 128)])

/-- POR (R104): Lane-wise OR of two predicates. -/
def execPor (h : Hdr) (p q r : BitVec 3) (s : State) : Out :=
  .next (s.runShared (.por h p q r) h 1 0 fun v => .ok [.pred p (v.pred q ||| v.pred r) (BitVec.allOnes 128)])

/-- PXOR (R104): Lane-wise XOR of two predicates. -/
def execPxor (h : Hdr) (p q r : BitVec 3) (s : State) : Out :=
  .next (s.runShared (.pxor h p q r) h 1 0 fun v => .ok [.pred p (v.pred q ^^^ v.pred r) (BitVec.allOnes 128)])

/-- PNOT (R104): Lane-wise NOT of a predicate. -/
def execPnot (h : Hdr) (p q : BitVec 3) (s : State) : Out :=
  .next (s.runShared (.pnot h p q) h 1 0 fun v => .ok [.pred p (~~~ (v.pred q)) (BitVec.allOnes 128)])

/-- PMOV (R104): Copies a predicate. -/
def execPmov (h : Hdr) (p q : BitVec 3) (s : State) : Out :=
  .next (s.runShared (.pmov h p q) h 1 0 fun v => .ok [.pred p (v.pred q) (BitVec.allOnes 128)])

/-- PANDN (R104): Lane-wise pa AND NOT pb. -/
def execPandn (h : Hdr) (p q r : BitVec 3) (s : State) : Out :=
  .next (s.runShared (.pandn h p q r) h 1 0 fun v => .ok [.pred p (v.pred q &&& ~~~ (v.pred r)) (BitVec.allOnes 128)])

/-- BFX (R105): Extracts a sign-extended bit field. -/
def execBfx (h : Hdr) (d a b : BitVec 5) (s : State) : Out :=
  .next (s.runShared (.bfx h d a b) h 1 0 fun v => .ok [.scalar d (bfx (v.reg a) (v.reg b))])

/-- BFXN (R105): Extracts a zero-extended bit field. -/
def execBfxn (h : Hdr) (d a b : BitVec 5) (s : State) : Out :=
  .next (s.runShared (.bfxn h d a b) h 1 0 fun v => .ok [.scalar d (bfxn (v.reg a) (v.reg b))])

/-- BFI (R105): Inserts a bit field into d. -/
def execBfi (h : Hdr) (d a b : BitVec 5) (s : State) : Out :=
  .next (s.runShared (.bfi h d a b) h 1 0 fun v => .ok [.scalar d (bfi (v.reg d) (v.reg a) (v.reg b))])

/-- FSHR (R106): Two-word funnel shift right across a 128-bit pair. -/
def execFshr (h : Hdr) (d a b : BitVec 5) (r : Bool) (k : BitVec 6) (s : State) : Out :=
  .next (s.runShared (.fshr h d a b r k) h 2 0 fun v => .ok [.scalar d (funnel (v.reg b) (v.reg a) (if r then sh6 (v.reg (k.setWidth 5)) else k.toNat))])

/-- MUL (R107): Low 64 bits of a product. -/
def execMul (h : Hdr) (d a b : BitVec 5) (s : State) : Out :=
  .next (s.runShared (.mul h d a b) h 1 0 fun v => .ok [.scalar d ((v.reg a) * (v.reg b))])

/-- MUL_W (R107): 32-bit product, sign-extended. -/
def execMulW (h : Hdr) (d a b : BitVec 5) (s : State) : Out :=
  .next (s.runShared (.mulW h d a b) h 1 0 fun v => .ok [.scalar d (wr (lo (v.reg a) * lo (v.reg b)))])

/-- MULH (R107): High 64 bits of a signed product. -/
def execMulh (h : Hdr) (d a b : BitVec 5) (s : State) : Out :=
  .next (s.runShared (.mulh h d a b) h 1 0 fun v => .ok [.scalar d (mulHigh (v.reg a) (v.reg b))])

/-- MULHN (R107): High 64 bits of a natural product. -/
def execMulhn (h : Hdr) (d a b : BitVec 5) (s : State) : Out :=
  .next (s.runShared (.mulhn h d a b) h 1 0 fun v => .ok [.scalar d (mulHighN (v.reg a) (v.reg b))])

/-- DIV (R107): Signed 64-bit division; traps on a zero divisor. -/
def execDiv (h : Hdr) (d a b : BitVec 5) (s : State) : Out :=
  .next (s.runShared (.div h d a b) h 1 0 fun v => divide (v.reg b == 0) (v.reg a) d (divS (v.reg a) (v.reg b)))

/-- DIV_W (R107): Signed 32-bit division. -/
def execDivW (h : Hdr) (d a b : BitVec 5) (s : State) : Out :=
  .next (s.runShared (.divW h d a b) h 1 0 fun v => divide (lo (v.reg b) == 0) (wr (lo (v.reg a))) d (wr (divS (lo (v.reg a)) (lo (v.reg b)))))

/-- DIVN (R107): Natural 64-bit division. -/
def execDivn (h : Hdr) (d a b : BitVec 5) (s : State) : Out :=
  .next (s.runShared (.divn h d a b) h 1 0 fun v => divide (v.reg b == 0) (v.reg a) d ((v.reg a) / (v.reg b)))

/-- DIVN_W (R107): Natural 32-bit division. -/
def execDivnW (h : Hdr) (d a b : BitVec 5) (s : State) : Out :=
  .next (s.runShared (.divnW h d a b) h 1 0 fun v => divide (lo (v.reg b) == 0) (wr (lo (v.reg a))) d (wr ((lo (v.reg a)) / (lo (v.reg b)))))

/-- REM (R107): Signed 64-bit remainder. -/
def execRem (h : Hdr) (d a b : BitVec 5) (s : State) : Out :=
  .next (s.runShared (.rem h d a b) h 1 0 fun v => divide (v.reg b == 0) (v.reg a) d (remS (v.reg a) (v.reg b)))

/-- REM_W (R107): Signed 32-bit remainder. -/
def execRemW (h : Hdr) (d a b : BitVec 5) (s : State) : Out :=
  .next (s.runShared (.remW h d a b) h 1 0 fun v => divide (lo (v.reg b) == 0) (wr (lo (v.reg a))) d (wr (remS (lo (v.reg a)) (lo (v.reg b)))))

/-- REMN (R107): Natural 64-bit remainder. -/
def execRemn (h : Hdr) (d a b : BitVec 5) (s : State) : Out :=
  .next (s.runShared (.remn h d a b) h 1 0 fun v => divide (v.reg b == 0) (v.reg a) d ((v.reg a) % (v.reg b)))

/-- REMN_W (R107): Natural 32-bit remainder. -/
def execRemnW (h : Hdr) (d a b : BitVec 5) (s : State) : Out :=
  .next (s.runShared (.remnW h d a b) h 1 0 fun v => divide (lo (v.reg b) == 0) (wr (lo (v.reg a))) d (wr ((lo (v.reg a)) % (lo (v.reg b)))))

/-- PFD (R79): Hint that starts a hidden prefetch of a 64-byte granule. -/
def execPfd (h : Hdr) (d a : BitVec 5) (i : BitVec 9) (s : State) : Out :=
  .next (s.runShared (.pfd h d a i) h 1 0 fun _ => .ok [])

/-- PFI (R79): Hint that does nothing on the A5. -/
def execPfi (h : Hdr) (d a : BitVec 5) (i : BitVec 9) (s : State) : Out :=
  .next (s.runShared (.pfi h d a i) h 1 0 fun _ => .ok [])

/-- HINT2 (R79): Hint that does nothing on the A5. -/
def execHint2 (h : Hdr) (d a b : BitVec 5) (f : BitVec 4) (s : State) : Out :=
  .next (s.runShared (.hint2 h d a b f) h 1 0 fun _ => .ok [])

/-- HINT3 (R79): Hint that does nothing on the A5. -/
def execHint3 (h : Hdr) (d a b : BitVec 5) (f : BitVec 4) (s : State) : Out :=
  .next (s.runShared (.hint3 h d a b f) h 1 0 fun _ => .ok [])

/-- HINT4 (R79): Hint that does nothing on the A5. -/
def execHint4 (h : Hdr) (d a b : BitVec 5) (f : BitVec 4) (s : State) : Out :=
  .next (s.runShared (.hint4 h d a b f) h 1 0 fun _ => .ok [])

/-- HINT5 (R79): Hint that does nothing on the A5. -/
def execHint5 (h : Hdr) (d a b : BitVec 5) (f : BitVec 4) (s : State) : Out :=
  .next (s.runShared (.hint5 h d a b f) h 1 0 fun _ => .ok [])

/-- HINT6 (R79): Hint that does nothing on the A5. -/
def execHint6 (h : Hdr) (d a b : BitVec 5) (f : BitVec 4) (s : State) : Out :=
  .next (s.runShared (.hint6 h d a b f) h 1 0 fun _ => .ok [])

/-- HINT7 (R79): Hint that does nothing on the A5. -/
def execHint7 (h : Hdr) (d a b : BitVec 5) (f : BitVec 4) (s : State) : Out :=
  .next (s.runShared (.hint7 h d a b f) h 1 0 fun _ => .ok [])

end Sys2Proof.Machine
end

