-- ==== Sys2Proof/Machine/Vector.lean ====
section
/-! DEFINITION. Sys2Proof/Machine/Vector.lean: the vector unit (R122-R140): elements and lanes, the operations on one element,
and the words. -/

namespace Sys2Proof.Machine

/-! ## Elements (R122, R123) -/

/-- Elements of an entry. -/
def elems (t : BitVec 4) : Nat := 128 / strideOf t
/-- Element `i` of `b` bytes. -/
def elem (b : Nat) (e : Entry) (i : Nat) : Nat := e.toNat / 2 ^ (8 * b * i) % 2 ^ (8 * b)
/-- Bits of an element. -/
def width (t : BitVec 4) : Nat := 8 * strideOf t
/-- R60: the signed integer types. -/
def signedType (t : BitVec 4) : Bool := decide (4 ≤ t.toNat) && decide (t.toNat ≤ 6)
/-- R60: the wide format of a float type. -/
def wfmt (t : BitVec 4) : WFmt := if t = 0 then fp32 else if t = 1 then bf16 else fp16

/-- R123: an element is governed by the lowest lane it covers. -/
def activeElem (stride : Nat) (m : Lanes) (i : Nat) : Bool := m.getLsbD (i * stride)

/-- What a vector word computes: the entry it pushes, and the flags of each element (R127), with the element index an
enabled flag is reported at (R128, R139). -/
structure VRes where
  entry : Entry
  flags : List (Nat × BitVec 5)

/-- An entry from its elements' codes. -/
def packElems (b : Nat) (l : List Nat) : Entry :=
  BitVec.ofNat 1024 (l.foldr (fun c acc => c % 2 ^ (8 * b) + 2 ^ (8 * b) * acc) 0)

/-- R126: active elements take the result, the others the merge value. -/
def vecMap (t : BitVec 4) (m : Lanes) (merge : Entry) (f : Nat → Nat × BitVec 5) : VRes :=
  let b := strideOf t
  let r := (List.range (elems t)).map fun i => if activeElem b m i then f i else (elem b merge i, 0)
  { entry := packElems b (r.map Prod.fst), flags := r.zipIdx.map fun p => (p.2, p.1.2) }

/-- R137: VSEL. -/
def vecSelect (t : BitVec 4) (m : Lanes) (a c : Entry) : VRes :=
  let b := strideOf t
  { entry := packElems b ((List.range (elems t)).map fun i => if activeElem b m i then elem b a i else elem b c i), flags := [] }

/-! ## One element (R130-R135) -/

def exactInt (t : BitVec 4) (c : Nat) : Int := fromCode (signedType t) (width t) c
def wrapInt (t : BitVec 4) (v : Int) : Nat × BitVec 5 := (toCode (width t) v, 0)
/-- R128: a `.SAT` variant clamps the exact result. -/
def clampInt (t : BitVec 4) (v : Int) : Nat × BitVec 5 :=
  (toCode (width t) (max (intMin (signedType t) (width t)) (min (intMax (signedType t) (width t)) v)), 0)

def addElem (t : BitVec 4) (rm : Rnd) (x y : Nat) : Nat × BitVec 5 :=
  if vecF t then (wfmt t).addVal rm ((wfmt t).read x) ((wfmt t).read y) else wrapInt t (exactInt t x + exactInt t y)
def addSatElem (t : BitVec 4) (_ : Rnd) (x y : Nat) : Nat × BitVec 5 := clampInt t (exactInt t x + exactInt t y)
def subElem (t : BitVec 4) (rm : Rnd) (x y : Nat) : Nat × BitVec 5 :=
  if vecF t then (wfmt t).addVal rm ((wfmt t).read x) ((wfmt t).read y).neg else wrapInt t (exactInt t x - exactInt t y)
def subSatElem (t : BitVec 4) (_ : Rnd) (x y : Nat) : Nat × BitVec 5 := clampInt t (exactInt t x - exactInt t y)
def mulElem (t : BitVec 4) (rm : Rnd) (x y : Nat) : Nat × BitVec 5 :=
  if vecF t then (wfmt t).mul rm ((wfmt t).read x) ((wfmt t).read y) else wrapInt t (exactInt t x * exactInt t y)
def mulHiElem (t : BitVec 4) (_ : Rnd) (x y : Nat) : Nat × BitVec 5 :=
  wrapInt t (exactInt t x * exactInt t y / 2 ^ width t)
def minElem (t : BitVec 4) (_ : Rnd) (x y : Nat) : Nat × BitVec 5 :=
  if vecF t then ((wfmt t).minNum x y, 0) else (if exactInt t y < exactInt t x then y else x, 0)
def maxElem (t : BitVec 4) (_ : Rnd) (x y : Nat) : Nat × BitVec 5 :=
  if vecF t then ((wfmt t).maxNum x y, 0) else (if exactInt t x < exactInt t y then y else x, 0)
def fmaElem (t : BitVec 4) (rm : Rnd) (a b c : Nat) : Nat × BitVec 5 :=
  (wfmt t).fma rm ((wfmt t).read a) ((wfmt t).read b) ((wfmt t).read c)
def fmsElem (t : BitVec 4) (rm : Rnd) (a b c : Nat) : Nat × BitVec 5 :=
  (wfmt t).fma rm ((wfmt t).read a) ((wfmt t).read b) ((wfmt t).read c).neg
def fnmaElem (t : BitVec 4) (rm : Rnd) (a b c : Nat) : Nat × BitVec 5 :=
  (wfmt t).fma rm ((wfmt t).read a).neg ((wfmt t).read b) ((wfmt t).read c)
def madElem (t : BitVec 4) (_ : Rnd) (a b c : Nat) : Nat × BitVec 5 :=
  wrapInt t (exactInt t c + exactInt t a * exactInt t b)
def absElem (t : BitVec 4) (_ : Rnd) (x : Nat) : Nat × BitVec 5 :=
  if vecF t then (if ((wfmt t).read x).isNan then (wfmt t).nanCode else x % 2 ^ (width t - 1), 0)
  else if signedType t then wrapInt t (if exactInt t x < 0 then -exactInt t x else exactInt t x) else (x, 0)
def negElem (t : BitVec 4) (_ : Rnd) (x : Nat) : Nat × BitVec 5 :=
  if vecF t then
    (if ((wfmt t).read x).isNan then (wfmt t).nanCode
     else if x < 2 ^ (width t - 1) then x + 2 ^ (width t - 1) else x - 2 ^ (width t - 1), 0)
  else wrapInt t (-exactInt t x)
def rcpElem (t : BitVec 4) (rm : Rnd) (x : Nat) : Nat × BitVec 5 := (wfmt t).recip rm x
def rsqElem (t : BitVec 4) (rm : Rnd) (x : Nat) : Nat × BitVec 5 := (wfmt t).rsqrt rm x
def popcElem (t : BitVec 4) (_ : Rnd) (x : Nat) : Nat × BitVec 5 := (popc (BitVec.ofNat (width t) x), 0)
def sclElem (t : BitVec 4) (rm : Rnd) (x : Nat) (k : Int) : Nat × BitVec 5 := (wfmt t).scale rm x k
def shlElem (t : BitVec 4) (_ : Rnd) (x k : Nat) : Nat × BitVec 5 :=
  (if k < width t then x * 2 ^ k % 2 ^ width t else 0, 0)
def shrElem (t : BitVec 4) (_ : Rnd) (x k : Nat) : Nat × BitVec 5 := (if k < width t then x / 2 ^ k else 0, 0)
def sraElem (t : BitVec 4) (_ : Rnd) (x k : Nat) : Nat × BitVec 5 :=
  (((BitVec.ofNat (width t) x).sshiftRight (min k (width t))).toNat, 0)

/-! ## Reduction (R139) -/

inductive RedOp where
  | add | min | max | and | or | xor
  deriving DecidableEq, Repr

/-- R139: the value an inactive element stands for. -/
def RedOp.identity (o : RedOp) (t : BitVec 4) : Nat :=
  match o with
  | .add => if vecF t then (wfmt t).zeroCode true else 0
  | .min => if vecF t then (wfmt t).nanCode else toCode (width t) (intMax (signedType t) (width t))
  | .max => if vecF t then (wfmt t).nanCode else toCode (width t) (intMin (signedType t) (width t))
  | .and => 2 ^ width t - 1
  | .or => 0
  | .xor => 0

def RedOp.apply (o : RedOp) (t : BitVec 4) (rm : Rnd) (x y : Nat) : Nat × BitVec 5 :=
  match o with
  | .add => addElem t rm x y
  | .min => minElem t rm x y
  | .max => maxElem t rm x y
  | .and => (x &&& y, 0)
  | .or => (x ||| y, 0)
  | .xor => (x ^^^ y, 0)

/-- One level of the tree: neighbours in pairs. -/
def redLevel (o : RedOp) (t : BitVec 4) (rm : Rnd) : List Nat → List (Nat × BitVec 5)
  | x :: y :: l => o.apply t rm x y :: redLevel o t rm l
  | _ => []

/-- R139: the pairwise tree; an addition made while `m` values remain stands for input element `2j × n / m`. -/
def redTree (o : RedOp) (t : BitVec 4) (rm : Rnd) (n : Nat) : Nat → List Nat → List (Nat × BitVec 5) → Nat × List (Nat × BitVec 5)
  | 0, l, fl => (l.headD 0, fl)
  | fuel + 1, l, fl =>
    match l with
    | [v] => (v, fl)
    | _ =>
      let r := redLevel o t rm l
      redTree o t rm n fuel (r.map Prod.fst) (fl ++ r.zipIdx.map fun p => (2 * p.2 * n / l.length, p.1.2))

def vecReduce (t : BitVec 4) (m : Lanes) (rm : Rnd) (o : RedOp) (a : Entry) : VRes :=
  let b := strideOf t
  let l := (List.range (elems t)).map fun i => if activeElem b m i then elem b a i else o.identity t
  let r := redTree o t rm (elems t) 8 l []
  { entry := packElems b [r.1], flags := r.2 }

/-! ## Issue of a vector word -/

/-- The entries a word reads, in the order qa, qb, qd (R124). -/
def Slot.sources (sl : Slot) (u : Uses) : List Entry :=
  u.q.map fun o => match (sl.queue o.1)[o.2.1]? with
    | some p => p.val.getD 0
    | none => 0

def src (e : List Entry) (i : Nat) : Entry := e.getD i 0

def orFlags (l : List (Nat × BitVec 5)) : BitVec 5 := l.foldl (fun a p => a ||| p.2) 0

/-- R128: the lowest element index that raised an enabled flag. -/
def lowestEnabled (te : BitVec 5) (l : List (Nat × BitVec 5)) : Nat :=
  (l.filter fun p => p.2 &&& te != 0).foldl (fun a p => min a p.1) 127

/-- R128: TRAPAUX of the floating-point trap. -/
def fpAux (te : BitVec 5) (l : List (Nat × BitVec 5)) : Word :=
  BitVec.ofNat 64 (lowestEnabled te l * 256 + (orFlags l).toNat)

/-- R128: a word whose enabled flag is raised has no effect and traps late. -/
def fpTrap (k x : Nat) (s : State) (i : Instr) (l : List (Nat × BitVec 5)) : WRes :=
  .done (s.lateTrap k x (latencyOf i) 10 (fpAux (trapEnables (s.slot k).fpcsr) l))

/-- R124-R128: a word that pushes: it pops its sources, reserves a place in `q` and its entry and flags land there. -/
def vecPush (k x : Nat) (s : State) (i : Instr) (q : Nat) (f : Rnd → List Entry → VRes) : WRes :=
  let sl := s.slot k
  let u := usesOf i
  let r := f (rmode sl.fpcsr) (sl.sources u)
  if orFlags r.flags &&& trapEnables sl.fpcsr != 0 then fpTrap k x s i r.flags
  else
    let sl := sl.popAll u.q
    let pl : QPlace := { op := s.nextId, val := none, due := s.queueDue k (latencyOf i) }
    let t := { s with nextId := s.nextId + 1 }.setSlot k (sl.setQueue q (sl.queue q ++ [pl]))
    .done (t.commit k x (latencyOf i) [.entry q s.nextId r.entry (orFlags r.flags)])

/-! ## Compare (R136) -/

inductive VCc where
  | eq | ne | lt | le | gt | ge | un | ord
  deriving DecidableEq, Repr

/-- R136: the condition and its IV flag. -/
def VCc.holds (c : VCc) (t : BitVec 4) (x y : Nat) : Bool × BitVec 5 :=
  if vecF t then
    let a := (wfmt t).read x
    let b := (wfmt t).read y
    let un := a.isNan || b.isNan
    let iv : BitVec 5 := if un then flagIV else 0
    match c with
    | .eq => (!un && a.eqv b, 0)
    | .ne => (un || !a.eqv b, 0)
    | .lt => (!un && a.lt b, iv)
    | .le => (!un && (a.lt b || a.eqv b), iv)
    | .gt => (!un && b.lt a, iv)
    | .ge => (!un && (b.lt a || a.eqv b), iv)
    | .un => (un, 0)
    | .ord => (!un, 0)
  else
    let a := exactInt t x
    let b := exactInt t y
    match c with
    | .eq => (a == b, 0)
    | .ne => (a != b, 0)
    | .lt => (decide (a < b), 0)
    | .le => (decide (a ≤ b), 0)
    | .gt => (decide (b < a), 0)
    | .ge => (decide (b ≤ a), 0)
    | .un => (false, 0)
    | .ord => (true, 0)

/-- Every lane an element covers, for the elements chosen. -/
def elemLanes (stride : Nat) (p : Nat → Bool) : Lanes :=
  BitVec.ofNat 128 ((List.range (128 / stride)).foldr
    (fun i acc => (if p i then (2 ^ stride - 1) * 2 ^ (stride * i) else 0) + acc) 0)

/-- R136: VCMP writes the lanes of the active elements of its predicate pair. -/
def vecCompare (k x : Nat) (s : State) (v : View) (i : Instr) (pk m : BitVec 2) (lanes : Lanes) (t : BitVec 4) (c : VCc) : WRes :=
  let sl := s.slot k
  let u := usesOf i
  let b := strideOf t
  let e := sl.sources u
  let r := (List.range (elems t)).map fun j =>
    if activeElem b lanes j then c.holds t (elem b (src e 0) j) (elem b (src e 1) j) else (false, 0)
  let fl := r.zipIdx.map fun p => (p.2, p.1.2)
  if orFlags fl &&& trapEnables sl.fpcsr != 0 then fpTrap k x s i fl
  else
    let cv := elemLanes b fun j => ((r[j]?).getD (false, 0)).1
    let mask := elemLanes b (activeElem b lanes)
    let t := s.setSlot k (sl.popAll u.q)
    .done (t.commit k x (latencyOf i)
      (comparePreds v m (vcmpFirst pk) (vcmpSecond pk) cv mask ++ [.flags (orFlags fl)]))

/-! ## Conversion (R138) -/

/-- One element from type `ts` to type `td`, through the format register where one is narrow. -/
def convElem (rm : Rnd) (f : NFmt) (ts td : BitVec 4) (c : Nat) : Nat × BitVec 5 :=
  let val : FVal := if vecNF ts then f.read c else if vecF ts then (wfmt ts).read c
    else .num (decide (exactInt ts c < 0)) (exactInt ts c).natAbs 0
  if vecNF td then ((f.write val).code, (f.write val).flags)
  else if vecF td then (wfmt td).write rm val
  else if vecI ts then wrapInt td (exactInt ts c)
  else intWrite rm (signedType td) (width td) val

/-- R73, R271: the word or words at hand, as TRAPAUX holds them. -/
def wordsAux (w : Nat × Nat) : Word := BitVec.ofNat 64 (w.1 + w.2 * 4294967296)

def vecConvert (k x : Nat) (s : State) (i : Instr) (q : Nat) (ts td f : BitVec 4) (m : Lanes) : WRes :=
  let reg := (s.tile (tileOf k)).fmt.get 0 f.toNat
  if (vecNF ts || vecNF td) && !fmtOk reg then .trap 1 (wordsAux s.fetched)
  else
    let fm := NFmt.of reg
    let big := max (strideOf ts) (strideOf td)
    vecPush k x s i q fun rm e =>
      let r := (List.range (128 / big)).map fun j =>
        if activeElem big m j then convElem rm fm ts td (elem (strideOf ts) (src e 0) j) else (0, 0)
      { entry := packElems (strideOf td) (r.map Prod.fst), flags := r.zipIdx.map fun p => (p.2, p.1.2) }

/-! ## The words -/

/-- VADD (R130): Element-wise vector add. -/
def execVadd (h : Hdr) (d a b t : BitVec 4) (y x : Bool) (s : State) : Out :=
  .next (s.issueCore (.vadd h d a b t y x) h 1 fun kk xx s v => vecPush kk xx s (.vadd h d a b t y x) d.toNat fun rm e => vecMap t (v.lanes h.g h.n) (src e 0) fun j => addElem t rm (elem (strideOf t) (src e 0) j) (elem (strideOf t) (src e 1) j))

/-- VADD_SAT (R130): Element-wise saturating integer add. -/
def execVaddSat (h : Hdr) (d a b t : BitVec 4) (y x : Bool) (s : State) : Out :=
  .next (s.issueCore (.vaddSat h d a b t y x) h 1 fun kk xx s v => vecPush kk xx s (.vaddSat h d a b t y x) d.toNat fun rm e => vecMap t (v.lanes h.g h.n) (src e 0) fun j => addSatElem t rm (elem (strideOf t) (src e 0) j) (elem (strideOf t) (src e 1) j))

/-- VSUB (R130): Element-wise vector subtract. -/
def execVsub (h : Hdr) (d a b t : BitVec 4) (y x : Bool) (s : State) : Out :=
  .next (s.issueCore (.vsub h d a b t y x) h 1 fun kk xx s v => vecPush kk xx s (.vsub h d a b t y x) d.toNat fun rm e => vecMap t (v.lanes h.g h.n) (src e 0) fun j => subElem t rm (elem (strideOf t) (src e 0) j) (elem (strideOf t) (src e 1) j))

/-- VSUB_SAT (R130): Element-wise saturating integer subtract. -/
def execVsubSat (h : Hdr) (d a b t : BitVec 4) (y x : Bool) (s : State) : Out :=
  .next (s.issueCore (.vsubSat h d a b t y x) h 1 fun kk xx s v => vecPush kk xx s (.vsubSat h d a b t y x) d.toNat fun rm e => vecMap t (v.lanes h.g h.n) (src e 0) fun j => subSatElem t rm (elem (strideOf t) (src e 0) j) (elem (strideOf t) (src e 1) j))

/-- VMUL (R130): Element-wise vector multiply. -/
def execVmul (h : Hdr) (d a b t : BitVec 4) (y x : Bool) (s : State) : Out :=
  .next (s.issueCore (.vmul h d a b t y x) h 1 fun kk xx s v => vecPush kk xx s (.vmul h d a b t y x) d.toNat fun rm e => vecMap t (v.lanes h.g h.n) (src e 0) fun j => mulElem t rm (elem (strideOf t) (src e 0) j) (elem (strideOf t) (src e 1) j))

/-- VMUL_HI (R130): High half of element-wise integer products. -/
def execVmulHi (h : Hdr) (d a b t : BitVec 4) (y x : Bool) (s : State) : Out :=
  .next (s.issueCore (.vmulHi h d a b t y x) h 1 fun kk xx s v => vecPush kk xx s (.vmulHi h d a b t y x) d.toNat fun rm e => vecMap t (v.lanes h.g h.n) (src e 0) fun j => mulHiElem t rm (elem (strideOf t) (src e 0) j) (elem (strideOf t) (src e 1) j))

/-- VMIN (R130): Element-wise minimum. -/
def execVmin (h : Hdr) (d a b t : BitVec 4) (y x : Bool) (s : State) : Out :=
  .next (s.issueCore (.vmin h d a b t y x) h 1 fun kk xx s v => vecPush kk xx s (.vmin h d a b t y x) d.toNat fun rm e => vecMap t (v.lanes h.g h.n) (src e 0) fun j => minElem t rm (elem (strideOf t) (src e 0) j) (elem (strideOf t) (src e 1) j))

/-- VMAX (R130): Element-wise maximum. -/
def execVmax (h : Hdr) (d a b t : BitVec 4) (y x : Bool) (s : State) : Out :=
  .next (s.issueCore (.vmax h d a b t y x) h 1 fun kk xx s v => vecPush kk xx s (.vmax h d a b t y x) d.toNat fun rm e => vecMap t (v.lanes h.g h.n) (src e 0) fun j => maxElem t rm (elem (strideOf t) (src e 0) j) (elem (strideOf t) (src e 1) j))

/-- VFMA (R131): Fused multiply-add with the accumulator from qd. -/
def execVfma (h : Hdr) (d a b t : BitVec 4) (y x : Bool) (s : State) : Out :=
  .next (s.issueCore (.vfma h d a b t y x) h 1 fun kk xx s v => vecPush kk xx s (.vfma h d a b t y x) d.toNat fun rm e => vecMap t (v.lanes h.g h.n) (src e 2) fun j => fmaElem t rm (elem (strideOf t) (src e 0) j) (elem (strideOf t) (src e 1) j) (elem (strideOf t) (src e 2) j))

/-- VFMS (R131): Fused multiply-subtract. -/
def execVfms (h : Hdr) (d a b t : BitVec 4) (y x : Bool) (s : State) : Out :=
  .next (s.issueCore (.vfms h d a b t y x) h 1 fun kk xx s v => vecPush kk xx s (.vfms h d a b t y x) d.toNat fun rm e => vecMap t (v.lanes h.g h.n) (src e 2) fun j => fmsElem t rm (elem (strideOf t) (src e 0) j) (elem (strideOf t) (src e 1) j) (elem (strideOf t) (src e 2) j))

/-- VFNMA (R131): Fused negated multiply-add c - a*b. -/
def execVfnma (h : Hdr) (d a b t : BitVec 4) (y x : Bool) (s : State) : Out :=
  .next (s.issueCore (.vfnma h d a b t y x) h 1 fun kk xx s v => vecPush kk xx s (.vfnma h d a b t y x) d.toNat fun rm e => vecMap t (v.lanes h.g h.n) (src e 2) fun j => fnmaElem t rm (elem (strideOf t) (src e 0) j) (elem (strideOf t) (src e 1) j) (elem (strideOf t) (src e 2) j))

/-- VMAD (R131): Integer multiply-add with the accumulator from qd. -/
def execVmad (h : Hdr) (d a b t : BitVec 4) (y x : Bool) (s : State) : Out :=
  .next (s.issueCore (.vmad h d a b t y x) h 1 fun kk xx s v => vecPush kk xx s (.vmad h d a b t y x) d.toNat fun rm e => vecMap t (v.lanes h.g h.n) (src e 2) fun j => madElem t rm (elem (strideOf t) (src e 0) j) (elem (strideOf t) (src e 1) j) (elem (strideOf t) (src e 2) j))

/-- VABS (R132): Element-wise absolute value. -/
def execVabs (h : Hdr) (d a t : BitVec 4) (x : Bool) (s : State) : Out :=
  .next (s.issueCore (.vabs h d a t x) h 1 fun kk xx s v => vecPush kk xx s (.vabs h d a t x) d.toNat fun rm e => vecMap t (v.lanes h.g h.n) (src e 0) fun j => absElem t rm (elem (strideOf t) (src e 0) j))

/-- VNEG (R132): Element-wise negation. -/
def execVneg (h : Hdr) (d a t : BitVec 4) (x : Bool) (s : State) : Out :=
  .next (s.issueCore (.vneg h d a t x) h 1 fun kk xx s v => vecPush kk xx s (.vneg h d a t x) d.toNat fun rm e => vecMap t (v.lanes h.g h.n) (src e 0) fun j => negElem t rm (elem (strideOf t) (src e 0) j))

/-- VRCP (R134): Element-wise correctly rounded reciprocal. -/
def execVrcp (h : Hdr) (d a t : BitVec 4) (x : Bool) (s : State) : Out :=
  .next (s.issueCore (.vrcp h d a t x) h 1 fun kk xx s v => vecPush kk xx s (.vrcp h d a t x) d.toNat fun rm e => vecMap t (v.lanes h.g h.n) (src e 0) fun j => rcpElem t rm (elem (strideOf t) (src e 0) j))

/-- VRSQ (R134): Element-wise reciprocal square root. -/
def execVrsq (h : Hdr) (d a t : BitVec 4) (x : Bool) (s : State) : Out :=
  .next (s.issueCore (.vrsq h d a t x) h 1 fun kk xx s v => vecPush kk xx s (.vrsq h d a t x) d.toNat fun rm e => vecMap t (v.lanes h.g h.n) (src e 0) fun j => rsqElem t rm (elem (strideOf t) (src e 0) j))

/-- VPOPC (R135): Element-wise population count. -/
def execVpopc (h : Hdr) (d a t : BitVec 4) (x : Bool) (s : State) : Out :=
  .next (s.issueCore (.vpopc h d a t x) h 1 fun kk xx s v => vecPush kk xx s (.vpopc h d a t x) d.toNat fun rm e => vecMap t (v.lanes h.g h.n) (src e 0) fun j => popcElem t rm (elem (strideOf t) (src e 0) j))

/-- VMOVQ (R135): Copies qa to qd. -/
def execVmovq (h : Hdr) (d a t : BitVec 4) (x : Bool) (s : State) : Out :=
  .next (s.issueCore (.vmovq h d a t x) h 1 fun kk xx s v => vecPush kk xx s (.vmovq h d a t x) d.toNat fun rm e => vecMap t (v.lanes h.g h.n) (src e 0) fun j => (elem (strideOf t) (src e 0) j, 0))

/-- VCMP_EQ (R136): Vector equality compare into a predicate pair. -/
def execVcmpEq (h : Hdr) (k m : BitVec 2) (a b t : BitVec 4) (y x : Bool) (s : State) : Out :=
  .next (s.issueCore (.vcmpEq h k m a b t y x) h 1 fun kk xx s v => vecCompare kk xx s v (.vcmpEq h k m a b t y x) k m (v.lanes h.g h.n) t .eq)

/-- VCMP_NE (R136): Vector inequality compare into a predicate pair. -/
def execVcmpNe (h : Hdr) (k m : BitVec 2) (a b t : BitVec 4) (y x : Bool) (s : State) : Out :=
  .next (s.issueCore (.vcmpNe h k m a b t y x) h 1 fun kk xx s v => vecCompare kk xx s v (.vcmpNe h k m a b t y x) k m (v.lanes h.g h.n) t .ne)

/-- VCMP_LT (R136): Vector less-than compare. -/
def execVcmpLt (h : Hdr) (k m : BitVec 2) (a b t : BitVec 4) (y x : Bool) (s : State) : Out :=
  .next (s.issueCore (.vcmpLt h k m a b t y x) h 1 fun kk xx s v => vecCompare kk xx s v (.vcmpLt h k m a b t y x) k m (v.lanes h.g h.n) t .lt)

/-- VCMP_LE (R136): Vector less-or-equal compare. -/
def execVcmpLe (h : Hdr) (k m : BitVec 2) (a b t : BitVec 4) (y x : Bool) (s : State) : Out :=
  .next (s.issueCore (.vcmpLe h k m a b t y x) h 1 fun kk xx s v => vecCompare kk xx s v (.vcmpLe h k m a b t y x) k m (v.lanes h.g h.n) t .le)

/-- VCMP_GT (R136): Vector greater-than compare. -/
def execVcmpGt (h : Hdr) (k m : BitVec 2) (a b t : BitVec 4) (y x : Bool) (s : State) : Out :=
  .next (s.issueCore (.vcmpGt h k m a b t y x) h 1 fun kk xx s v => vecCompare kk xx s v (.vcmpGt h k m a b t y x) k m (v.lanes h.g h.n) t .gt)

/-- VCMP_GE (R136): Vector greater-or-equal compare. -/
def execVcmpGe (h : Hdr) (k m : BitVec 2) (a b t : BitVec 4) (y x : Bool) (s : State) : Out :=
  .next (s.issueCore (.vcmpGe h k m a b t y x) h 1 fun kk xx s v => vecCompare kk xx s v (.vcmpGe h k m a b t y x) k m (v.lanes h.g h.n) t .ge)

/-- VCMP_UN (R136): Vector unordered (either NaN) compare. -/
def execVcmpUn (h : Hdr) (k m : BitVec 2) (a b t : BitVec 4) (y x : Bool) (s : State) : Out :=
  .next (s.issueCore (.vcmpUn h k m a b t y x) h 1 fun kk xx s v => vecCompare kk xx s v (.vcmpUn h k m a b t y x) k m (v.lanes h.g h.n) t .un)

/-- VCMP_ORD (R136): Vector ordered (neither NaN) compare. -/
def execVcmpOrd (h : Hdr) (k m : BitVec 2) (a b t : BitVec 4) (y x : Bool) (s : State) : Out :=
  .next (s.issueCore (.vcmpOrd h k m a b t y x) h 1 fun kk xx s v => vecCompare kk xx s v (.vcmpOrd h k m a b t y x) k m (v.lanes h.g h.n) t .ord)

/-- VSEL (R137): Selects qa or qb per element by guard. -/
def execVsel (h : Hdr) (d a b t : BitVec 4) (y x : Bool) (s : State) : Out :=
  .next (s.issueCore (.vsel h d a b t y x) h 1 fun kk xx s v => vecPush kk xx s (.vsel h d a b t y x) d.toNat fun rm e => vecSelect t (v.lanes h.g h.n) (src e 0) (src e 1))

/-- VSCL (R133): Scales elements by 2^k from qb. -/
def execVscl (h : Hdr) (d a b t : BitVec 4) (y x : Bool) (s : State) : Out :=
  .next (s.issueCore (.vscl h d a b t y x) h 1 fun kk xx s v => vecPush kk xx s (.vscl h d a b t y x) d.toNat fun rm e => vecMap t (v.lanes h.g h.n) (src e 0) fun j => sclElem t rm (elem (strideOf t) (src e 0) j) (fromCode true (8 * strideOf t) (elem (strideOf t) (src e 1) j)))

/-- VSCL_S (R133): Scales elements by 2^k from a scalar. -/
def execVsclS (h : Hdr) (d a k t : BitVec 4) (x : Bool) (s : State) : Out :=
  .next (s.issueCore (.vsclS h d a k t x) h 1 fun kk xx s v => vecPush kk xx s (.vsclS h d a k t x) d.toNat fun rm e => vecMap t (v.lanes h.g h.n) (src e 0) fun j => sclElem t rm (elem (strideOf t) (src e 0) j) (v.reg (k.setWidth 5)).toInt)

/-- VRED_ADD (R139): Tree-sum reduction of active elements. -/
def execVredAdd (h : Hdr) (d a t : BitVec 4) (x : Bool) (s : State) : Out :=
  .next (s.issueCore (.vredAdd h d a t x) h 1 fun kk xx s v => vecPush kk xx s (.vredAdd h d a t x) d.toNat fun rm e => vecReduce t (v.lanes h.g h.n) rm .add (src e 0))

/-- VRED_MIN (R139): Minimum reduction. -/
def execVredMin (h : Hdr) (d a t : BitVec 4) (x : Bool) (s : State) : Out :=
  .next (s.issueCore (.vredMin h d a t x) h 1 fun kk xx s v => vecPush kk xx s (.vredMin h d a t x) d.toNat fun rm e => vecReduce t (v.lanes h.g h.n) rm .min (src e 0))

/-- VRED_MAX (R139): Maximum reduction. -/
def execVredMax (h : Hdr) (d a t : BitVec 4) (x : Bool) (s : State) : Out :=
  .next (s.issueCore (.vredMax h d a t x) h 1 fun kk xx s v => vecPush kk xx s (.vredMax h d a t x) d.toNat fun rm e => vecReduce t (v.lanes h.g h.n) rm .max (src e 0))

/-- VRED_AND (R139): AND reduction. -/
def execVredAnd (h : Hdr) (d a t : BitVec 4) (x : Bool) (s : State) : Out :=
  .next (s.issueCore (.vredAnd h d a t x) h 1 fun kk xx s v => vecPush kk xx s (.vredAnd h d a t x) d.toNat fun rm e => vecReduce t (v.lanes h.g h.n) rm .and (src e 0))

/-- VRED_OR (R139): OR reduction. -/
def execVredOr (h : Hdr) (d a t : BitVec 4) (x : Bool) (s : State) : Out :=
  .next (s.issueCore (.vredOr h d a t x) h 1 fun kk xx s v => vecPush kk xx s (.vredOr h d a t x) d.toNat fun rm e => vecReduce t (v.lanes h.g h.n) rm .or (src e 0))

/-- VRED_XOR (R139): XOR reduction. -/
def execVredXor (h : Hdr) (d a t : BitVec 4) (x : Bool) (s : State) : Out :=
  .next (s.issueCore (.vredXor h d a t x) h 1 fun kk xx s v => vecPush kk xx s (.vredXor h d a t x) d.toNat fun rm e => vecReduce t (v.lanes h.g h.n) rm .xor (src e 0))

/-- VPERM_IDX (R140): Indexed permutation of qa by qb. -/
def execVpermIdx (h : Hdr) (d a b t : BitVec 4) (y x : Bool) (s : State) : Out :=
  .next (s.issueCore (.vpermIdx h d a b t y x) h 1 fun kk xx s v => vecPush kk xx s (.vpermIdx h d a b t y x) d.toNat fun rm e => vecMap t (v.lanes h.g h.n) (src e 0) fun j => (elem (strideOf t) (src e 0) (elem (strideOf t) (src e 1) j % elems t), 0))

/-- VPERM_ROT (R140): Rotates qa by qb[0]. -/
def execVpermRot (h : Hdr) (d a b t : BitVec 4) (y x : Bool) (s : State) : Out :=
  .next (s.issueCore (.vpermRot h d a b t y x) h 1 fun kk xx s v => vecPush kk xx s (.vpermRot h d a b t y x) d.toNat fun rm e => vecMap t (v.lanes h.g h.n) (src e 0) fun j => (elem (strideOf t) (src e 0) ((j + elem (strideOf t) (src e 1) 0) % elems t), 0))

/-- VPERM_REV (R140): Reverses the elements of qa. -/
def execVpermRev (h : Hdr) (d a t : BitVec 4) (x : Bool) (s : State) : Out :=
  .next (s.issueCore (.vpermRev h d a t x) h 1 fun kk xx s v => vecPush kk xx s (.vpermRev h d a t x) d.toNat fun rm e => vecMap t (v.lanes h.g h.n) (src e 0) fun j => (elem (strideOf t) (src e 0) (elems t - 1 - j), 0))

/-- VPERM_ZIP (R140): Interleaves qa and qb. -/
def execVpermZip (h : Hdr) (d a b t : BitVec 4) (y x : Bool) (s : State) : Out :=
  .next (s.issueCore (.vpermZip h d a b t y x) h 1 fun kk xx s v => vecPush kk xx s (.vpermZip h d a b t y x) d.toNat fun rm e => vecMap t (v.lanes h.g h.n) (src e 0) fun j => (elem (strideOf t) (if j % 2 = 0 then src e 0 else src e 1) (j / 2), 0))

/-- VPERM_UNZIP (R140): Takes even elements of the qa:qb concatenation. -/
def execVpermUnzip (h : Hdr) (d a b t : BitVec 4) (y x : Bool) (s : State) : Out :=
  .next (s.issueCore (.vpermUnzip h d a b t y x) h 1 fun kk xx s v => vecPush kk xx s (.vpermUnzip h d a b t y x) d.toNat fun rm e => vecMap t (v.lanes h.g h.n) (src e 0) fun j => (if 2 * j < elems t then elem (strideOf t) (src e 0) (2 * j) else elem (strideOf t) (src e 1) (2 * j - elems t), 0))

/-- VBCAST (R140): Broadcasts element qb[0] of qa. -/
def execVbcast (h : Hdr) (d a b t : BitVec 4) (y x : Bool) (s : State) : Out :=
  .next (s.issueCore (.vbcast h d a b t y x) h 1 fun kk xx s v => vecPush kk xx s (.vbcast h d a b t y x) d.toNat fun rm e => vecMap t (v.lanes h.g h.n) (src e 0) fun _ => (elem (strideOf t) (src e 0) (elem (strideOf t) (src e 1) 0 % elems t), 0))

/-- VBCAST_S (R140): Broadcasts a scalar to every element. -/
def execVbcastS (h : Hdr) (d k t : BitVec 4) (s : State) : Out :=
  .next (s.issueCore (.vbcastS h d k t) h 1 fun kk xx s v => vecPush kk xx s (.vbcastS h d k t) d.toNat fun _ _ => vecMap t (v.lanes h.g h.n) 0 fun _ => ((v.reg (k.setWidth 5)).toNat % 2 ^ (8 * strideOf t), 0))

/-- VLUT (R140): Table lookup of qb by byte indices in qa. -/
def execVlut (h : Hdr) (d a b t : BitVec 4) (y x : Bool) (s : State) : Out :=
  .next (s.issueCore (.vlut h d a b t y x) h 1 fun kk xx s v => vecPush kk xx s (.vlut h d a b t y x) d.toNat fun rm e => vecMap t (v.lanes h.g h.n) 0 fun j => (elem (strideOf t) (src e 1) (elem 1 (src e 0) j % elems t), 0))

/-- VAND (R135): Bitwise AND of active elements. -/
def execVand (h : Hdr) (d a b t : BitVec 4) (y x : Bool) (s : State) : Out :=
  .next (s.issueCore (.vand h d a b t y x) h 1 fun kk xx s v => vecPush kk xx s (.vand h d a b t y x) d.toNat fun rm e => vecMap t (v.lanes h.g h.n) (src e 0) fun j => (elem (strideOf t) (src e 0) j &&& elem (strideOf t) (src e 1) j, 0))

/-- VOR (R135): Bitwise OR of active elements. -/
def execVor (h : Hdr) (d a b t : BitVec 4) (y x : Bool) (s : State) : Out :=
  .next (s.issueCore (.vor h d a b t y x) h 1 fun kk xx s v => vecPush kk xx s (.vor h d a b t y x) d.toNat fun rm e => vecMap t (v.lanes h.g h.n) (src e 0) fun j => (elem (strideOf t) (src e 0) j ||| elem (strideOf t) (src e 1) j, 0))

/-- VXOR (R135): Bitwise XOR of active elements. -/
def execVxor (h : Hdr) (d a b t : BitVec 4) (y x : Bool) (s : State) : Out :=
  .next (s.issueCore (.vxor h d a b t y x) h 1 fun kk xx s v => vecPush kk xx s (.vxor h d a b t y x) d.toNat fun rm e => vecMap t (v.lanes h.g h.n) (src e 0) fun j => (elem (strideOf t) (src e 0) j ^^^ elem (strideOf t) (src e 1) j, 0))

/-- VSHL (R135): Element-wise left shift. -/
def execVshl (h : Hdr) (d a b t : BitVec 4) (y x : Bool) (s : State) : Out :=
  .next (s.issueCore (.vshl h d a b t y x) h 1 fun kk xx s v => vecPush kk xx s (.vshl h d a b t y x) d.toNat fun rm e => vecMap t (v.lanes h.g h.n) (src e 0) fun j => shlElem t rm (elem (strideOf t) (src e 0) j) (elem (strideOf t) (src e 1) j))

/-- VSHR (R135): Element-wise logical right shift. -/
def execVshr (h : Hdr) (d a b t : BitVec 4) (y x : Bool) (s : State) : Out :=
  .next (s.issueCore (.vshr h d a b t y x) h 1 fun kk xx s v => vecPush kk xx s (.vshr h d a b t y x) d.toNat fun rm e => vecMap t (v.lanes h.g h.n) (src e 0) fun j => shrElem t rm (elem (strideOf t) (src e 0) j) (elem (strideOf t) (src e 1) j))

/-- VSHR_A (R135): Element-wise arithmetic right shift. -/
def execVshrA (h : Hdr) (d a b t : BitVec 4) (y x : Bool) (s : State) : Out :=
  .next (s.issueCore (.vshrA h d a b t y x) h 1 fun kk xx s v => vecPush kk xx s (.vshrA h d a b t y x) d.toNat fun rm e => vecMap t (v.lanes h.g h.n) (src e 0) fun j => sraElem t rm (elem (strideOf t) (src e 0) j) (elem (strideOf t) (src e 1) j))

/-- VCVT (R138): Two-word element type conversion, narrow by a format register. -/
def execVcvt (h : Hdr) (d a v t : BitVec 4) (x : Bool) (f : BitVec 4) (s : State) : Out :=
  .next (s.issueCore (.vcvt h d a v t x f) h 2 fun kk xx s v_ => vecConvert kk xx s (.vcvt h d a v t x f) d.toNat v t f (v_.lanes h.g h.n))

/-- RESULT_LANDS (R125, R128): the slot's due results land, and a late floating-point trap that is due is taken. -/
def execResultLands (s : State) : Out :=
  .next (
    let k := s.inp.unit
    match LateTrap.first (s.slot k).late with
    | some t => if t.due ≤ (s.slot k).cycle then s.setSlot k ((s.slot k).takeLate t) else s.landDue k
    | none => s.landDue k)

end Sys2Proof.Machine
end

