-- ==== Sys2Proof/Machine/Words.lean ====
section
/-! DEFINITION. Sys2Proof/Machine/Words.lean: the word of a control core that another meaning runs: the words of a bundle
(R241), and a word that waits. -/

namespace Sys2Proof.Machine

/-- A word of a control core; what is not one has no effect here. -/
def runWord (i : Instr) (s : State) : Out :=
  match i with
  | .nop h => execNop h s
  | .endStream h => execEndStream h s
  | .br h v1 => execBr h v1 s
  | .call h v1 => execCall h v1 s
  | .ret h => execRet h s
  | .jmpr h v1 v2 => execJmpr h v1 v2 s
  | .loop h v1 v2 v3 => execLoop h v1 v2 v3 s
  | .loopx h v1 v2 v3 => execLoopx h v1 v2 v3 s
  | .add h v1 v2 v3 => execAdd h v1 v2 v3 s
  | .addW h v1 v2 v3 => execAddW h v1 v2 v3 s
  | .sub h v1 v2 v3 => execSub h v1 v2 v3 s
  | .subW h v1 v2 v3 => execSubW h v1 v2 v3 s
  | .addi h v1 v2 v3 => execAddi h v1 v2 v3 s
  | .lui h v1 v2 => execLui h v1 v2 s
  | .li32 h v1 v2 => execLi32 h v1 v2 s
  | .and h v1 v2 v3 => execAnd h v1 v2 v3 s
  | .or h v1 v2 v3 => execOr h v1 v2 v3 s
  | .xor h v1 v2 v3 => execXor h v1 v2 v3 s
  | .andi h v1 v2 v3 => execAndi h v1 v2 v3 s
  | .ori h v1 v2 v3 => execOri h v1 v2 v3 s
  | .xori h v1 v2 v3 => execXori h v1 v2 v3 s
  | .shl h v1 v2 v3 => execShl h v1 v2 v3 s
  | .shlW h v1 v2 v3 => execShlW h v1 v2 v3 s
  | .shr h v1 v2 v3 => execShr h v1 v2 v3 s
  | .shrW h v1 v2 v3 => execShrW h v1 v2 v3 s
  | .sra h v1 v2 v3 => execSra h v1 v2 v3 s
  | .sraW h v1 v2 v3 => execSraW h v1 v2 v3 s
  | .shli h v1 v2 v3 => execShli h v1 v2 v3 s
  | .shri h v1 v2 v3 => execShri h v1 v2 v3 s
  | .srai h v1 v2 v3 => execSrai h v1 v2 v3 s
  | .min h v1 v2 v3 => execMin h v1 v2 v3 s
  | .minW h v1 v2 v3 => execMinW h v1 v2 v3 s
  | .max h v1 v2 v3 => execMax h v1 v2 v3 s
  | .maxW h v1 v2 v3 => execMaxW h v1 v2 v3 s
  | .minn h v1 v2 v3 => execMinn h v1 v2 v3 s
  | .minnW h v1 v2 v3 => execMinnW h v1 v2 v3 s
  | .maxn h v1 v2 v3 => execMaxn h v1 v2 v3 s
  | .maxnW h v1 v2 v3 => execMaxnW h v1 v2 v3 s
  | .sel h v1 v2 v3 v4 => execSel h v1 v2 v3 v4 s
  | .mov h v1 v2 => execMov h v1 v2 s
  | .addsh h v1 v2 v3 v4 => execAddsh h v1 v2 v3 v4 s
  | .agen2 h v1 v2 v3 => execAgen2 h v1 v2 v3 s
  | .clz h v1 v2 => execClz h v1 v2 s
  | .clzW h v1 v2 => execClzW h v1 v2 s
  | .popc h v1 v2 => execPopc h v1 v2 s
  | .popcW h v1 v2 => execPopcW h v1 v2 s
  | .cmpEq h v1 v2 v3 v4 v5 => execCmpEq h v1 v2 v3 v4 v5 s
  | .cmpNe h v1 v2 v3 v4 v5 => execCmpNe h v1 v2 v3 v4 v5 s
  | .cmpLt h v1 v2 v3 v4 v5 => execCmpLt h v1 v2 v3 v4 v5 s
  | .cmpGe h v1 v2 v3 v4 v5 => execCmpGe h v1 v2 v3 v4 v5 s
  | .cmpLtn h v1 v2 v3 v4 v5 => execCmpLtn h v1 v2 v3 v4 v5 s
  | .cmpGen h v1 v2 v3 v4 v5 => execCmpGen h v1 v2 v3 v4 v5 s
  | .cmpTst h v1 v2 v3 v4 v5 => execCmpTst h v1 v2 v3 v4 v5 s
  | .cmpNtst h v1 v2 v3 v4 v5 => execCmpNtst h v1 v2 v3 v4 v5 s
  | .cmpiEq h v1 v2 v3 v4 v5 => execCmpiEq h v1 v2 v3 v4 v5 s
  | .cmpiNe h v1 v2 v3 v4 v5 => execCmpiNe h v1 v2 v3 v4 v5 s
  | .cmpiLt h v1 v2 v3 v4 v5 => execCmpiLt h v1 v2 v3 v4 v5 s
  | .cmpiGe h v1 v2 v3 v4 v5 => execCmpiGe h v1 v2 v3 v4 v5 s
  | .cmpiLtn h v1 v2 v3 v4 v5 => execCmpiLtn h v1 v2 v3 v4 v5 s
  | .cmpiGen h v1 v2 v3 v4 v5 => execCmpiGen h v1 v2 v3 v4 v5 s
  | .cmpiTst h v1 v2 v3 v4 v5 => execCmpiTst h v1 v2 v3 v4 v5 s
  | .pand h v1 v2 v3 => execPand h v1 v2 v3 s
  | .por h v1 v2 v3 => execPor h v1 v2 v3 s
  | .pxor h v1 v2 v3 => execPxor h v1 v2 v3 s
  | .pnot h v1 v2 => execPnot h v1 v2 s
  | .pmov h v1 v2 => execPmov h v1 v2 s
  | .pandn h v1 v2 v3 => execPandn h v1 v2 v3 s
  | .bfx h v1 v2 v3 => execBfx h v1 v2 v3 s
  | .bfxn h v1 v2 v3 => execBfxn h v1 v2 v3 s
  | .bfi h v1 v2 v3 => execBfi h v1 v2 v3 s
  | .fshr h v1 v2 v3 v4 v5 => execFshr h v1 v2 v3 v4 v5 s
  | .mul h v1 v2 v3 => execMul h v1 v2 v3 s
  | .mulW h v1 v2 v3 => execMulW h v1 v2 v3 s
  | .mulh h v1 v2 v3 => execMulh h v1 v2 v3 s
  | .mulhn h v1 v2 v3 => execMulhn h v1 v2 v3 s
  | .div h v1 v2 v3 => execDiv h v1 v2 v3 s
  | .divW h v1 v2 v3 => execDivW h v1 v2 v3 s
  | .divn h v1 v2 v3 => execDivn h v1 v2 v3 s
  | .divnW h v1 v2 v3 => execDivnW h v1 v2 v3 s
  | .rem h v1 v2 v3 => execRem h v1 v2 v3 s
  | .remW h v1 v2 v3 => execRemW h v1 v2 v3 s
  | .remn h v1 v2 v3 => execRemn h v1 v2 v3 s
  | .remnW h v1 v2 v3 => execRemnW h v1 v2 v3 s
  | .pfd h v1 v2 v3 => execPfd h v1 v2 v3 s
  | .pfi h v1 v2 v3 => execPfi h v1 v2 v3 s
  | .hint2 h v1 v2 v3 v4 => execHint2 h v1 v2 v3 v4 s
  | .hint3 h v1 v2 v3 v4 => execHint3 h v1 v2 v3 v4 s
  | .hint4 h v1 v2 v3 v4 => execHint4 h v1 v2 v3 v4 s
  | .hint5 h v1 v2 v3 v4 => execHint5 h v1 v2 v3 v4 s
  | .hint6 h v1 v2 v3 v4 => execHint6 h v1 v2 v3 v4 s
  | .hint7 h v1 v2 v3 v4 => execHint7 h v1 v2 v3 v4 s
  | .ldB h v1 v2 v3 => execLdB h v1 v2 v3 s
  | .ldBn h v1 v2 v3 => execLdBn h v1 v2 v3 s
  | .ldH h v1 v2 v3 => execLdH h v1 v2 v3 s
  | .ldHn h v1 v2 v3 => execLdHn h v1 v2 v3 s
  | .ldW h v1 v2 v3 => execLdW h v1 v2 v3 s
  | .ldWn h v1 v2 v3 => execLdWn h v1 v2 v3 s
  | .ldD h v1 v2 v3 => execLdD h v1 v2 v3 s
  | .stB h v1 v2 v3 => execStB h v1 v2 v3 s
  | .stH h v1 v2 v3 => execStH h v1 v2 v3 s
  | .stW h v1 v2 v3 => execStW h v1 v2 v3 s
  | .stD h v1 v2 v3 => execStD h v1 v2 v3 s
  | .ldaD h v1 v2 v3 => execLdaD h v1 v2 v3 s
  | .stlD h v1 v2 v3 => execStlD h v1 v2 v3 s
  | .getx h v1 v2 => execGetx h v1 v2 s
  | .setx h v1 v2 => execSetx h v1 v2 s
  | .vadd h v1 v2 v3 v4 v5 v6 => execVadd h v1 v2 v3 v4 v5 v6 s
  | .vaddSat h v1 v2 v3 v4 v5 v6 => execVaddSat h v1 v2 v3 v4 v5 v6 s
  | .vsub h v1 v2 v3 v4 v5 v6 => execVsub h v1 v2 v3 v4 v5 v6 s
  | .vsubSat h v1 v2 v3 v4 v5 v6 => execVsubSat h v1 v2 v3 v4 v5 v6 s
  | .vmul h v1 v2 v3 v4 v5 v6 => execVmul h v1 v2 v3 v4 v5 v6 s
  | .vmulHi h v1 v2 v3 v4 v5 v6 => execVmulHi h v1 v2 v3 v4 v5 v6 s
  | .vfma h v1 v2 v3 v4 v5 v6 => execVfma h v1 v2 v3 v4 v5 v6 s
  | .vfms h v1 v2 v3 v4 v5 v6 => execVfms h v1 v2 v3 v4 v5 v6 s
  | .vfnma h v1 v2 v3 v4 v5 v6 => execVfnma h v1 v2 v3 v4 v5 v6 s
  | .vmin h v1 v2 v3 v4 v5 v6 => execVmin h v1 v2 v3 v4 v5 v6 s
  | .vmax h v1 v2 v3 v4 v5 v6 => execVmax h v1 v2 v3 v4 v5 v6 s
  | .vabs h v1 v2 v3 v4 => execVabs h v1 v2 v3 v4 s
  | .vneg h v1 v2 v3 v4 => execVneg h v1 v2 v3 v4 s
  | .vcmpEq h v1 v2 v3 v4 v5 v6 v7 => execVcmpEq h v1 v2 v3 v4 v5 v6 v7 s
  | .vcmpNe h v1 v2 v3 v4 v5 v6 v7 => execVcmpNe h v1 v2 v3 v4 v5 v6 v7 s
  | .vcmpLt h v1 v2 v3 v4 v5 v6 v7 => execVcmpLt h v1 v2 v3 v4 v5 v6 v7 s
  | .vcmpLe h v1 v2 v3 v4 v5 v6 v7 => execVcmpLe h v1 v2 v3 v4 v5 v6 v7 s
  | .vcmpGt h v1 v2 v3 v4 v5 v6 v7 => execVcmpGt h v1 v2 v3 v4 v5 v6 v7 s
  | .vcmpGe h v1 v2 v3 v4 v5 v6 v7 => execVcmpGe h v1 v2 v3 v4 v5 v6 v7 s
  | .vcmpUn h v1 v2 v3 v4 v5 v6 v7 => execVcmpUn h v1 v2 v3 v4 v5 v6 v7 s
  | .vcmpOrd h v1 v2 v3 v4 v5 v6 v7 => execVcmpOrd h v1 v2 v3 v4 v5 v6 v7 s
  | .vsel h v1 v2 v3 v4 v5 v6 => execVsel h v1 v2 v3 v4 v5 v6 s
  | .vcvt h v1 v2 v3 v4 v5 v6 => execVcvt h v1 v2 v3 v4 v5 v6 s
  | .vscl h v1 v2 v3 v4 v5 v6 => execVscl h v1 v2 v3 v4 v5 v6 s
  | .vsclS h v1 v2 v3 v4 v5 => execVsclS h v1 v2 v3 v4 v5 s
  | .vrcp h v1 v2 v3 v4 => execVrcp h v1 v2 v3 v4 s
  | .vrsq h v1 v2 v3 v4 => execVrsq h v1 v2 v3 v4 s
  | .vredAdd h v1 v2 v3 v4 => execVredAdd h v1 v2 v3 v4 s
  | .vredMin h v1 v2 v3 v4 => execVredMin h v1 v2 v3 v4 s
  | .vredMax h v1 v2 v3 v4 => execVredMax h v1 v2 v3 v4 s
  | .vredAnd h v1 v2 v3 v4 => execVredAnd h v1 v2 v3 v4 s
  | .vredOr h v1 v2 v3 v4 => execVredOr h v1 v2 v3 v4 s
  | .vredXor h v1 v2 v3 v4 => execVredXor h v1 v2 v3 v4 s
  | .vpermIdx h v1 v2 v3 v4 v5 v6 => execVpermIdx h v1 v2 v3 v4 v5 v6 s
  | .vpermRot h v1 v2 v3 v4 v5 v6 => execVpermRot h v1 v2 v3 v4 v5 v6 s
  | .vpermRev h v1 v2 v3 v4 => execVpermRev h v1 v2 v3 v4 s
  | .vpermZip h v1 v2 v3 v4 v5 v6 => execVpermZip h v1 v2 v3 v4 v5 v6 s
  | .vpermUnzip h v1 v2 v3 v4 v5 v6 => execVpermUnzip h v1 v2 v3 v4 v5 v6 s
  | .vbcast h v1 v2 v3 v4 v5 v6 => execVbcast h v1 v2 v3 v4 v5 v6 s
  | .vbcastS h v1 v2 v3 => execVbcastS h v1 v2 v3 s
  | .vlut h v1 v2 v3 v4 v5 v6 => execVlut h v1 v2 v3 v4 v5 v6 s
  | .vand h v1 v2 v3 v4 v5 v6 => execVand h v1 v2 v3 v4 v5 v6 s
  | .vor h v1 v2 v3 v4 v5 v6 => execVor h v1 v2 v3 v4 v5 v6 s
  | .vxor h v1 v2 v3 v4 v5 v6 => execVxor h v1 v2 v3 v4 v5 v6 s
  | .vshl h v1 v2 v3 v4 v5 v6 => execVshl h v1 v2 v3 v4 v5 v6 s
  | .vshr h v1 v2 v3 v4 v5 v6 => execVshr h v1 v2 v3 v4 v5 v6 s
  | .vshrA h v1 v2 v3 v4 v5 v6 => execVshrA h v1 v2 v3 v4 v5 v6 s
  | .vmad h v1 v2 v3 v4 v5 v6 => execVmad h v1 v2 v3 v4 v5 v6 s
  | .vpopc h v1 v2 v3 v4 => execVpopc h v1 v2 v3 v4 s
  | .vmovq h v1 v2 v3 v4 => execVmovq h v1 v2 v3 v4 s
  | .qrd h v1 v2 v3 => execQrd h v1 v2 v3 s
  | .qrdS h v1 v2 v3 => execQrdS h v1 v2 v3 s
  | .qwr h v1 v2 v3 v4 => execQwr h v1 v2 v3 v4 s
  | .qwrS h v1 v2 v3 v4 => execQwrS h v1 v2 v3 v4 s
  | .tdef h v1 v2 v3 v4 v5 => execTdef h v1 v2 v3 v4 v5 s
  | .tfree h v1 => execTfree h v1 s
  | .tmov h v1 v2 v3 v4 => execTmov h v1 v2 v3 v4 s
  | .tmovK h v1 v2 v3 v4 => execTmovK h v1 v2 v3 v4 s
  | .tqryW0 h v1 v2 => execTqryW0 h v1 v2 s
  | .tqryW1 h v1 v2 => execTqryW1 h v1 v2 s
  | .cpl h v1 v2 v3 v4 => execCpl h v1 v2 v3 v4 s
  | .cps h v1 v2 v3 v4 => execCps h v1 v2 v3 v4 s
  | .cpacc h v1 v2 v3 v4 => execCpacc h v1 v2 v3 v4 s
  | .cpaccr h v1 v2 v3 => execCpaccr h v1 v2 v3 s
  | .cpcasW h v1 v2 v3 => execCpcasW h v1 v2 v3 s
  | .cpcasD h v1 v2 v3 => execCpcasD h v1 v2 v3 s
  | .cpmeta h v1 v2 v3 => execCpmeta h v1 v2 v3 s
  | .cpmc h v1 v2 v3 => execCpmc h v1 v2 v3 s
  | .resp h v1 => execResp h v1 s
  | .respPk h v1 => execRespPk h v1 s
  | .chpush h v1 v2 v3 v4 => execChpush h v1 v2 v3 v4 s
  | .chpop h v1 v2 v3 => execChpop h v1 v2 v3 s
  | .chpopPk h v1 v2 v3 => execChpopPk h v1 v2 v3 s
  | .chqry h v1 v2 => execChqry h v1 v2 s
  | .tstep h v1 v2 v3 v4 => execTstep h v1 v2 v3 v4 s
  | .tstepSp h v1 v2 v3 v4 => execTstepSp h v1 v2 v3 v4 s
  | .tcfg h v1 v2 => execTcfg h v1 v2 s
  | .tswap h v1 => execTswap h v1 s
  | .tdrain h v1 v2 => execTdrain h v1 v2 s
  | .tresumeRepl h v1 v2 => execTresumeRepl h v1 v2 s
  | .tresumeDisc h v1 => execTresumeDisc h v1 s
  | .tresumeAbort h v1 => execTresumeAbort h v1 s
  | .tcbk h v1 v2 v3 => execTcbk h v1 v2 v3 s
  | .scaccRow h v1 v2 v3 => execScaccRow h v1 v2 v3 s
  | .scaccCol h v1 v2 v3 => execScaccCol h v1 v2 v3 s
  | .scaccBlk h v1 v2 v3 => execScaccBlk h v1 v2 v3 s
  | .tsoundOn h => execTsoundOn h s
  | .tsoundOff h => execTsoundOff h s
  | .tsoundNow h => execTsoundNow h s
  | .fenceAcq h v1 => execFenceAcq h v1 s
  | .fenceRel h v1 => execFenceRel h v1 s
  | .fenceSc h v1 => execFenceSc h v1 s
  | .waitc h v1 v2 v3 v4 v5 => execWaitc h v1 v2 v3 v4 v5 s
  | .gbar h v1 => execGbar h v1 s
  | .gbarArr h v1 => execGbarArr h v1 s
  | .signal h v1 v2 => execSignal h v1 v2 s
  | .signalW h v1 v2 => execSignalW h v1 v2 s
  | .spawn h v1 v2 => execSpawn h v1 v2 s
  | .modeGuarded h => execModeGuarded h s
  | .modeExposed h => execModeExposed h s
  | .cairnSet h v1 v2 v3 => execCairnSet h v1 v2 v3 s
  | .cairnRoll h v1 => execCairnRoll h v1 s
  | .cairnDrop h v1 => execCairnDrop h v1 s
  | .lfdone h v1 => execLfdone h v1 s
  | .trap h v1 => execTrap h v1 s
  | .eret h v1 => execEret h v1 s
  | .bkpt h v1 => execBkpt h v1 s
  | .haltx h v1 => execHaltx h v1 s
  | _ => .next s

end Sys2Proof.Machine
end

