-- ==== Sys2Proof/Machine/Bundle.lean ====
section
/-! DEFINITION. Sys2Proof/Machine/Bundle.lean: the words of a rendezvous that issue together (R241-R246, R258), waits that end
in a trap or in a mode (R251, R258, R356), and words that are illegal or cannot be read (R73, R74, R428). -/

namespace Sys2Proof.Machine

/-- A word of stream `x`, run as the word at hand. -/
def State.runAs (s : State) (k x : Nat) (i : Instr) : State :=
  match runWord i { s with cur := .stream k x, fetched := s.streamWords k x } with
  | .next t => t
  | _ => s

/-! ## Illegal words -/

/-- R73: TRAPAUX of an illegal word. -/
def illegalAux (ws : Nat × Nat) : Word :=
  BitVec.ofNat 64 (ws.1 % 2 ^ 32 + (if twoWordCore ws.1 then ws.2 % 2 ^ 32 * 2 ^ 32 else 0))

/-- R73, R428: the trap of the word at a stream's PC. -/
def State.badWordTrap (s : State) (k x : Nat) : Nat × Word :=
  match s.fetchMark k ((s.slot k).stream x).ctl.pc with
  | some pc => (8, BitVec.ofNat 64 (0x800000 + coreOf k * 0x20000 + 4 * pc))
  | none => (1, illegalAux (s.streamWords k x))

/-- A command ends ILLEGAL at its word (R74, R213): where it has run past its last word the words before stand (R208), and where the
word it has reached is illegal it writes nothing, its LINK included; a packet ends by its own rule (R371). -/
def State.illegal (s : State) : State :=
  match s.cur with
  | .stream k x =>
    let t := s.badWordTrap k x
    if s.mayIssue k x then s.trapAt k x t.1 t.2 else s
  | .command id =>
    let j := s.job id
    if j.busy then s
    else
      let j := { j with stop := some 5, badWord := j.prog.ctl.pc, badOff := 0 }
      s.setJob id (if j.len ≤ j.prog.ctl.pc then j else { j with link := none, flights := j.flights.map fun f => { f with closed := true } })
  | .queue q =>
    match (s.hqueue q).cur with
    | some p => if p.still then s else s.endPacket q 5
    | none => s
  | .none => s

/-- ILLEGAL_WORD (R73): A control core or copy engine fetches a word with an unassigned OPC, a reserved selector or a bad field, and it raises the illegal-instruction trap or ends the command ILLEGAL. -/
def execIllegalWord (s : State) : Out :=
  .next (s.illegal)


/-! ## The words of a copy command and of a packet -/

/-- The next word of a chain command: none while it runs no word. -/
def State.commandNext (s : State) (id : Nat) : Option Instr :=
  let j := s.job id
  if j.busy || j.mac.isSome then none
  else if pairAtLoopEnd j.prog.ctl (twoWordCopy (j.code.getD j.prog.ctl.pc 0)) || decide (j.len ≤ j.prog.ctl.pc) then some .illegalWord
  else some ((copyDecode j.code j.len j.prog.ctl.pc).getD .illegalWord)

/-- The word of a command at hand. -/
def State.commandWords (s : State) (id : Nat) : Nat × Nat :=
  let j := s.job id
  (j.code.getD j.prog.ctl.pc 0, j.code.getD (j.prog.ctl.pc + 1) 0)

/-- The next word of a queue's packet, or what ends the packet instead of it (R224, R371). -/
def State.queueNext (s : State) (q : Nat) : Option Instr :=
  match (s.hqueue q).cur with
  | none => none
  | some p =>
    if p.ended.isNone && p.wait.isNone && decide (512 ≤ p.words) then some .packetBudget
    else if p.still then none
    else if pairAtLoopEnd p.prog.ctl (twoWordFront p.fetch.1) then some .illegalWord
    else some ((frontDecode p.code p.prog.ctl.pc).getD .illegalWord)

/-- The word of a packet at hand. -/
def State.queueWords (s : State) (q : Nat) : Nat × Nat :=
  match (s.hqueue q).cur with
  | some p => p.fetch
  | none => (0, 0)

/-! ## Rendezvous-write conflicts (R243) -/

/-- The registers a word writes: scalars s1 to s31 as 1 to 31, predicates p1 to p7 as 33 to 39. -/
def writtenBy (i : Instr) : List Nat :=
  let u := usesOf i
  ((u.ds.filter fun d => d != 0).map fun d => d.toNat) ++ ((u.pd.filter fun p => p != 0).map fun p => 32 + p.toNat)

/-- R243: the trap of the lowest-numbered register that two words write: its stream and TRAPAUX. -/
def State.writeConflict (s : State) (k : Nat) (ws : List (Nat × Instr)) : Option (Nat × Word) :=
  let writers := fun r : Nat => (ws.filter fun w => s.actsIn k w.1 w.2 && (writtenBy w.2).contains r).map Prod.fst
  (List.range 40).findSome? fun r => match writers r with
    | a :: b :: _ => some (b, BitVec.ofNat 64 (a * 256 + r))
    | _ => none

/-! ## A bundle (R241, R258) -/

/-- R173: a MODE word. -/
def isModeWord : Instr → Bool
  | .modeGuarded _ => true
  | .modeExposed _ => true
  | _ => false

/-- The words run together, MODE first, since it waits for the slot as it stands before the bundle (R173). -/
def State.runBundle (s : State) (k : Nat) (ws : List (Nat × Instr)) : State :=
  ((ws.filter fun w => isModeWord w.2) ++ (ws.filter fun w => !isModeWord w.2)).foldl (fun t w => t.runAs k w.1 w.2)
    { s with bundle := true, bundleTrap := none }

/-- The stream's word has not issued. -/
def State.stands (s : State) (k x : Nat) : Bool := ((s.slot k).stream x).presented

/-- R241: the stream whose word raises a trap takes it alone. -/
def State.trapOfBundle (s : State) (k : Nat) (ws : List (Nat × Instr)) (x cause : Nat) (aux : Word) : State :=
  match ws.find? fun w => w.1 == x with
  | none => s
  | some w =>
    let t := { s with bundle := true, bundleTrap := none }.runAs k x w.2
    match t.bundleTrap with
    | some (_, c, a) => { t with bundle := false, bundleTrap := none }.trapAt k x c a
    | none => s.trapAt k x cause aux

/-- The words that hold the bundle wait, each by itself. -/
def State.waitOfBundle (s t : State) (k : Nat) (ws : List (Nat × Instr)) : State :=
  (ws.filter fun w => t.stands k w.1).foldl (fun s w =>
    let u := { s with bundle := true, bundleTrap := none }.runAs k w.1 w.2
    if u.stands k w.1 then { u with bundle := false, bundleTrap := none }
    else s.modSlot k fun sl => sl.modStream w.1 fun st => { st with qsince := ((t.slot k).stream w.1).qsince }) s

/-- R258: the mode that the words of the bundle enter. -/
def State.bundleMode (s : State) (k : Nat) (ws : List (Nat × Instr)) : Option Bool :=
  ((ws.filter fun w => isModeWord w.2 && s.actsIn k w.1 w.2).getLast?).map fun w => match w.2 with
    | .modeExposed _ => true
    | _ => false

/-- The bundle has issued: its results land together (R81, R244), a SETX's with the end of the cycle (R120), and then the
new mode governs (R258). -/
def State.bundleDone (t : State) (k : Nat) (mode : Option Bool) : State :=
  let t := { t with bundle := false, bundleTrap := none }.modSlot k fun sl => { sl with rvSince := none }
  let t := t.landWhere k fun p => decide (p.due ≤ (t.slot k).cycle) && !p.eff.isSys
  match mode with
  | some e => t.modSlot k fun sl => sl.setMode e
  | none => t

/-- The words of the streams that stand at the rendezvous. -/
def State.bundleWords (s : State) (k : Nat) : List (Nat × Option Instr) := (s.slot k).rvStreams.map fun x => (x, s.streamNext k x)

/-- R241: the words of a complete rendezvous issue together, or none does. -/
def State.issueBundle (s : State) (k : Nat) : State :=
  let sl := s.slot k
  let all := s.bundleWords k
  if !(sl.gathered && s.slotIssues k) || (sl.stallers.any fun y => !sl.rvStreams.contains y) ||
      sl.rvStreams.any fun x => (sl.stream x).serviced || s.collarHolds k x then s
  else match all.find? fun w => w.2.isNone with
    | some w => let t := s.badWordTrap k w.1; s.trapAt k w.1 t.1 t.2
    | none =>
      let ws := all.filterMap fun w => w.2.map fun i => (w.1, i)
      match s.writeConflict k ws with
      | some (x, aux) => s.trapAt k x 29 aux
      | none =>
        let t := s.runBundle k ws
        match t.bundleTrap with
        | some (x, c, a) => s.trapOfBundle k ws x c a
        | none =>
          if ws.any fun w => t.stands k w.1 then s.waitOfBundle t k ws
          else t.bundleDone k (s.bundleMode k ws)

/-- BUNDLE_ISSUE (R241): A complete rendezvous issues its words together as one bundle. -/
def execBundleIssue (s : State) : Out :=
  .next (s.issueBundle s.inp.unit)


/-! ## Waits that end -/

/-- The word that the event's stream waits at, run again. -/
def State.again (s : State) : State :=
  let k := s.inp.unit
  let x := s.inp.x
  match s.streamNext k x with
  | some i => if (s.slot k).gathered && ((s.slot k).rvStreams.contains x) then s.issueBundle k else s.runAs k x i
  | none => s

/-- R251: a queue wait has lasted 4,096 cycles. -/
def Stream.overdue (st : Stream) (now : Nat) : Bool :=
  match st.qsince with
  | some t => decide (queueWaitLimit ≤ now - t)
  | none => false

/-- QUEUE_WAIT_TIMEOUT (R251): A guarded-mode queue wait of 4,096 cycles ends in the underflow or overflow trap. -/
def execQueueWaitTimeout (s : State) : Out :=
  .next (if ((s.slot s.inp.unit).stream s.inp.x).overdue s.cycle then s.again else s)


/-- R258, R388: the drain that a MODE word, an ERET or a restored slot waits for is done. -/
def State.drainDone (s : State) (k x : Nat) : State :=
  let sl := s.slot k
  if sl.reenter then if s.modeReady k true then s.modSlot k fun sl => { sl.setMode true with reenter := false } else s
  else match (sl.stream x).wait with
    | some (.mode e) => if s.modeReady k e then s.again else s
    | some (.eret _) => if s.modeReady k true then s.again else s
    | _ => s

/-- MODE_DRAIN_DONE (R258): A MODE bundle's drain finishes and the new mode takes effect. -/
def execModeDrainDone (s : State) : Out :=
  .next (s.drainDone s.inp.unit s.inp.x)


/-- A translation fault has just been met by the slot: its word waits for service, or its trap is taken or due (R356). -/
def Slot.faulted (sl : Slot) (x : Nat) : Bool :=
  (sl.stream x).serviced || sl.trap.inHandler && sl.trap.cause == 7 || (sl.late.any fun t => t.cause == 7) ||
    sl.ops.any fun o => o.fault.isSome

/-- SLOT_TRANSLATION_FAULT (R356): A control-core word meets a translation fault and waits or traps by FSVC. -/
def execSlotTranslationFault (s : State) : Out :=
  .next ((let t := s.again; if (t.slot s.inp.unit).faulted s.inp.x && !(s.slot s.inp.unit).faulted s.inp.x then t else s))


end Sys2Proof.Machine
end

