-- ==== Sys2Proof/Machine/Arbiter.lean ====
section
/-! DEFINITION. Sys2Proof/Machine/Arbiter.lean: which words and rendezvous issue in a cycle: their order within it (R22, R29,
R244), what holds them (R255, R257), and which of a core's four slots takes its clusters (R247, R248). -/

namespace Sys2Proof.Machine

/-! ## Ranks (R247) -/

/-- How R247 ranks a word or a rendezvous: its slot's role, its age, and its slot. -/
structure Rank where
  role : Nat
  age : Nat
  slot : Nat
  deriving DecidableEq, Repr

/-- R247: the older of two goes first, and the lower slot of two of one age. -/
def Rank.older (a b : Rank) : Bool := decide (b.age < a.age) || (a.age == b.age && decide (a.slot < b.slot))

/-- R247: `a` goes before `b`: aged work by age alone, the rest by role and then by age. -/
def Rank.before (limit : Nat) (a b : Rank) : Bool :=
  if limit ≤ a.age then decide (b.age < limit) || a.older b
  else decide (b.age < limit) && (decide (a.role < b.role) || (a.role == b.role && a.older b))

/-- R247: a rendezvous goes before a single word, unless the word is aged and the rendezvous is not, or is younger. DESIGN CHOICE
(notes/assumptions/142.md): of an aged word and an aged rendezvous of one slot and one age, which R247 does not rank, the word goes
first. -/
def Rank.beforeWord (limit : Nat) (rv w : Rank) : Bool := decide (w.age < limit) || (decide (limit ≤ rv.age) && rv.older w)

/-- R248: AGELIM of the slot's core. -/
def State.ageLimit (s : State) (k : Nat) : Nat := s.agelim.get 0x400 (coreKey k)

def State.rankOf (s : State) (k : Nat) (since : Option Nat) : Rank :=
  { role := (s.slot k).task.role.toNat, age := s.cycle - since.getD s.cycle, slot := k % 4 }

def State.wordRank (s : State) (k x : Nat) : Rank := s.rankOf k ((s.slot k).stream x).readySince
def State.rvRank (s : State) (k : Nat) : Rank := s.rankOf k (s.slot k).rvSince

/-! ## What holds a word (R255, R257) -/

/-- A word that acts outside its slot: on the tile table, a format register, the array, an engine, a channel, a group barrier,
the cairns, or the task's life. -/
def actsOutside : Instr → Bool
  | .tdef .. | .tfree .. | .chpush .. | .chpop .. | .chpopPk .. | .gbar .. | .gbarArr .. | .signal .. | .signalW .. | .spawn ..
  | .cairnSet .. | .cairnRoll .. | .cairnDrop .. | .lfdone .. | .haltx .. | .bkpt .. | .endStream .. => true
  | .setx _ _ x => decide (x.toNat ≠ 1)
  | i => (usesOf i).cls.any fun c => decide (2 ≤ c)

/-- R257: an earlier cycle's QRD or QWR is going to trap, or may: it waits for service (R356), or reads marked bytes. -/
def State.suspect (s : State) (k : Nat) : Bool :=
  let sl := s.slot k
  sl.ops.any fun o => decide (o.at_ < s.slotClock k) && !o.done &&
    (o.fault.isSome || ((o.kind.isQrd || o.qwr) && o.kind.locs.isEmpty) ||
      (o.kind.isQrd && !o.remote && sl.newest o && (s.firstMarked k o.vas o.kind.locs).isSome))

/-- Nothing that R257 says holds the words of streams `xs` of the slot: no earlier word is known to trap late, and what acts outside
the slot waits for those that still can. -/
def State.unheld (s : State) (k : Nat) (xs : List Nat) : Bool :=
  !s.suspect k &&
    !((s.slot k).provisional (s.slotClock k) && xs.any fun x => (s.streamNext k x).any fun i => actsOutside i && s.actsIn k x i)

/-- R22, R29, R144, R180, R233, R244: the words of a cycle issue or trap in the order port before starboard on a tile, and of one
slot A, V, T, M. -/
def State.inOrder (s : State) (k x : Nat) : Bool :=
  !((s.issued ++ s.tripped).any fun e => tileOf e.1 == tileOf k && decide (coreOf k < coreOf e.1)) &&
    !((s.issued ++ s.tripped ++ s.landed).any fun e => e.1 == k && decide (x < e.2))

/-- The registers that the word at a stream's PC writes under its guard. -/
def State.writesAt (s : State) (k x : Nat) : List Nat :=
  match s.streamNext k x with
  | some i => if s.actsIn k x i then writtenBy i else []
  | none => []

/-- R28, R244: the word comes in its turn, and writes no register of which a word of this cycle has read an earlier write of the
cycle: a reader sees the old value or the one that stands. -/
def State.inTurn (s : State) (k x : Nat) : Bool :=
  s.inOrder k x && ((s.slot k).exposed || !((s.writesAt k x).any (s.slot k).seen.contains))

/-! ## Choice (R247) -/

/-- The slots of the slot's core that run. -/
def State.coreSlots (s : State) (k : Nat) : List Nat :=
  ([0, 1, 2, 3].map fun j => coreKey k * 4 + j).filter fun j => (s.slot j).phase == .running

/-- The cluster of stream `x` of the slot's core has issued no word in this cycle. -/
def State.clusterFree (s : State) (k x : Nat) : Bool := !(s.issued.any fun e => coreKey e.1 == coreKey k && e.2 == x)
def State.clustersFree (s : State) (k : Nat) : Bool := [0, 1, 2, 3].all fun x => s.clusterFree k x

/-- The stream's next word would issue now, as a single word. -/
def State.wordReady (s : State) (k x : Nat) : Bool :=
  match s.streamNext k x with
  | some i => s.unheld k [x] && decide (s.issued.length < (s.runAs k x i).issued.length)
  | none => false

/-- The slot's rendezvous is complete and would issue now, were all four clusters free. -/
def State.rvReady (s : State) (k : Nat) : Bool :=
  (s.slot k).gathered && s.unheld k (s.slot k).rvStreams && decide (s.issued.length < (s.issueBundle k).issued.length)

/-- R247: the complete rendezvous of slot `k` takes the clusters now. -/
def State.rvTakes (s : State) (k : Nat) : Bool :=
  s.clustersFree k && (s.coreSlots k).all fun j =>
    (j == k || !((s.rvRank j).before (s.ageLimit k) (s.rvRank k) && s.rvReady j)) &&
      [0, 1, 2, 3].all fun x => (s.rvRank k).beforeWord (s.ageLimit k) (s.wordRank j x) || !s.wordReady j x

/-- R247: the single word of stream `x` of slot `k` takes its cluster now: no rendezvous that goes before it takes the clusters, and
no better word is ready. -/
def State.wordTakes (s : State) (k x : Nat) : Bool :=
  s.clusterFree k x && (s.coreSlots k).all fun j =>
    !((s.rvRank j).beforeWord (s.ageLimit k) (s.wordRank k x) && s.rvReady j && s.rvTakes j) &&
      (j == k || !((s.wordRank j x).before (s.ageLimit k) (s.wordRank k x) && s.wordReady j x))

/-! ## Slot cycles of an exposed slot (R250, R251, R255) -/

/-- A later stream of an exposed slot whose word is due in this slot cycle: that word tried alone, and whether it would issue. -/
def State.laterWord (s : State) (k x : Nat) : Option (State × Bool) :=
  let sl := s.slot k
  if (sl.stream x).presented || sl.cycleSpent x then none
  else if (sl.stream x).serviced then some (s, false)
  else match s.streamNext k x with
    | none => none
    | some i =>
      if rvWord (s.streamWords k x).1 && sl.mustPresent x then none
      else
        let t := { s with bundle := true, bundleTrap := none }.runAs k x i
        some (t, decide (s.issued.length < t.issued.length) && t.bundleTrap.isNone)

/-- R255: a later stream's word freezes the slot cycle, in which no word of the slot then issues: the state in which that word
waits. -/
def State.frozen (s : State) (k x : Nat) : Option State :=
  if !(s.slot k).exposed then none
  else ([0, 1, 2, 3].filter fun y => decide (x < y)).findSome? fun y =>
    match s.laterWord k y with
    | some (t, false) => if t.bundleTrap.isSome then none else some { t with bundle := false }
    | _ => none

/-- R250, R251: a push of an exposed slot finds no place after all, since a later stream's pop does not issue in this cycle. -/
def State.overfull (s t : State) (k x : Nat) : Option Nat :=
  if !(s.slot k).exposed then none
  else match (s.streamNext k x).bind fun i => (usesOf i).push with
    | none => none
    | some q =>
      let gone := (([0, 1, 2, 3].filter fun y => decide (x < y)).map fun y =>
        match s.laterWord k y with
        | some (_, true) => s.popsAt k y q
        | _ => 0).sum
      if 4 + gone < ((t.slot k).queue q).length then some q else none

/-! ## What is noted of the words that issue -/

/-- R334: both bounds hold. -/
def joinAfter (a b : Tab Nat) : Tab Nat := b.foldl (fun t p => t.set p.1 (max p.2 (t.get 0 p.1))) a

/-- The scalars that the word at a stream's PC reads. -/
def State.readsAt (s : State) (k x : Nat) : List Nat :=
  match s.streamNext k x with
  | some i => (usesOf i).rs.map fun d => d.toNat
  | none => []

def isFence : Instr → Bool
  | .fenceAcq .. | .fenceRel .. | .fenceSc .. => true
  | _ => false

/-- R28, R334: the accesses that come before those of stream `x`'s word: through the queue entries it takes, and for a fence
through earlier fences of the slot. -/
def State.wordAfter (s : State) (k x : Nat) : Tab Nat :=
  let sl := s.slot k
  match s.streamNext k x with
  | none => (sl.stream x).after
  | some i =>
    if !s.actsIn k x i then (sl.stream x).after
    else
      let q := (usesOf i).q.foldl (fun t o => match (sl.queue o.1)[o.2.1]? with
        | some p => joinAfter t p.after
        | none => t) (sl.stream x).after
      if isFence i then joinAfter q sl.fenced else q

/-- The words of streams `xs` of slot `k` have issued and taken state `s` to `t`: each new access keeps when and where its word
issued (R97, R257), and what comes before it; a rendezvous, a fence and a push hand that on (R334). A word counts as a reader
of every predicate, since its guard and its loops' guards read them (R28). -/
def State.noted (s t : State) (k : Nat) (xs : List Nat) : State :=
  let now := t.slotClock k
  let old := s.slot k
  let own := fun x => (s.wordAfter k x).set x t.nextId
  let met := xs.foldl (fun a x => joinAfter a (own x)) []
  let acting := fun f : Instr → Bool => xs.filter fun x => (s.streamNext k x).any fun i => f i && s.actsIn k x i
  let pushed := fun q => (acting fun i => (usesOf i).push == some q).foldl (fun a x => joinAfter a (own x)) []
  t.modSlot k fun sl =>
    { sl with
      last := some now,
      wrote := sl.wrote ++ xs.flatMap fun x => s.writesAt k x,
      seen := sl.seen ++ old.wrote.filter fun r => decide (32 < r) || xs.any fun x => (s.readsAt k x).contains r,
      ops := sl.ops.map fun o =>
        if o.id < s.nextId then o
        else { o with at_ := now, ctl := (old.stream o.x).ctl, rv := (old.stream o.x).rvCount, after := s.wordAfter k o.x },
      queues := sl.queues.map fun (q : Nat × List QPlace) =>
        (q.1, q.2.map fun p => if p.op < s.nextId then p else { p with after := pushed q.1 }),
      fenced := (acting isFence).foldl (fun a x => joinAfter a (own x)) sl.fenced,
      streams := sl.streams.map fun (p : Nat × Stream) =>
        (p.1, if xs.contains p.1 then { p.2 with after := if 1 < xs.length then met else s.wordAfter k p.1 } else p.2) }

/-- The slot and stream of a word that takes a precise trap in the turn from state `s` to `t`. -/
def State.tripOf (s t : State) : Option (Nat × Nat) :=
  t.slots.findSome? fun p =>
    let old := s.slot p.1
    if old.phase == .running && !p.2.trap.late && p.2.trap.cause != 26 &&
        (p.2.trap.inHandler && !old.trap.inHandler || p.2.ending == some .doubleTrap && old.ending.isNone) then
      some (p.1, p.2.trap.stream.toNat)
    else none

/-- A turn in which no word has issued: a word that traps in it does so in its turn, after all of the slot that can still trap late
(R22, R233, R257). -/
def State.unissued (s t : State) : State :=
  match s.tripOf t with
  | none => t
  | some (k, x) => if s.inOrder k x && !s.suspect k then { t with tripped := s.tripped ++ [(k, x)] } else s

/-- What becomes of a turn that would take state `s` to `t`: a word that has issued in it takes its cluster, and a bundle
the four clusters of its core, or it does not issue (R247). The word that leaves exposed mode is the core's only one of its
cycle (R258). -/
def State.arbitrate (s t : State) : State :=
  match t.issued.drop s.issued.length with
  | [] => s.unissued t
  | [(k, x)] =>
    if !(s.inTurn k x && s.unheld k [x] && s.wordTakes k x) then s
    else match s.frozen k x with
      | some u => u
      | none => match s.overfull t k x with
        | some q => { s.trapAt k x 12 (BitVec.ofNat 64 q) with tripped := s.tripped ++ [(k, x)] }
        | none =>
          let left := (s.slot k).exposed && !(t.slot k).exposed
          let taken := [0, 1, 2, 3].filter fun y => y == x || (left && s.clusterFree k y)
          { s.noted t k [x] with issued := s.issued ++ taken.map fun y => (k, y) }
  | (k, y) :: l =>
    let xs := ((k, y) :: l).map Prod.snd
    if s.inOrder k 3 && s.unheld k xs && s.rvTakes k then
      { s.noted t k xs with issued := s.issued ++ [(k, 0), (k, 1), (k, 2), (k, 3)] }
    else s

end Sys2Proof.Machine
end

