-- ==== Sys2Proof/Machine/Host.lean ====
section
/-! DEFINITION. Sys2Proof/Machine/Host.lean: the host port (R437-R443): streams of messages and their answers, invalidations (R352),
the pilot's registers, and the meridian clock (R410, R411). A host message's header and payload come with its event. -/

namespace Sys2Proof.Machine

/-! ## Messages (R437, R439) -/

/-- R438: a host message begins with nothing malformed: its FLAGS, stream and length. -/
def Inp.malformed (i : Inp) : Bool := decide (3 < i.x) || decide (15 < i.unit) || decide (8192 < i.data.length)

/-- R439: a device message is covered by ACK or SACK. -/
def acked (ack sack seq : Nat) : Bool :=
  let back := (ack + 2 ^ 32 - seq % 2 ^ 32) % 2 ^ 32
  let ahead := (seq + 2 ^ 33 - ack - 1) % 2 ^ 32
  (decide (1 ≤ back) && decide (back < 2 ^ 31)) || (decide (ahead < 32) && flag sack ahead)

/-- R439: an acknowledgement frees what it covers. -/
def State.hostAck (s : State) (stream ack sack : Nat) : State :=
  let d := s.devOut.get {} stream
  { s with devOut := s.devOut.set stream { d with unacked := d.unacked.filter fun m => !acked ack sack m.seq } }

/-- Send a payload, in messages of at most 8,192 bytes (R437). -/
def State.sendLong (s : State) (stream type : Nat) (data : List Byte) : State :=
  if data.length ≤ 8192 then s.send stream type data
  else (chunks 8192 ((data.length + 8191) / 8192) data).foldl (fun s d => s.send stream type d) s

/-! ## WRITE and READ (R438) -/

/-- What an address of SPACE names for the host; physical addresses are RELEASE (R335). -/
def State.hostPlace (s : State) (space asid : Nat) (acc : Acc) (va : Nat) : Place :=
  let who : Who := { die := none, tile := none, unit := 0, asid := asid }
  if space = 1 then (if decide (va < 2 ^ 48) && s.backed va then .at va 1 else .hole)
  else if space = 2 ∧ va % 2 ^ 56 < windowBase then .hole
  else s.place who copyParts acc false (va % 2 ^ 56)

def State.hostReach (s : State) (d : List Byte) (acc : Acc) (n : Nat) : Reach :=
  reachBy (s.hostPlace (bytesAt d 8 1) (bytesAt d 9 1) acc) ((List.range n).map (bytesAt d 0 8 + ·))

/-- The head of an answer, and what follows it. -/
def State.hostAnswer (s : State) (type : Nat) (d : List Byte) (status : Nat) (bytes : List Byte) : State :=
  s.send 3 type (d.take 8 ++ leBytes 1 status ++ leBytes 7 0 ++ bytes)

/-- The host's own translations come into die 0's unit. -/
def State.hostTouch (s : State) (d : List Byte) (n : Nat) : State :=
  if bytesAt d 8 1 = 0 then
    { s.touchAll 0 (bytesAt d 9 1) (spanOf (bytesAt d 0 8) n) with fresh := s.fresh + n + 1 }
  else s

/-- A message that cannot be taken yet: the port expects its SEQ again, and the host resends it (R439, R422). -/
def State.hostBack (s : State) : State :=
  { s with host := { s.host with next := s.host.next.set s.inp.unit ((s.host.next.get 0 s.inp.unit + 2 ^ 32 - 1) % 2 ^ 32) } }

/-- WRITE (R438). DESIGN CHOICE (notes/assumptions/148.md): one whose packets a fenced pair takes no more is answered BADADDR. -/
def State.hostWrite (s : State) (d : List Byte) : State :=
  let bytes := d.drop 16
  if d.length ≤ 16 || decide (2 < bytesAt d 8 1) then s.hostAnswer 1 d 5 []
  else
    let s := s.hostTouch d bytes.length
    match s.hostReach d .write bytes.length with
    | .hole _ => s.hostAnswer 1 d 2 []
    | .fault _ _ => s.hostAnswer 1 d 3 []
    | .ok locs => match s.feWrite ((locs.map Prod.fst).zip bytes) with
      | .ok t => t.hostAnswer 1 d 0 []
      | .stop _ => s.hostAnswer 1 d 2 []
      | .fault .. => s.hostAnswer 1 d 3 []
      | .hold => s.hostBack

def State.hostRead (s : State) (d : List Byte) : State :=
  let n := bytesAt d 10 2
  if d.length < 16 || n = 0 || decide (8176 < n) || decide (2 < bytesAt d 8 1) then s.hostAnswer 2 d 5 []
  else
    let s := s.hostTouch d n
    match s.hostReach d .read n with
    | .hole _ => s.hostAnswer 2 d 2 []
    | .fault _ _ => s.hostAnswer 2 d 3 []
    | .ok locs =>
      let ls := locs.map Prod.fst
      if ls.any fun a => !isRemote a && s.marked a then s.hostAnswer 2 d 1 [] else s.hostAnswer 2 d 0 (s.feBytes ls)

/-! ## TAIL (R368) -/

def State.hostTail (s : State) (d : List Byte) : State :=
  let q := bytesAt d 0 2
  let x := bytesAt d 4 4
  let hq := s.hqueue q
  let ahead := (x + 2 ^ 32 - hq.tail) % 2 ^ 32
  if 1024 ≤ q || hq.state = 3 || ahead = 0 || decide (2 ^ 31 ≤ ahead) then s
  else if ahead + (hq.tail + 2 ^ 32 - hq.head) % 2 ^ 32 ≤ hq.size then s.setHqueue q { hq with tail := x }
  else s.event (leBytes 8 q ++ leBytes 8 x)

/-! ## FAULT answers (R441, R456) -/

/-- Work of a launch, or of an address space outside every launch, that a FAULT message names. -/
def faultFor (n asid launch a : Nat) : Bool := launch == n && (n != 0 || a == asid)

/-- A stream of the slot waits on the page. -/
def Stream.faultOn (st : Stream) (va : Nat) : Bool :=
  match st.wait with
  | some (.fault ea _) => samePage ea va
  | _ => false

def Packet.faultOn (p : Packet) (va : Nat) : Bool :=
  match p.wait with
  | some (.fault ea) => samePage ea va
  | _ => false

def onPage (w : Option Nat) (va : Nat) : Bool := w.any fun a => samePage a va

/-- A task waits on the page, or waited on it when it was pre-empted. -/
def Slot.faultOn (sl : Slot) (va : Nat) : Bool :=
  (sl.asked.any (samePage va)) || (sl.streams.any fun x => x.2.faultOn va) || sl.ops.any fun o => onPage o.stuck va || onPage o.fault va

/-- R441: some agent waits on the page. -/
def State.anyWaits (s : State) (n asid va : Nat) : Bool :=
  (n != 0 && (s.slots.any fun p => p.2.task.launch == n && p.2.faultOn va)) ||
    (n != 0 && (s.saved.any fun v => v.slot.task.launch == n && v.slot.faultOn va)) ||
    (s.jobs.any fun p => faultFor n asid p.2.launch p.2.asid && onPage p.2.susp va) ||
    (s.chains.any fun p => faultFor n asid p.2.launch p.2.asid && onPage p.2.wait va) ||
    (s.chans.any fun p => p.2.spFault && faultFor n asid p.2.faultLaunch p.2.asid && samePage p.2.faultVa va) ||
    (s.owed.any fun o => faultFor n asid o.launch o.asid && samePage o.wait va) ||
    (n == 0 && s.torus.windows.any fun p => p.2.stuck.any fun f => f.1 == asid && samePage f.2 va) ||
    (n == 0 && s.hqueues.any fun p => p.2.asid == asid &&
      ((p.2.cur.any fun c => c.faultOn va) || p.2.started.any fun c => onPage c.addFault va))

def Slot.retryPage (sl : Slot) (va : Nat) : Slot :=
  { sl with asked := sl.asked.filter fun a => !samePage va a,
            streams := sl.streams.map fun (p : Nat × Stream) => (p.1, if p.2.faultOn va then { p.2 with wait := none } else p.2),
            ops := sl.ops.map fun o =>
              { o with stuck := if onPage o.stuck va then none else o.stuck, fault := if onPage o.fault va then none else o.fault } }

def HQueue.retryPage (hq : HQueue) (va : Nat) : HQueue :=
  { hq with cur := hq.cur.map fun p => if p.faultOn va then { p with wait := none } else p,
            started := hq.started.map fun p => if onPage p.addFault va then { p with addFault := none } else p }

/-- R441: RETRY resumes every agent that waits on the page. -/
def State.retryFault (s : State) (n asid va : Nat) : State :=
  State.retryOwed (on := fun o => faultFor n asid o.launch o.asid && samePage o.wait va) { s with
    slots := s.slots.map fun (p : Nat × Slot) => (p.1, if n ≠ 0 ∧ p.2.task.launch = n then p.2.retryPage va else p.2),
    saved := s.saved.map fun v => if n ≠ 0 ∧ v.slot.task.launch = n then { v with slot := v.slot.retryPage va } else v,
    jobs := s.jobs.map fun (p : Nat × Job) =>
      (p.1, if faultFor n asid p.2.launch p.2.asid && onPage p.2.susp va then { p.2 with susp := none, atRecord := false } else p.2),
    chains := s.chains.map fun (p : Nat × Chain) =>
      (p.1, if faultFor n asid p.2.launch p.2.asid && onPage p.2.wait va then { p.2 with wait := none } else p.2),
    chans := s.chans.map fun (p : Nat × Chan) =>
      (p.1, if p.2.spFault && faultFor n asid p.2.faultLaunch p.2.asid && samePage p.2.faultVa va
            then { p.2 with spFault := false, refillStuck := false, faultLaunch := 0, frozen := p.2.sumpFull } else p.2),
    torus := if n = 0 then { s.torus with windows := s.torus.windows.map fun (p : Nat × Window) =>
      (p.1, if p.2.stuck.any (fun f => f.1 == asid && samePage f.2 va) then { p.2 with stuck := none } else p.2) } else s.torus,
    hqueues := if n = 0 then s.hqueues.map fun (p : Nat × HQueue) => (p.1, if p.2.asid = asid then p.2.retryPage va else p.2)
               else s.hqueues }

/-- R456: a packet whose word, or whose reading, faulted ends FAULTED; a faulted completion add is not made. -/
def State.abortQueueWait (s : State) (q va : Nat) : State :=
  let give := fun p : Packet => if onPage p.addFault va then { p with addFault := none, noAdd := true } else p
  let s := s.modHqueue q fun hq => { hq with started := hq.started.map give }
  if (s.hqueue q).cur.any (Packet.faultOn · va) then s.endPacket q 3 else s

/-- R432: the packet at the base of a window that waits on the page is given up: it will go back FAULTED. DEDUCED
(notes/assumptions/135.md). -/
def Window.give (w : Window) (asid va : Nat) : Window :=
  if w.stuck.any fun f => f.1 == asid && samePage f.2 va then
    { w with stuck := none, held := updateWhere (fun p : InPacket => p.seq == w.base) (fun p => { p with given := true }) w.held }
  else w

/-- R441, R456: ABORT. -/
def State.abortFault (s : State) (n asid va : Nat) : State :=
  if !s.anyWaits n asid va then s
  else if n ≠ 0 then s.tearLaunch n 3
  else
    let s := { s with jobs := s.jobs.map fun (p : Nat × Job) =>
      (p.1, if faultFor n asid p.2.launch p.2.asid && onPage p.2.susp va then p.2.kill else p.2) }
    let s := (s.chains.filter fun (p : Nat × Chain) => faultFor n asid p.2.launch p.2.asid && onPage p.2.wait va).foldl
      (fun s p => s.abortChain p.1) s
    let s := { s.dropOwed 0 with torus := { s.torus with windows := s.torus.windows.map fun (p : Nat × Window) => (p.1, p.2.give asid va) } }
    (s.hqueues.filter fun (p : Nat × HQueue) => p.2.asid == asid).foldl (fun s p => s.abortQueueWait p.1 va) s

def State.hostFault (s : State) (d : List Byte) : State :=
  let n := bytesAt d 0 4
  let verb := bytesAt d 4 1
  let asid := bytesAt d 5 1
  let va := bytesAt d 8 8
  if verb = 1 then s.retryFault n asid va else if verb = 2 then s.abortFault n asid va else s

/-! ## Invalidations (R352) -/

/-- A write to TXINV: ignored while DONE is 0; GO starts an invalidation. -/
def State.writeTxinv (s : State) (d : Nat) (w : Word) : State :=
  s.modDie d fun die =>
    if !flag die.txinv.toNat 1 then die
    else { die with txinv := BitVec.ofNat 64 (w.toNat / 16 * 16 + (if flag w.toNat 0 then 0 else 2)) }

/-- R352: a page line is named by the value. -/
def PageLine.hit (p : PageLine) (w : Nat) : Bool :=
  let span := 4096 * 2 ^ fld w 6 6
  let base := fld w 12 44 * 4096 / span * span
  p.asid == fld w 56 8 && decide (p.base < base + span) && decide (base < p.base + p.size)

/-- What an invalidation removes. -/
def Die.invalidate (d : Die) (w : Nat) : Die :=
  let asid := fld w 56 8
  match fld w 4 2 with
  | 0 => { d with pages := d.pages.filter fun p => !p.hit w }
  | 1 => { d with charts := d.charts.filter fun l => l.1 != asid }
  | 2 => { d with charts := d.charts.filter fun l => l.1 != asid, pages := d.pages.filter fun p => p.asid != asid }
  | _ => { d with charts := [], pages := [] }

/-- R352: every access of the die that may have used a removed translation is performed. -/
def State.accessesOver (s : State) (d w : Nat) : Bool :=
  s.slots.all fun p => dieOf p.1 != d || (fld w 4 2 != 3 && p.2.task.asid != fld w 56 8) ||
    p.2.ops.all fun o => o.done || o.kind.locs.isEmpty

/-- A TXINV write of `a` on die `unit` that starts an invalidation of kind `what`. -/
def State.txinvEvent (s : State) (what : Nat) : State :=
  if flag s.inp.a 0 && fld s.inp.a 4 2 == what then s.writeTxinv s.inp.unit (BitVec.ofNat 64 s.inp.a) else s

/-- TXINV_PAGES (R352): Invalidates page translations of a range. -/
def execTxinvPages (s : State) : Out :=
  .next (s.txinvEvent 0)

/-- TXINV_CHART (R352): Invalidates every chart line of an ASID. -/
def execTxinvChart (s : State) : Out :=
  .next (s.txinvEvent 1)

/-- TXINV_ASID (R352): Invalidates everything of an ASID. -/
def execTxinvAsid (s : State) : Out :=
  .next (s.txinvEvent 2)

/-- TXINV_ALL (R352): Invalidates everything of every ASID. -/
def execTxinvAll (s : State) : Out :=
  .next (s.txinvEvent 3)

/-- TXINV_DONE (R352): on die `unit`. -/
def execTxinvDone (s : State) : Out :=
  .next (
    let d := s.inp.unit
    let w := (s.die d).txinv.toNat
    if flag w 1 || !s.accessesOver d w then s
    else s.modDie d fun die => { die.invalidate w with txinv := BitVec.ofNat 64 (w + 2) })

/-! ## MGMT (R442): byte 0 the operation, byte 1 flags, bytes 2-3 an index, byte 4 a die or mask, the body from byte 8 -/

def State.mgmtAnswer (s : State) (d : List Byte) (status : Nat) (body : List Byte) : State :=
  s.sendLong 3 7 (d.take 1 ++ leBytes 1 status ++ leBytes 6 0 ++ body)

/-- R443: a queue's part of the STATUS answer. -/
def HQueue.report (q : Nat) (hq : HQueue) : List Byte :=
  let open_ := hq.cur.toList ++ hq.started
  leBytes 2 q ++ leBytes 2 hq.state ++ leBytes 4 hq.tail ++ leBytes 4 hq.head ++ leBytes 4 open_.length ++ open_.flatMap fun p => leBytes 4 p.idx

/-- R439: messages of a device stream go out again. -/
def State.resend1 (s : State) (stream : Nat) (which : Msg → Bool) : State :=
  let d := s.devOut.get {} stream
  let t := (d.unacked.filter which).foldl (fun s m => s.wire stream m) s
  { t with devOut := s.devOut.set stream { d with unacked := updateWhere which (fun m => { m with sent := s.mtime.toNat }) d.unacked } }

/-- R443: what the request's ACKs do not cover is sent again. -/
def State.resendAll (s : State) : State := (s.devOut.map Prod.fst).foldl (fun s i => s.resend1 i fun _ => true) s

/-- STATUS (R443). -/
def State.mgmtStatus (s : State) (d : List Byte) : State :=
  let s := (List.range 16).foldl (fun s i => if d.length < 72 then s else s.hostAck i (bytesAt d (8 + 4 * i) 4) 0) s
  let body := leBytes 4 s.boot.count ++ leBytes 8 s.mtime.toNat ++ (List.range 16).flatMap (fun i => leBytes 4 (s.host.next.get 0 i)) ++
    (List.range 16).flatMap (fun i => leBytes 4 (s.devOut.get {} i).seq) ++
    (s.hqueues.filter fun (p : Nat × HQueue) => p.2.state != 0 || p.2.cur.isSome || !p.2.started.isEmpty || p.2.head != p.2.tail).flatMap
      fun (p : Nat × HQueue) => p.2.report p.1
  s.resendAll.mgmtAnswer d 0 body

/-- A power of two in a range. -/
def pow2In (n low high : Nat) : Bool := decide (low ≤ n) && decide (n ≤ high) && (List.range 18).any fun i => n == 2 ^ i

/-- R367: the 288 bytes of a descriptor. -/
def HQueue.bytes (hq : HQueue) : List Byte :=
  leBytes 8 hq.ring ++ leBytes 4 hq.size ++ leBytes 4 hq.tail ++ leBytes 4 hq.head ++ leBytes 1 hq.asid ++ leBytes 1 hq.state ++
    leBytes 2 hq.prog ++ (List.range 32).flatMap (fun i => leBytes 8 (hq.sh.get 0 i).toNat) ++ leBytes 8 0

/-- QDESC (R367): bytes 0-23 of the descriptor; the shadow words become zero. With byte 1 bit 0 it reads the descriptor. -/
def State.mgmtQdesc (s : State) (d : List Byte) : State :=
  let q := bytesAt d 2 2
  let b := d.drop 8
  if q < 1024 && flag (bytesAt d 1 1) 0 then s.mgmtAnswer d 0 (s.hqueue q).bytes
  else if 1024 ≤ q || b.length < 24 || bytesAt b 0 8 % 256 != 0 || !pow2In (bytesAt b 8 4) 16 65536 || decide (3 < bytesAt b 21 1) ||
      decide (63 < bytesAt b 22 2) then s.mgmtAnswer d 5 []
  else
    (s.modHqueue q fun hq => { hq with ring := bytesAt b 0 8, size := bytesAt b 8 4, tail := bytesAt b 12 4, head := bytesAt b 16 4,
                                       asid := bytesAt b 20 1, state := bytesAt b 21 1, prog := bytesAt b 22 2, sh := [] }).mgmtAnswer d 0 []

/-- QPROG (R371, R445): the program's words; a refusal reports the index of the first refused word. -/
def State.mgmtQprog (s : State) (d : List Byte) : State :=
  let n := bytesAt d 2 2
  let b := d.drop 8
  let code := (chunks 4 (b.length / 4) b).map leNat
  if 63 < n || b.length % 4 != 0 then s.mgmtAnswer d 5 []
  else match loadCheck code with
    | some i => s.mgmtAnswer d 5 (leBytes 4 i)
    | none => ({ s with progs := s.progs.set n code }.extend 1 (b ++ leBytes 2 n)).mgmtAnswer d 0 []

/-- QTEAR (R390). -/
def State.mgmtQtear (s : State) (d : List Byte) : State :=
  let q := bytesAt d 2 2
  if 1024 ≤ q then s.mgmtAnswer d 5 [] else (s.tearQueue q).mgmtAnswer d 0 []

/-! ### Channels (R398-R400) -/

/-- The ring of an entry, as offsets in its die's scratchpad. -/
def Chan.ringSpan (c : Chan) : Nat × Nat := (c.ringOff * 64, c.ringOff * 64 + c.rplaces * c.esize)

/-- R399: a list of `n` segment addresses at `a` is not in HBM, where the dies' reserved memory lies. -/
def segListBad (a n : Nat) : Bool := n != 0 && !(inHbm a && inHbm (a + 8 * n - 1) && a / 0x2000000000 == (a + 8 * n - 1) / 0x2000000000)

/-- R400: the fields of an open are out of range. -/
def chopenBad (b : List Byte) : Bool :=
  bytesAt b 0 1 != 0 || decide (1 < bytesAt b 1 1) || bytesAt b 3 1 != 0 || fld (bytesAt b 4 4) 25 5 != 0 || fld (bytesAt b 8 4) 9 22 != 0 ||
    (fld (bytesAt b 4 4) 30 1 == 0 && fld (bytesAt b 4 4) 9 16 != 0) || !pow2In (bytesAt b 16 4) 2 65536 ||
    bytesAt b 20 4 == 0 || decide (bytesAt b 16 4 < bytesAt b 20 4) || bytesAt b 48 8 % 64 != 0 || segListBad (bytesAt b 48 8) (bytesAt b 58 2) || decide (1024 < bytesAt b 58 2) ||
    decide (bytesAt b 58 2 < bytesAt b 56 2) || bytesAt b 60 4 != 0

/-- The entry that an open asks for, without its segments. -/
def chopenEntry (b : List Byte) : Chan :=
  { isOpen := true, big := bytesAt b 1 1 == 1, asid := bytesAt b 2 1, wend := BitVec.ofNat 32 (bytesAt b 4 4),
    rend := BitVec.ofNat 32 (bytesAt b 8 4), ringOff := bytesAt b 12 4, rplaces := bytesAt b 16 4, wmark := bytesAt b 20 4,
    seglist := bytesAt b 48 8, maxseg := bytesAt b 58 2 }

/-- R400: the ring leaves the reserve or overlaps another open ring of the die. -/
def State.ringBad (s : State) (die : Nat) (c : Chan) : Bool :=
  let r := c.ringSpan
  decide (r.1 < 0x4000000 - (s.die die).rres) || decide (0x4000000 < r.2) ||
    s.chans.any fun p => p.1 / 4096 == die && p.2.isOpen && decide (r.1 < p.2.ringSpan.2) && decide (p.2.ringSpan.1 < r.2)

/-- R400: a segment lies outside the channel-class regions of its address space. -/
def State.segOutside (s : State) (die asid a : Nat) : Bool :=
  !((s.die die).regions.any fun r => r.asid == asid && decide (r.base ≤ a) && decide (a + 65536 ≤ r.limit))

/-- CHOPEN (R400): channel (byte 4, bytes 2-3), its entry as R399 lays it out in the body. -/
def State.mgmtChopen (s : State) (d : List Byte) : State :=
  let die := bytesAt d 4 1
  let c := die * 4096 + bytesAt d 2 2
  let b := d.drop 8
  let ch := chopenEntry b
  let n := bytesAt b 56 2
  let free := s.sumpFree.get [] (256 * die + ch.asid)
  if 7 < die || 4095 < bytesAt d 2 2 || b.length < 64 || (s.chan c).isOpen || chopenBad b || s.ringBad die ch || decide (free.length < n) ||
      (free.take n).any (s.segOutside die ch.asid) then s.mgmtAnswer d 5 []
  else ((s.setChan c ch).giveSegs c n).mgmtAnswer d 0 []

/-- R400: a task holds the close back. -/
def State.closeHeld (s : State) (c : Nat) : Bool :=
  let ch := s.chan c
  let named := fun k => endIs ch.wend k || endIs ch.rend k
  ch.wpark || ch.rpark || (s.slots.any fun p => p.2.phase != .free && p.2.task.asid == ch.asid && named p.1) ||
    s.saved.any fun v => v.slot.task.asid == ch.asid && named v.k

/-- CHCLOSE (R400). -/
def State.mgmtChclose (s : State) (d : List Byte) : State :=
  let die := bytesAt d 4 1
  let c := die * 4096 + bytesAt d 2 2
  let ch := s.chan c
  if 7 < die || 4095 < bytesAt d 2 2 || !ch.isOpen || s.closeHeld c then s.mgmtAnswer d 5 []
  else
    let key := 256 * die + ch.asid
    let gone := { ch with isOpen := false, frozen := false, sumpFull := false, spFault := false, wpark := false, rpark := false,
                          pushed := 0, popped := 0, rcnt := 0, scnt := 0, segs := [], used := [], headPos := 0, tailPos := 0, declined := false,
                          refillStuck := false, faultLaunch := 0 }
    ({ s with sumpFree := s.sumpFree.set key (s.sumpFree.get [] key ++ ch.segs) }.setChan c gone).mgmtAnswer d 0 []

/-! ### Tables, counters, keys and power -/

/-- R435: a key joins the routers' table of 64. -/
def Torus.installKey (t : Torus) (key : Nat) : Torus :=
  { t with keys := if t.keys.contains key || decide (64 ≤ t.keys.length) then t.keys else key :: t.keys }

/-- NODEMAP (R419): its reserved bits are read-only (R8), and the key of a valid entry goes into the routers' table (R435). -/
def State.mgmtNodemap (s : State) (d : List Byte) : State :=
  let i := bytesAt d 2 2
  let w := bytesAt d 8 8
  let e : NodeEnt := { valid := flag w 63, key := fld w 32 16, node := fld w 0 16 }
  if 15 < i then s.mgmtAnswer d 5 []
  else { s with nodemap := s.nodemap.set i e, torus := if e.valid then s.torus.installKey e.key else s.torus }.mgmtAnswer d 0 []

/-- TXINV (R352) on the dies of the mask in byte 4. -/
def State.mgmtTxinv (s : State) (d : List Byte) : State :=
  ((List.range 8).foldl (fun s i => if flag (bytesAt d 4 1) i then s.writeTxinv i (BitVec.ofNat 64 (bytesAt d 8 8)) else s) s).mgmtAnswer d 0 []

/-- PTPDOM (R411): byte 1 bit 0 selects the domain of bytes 2-3; the answer reports lock and holdover. -/
def State.mgmtPtpdom (s : State) (d : List Byte) : State :=
  let set := flag (bytesAt d 1 1) 0
  if set && decide (127 < bytesAt d 2 2) then s.mgmtAnswer d 5 []
  else
    let s := if set then { s with clock := { s.clock with domain := bytesAt d 2 2 } } else s
    s.mgmtAnswer d 0 (leBytes 1 s.clock.domain ++ leBytes 1 (s.clock.locked.toNat + 2 * s.clock.holdover.toNat))

/-- COUNTERS (R423): byte 1 bit 0 clears. -/
def State.mgmtCounters (s : State) (d : List Byte) : State :=
  let body := (List.range 6).flatMap (fun i => leBytes 8 (s.torus.counters.get 0 i)) ++
    s.errs.flatMap fun (p : Nat × ErrCount) => leBytes 8 p.1 ++ leBytes 8 p.2.count
  let t := if flag (bytesAt d 1 1) 0 then { s with torus := { s.torus with counters := [] }, errs := [] } else s
  t.mgmtAnswer d 0 body

/-- A port's link; a link of the die torus stands unless it has died. -/
def Torus.link (t : Torus) (n : Nat) : Link := (t.links.find? n).getD { up := decide (16 ≤ n) }

/-- R423, R1, R12: a port: one of the six of the package, or one of the four of a die in the die torus. -/
def isPort (n : Nat) : Bool := decide (n < 6) || (decide (16 ≤ n) && decide (n < 48))

/-- R12: the place of a die in the 4 × 2 die torus, and of a tile in the 4 × 2 mesh of its die. -/
def diePlace (d : Nat) : Nat × Nat := (d % 4, d / 4)
def tilePlace (t : Nat) : Nat × Nat := (t % 4, t / 4)

/-- R12: the die next to a die: 0 +x, 1 −x, 2 +y, 3 −y. -/
def dieNext (d dir : Nat) : Nat :=
  let (x, y) := diePlace d
  match dir with
  | 0 => (x + 1) % 4 + 4 * y
  | 1 => (x + 3) % 4 + 4 * y
  | _ => x + 4 * ((y + 1) % 2)

/-- The ports of a link: a link of the die torus has both its ends in the package. -/
def linkEnds (n : Nat) : List Nat :=
  if n < 16 then [n] else [n, 16 + 4 * dieNext ((n - 16) / 4) (n % 4) + (if n % 2 = 0 then n % 4 + 1 else n % 4 - 1)]

/-- LINKTRAIN (R434): the removed link at the named port is trained. -/
def State.mgmtLinktrain (s : State) (d : List Byte) : State :=
  let n := bytesAt d 2 2
  let l := s.torus.link n
  if !isPort n || l.up || l.dying.isSome then s.mgmtAnswer d 5 []
  else { s with torus := { s.torus with links := s.torus.links.set n { l with training := some s.mtime.toNat } } }.mgmtAnswer d 0 []

/-- R435: a key leaves every router; packets held with it are discarded and their windows reset. -/
def State.revokeKey (s : State) (key : Nat) : State :=
  let t := s.torus
  { s with torus := { t with
    revoked := if t.revoked.contains key then t.revoked else key :: t.revoked,
    windows := t.windows.map fun (p : Nat × Window) => (p.1, if p.2.held.any fun k => k.key == key then {} else p.2) } }

/-- FENCE (R435). -/
def State.mgmtFence (s : State) (d : List Byte) : State := (s.revokeKey (bytesAt d 8 2)).mgmtAnswer d 0 []

/-- ATTEST (R446): the report and its signature, or for a zero nonce the identity key and its certificate. -/
def State.mgmtAttest (s : State) (d : List Byte) : State :=
  let nonce := (d.drop 8).take 32
  let meas := (List.range 4).flatMap fun i => s.boot.meas.get (List.replicate 32 0) i
  let report := leBytes 4 1 ++ leBytes 4 s.boot.count ++
    [0x54, 0x52, 0x54, 0x2D, 0x41, 0x35, 0x2D, 0x32, 0x33, 0x30, 0x34, 0x00, 0x00, 0x00, 0x00, 0x00] ++ leBytes 8 s.boot.rollback ++
    nonce ++ meas ++ (List.range 8).flatMap fun i => leBytes 1 (s.boot.retired.get 255 i)
  if nonce.length < 32 then s.mgmtAnswer d 5 []
  else if nonce.all fun b => b == 0 then s.mgmtAnswer d 0 Config.identity
  else s.mgmtAnswer d 0 (report ++ Config.sign report)

/-- BASEIMG (R445): image of byte 4 of the context store of the tile in bytes 2-3. -/
def State.mgmtBaseimg (s : State) (d : List Byte) : State :=
  let t := bytesAt d 2 2
  let img := bytesAt d 4 1
  if 63 < t || 15 < img then s.mgmtAnswer d 5 []
  else (s.extend 2 (Memory.readBytes s.mem (imageAt t img 0) 65536)).mgmtAnswer d 0 []

/-- POWER (R447): writes PWRCAP, whose reserved bits are read-only (R8). DESIGN CHOICE (notes/assumptions/149.md): a LIMIT outside 1,000 to
5,400 W or a WINDOW of 0 is answered ILLEGAL, and nothing is written. -/
def State.mgmtPower (s : State) (d : List Byte) : State :=
  let w := bytesAt d 8 8
  if decide (fld w 16 16 < 1000) || decide (5400 < fld w 16 16) || fld w 8 8 == 0 then s.mgmtAnswer d 5 []
  else { s with power := { s.power with cap := BitVec.ofNat 64 (fld w 8 24 * 256 + fld w 0 1) } }.mgmtAnswer d 0 []

/-- R450: THROT. -/
def Power.throt (p : Power) : Nat := p.clock * 256 + p.causes.toNat

/-- SENSORS (R448-R450). -/
def State.mgmtSensors (s : State) (d : List Byte) : State :=
  let p := s.power
  s.mgmtAnswer d 0 (leBytes 8 p.now.toNat ++ (List.range 8).flatMap (fun i => leBytes 8 (p.temps.get 0 i).toNat) ++ leBytes 8 p.throt)

/-- R442: the operation a payload begins with. -/
def State.mgmt (s : State) (d : List Byte) : State :=
  match bytesAt d 0 1 with
  | 1 => s.mgmtStatus d
  | 2 => s.mgmtQdesc d
  | 3 => s.mgmtQprog d
  | 4 => s.mgmtQtear d
  | 5 => s.mgmtChopen d
  | 6 => s.mgmtChclose d
  | 7 => s.mgmtNodemap d
  | 8 => s.mgmtTxinv d
  | 9 => s.mgmtPtpdom d
  | 10 => s.mgmtCounters d
  | 11 => s.mgmtLinktrain d
  | 12 => s.mgmtFence d
  | 13 => s.mgmtAttest d
  | 14 => s.mgmtBaseimg d
  | 15 => s.mgmtPower d
  | 16 => s.mgmtSensors d
  | _ => s.mgmtAnswer d 5 []

/-! ## Messages in order (R439) -/

/-- A message takes effect: MGMT alone before READY (R452), STATUS and firmware WRITEs to the recovery window alone in recovery (R444); another TYPE is malformed (R426). -/
def State.hostApply (s : State) (type : Nat) (d : List Byte) : State :=
  if s.power.recovery then
    (if type = 7 ∧ bytesAt d 0 1 = 1 then s.mgmtStatus d
     else if type = 1 && Config.recoveryWindow (bytesAt d 0 8) then s.hostWrite d
     else s)
  else if !s.host.ready && type != 7 then s
  else match type with
    | 1 => s.hostWrite d
    | 2 => s.hostRead d
    | 3 => s.hostTail d
    | 5 => s.hostFault d
    | 7 => s.mgmt d
    | _ => s.error { cls := 6, unit := 11 } true

/-- The next message of a stream takes effect. -/
def State.hostNext (s : State) (stream type : Nat) (d : List Byte) : State :=
  { s with host := { s.host with next := s.host.next.set stream ((s.host.next.get 0 stream + 1) % 2 ^ 32) } }.hostApply type d

/-- Messages held behind the gap that has filled, at most `n` of them. -/
def State.hostDrain (stream : Nat) : Nat → State → State
  | 0, s => s
  | n + 1, s =>
    let seq := s.host.next.get 0 stream
    match s.host.held.find? fun w => w.stream == stream && w.seq == seq with
    | none => s
    | some w =>
      let s := { s with host := { s.host with held := s.host.held.filter fun v => !(v.stream == stream && v.seq == seq) } }
      State.hostDrain stream n (s.hostNext stream w.type w.data)

/-- R439: a message with a sequence: it takes effect, waits behind a gap, or is a duplicate. -/
def State.hostSeq (s : State) (stream seq type : Nat) (d : List Byte) : State :=
  let ahead := (seq + 2 ^ 32 - s.host.next.get 0 stream) % 2 ^ 32
  let held := s.host.held.filter fun w => w.stream == stream
  if ahead = 0 then State.hostDrain stream held.length (s.hostNext stream type d)
  else if decide (ahead < 2 ^ 31) && decide (held.length < 4096) && !(held.any fun w => w.seq == seq) then
    { s with host := { s.host with held := s.host.held ++ [{ stream := stream, seq := seq, type := type, data := d }] } }
  else s

/-- R437: a message of stream `unit`: VER `ver`, SEQ `id`, ACK `a`, SACK `b`, BOOTCOUNT `c`, FLAGS `x`. One with a SEQ is acknowledged,
a duplicate too (R439). -/
def State.hostMsg (s : State) (type : Nat) : State :=
  let i := s.inp
  if !s.host.up || i.ver != 1 || i.c != s.boot.count % 2 ^ 32 then s
  else if i.malformed then s.error { cls := 6, unit := 11 } true
  else
    let s := s.hostAck i.unit i.a i.b
    if flag i.x 1 then s else (s.hostSeq i.unit (i.id % 2 ^ 32) type i.data).ackOnly i.unit type

/-- A MGMT message of one operation. -/
def State.mgmtMsg (s : State) (op : Nat) : State := if bytesAt s.inp.data 0 1 = op then s.hostMsg 7 else s

/-- A FAULT message of one verb. -/
def State.faultMsg (s : State) (verb : Nat) : State := if bytesAt s.inp.data 4 1 = verb then s.hostMsg 5 else s

/-- HOST_WRITE (R438): A host WRITE message writes bytes and is answered. -/
def execHostWrite (s : State) : Out :=
  .next (s.hostMsg 1)

/-- HOST_READ (R438): A host READ message reads bytes and is answered. -/
def execHostRead (s : State) : Out :=
  .next (s.hostMsg 2)

/-- HOST_TAIL (R368): A host TAIL message advances a queue's kept tail. -/
def execHostTail (s : State) : Out :=
  .next (s.hostMsg 3)

/-- HOST_ACK (R439): An acknowledgement frees retained device messages. -/
def execHostAck (s : State) : Out :=
  .next (if flag s.inp.x 1 then s.hostMsg 0 else s)

/-- HOST_FAULT_RETRY (R441): A FAULT RETRY resumes every agent waiting on the page. -/
def execHostFaultRetry (s : State) : Out :=
  .next (s.faultMsg 1)

/-- HOST_FAULT_ABORT (R441): A FAULT ABORT tears down the launch or ends the launchless work FAULTED. -/
def execHostFaultAbort (s : State) : Out :=
  .next (s.faultMsg 2)

/-- MGMT_STATUS (R443): Reports boot count, stream sequences and queue progress, then resends. -/
def execMgmtStatus (s : State) : Out :=
  .next (s.mgmtMsg 1)

/-- MGMT_QDESC (R367): Writes a queue descriptor and zeroes its shadow words. -/
def execMgmtQdesc (s : State) : Out :=
  .next (s.mgmtMsg 2)

/-- MGMT_QPROG (R371): Checks and loads a queue program into a slot. -/
def execMgmtQprog (s : State) : Out :=
  .next (s.mgmtMsg 3)

/-- MGMT_QTEAR (R390): Tears down a queue. -/
def execMgmtQtear (s : State) : Out :=
  .next (s.mgmtMsg 4)

/-- MGMT_CHOPEN (R400): Opens a channel. -/
def execMgmtChopen (s : State) : Out :=
  .next (s.mgmtMsg 5)

/-- MGMT_CHCLOSE (R400): Closes a channel and returns its segments. -/
def execMgmtChclose (s : State) : Out :=
  .next (s.mgmtMsg 6)

/-- MGMT_NODEMAP (R419): Writes a node-map entry. -/
def execMgmtNodemap (s : State) : Out :=
  .next (s.mgmtMsg 7)

/-- MGMT_TXINV (R352): Writes TXINV on the named dies. -/
def execMgmtTxinv (s : State) : Out :=
  .next (s.mgmtMsg 8)

/-- MGMT_PTPDOM (R411): Selects the PTP domain and reads lock status. -/
def execMgmtPtpdom (s : State) : Out :=
  .next (s.mgmtMsg 9)

/-- MGMT_COUNTERS (R423): Reads or clears torus and error counters. -/
def execMgmtCounters (s : State) : Out :=
  .next (s.mgmtMsg 10)

/-- MGMT_LINKTRAIN (R434): Trains a removed link and returns it to the tables. -/
def execMgmtLinktrain (s : State) : Out :=
  .next (s.mgmtMsg 11)

/-- MGMT_FENCE (R435): Removes a partition key from every router. -/
def execMgmtFence (s : State) : Out :=
  .next (s.mgmtMsg 12)

/-- MGMT_ATTEST (R446): Returns a signed attestation report or the identity key. -/
def execMgmtAttest (s : State) : Out :=
  .next (s.mgmtMsg 13)

/-- MGMT_BASEIMG (R445): Registers a base image and extends MEAS2. -/
def execMgmtBaseimg (s : State) : Out :=
  .next (s.mgmtMsg 14)

/-- MGMT_POWER (R447): Writes PWRCAP. -/
def execMgmtPower (s : State) : Out :=
  .next (s.mgmtMsg 15)

/-- MGMT_SENSORS (R442): Reads PWRNOW, TEMP0-TEMP7 and THROT. -/
def execMgmtSensors (s : State) : Out :=
  .next (s.mgmtMsg 16)

/-- HOST_RETRANSMIT (R439): messages of device stream `unit` not covered 50 µs after they were sent. -/
def execHostRetransmit (s : State) : Out :=
  .next (if !s.host.up then s else s.resend1 s.inp.unit fun m => decide (m.sent + 50000 ≤ s.mtime.toNat))

/-- HOST_LINK_LOSS (R439): The host port loses link; nothing is dropped. -/
def execHostLinkLoss (s : State) : Out :=
  .next ({ s with host := { s.host with up := false, lost := true } })

/-- HOST_LINK_UP (R439, R452): the link returns, and a class-6 record is sent. In bring-up it is step 7, from which on the port accepts
MGMT only; once more with the link up it is step 8, READY (notes/assumptions/138.md). -/
def execHostLinkUp (s : State) : Out :=
  .next (if s.boot.failed || s.power.recovery && s.host.up then s
    else if s.host.up then
      (if s.host.ready then s else { s with host := { s.host with ready := true } }.event (leBytes 8 s.boot.count))
    else
      let t := { s with host := { s.host with up := true, lost := false } }
      if s.host.lost then t.error { cls := 6, unit := 11 } true else t)

/-! ## Registers with no row of their own -/

/-- R398: the segments of a region. -/
def ChanRegion.segments (r : ChanRegion) : List Nat := (List.range ((r.limit - r.base) / 65536)).map fun i => r.base + 65536 * i

/-- R398: a region is declared, and its segments join the reserve, a set: those of another region of the same address space are there, or
held, already. -/
def State.addRegion (s : State) (d : Nat) (r : ChanRegion) : State :=
  let regs := (s.die d).regions
  if 16 ≤ regs.length || r.base % 65536 != 0 || r.limit % 65536 != 0 || decide (r.limit ≤ r.base) then s
  else
    let key := 256 * d + r.asid
    let new := r.segments.filter fun a => !(regs.any fun q => q.asid == r.asid && q.segments.contains a)
    { s with sumpFree := s.sumpFree.set key (s.sumpFree.get [] key ++ new) }.modDie d fun die => { die with regions := regs ++ [r] }

/-- R398: a region all of whose segments are free is withdrawn; those that another region of its address space holds stay. -/
def State.dropRegion (s : State) (d : Nat) (r : ChanRegion) : State :=
  let key := 256 * d + r.asid
  let free := s.sumpFree.get [] key
  if !(s.die d).regions.contains r || !(r.segments.all free.contains) then s
  else
    let rest := (s.die d).regions.filter (· != r)
    let stays := fun a => rest.any fun q => q.asid == r.asid && q.segments.contains a
    { s with sumpFree := s.sumpFree.set key (free.filter fun a => !r.segments.contains a || stays a) }.modDie d fun die => { die with regions := rest }

/-- R432: granules of a die's reserve that live cairns hold. -/
def State.cairnUsed (s : State) (d : Nat) : Nat :=
  (s.cairnHolders.map fun p => if dieOf p.1 = d then (p.2.cairns.map fun (c : Nat × Cairn) => c.2.saved.length).sum else 0).sum

/-- REGISTER_WRITE (R36): the pilot writes register `x`: 0 ASHARE of tile `unit`; 1 AGELIM of core `unit`; 2 the ASID descriptor
`unit` (CHART `a`, NCHART `b`, ROOT `c`; R346); 3 RRES of die `unit` (R398); 4 and 5 a channel-class region of ASID `a` from `b` to `c`
(R398); 6 the cairn reserve of die `unit` in 256-byte granules (R432); 7 the debug enable of slot `unit` (R235). -/
def execRegisterWrite (s : State) : Out :=
  .next (
    let i := s.inp
    let r : ChanRegion := { asid := i.a, base := i.b, limit := i.c }
    match i.x with
    | 0 => match ashareOf i.a with
      | some w => s.modTile i.unit fun t => { t with ashare := w, window := s.cycle }
      | none => s
    | 1 => { s with agelim := s.agelim.set i.unit (agelimOf i.a) }
    | 2 => if i.a % 32 != 0 || decide (4096 < i.b) || i.c % 4096 != 0 then s
           else { s with asids := s.asids.set i.unit { chart := i.a, nchart := i.b, root := i.c } }
    | 3 => if i.a % 0x100000 != 0 || decide (0x2000000 < i.a) || s.chans.any fun p => p.1 / 4096 == i.unit && p.2.isOpen then s
           else s.modDie i.unit fun d => { d with rres := i.a }
    | 4 => s.addRegion i.unit r
    | 5 => s.dropRegion i.unit r
    | 6 => if i.a % 256 != 0 || decide (2 ^ 24 < i.a) then s else { s with cairnFree := s.cairnFree.set i.unit (i.a - s.cairnUsed i.unit) }
    | 7 => s.modSlot i.unit fun sl => { sl with debug := i.a == 1, broke := false }
    | _ => s)

/-! ## The meridian clock (R410, R411) -/

/-- PTP_MESSAGE (R411): a Sync of domain `unit` measures MTIME `a` ns behind (`x` = 0) or ahead of the master. -/
def execPtpMessage (s : State) : Out :=
  .next (
    let i := s.inp
    if i.unit ≠ s.clock.domain then s
    else
      let c := { s.clock with locked := true, holdover := false, lastSync := s.mtime.toNat, part := 0 }
      if i.x = 0 ∧ 100000 < i.a then
        { s with mtime := s.mtime + BitVec.ofNat 64 i.a, clock := { c with slew := 0, lastSync := s.mtime.toNat + i.a } }
      else { s with clock := { c with slew := if i.x = 0 then (i.a : Int) else -(i.a : Int) } })

/-- PTP_HOLDOVER (R411): no Sync for 2 s. -/
def execPtpHoldover (s : State) : Out :=
  .next (if s.clock.locked && decide (s.clock.lastSync + 2000000000 ≤ s.mtime.toNat) then { s with clock := { s.clock with holdover := true } } else s)

end Sys2Proof.Machine
end

