-- ==== Sys2Proof/Machine/Torus.lean ====
section
/-! DEFINITION. Sys2Proof/Machine/Torus.lean: remote packets at both ends, refusals, and the links (R409, R419, R422, R423,
R433-R436). -/

namespace Sys2Proof.Machine

def State.setTorus (s : State) (t : Torus) : State := { s with torus := t }

def Torus.pair (t : Torus) (node : Nat) : Pair := t.pairs.get {} node
def Torus.setPair (t : Torus) (node : Nat) (p : Pair) : Torus := { t with pairs := t.pairs.set node p }

/-- A message goes onto the links. -/
def Torus.put (t : Torus) (m : TorusMsg) : Torus := { t with sending := t.sending ++ [m] }

/-! ## At the destination (R422) -/

/-- What a packet does at its memory port: 0 a write; 1 a 64-bit add; 2 a compare and swap, its data the compare and the swap
value; 3 a channel push, 4 a credit (R409); 16 and up an accumulate by its operation. 64 more is the WAKE flag. -/
def InPacket.rmws (p : InPacket) : Option (List (Nat × Rmw)) :=
  match p.op % 64 with
  | 0 => none
  | 1 => some [(0, .add64 (leNat p.data))]
  | 2 => some [(0, .cas p.size (bytesAt p.data 0 p.size) (bytesAt p.data p.size p.size))]
  | o => some ((List.range (p.data.length / p.size)).map fun i => (i * p.size, .op (o - 16) p.size (bytesAt p.data (i * p.size) p.size)))

/-- The address of a record by its location, from the ranges of its launch. -/
def State.recordVa (s : State) (loc : Nat) : Option (Nat × Nat) :=
  let n := s.recLaunch loc
  (s.launch n).ranges.zipIdx.findSome? fun r => (List.range r.1.2.2).findSome? fun i =>
    match s.rangeRecord n r.2 i with
    | some rc => if rc.loc = loc then some (rc.va, rc.asid) else none
    | none => none

/-- Apply a packet: the state, the status it goes back with, and the old value. None: a cairn save waits for service, or a push for
space. A credit finds no writer's end here: no handle names a channel of another package (notes/assumptions/144.md). -/
def State.applyPacket (s : State) (p : InPacket) : Option (State × Nat × Nat) :=
  if p.given then some (s, 3, 0)
  else if p.op % 64 = 4 then some (s, 0, 0)
  else if p.op % 64 = 3 then
    let ch := s.chan p.addr
    if !(ch.isOpen && flag ch.wend.toNat 30 && p.data.length == ch.esize) then some (s, 2, 0)
    else if !ch.canPush then none
    else (s.pushElem p.addr p.data).map fun t => (t, 0, 0)
  else
    let n := if p.op % 64 = 2 then p.size else p.data.length
    let locs := (List.range n).map (p.addr + ·)
    if locs.any fun a => !inHbm a then some (s, 2, 0)
    else if (s.cairnFault locs).isSome then none
    else match p.rmws with
      | none => some (s.writeRun p.addr p.data, 0, 0)
      | some rs =>
        if locs.any s.marked then some (s, 1, 0)
        else
          let old := Memory.readLe s.mem p.addr n
          let t := rs.foldl (fun s r =>
            let a := p.addr + r.1
            let z := r.2.size
            s.writeRun a (leBytes z (r.2.apply (Memory.readLe s.mem a z)))) s
          let t := if 64 ≤ p.op ∧ p.addr % 128 = 24 then
              (match s.recordVa (p.addr - 24) with
                | some (va, asid) => t.depEffect (p.addr - 24) va asid (fromCode true 32 old) (fromCode true 32 (Memory.readLe t.mem p.addr 4))
                | none => t)
            else t
          some (t, 0, old)

/-- The packet at the window base cannot be applied now. R407: a push that finds ring and sump full asks the pilot to grow the sump.
R432, R353: of a write whose cairn save meets a translation fault the record is written once, and it waits for service. -/
def State.packetStuck (s : State) (node : Nat) (p : InPacket) : State :=
  let w := s.torus.windows.get {} node
  if (s.applyPacket p).isSome || w.stuck.isSome then s
  else if p.op % 64 = 3 then s.askSump p.addr
  else match s.cairnFault ((List.range p.data.length).map (p.addr + ·)) with
    | some (asid, va) =>
      let t := s.faultRecord { va := va, launch := 0, asid := asid, cause := fPermission, access := 5, agent := 2, who := 0 }
      t.setTorus { t.torus with windows := t.torus.windows.set node { w with stuck := some (asid, va) } }
    | none => s

/-- The packet at the window base is applied and acknowledged, and the packets behind it as far as no gap stands. -/
def State.applyNext (node : Nat) : Nat → State → InPacket → State
  | n, s, p =>
    let w := s.torus.windows.get {} node
    match s.applyPacket p with
    | none => s
    | some (t, st, old) =>
      let w := { base := (w.base + 1) % 2 ^ 32, held := w.held.filter fun h => h.seq != p.seq }
      let tr := { (t.torus.count (if st = 0 then 2 else 3) 1) with windows := t.torus.windows.set node w }
      let t := t.setTorus (tr.put { kind := 1, node := node, seq := p.seq, status := st, value := old })
      match n with
      | 0 => t
      | n + 1 => match List.find? (fun h : InPacket => h.seq == w.base) w.held with
        | some h => (t.packetStuck node h).applyNext node n h
        | none => t

/-- R422, R435: a packet reaches this package from `node`. -/
def State.packetIn (s : State) (node : Nat) (p : InPacket) : State :=
  let t := s.torus
  let w := t.windows.get {} node
  let ahead := (p.seq + 2 ^ 32 - w.base) % 2 ^ 32
  if !t.admits p.key then s.setTorus (t.put { kind := 2, node := node, seq := p.seq, status := 10, value := 0 })
  else if 2 ^ 31 ≤ ahead then s.setTorus ((t.count 3 1).put { kind := 1, node := node, seq := p.seq, status := 0, value := 0 })
  else if ahead = 0 then
    let p := (w.held.find? (·.seq == p.seq)).getD p
    if (s.applyPacket p).isSome then State.applyNext node w.held.length s p
    else
      let s := s.packetStuck node p
      let w := s.torus.windows.get {} node
      s.setTorus { s.torus with windows := s.torus.windows.set node { w with held := p :: w.held.filter fun h => h.seq != p.seq } }
  else if ahead < 1024 ∧ (w.held.find? (·.seq == p.seq)).isNone then
    let w := { w with held := w.held ++ [p] }
    let most := max (t.counters.get 0 4) w.held.length
    s.setTorus { t with windows := t.windows.set node w, counters := t.counters.set 4 most }
  else s

/-- REMOTE_PACKET_ARRIVAL (R422): from node `unit`, sequence `id`, operation `x`, address `a`, element size `b`, key `c`. -/
def execRemotePacketArrival (s : State) : Out :=
  .next (let i := s.inp
    s.packetIn i.unit { seq := i.id % 2 ^ 32, addr := i.a, op := i.x, size := max 1 i.b, data := i.data, key := i.c })

/-! ## At the source (R422, R435, R436) -/

/-- The completion add that a packet carries (R230): it is made, or never will be. -/
def State.addAnswered (s : State) (node seq : Nat) (ok : Bool) : State :=
  let answer := fun e : Packet => if e.addSent == some (node, seq) then { e with addSent := none, added := ok, noAdd := !ok } else e
  { s with hqueues := s.hqueues.map fun (p : Nat × HQueue) => (p.1, { p.2 with started := p.2.started.map answer }) }

/-- The data word at hand is the completion record of a chain command (R213). -/
def Job.atOwnRecord (j : Job) (fi : Nat) : Bool := j.recorded && fi + 1 == j.flights.length

/-- A command's packet comes back with a status and a value. R215: a failing one ends the command at its word; a record that cannot be
written leaves the command as it is (R213). -/
def Job.pieceBack (j : Job) (fi node seq status value : Nat) : Job :=
  match j.flights[fi]? with
  | none => j
  | some f =>
    let here := fun pc : Piece => pc.node == node && pc.seq == seq
    let off := ((f.packets.find? here).map Piece.off).getD f.done
    let f := { f with packets := f.packets.filter fun pc => !here pc, old := if f.reg.isSome || f.work.serial then f.old.or (some (BitVec.ofNat 64 value)) else f.old }
    let j := { j with flights := j.flights.set fi f }
    if status = 0 then j.landOld f
    else if j.atOwnRecord fi then { j with flights := [] }
    else j.failAt fi off status

/-- R435: the command ends FENCED at the first of its words that has a packet for the node, OFFSET the bytes acknowledged before the
first such packet; its packets for that node are given up. -/
def Job.fence (j : Job) (node : Nat) : Job :=
  let mine := fun f : Flight => f.packets.filter fun pc => pc.node == node
  let fi := j.flights.findIdx fun f => !(mine f).isEmpty
  match j.flights[fi]? with
  | none => j
  | some f =>
    let off := (mine f).foldl (fun n pc => min n pc.off) f.done
    let gone := { j with flights := j.flights.map fun (g : Flight) => { g with packets := g.packets.filter fun pc => pc.node != node } }
    if j.atOwnRecord fi then { j with flights := [] } else gone.failAt fi off 10

/-- Packets that have waited for room go out, as far as there is some. -/
def State.promote (s : State) (node : Nat) : Nat → State
  | 0 => s
  | n + 1 =>
    let p := s.torus.pair node
    match p.later with
    | [] => s
    | pk :: rest =>
      if 1024 ≤ p.unacked.length then s
      else ((s.setTorus (s.torus.setPair node { p with later := rest })).handOver node pk).promote node n

/-- R435: a fenced pair sends nothing more. -/
def Pair.fence (p : Pair) : Pair := { p with fenced := true, later := [] }

/-- The commands and the retry buffer after some packets to a node end FENCED: each command once, with all its packets to the node. -/
def State.fencePackets (s : State) (node : Nat) (ps : List OutPacket) : State :=
  let ids := ((ps.map OutPacket.job).filter (· != 0)).eraseDups
  let s := (ps.filter fun p => p.job == 0).foldl (fun s p => s.addAnswered node p.seq false) s
  let s := ids.foldl (fun s id => if (s.jobs.find? id).isSome then s.setJob id ((s.job id).fence node) else s) s
  let pair := s.torus.pair node
  let stays := fun p : OutPacket => !(ps.any fun q => q.seq == p.seq) && !(ids.contains p.job)
  let t := s.setTorus (s.torus.setPair node { pair with unacked := pair.unacked.filter stays })
  t.promote node pair.later.length

/-- REMOTE_ACK_ARRIVAL (R422): node `unit` acknowledges sequence `id` with status `x` and old value `a`. -/
def execRemoteAckArrival (s : State) : Out :=
  .next (
    let i := s.inp
    let pair := s.torus.pair i.unit
    match pair.unacked.find? fun p => p.seq == i.id with
    | none => s
    | some p =>
      let s := (s.setTorus (s.torus.setPair i.unit { pair with unacked := pair.unacked.filter fun q => q.seq != i.id })).promote i.unit 1
      if p.job = 0 then s.addAnswered i.unit p.seq (i.x == 0)
      else if (s.jobs.find? p.job).isSome then s.setJob p.job ((s.job p.job).pieceBack p.flight i.unit p.seq i.x i.a) else s)

/-- Send some unacknowledged packets of a node again over live paths, each over a path of its own choice; one that has never gone out goes
for the first time (R423). -/
def State.resendTo (s : State) (node : Nat) (which : OutPacket → Bool) : State :=
  let pair := s.torus.pair node
  let hit := pair.unacked.filter which
  if hit.isEmpty then s
  else if (s.torus.paths node).isEmpty then s.setTorus (s.torus.setPair node { pair with deadSince := pair.deadSince.or (some s.mtime.toNat) })
  else
    let first := (hit.filter fun p => p.path.isEmpty).length
    let sent := pair.unacked.zipIdx.map fun e =>
      if which e.1 then { e.1 with sent := s.mtime.toNat, path := s.torus.route node (s.fresh + e.2) } else e.1
    let t := (hit.filter fun p => s.torus.admits p.key).foldl
      (fun (t : Torus) p => t.put { kind := 0, node := node, seq := p.seq, status := 0, value := leNat p.data }) s.torus
    let t := (t.setPair node { pair with unacked := sent, deadSince := none }).count 0 first
    { s with fresh := s.fresh + pair.unacked.length }.setTorus (t.count 1 (hit.length - first))

/-- REMOTE_RESEND_TIMEOUT (R422): packets to node `unit` unacknowledged 20 µs after their latest sending. -/
def execRemoteResendTimeout (s : State) : Out :=
  .next (s.resendTo s.inp.unit fun p => decide (p.sent + 20000 ≤ s.mtime.toNat))

/-- REMOTE_REFUSAL (R435): the packet `id` to node `unit` was refused. -/
def execRemoteRefusal (s : State) : Out :=
  .next (
    let pair := s.torus.pair s.inp.unit
    match pair.unacked.find? fun p => p.seq == s.inp.id with
    | none => s
    | some p => (s.setTorus (s.torus.setPair s.inp.unit pair.fence)).fencePackets s.inp.unit [p])

/-- DESTINATION_UNREACHABLE (R436): node `unit` has had no live path for 100 µs, by this package's own ports, or with `x` = 1 since
MTIME `a` by what lies beyond them. -/
def execDestinationUnreachable (s : State) : Out :=
  .next (
    let pair := s.torus.pair s.inp.unit
    let since := if s.inp.x = 1 then some s.inp.a else if s.torus.live.isEmpty then pair.deadSince else none
    match since with
    | some t => if t + 100000 ≤ s.mtime.toNat then s.fencePackets s.inp.unit pair.unacked else s
    | none => s)

/-! ## Links (R423, R433, R434) -/

def Torus.setLink (t : Torus) (n : Nat) (l : Link) : Torus := { t with links := t.links.set n l }

/-- A change to the link of a port, at every end it has here. -/
def Torus.modLink (t : Torus) (n : Nat) (f : Link → Link) : Torus := (linkEnds n).foldl (fun (t : Torus) m => t.setLink m (f (t.link m))) t

/-- R435: the package is fenced: the keys that its packets carry are revoked. -/
def State.fencePackage (s : State) : State :=
  let s := (s.nodemap.filter fun (p : Nat × NodeEnt) => p.2.valid).foldl (fun s p => s.revokeKey p.2.key) s
  { s with power := { s.power with fenced := true } }

/-- R423: the link record. -/
def State.linkRecord (s : State) (n : Nat) (l : Link) (at_ cause inflight : Nat) : State :=
  s.event (leBytes 8 at_ ++ leBytes 2 s.torus.node ++ leBytes 2 l.peer ++ leBytes 1 n ++ leBytes 1 cause ++ leBytes 2 0 ++
    leBytes 4 inflight ++ leBytes 4 0 ++ leBytes 8 s.mtime.toNat ++ leBytes 32 0)

/-- R433: a die that has lost both its links in one ring dimension. -/
def Torus.dieLost (t : Torus) (n : Nat) : Bool := decide (16 ≤ n) && !(t.link (n / 2 * 2)).up && !(t.link (n / 2 * 2 + 1)).up

/-- R433, R422: the link of a port dies, at every end it has here: what used it is sent again at once. -/
def State.killLink (s : State) (n cause : Nat) : State :=
  if !isPort n || !(s.torus.link n).up then s
  else
    let flown := (s.torus.pairs.map fun (p : Nat × Pair) => (p.2.unacked.filter fun k => k.path.contains n).length).sum
    let t := s.torus.modLink n fun l => { l with up := false, retries := 0, dying := some (s.mtime.toNat, cause, flown) }
    let s := s.setTorus (if n < 16 then t.count 5 1 else t)
    let s := s.torus.pairs.foldl (fun s (p : Nat × Pair) => s.resendTo p.1 fun k => k.path.contains n) s
    (linkEnds n).foldl (fun s m =>
      if s.torus.dieLost m then s.fencePackage.error { cls := 8, unit := 10, die := (m - 16) / 4 } true else s) s

/-- R434: a link that fails training stays removed, and its port reports CAUSE 1 again. -/
def State.trainFails (s : State) (n : Nat) : State :=
  let l := s.torus.link n
  (s.setTorus (s.torus.setLink n { l with training := none })).linkRecord n l s.mtime.toNat 1 0

/-- R433: the retries of the last millisecond, with one now. -/
def Link.retried (l : Link) (now : Nat) : Link := { l with retries := l.retries + 1, recent := now :: l.recent.filter fun t => decide (now < t + 1000000) }

/-- FLIT_CRC_RETRY (R433): a flit on port `unit` is retried, for the 16th time in vain when the link dies; `x` = 1: a retry has gone
through. A link in training fails it (R434). -/
def execFlitCrcRetry (s : State) : Out :=
  .next (
    let n := s.inp.unit
    let l := s.torus.link n
    if s.inp.x = 1 then s.setTorus (s.torus.setLink n { l with retries := 0 })
    else
      let e : ErrInfo := { cls := 1, unit := 10 }
      let c := s.errs.get {} e.key
      let s := s.error e (c.second == s.mtime.toNat / 1000000000 && decide (16 ≤ c.inSecond))
      if l.training.isSome then s.trainFails n
      else if 15 ≤ l.retries then s.killLink n 2 else s.setTorus (s.torus.setLink n (l.retried s.mtime.toNat)))

/-- LINK_LOSS_OF_LOCK (R433): A PHY loses lock and the link dies; resends begin. A link in training fails it (R434). -/
def execLinkLossOfLock (s : State) : Out :=
  .next (if (s.torus.link s.inp.unit).training.isSome then s.trainFails s.inp.unit else s.killLink s.inp.unit 1)

/-- R433: more than one retry in a million flits within a millisecond. -/
def Link.tooMany (l : Link) (now flits : Nat) : Bool :=
  decide (flits < 1000000 * (l.recent.filter fun t => decide (now < t + 1000000)).length)

/-- LINK_FLIT_ERROR_RATE (R433): port `unit` has carried `a` flits within the last millisecond; too many retries among them kill the
link. -/
def execLinkFlitErrorRate (s : State) : Out :=
  .next (if (s.torus.link s.inp.unit).tooMany s.mtime.toNat s.inp.a then s.killLink s.inp.unit 3 else s)

/-- LINK_REMOVED (R423): every router has removed the dead link of port `unit`; with `x` = 1 a link beyond this package, which the
packet `id` to node `a` used. -/
def execLinkRemoved (s : State) : Out :=
  .next (
    let n := s.inp.unit
    if s.inp.x = 1 then s.resendTo s.inp.a fun p => p.seq == s.inp.id
    else
      let l := s.torus.link n
      match l.dying with
      | some (at_, cause, flown) => (s.setTorus (s.torus.setLink n { l with dying := none })).linkRecord n l at_ cause flown
      | none => s)

/-- LINK_TRAINED (R434): the link of port `unit`, to node `a`, has run free of errors for 10 ms; with `x` = 1 it fails its training. -/
def execLinkTrained (s : State) : Out :=
  .next (
    let n := s.inp.unit
    let l := s.torus.link n
    match l.training with
    | none => s
    | some t =>
      if s.inp.x = 1 then s.trainFails n
      else if t + 10000000 ≤ s.mtime.toNat then
        let tr := s.torus.modLink n fun l => { l with up := true, training := none, dying := none, peer := s.inp.a, retries := 0 }
        s.setTorus { tr with pairs := tr.pairs.map fun (p : Nat × Pair) => (p.1, { p.2 with deadSince := none }) }
      else s)

end Sys2Proof.Machine
end

