-- ==== Sys2Proof/Machine/Errors.lean ====
section
/-! DEFINITION. Sys2Proof/Machine/Errors.lean: errors and their containment (R426-R431, R453), power and heat (R447-R451), and cold
reset (R444, R445, R452). -/

namespace Sys2Proof.Machine

/-! ## Errors in memory and state (R426-R429, R453) -/

/-- R427: the UNIT of a location. -/
def unitOf (loc : Nat) : Nat :=
  if loc < globalBase then 0
  else match globalPart loc with
    | some .scratch => 1
    | some .cluster => 2
    | some .dieScratch => 2
    | some .acc => 3
    | some .sparsity => 3
    | some .context => 4
    | _ => 5

/-- The error of a location, as a record: its die, its tile, and its address or tile-slot offset. -/
def locError (cls loc : Nat) : ErrInfo :=
  if loc < globalBase then { cls := cls, unit := 0, die := loc / 0x2000000000 / 3, addr := loc }
  else
    let o := loc % 0x40000000
    { cls := cls, unit := unitOf loc, die := globalDie loc, tile := if o < 0x8000000 then o / 0x1000000 else 255,
      addr := if o < 0x8000000 then o % 0x1000000 else o }

/-- R426: a corrected error is recorded above 16 a second. -/
def State.corrected (s : State) (e : ErrInfo) : State :=
  let c := s.errs.get {} e.key
  s.error e (c.second == s.mtime.toNat / 1000000000 && decide (16 ≤ c.inSecond))

/-- CORRECTED_ERROR (R426): at location `a`. -/
def execCorrectedError (s : State) : Out := .next (s.corrected { locError 1 s.inp.a with synd := s.inp.b })

/-- R431: a class-2 error in a row of a pseudo-channel. -/
def State.noteRow (s : State) (loc chan row : Nat) : State :=
  if inHbm loc then
    let n := loc / 0x2000000000
    let st := s.hbm.get {} n
    { s with hbm := s.hbm.set n { st with rows := (chan, row, s.mtime.toNat) :: st.rows.filter fun r => !(r.1 == chan && r.2.1 == row) } }
  else s

/-- R453: an uncorrectable error marks its unit of memory. -/
def State.poison (s : State) (loc launch synd : Nat) : State :=
  let e := locError (if unitOf loc = 5 then 3 else 2) loc
  (s.markRun loc 1).error { e with launch := launch, synd := synd } true

/-- R428: an error in a slot's own state, read by a stream: the task ends FAULTED. A task that is ending has no stream that reads. -/
def State.slotError (s : State) (k x : Nat) : State :=
  let sl := s.slot k
  if sl.phase == .free || sl.phase == .ending then s
  else
    let s := s.setSlot k { (sl.squashWaiting.beginEnding (.lost (8 + x % 4 * 256))) with late := [], diverting := false, parking := none }
    s.error { cls := 3, unit := 6, die := dieOf k, tile := tileOf k % 8, launch := sl.task.launch } true

/-- R432: granule `b` that cairn `n` of a slot's task has saved holds an uncorrectable error. -/
def State.badGranule (s : State) (k n b synd : Nat) : State :=
  match (s.slot k).cairns.find? n with
  | some c =>
    if (c.saved.find? b).isNone || c.bad.contains b then s
    else (s.modSlot k fun sl => { sl with cairns := sl.cairns.set n { c with bad := c.bad ++ [b] } }).error
      { cls := 2, unit := 0, die := dieOf k, launch := (s.slot k).task.launch, synd := synd } true
  | none => s

/-- UNCORRECTABLE_ERROR (R428): `x` = 0: in memory at `a`, of an HBM pseudo-channel `b` and row `c`, consumed by launch `id`, with SYNDROME
`unit` (R427); a record of a sounding or a trap that the error strikes as it is written is marked by it. 1: in the state of slot `unit`, read
by stream `id`; 2: in a word of the program that queue `unit` runs; 3: in granule `b` that cairn `id` of slot `unit` has saved, with
SYNDROME `c` (R432). -/
def execUncorrectableError (s : State) : Out :=
  .next (
    let i := s.inp
    match i.x with
    | 0 => (s.poison i.a i.id i.unit).noteRow i.a i.b i.c
    | 1 => s.slotError i.unit i.id
    | 3 => s.badGranule i.unit i.id i.b i.c
    | 2 => if (s.hqueue i.unit).cur.any fun p => !p.still then (s.endPacket i.unit 1).error { cls := 3, unit := 9 } true else s
    | _ => s)

/-- BACKGROUND_SCRUB (R429): the scrub reaches the word at `a`; with `x` = 1 it cannot be corrected, with SYNDROME `unit`. -/
def execBackgroundScrub (s : State) : Out :=
  .next (if s.inp.x = 1 then (s.poison s.inp.a 0 s.inp.unit).noteRow s.inp.a s.inp.b s.inp.c else s.corrected (locError 1 s.inp.a))

/-- R431: rows of a pseudo-channel that failed within 24 hours. -/
def Stack.badRows (st : Stack) (chan now : Nat) : Nat :=
  (st.rows.filter fun r => r.1 == chan && decide (now < r.2.2 + 86400000000000)).length

/-- CHANNEL_REMAP (R431): pseudo-channel `id` of stack `unit`, which fails whole with `x` = 1; without a spare it is lost. -/
def execChannelRemap (s : State) : Out :=
  .next (
    let i := s.inp
    let st := s.hbm.get {} i.unit
    if !(i.x == 1 || decide (64 < st.badRows i.id s.mtime.toNat)) || st.broken.contains i.id then s
    else if st.spares < 2 then
      { s with hbm := s.hbm.set i.unit { st with spares := st.spares + 1, remapped := st.remapped ++ [i.id],
                                                 rows := st.rows.filter fun r => r.1 != i.id } }
    else
      { s with hbm := s.hbm.set i.unit { st with broken := st.broken ++ [i.id] } }.fencePackage.error
        { cls := 8, unit := 0, die := i.unit / 3 } true)

/-! ## Retiring a tile (R430) -/

/-- An address of a command names the tile's window. -/
def Job.names (j : Job) (t va : Nat) : Bool :=
  match globalName j.who.die j.who.tile (va % 2 ^ 56) with
  | some g => globalTile g == some t
  | none => false

/-- A run of bytes of a command reaches the tile's window, which no run passes over between two of these addresses. -/
def Job.runNames (j : Job) (t : Nat) (r : Nat × Nat) : Bool :=
  r.2 != 0 && (j.names t (r.1 + r.2 - 1) || (List.range (r.2 / 0x1000000 + 1)).any fun i => j.names t (r.1 + i * 0x1000000))

/-- The elements of a GATHER's source or a SCATTER's destination, by the indices that stand in memory now. -/
def State.elemRuns (s : State) (j : Job) (x64 : Bool) (base idx n z : Nat) : List (Nat × Nat) :=
  let w := if x64 then 8 else 4
  (List.range n).filterMap fun i => match s.jobReach j .read (spanOf (idx + i * w) w) with
    | .ok locs =>
      let v := fromCode x64 (8 * w) (leNat (locs.map fun p => Memory.read s.mem p.1))
      some ((((base : Int) + v * z) % (2 ^ 56 : Int)).toNat, z)
    | _ => none

/-- The byte runs that a command's work reads. -/
def State.readRuns (s : State) (j : Job) (w : Work) : List (Nat × Nat) :=
  match w with
  | .copy _ src len rows planes rs _ ps _ =>
    (List.range planes).flatMap fun (z : Nat) => (List.range rows).map fun (y : Nat) => (addOff src (z * ps + y * rs), len)
  | .acc _ _ src len => [(src, len)]
  | .rmw dst f _ => [(dst, f.size)]
  | .gather scatter x64 _ src idx n z =>
    (idx, n * (if x64 then 8 else 4)) :: (if scatter then [(src, n * z)] else s.elemRuns j x64 src idx n z)
  | .mcast src len .. => [(src, len)]
  | .cpmc src pitch _ e _ => (List.range (e.units e.layout)).map fun u => (src + u * pitch, e.pitch * 64)
  | .tile true _ e mem mp units => (List.range units).map fun u => (mem + u * mp, e.pitch * 64)
  | .spawn _ src => [(src, 128)]
  | _ => []

/-- A command's work reads from the tile. -/
def State.readsTile (s : State) (w : Work) (j : Job) (t : Nat) : Bool :=
  match w with
  | .tmov .. => j.engine == t
  | .tile false .. => j.engine == t
  | w => (s.readRuns j w).any (j.runNames t)

/-- A command's work writes to the tile. -/
def State.writesTile (s : State) (w : Work) (j : Job) (t : Nat) : Bool :=
  match w with
  | .fill dst len rows rd .. => ((List.range rows).map fun (y : Nat) => (addOff dst (y * rd), len)).any (j.runNames t)
  | .gather scatter x64 dst _ idx n z => (if scatter then s.elemRuns j x64 dst idx n z else [(dst, n * z)]).any (j.runNames t)
  | .mcast _ _ _ tiles => tiles.contains t
  | .cpmc _ _ _ _ tiles => tiles.contains t
  | .tile true .. => j.engine == t
  | w => (w.runs j).any (j.runNames t)

/-- R430 step 3: a command with a word that reads or writes the tile and has not moved whole ends at that word, at its offset. -/
def State.loseTile (s : State) (j : Job) (t : Nat) : Job :=
  let reads := fun f : Flight => s.readsTile f.work j t
  let fi := j.flights.findIdx fun f => !f.closed && (reads f || s.writesTile f.work j t)
  match j.flights[fi]? with
  | none => j
  | some f =>
    if j.dead.isSome then j
    else if j.susp.isSome then j.faulted
    else j.fails fi f (if j.flights.any fun f => !f.closed && reads f then 1 else 2)

/-- R430 step 1: a slot's task ends FAULTED at once. -/
def State.loseSlot (s : State) (k : Nat) : State :=
  let sl := s.slot k
  if sl.phase == .free then s
  else
    let s := (s.cancelSteps sl.task.loc).killJobs (ofTask sl.task.loc)
    (s.finishTask k sl (.lost 0xFFFFFFFF)).freeSlot k

/-- R430: a tile is retired: its spare is to take its place, or it is absent for good. -/
def State.retireTile (s : State) (t : Nat) : State :=
  let s := { s with jobs := s.jobs.map fun (p : Nat × Job) => (p.1, s.loseTile p.2 t) }
  let s := (List.range 8).foldl (fun s i => s.loseSlot (8 * t + i)) s
  let ls := ((s.tile t).steps.map Step.launch).eraseDups
  let s := (s.tile t).steps.foldl (fun s p => s.cancelStep t p.id) s
  let s := ls.foldl (fun s n => s.modLaunch n fun l => { l with status := worse l.status 3 }) s
  let d := t / 8
  let s := { s.modTile t (fun ti => { ti with steps := [], scaccs := [] }) with away := t :: s.away }
  match s.boot.retired.find? d with
  | none => { s with boot := { s.boot with retired := s.boot.retired.set d (t % 8) } }
  | some _ => { s with boot := { s.boot with absent := t :: s.boot.absent } }

/-- TILE_RETIRE (R430): tile `unit`, for an error of unit `a`. -/
def execTileRetire (s : State) : Out :=
  .next (
    let t := s.inp.unit
    if s.away.contains t then s
    else (s.retireTile t).error { cls := 4, unit := s.inp.a, die := t / 8, tile := t % 8 } true)

/-- SPARE_TAKEOVER_DONE (R430): the spare of tile `unit` is scrubbed and answers for its window. -/
def execSpareTakeoverDone (s : State) : Out :=
  .next (
    let t := s.inp.unit
    if !s.away.contains t || s.boot.absent.contains t then s
    else { s.scrubTile t none 0 0x400 with away := s.away.filter (· != t) })

/-! ## Power and heat (R447-R451) -/

/-- A signed 16-bit field of a register. -/
def sfield (w : Word) (off : Nat) : Int := fromCode true 16 (fld w.toNat off 16)

/-- The hottest junction and the hottest stack of the package, in sixteenths of a degree (R449). -/
def Power.hottest (p : Power) (off : Nat) : Int := (List.range 8).foldl (fun m i => max m (sfield (p.temps.get 0 i) off)) (-32768)

/-- R448: the module's power. -/
def Power.watts (p : Power) : Nat := fld p.now.toNat 0 16 + fld p.now.toNat 16 16 + fld p.now.toNat 32 16 + fld p.now.toNat 48 16

/-- R450, R451: what lowers the clock. -/
def Power.throttles (p : Power) : BitVec 5 :=
  BitVec.ofNat 5 ((decide (5400 < p.watts)).toNat + 2 * (decide (1600 ≤ p.hottest 0)).toNat + 4 * (decide (1520 ≤ p.hottest 16)).toNat +
    8 * p.ext.toNat + 16 * (flag p.cap.toNat 0 && decide (fld p.cap.toNat 16 16 < p.watts)).toNat)

/-- The sensors as the event brings them: PWRNOW `a`, and TEMP0 to TEMP7 as 64 bytes, whose bits 63:32 read as zero (R449, R7). -/
def Power.sensed (p : Power) (i : Inp) : Power :=
  if i.data.length < 64 then p
  else { p with now := BitVec.ofNat 64 i.a,
                temps := (List.range 8).foldl (fun t n => Tab.set t n (BitVec.ofNat 64 (bytesAt i.data (8 * n) 4))) p.temps }

/-- R426: a limit reached is recorded when a cause appears. -/
def State.setCauses (s : State) (p : Power) : State :=
  let c := p.throttles
  let s' := { s with power := { p with causes := c } }
  if s.power.causes = 0 ∧ c ≠ 0 then s'.error { cls := 7, unit := if c &&& 6 = 0 then 12 else 13 } true else s'

/-- R451: a junction at 110 °C or a stack at 100 °C holds the clock at its lowest step. -/
def Power.lowest (p : Power) : Bool := decide (1760 ≤ p.hottest 0) || decide (1600 ≤ p.hottest 16)

/-- THROTTLE_STEP (R450): the sensors are read, and the clock steps by 100 MHz, at most every 10 µs; where R451 asks for its lowest step it
goes there at once. DEDUCED (notes/assumptions/105.md). -/
def execThrottleStep (s : State) : Out :=
  .next (
    let s := s.setCauses (s.power.sensed s.inp)
    let p := s.power
    if p.lowest then (if p.clock = 12 then s else { s with power := { p with clock := 12, lastStep := s.mtime.toNat } })
    else if s.mtime.toNat < p.lastStep + 10000 then s
    else
      let clock := if p.causes = 0 then min 33 (p.clock + 1) else max 12 (p.clock - 1)
      if clock = p.clock then s else { s with power := { p with clock := clock, lastStep := s.mtime.toNat } })

/-- CARRIER_THROTTLE (R450): the carrier's throttle signal is on (`x` = 1) or off. -/
def execCarrierThrottle (s : State) : Out := .next (s.setCauses { s.power with ext := s.inp.x == 1 })

/-- THERMAL_TRIP (R451): a sensor is at its trip temperature: a record, the fence, and the rails go off. -/
def execThermalTrip (s : State) : Out :=
  .next (
    let p := s.power.sensed s.inp
    let s := { s with power := p }
    if 1920 ≤ p.hottest 0 ∨ 1680 ≤ p.hottest 16 then
      let t := (s.error { cls := 8, unit := 13 } true).fencePackage
      { t with power := { t.power with railsOff := true } }
    else s)

/-- RAIL_OUT_OF_RANGE (R426): a class-8 error fences the package. -/
def execRailOutOfRange (s : State) : Out := .next (s.error { cls := 8, unit := 12 } true).fencePackage

/-! ## Cold reset (R443-R445, R452) -/

/-- What a cold reset leaves before any step succeeds: the fuses, the channels that spares have replaced (R431), the raised boot count, and
no state. -/
def State.coldState (s : State) : State :=
  { agenda := s.agenda, fresh := s.fresh, boot := { count := s.boot.count + 1, rollback := s.boot.rollback },
    hbm := s.hbm.map fun (p : Nat × Stack) => (p.1, { p.2 with rows := [] }),
    torus := { node := s.torus.node }, host := { up := false, ready := false } }

/-- R444: the digest fused in a die: that of the vendor's key, with which the vendor has signed (log entry 151). -/
def vendorDigest : List Byte := sha256 (Config.firmware.take 48)

/-- R444: why the image is refused: 1 the key, 2 the version, 3 the signature; 0 accepted. The key is the image's first 48 bytes. -/
def firmwareFault (image : List Byte) (version rollback : Nat) : Nat :=
  if sha256 (image.take 48) ≠ vendorDigest then 1
  else if version < rollback then 2
  else if !Config.verifies image then 3 else 0

/-- R452 step 5: tiles that fail their self-test retire. -/
def State.selfTest (s : State) (failing : Nat) : State :=
  ((List.range 64).filter fun t => flag failing t).foldl (fun s t =>
    let s := (s.retireTile t).error { cls := 4, unit := 7, die := t / 8, tile := t % 8 } true
    if s.boot.absent.contains t then s else { s with away := s.away.filter (· != t) }) s

/-- R444: the image as another die receives it: byte `id` of it has become `b`. -/
def Inp.received (i : Inp) : List Byte := if i.x = 3 then i.data.set i.id (BitVec.ofNat 8 i.b) else i.data

/-- Recovery mode, entered by a die that has refused the firmware (R444). -/
def State.recover (s : State) (die synd : Nat) : State :=
  let t := { s with host := { up := true, ready := false }, power := { s.power with recovery := true } }
  (t.error { cls := 8, unit := 5, die := die, synd := synd } true).fencePackage

/-- COLD_RESET (R452): power-good with the firmware image `data` of version `c`. `x` names a step that fails, on die `unit` (0: none; step 1
means no power-good; step 3 that the image reaches die `unit` with byte `id` changed to `b`, R444), `b` else the tiles that fail step 5, and
`a` the rollback counter that the running firmware asks for (R444). Its steps end at the sixth; the host port's link comes up with
HOST_LINK_UP. -/
def execColdReset (s : State) : Out :=
  .next (
    let i := s.inp
    if i.x = 1 then { s with power := { s.power with railsOff := true } }
    else
      let s := s.coldState
      let fatal := fun (s : State) (unit : Nat) =>
        ({ s with boot := { s.boot with failed := true } }.error { cls := 8, unit := unit, die := i.unit } true).fencePackage
      if i.x = 2 then fatal s 1
      else
        let s := (s.extend 0 Config.romVersion).extend 0 i.data
        let bad := firmwareFault i.data i.c s.boot.rollback
        let far := firmwareFault i.received i.c s.boot.rollback
        if bad ≠ 0 then { s with boot := { s.boot with meas := [] } }.recover 0 bad
        else if far ≠ 0 then s.recover i.unit far
        else if i.x = 4 then fatal s 0
        else
          let s := { s with boot := { s.boot with rollback := max s.boot.rollback (min i.a i.c) } }.selfTest (if i.x = 3 then 0 else i.b)
          if i.x = 6 then fatal s 10
          else if i.x = 7 then { s with boot := { s.boot with failed := true } }.error { cls := 6, unit := 11 } true
          else s)

end Sys2Proof.Machine
end

