-- ==== Sys2Proof/Machine/Dispatch.lean ====
section
/-! DEFINITION. Sys2Proof/Machine/Dispatch.lean: one arm per constructor of Instr. -/

namespace Sys2Proof.Machine

def exec (i : Instr) (s : State) : Host.Outcome State Fault Refusal :=
  match i with
  | .nop h => Sys2Proof.Machine.execNop h s
  | .endStream h => Sys2Proof.Machine.execEndStream h s
  | .br h v1 => Sys2Proof.Machine.execBr h v1 s
  | .call h v1 => Sys2Proof.Machine.execCall h v1 s
  | .ret h => Sys2Proof.Machine.execRet h s
  | .jmpr h v1 v2 => Sys2Proof.Machine.execJmpr h v1 v2 s
  | .loop h v1 v2 v3 => Sys2Proof.Machine.execLoop h v1 v2 v3 s
  | .loopx h v1 v2 v3 => Sys2Proof.Machine.execLoopx h v1 v2 v3 s
  | .add h v1 v2 v3 => Sys2Proof.Machine.execAdd h v1 v2 v3 s
  | .addW h v1 v2 v3 => Sys2Proof.Machine.execAddW h v1 v2 v3 s
  | .sub h v1 v2 v3 => Sys2Proof.Machine.execSub h v1 v2 v3 s
  | .subW h v1 v2 v3 => Sys2Proof.Machine.execSubW h v1 v2 v3 s
  | .addi h v1 v2 v3 => Sys2Proof.Machine.execAddi h v1 v2 v3 s
  | .lui h v1 v2 => Sys2Proof.Machine.execLui h v1 v2 s
  | .li32 h v1 v2 => Sys2Proof.Machine.execLi32 h v1 v2 s
  | .and h v1 v2 v3 => Sys2Proof.Machine.execAnd h v1 v2 v3 s
  | .or h v1 v2 v3 => Sys2Proof.Machine.execOr h v1 v2 v3 s
  | .xor h v1 v2 v3 => Sys2Proof.Machine.execXor h v1 v2 v3 s
  | .andi h v1 v2 v3 => Sys2Proof.Machine.execAndi h v1 v2 v3 s
  | .ori h v1 v2 v3 => Sys2Proof.Machine.execOri h v1 v2 v3 s
  | .xori h v1 v2 v3 => Sys2Proof.Machine.execXori h v1 v2 v3 s
  | .shl h v1 v2 v3 => Sys2Proof.Machine.execShl h v1 v2 v3 s
  | .shlW h v1 v2 v3 => Sys2Proof.Machine.execShlW h v1 v2 v3 s
  | .shr h v1 v2 v3 => Sys2Proof.Machine.execShr h v1 v2 v3 s
  | .shrW h v1 v2 v3 => Sys2Proof.Machine.execShrW h v1 v2 v3 s
  | .sra h v1 v2 v3 => Sys2Proof.Machine.execSra h v1 v2 v3 s
  | .sraW h v1 v2 v3 => Sys2Proof.Machine.execSraW h v1 v2 v3 s
  | .shli h v1 v2 v3 => Sys2Proof.Machine.execShli h v1 v2 v3 s
  | .shri h v1 v2 v3 => Sys2Proof.Machine.execShri h v1 v2 v3 s
  | .srai h v1 v2 v3 => Sys2Proof.Machine.execSrai h v1 v2 v3 s
  | .min h v1 v2 v3 => Sys2Proof.Machine.execMin h v1 v2 v3 s
  | .minW h v1 v2 v3 => Sys2Proof.Machine.execMinW h v1 v2 v3 s
  | .max h v1 v2 v3 => Sys2Proof.Machine.execMax h v1 v2 v3 s
  | .maxW h v1 v2 v3 => Sys2Proof.Machine.execMaxW h v1 v2 v3 s
  | .minn h v1 v2 v3 => Sys2Proof.Machine.execMinn h v1 v2 v3 s
  | .minnW h v1 v2 v3 => Sys2Proof.Machine.execMinnW h v1 v2 v3 s
  | .maxn h v1 v2 v3 => Sys2Proof.Machine.execMaxn h v1 v2 v3 s
  | .maxnW h v1 v2 v3 => Sys2Proof.Machine.execMaxnW h v1 v2 v3 s
  | .sel h v1 v2 v3 v4 => Sys2Proof.Machine.execSel h v1 v2 v3 v4 s
  | .mov h v1 v2 => Sys2Proof.Machine.execMov h v1 v2 s
  | .addsh h v1 v2 v3 v4 => Sys2Proof.Machine.execAddsh h v1 v2 v3 v4 s
  | .agen2 h v1 v2 v3 => Sys2Proof.Machine.execAgen2 h v1 v2 v3 s
  | .clz h v1 v2 => Sys2Proof.Machine.execClz h v1 v2 s
  | .clzW h v1 v2 => Sys2Proof.Machine.execClzW h v1 v2 s
  | .popc h v1 v2 => Sys2Proof.Machine.execPopc h v1 v2 s
  | .popcW h v1 v2 => Sys2Proof.Machine.execPopcW h v1 v2 s
  | .cmpEq h v1 v2 v3 v4 v5 => Sys2Proof.Machine.execCmpEq h v1 v2 v3 v4 v5 s
  | .cmpNe h v1 v2 v3 v4 v5 => Sys2Proof.Machine.execCmpNe h v1 v2 v3 v4 v5 s
  | .cmpLt h v1 v2 v3 v4 v5 => Sys2Proof.Machine.execCmpLt h v1 v2 v3 v4 v5 s
  | .cmpGe h v1 v2 v3 v4 v5 => Sys2Proof.Machine.execCmpGe h v1 v2 v3 v4 v5 s
  | .cmpLtn h v1 v2 v3 v4 v5 => Sys2Proof.Machine.execCmpLtn h v1 v2 v3 v4 v5 s
  | .cmpGen h v1 v2 v3 v4 v5 => Sys2Proof.Machine.execCmpGen h v1 v2 v3 v4 v5 s
  | .cmpTst h v1 v2 v3 v4 v5 => Sys2Proof.Machine.execCmpTst h v1 v2 v3 v4 v5 s
  | .cmpNtst h v1 v2 v3 v4 v5 => Sys2Proof.Machine.execCmpNtst h v1 v2 v3 v4 v5 s
  | .cmpiEq h v1 v2 v3 v4 v5 => Sys2Proof.Machine.execCmpiEq h v1 v2 v3 v4 v5 s
  | .cmpiNe h v1 v2 v3 v4 v5 => Sys2Proof.Machine.execCmpiNe h v1 v2 v3 v4 v5 s
  | .cmpiLt h v1 v2 v3 v4 v5 => Sys2Proof.Machine.execCmpiLt h v1 v2 v3 v4 v5 s
  | .cmpiGe h v1 v2 v3 v4 v5 => Sys2Proof.Machine.execCmpiGe h v1 v2 v3 v4 v5 s
  | .cmpiLtn h v1 v2 v3 v4 v5 => Sys2Proof.Machine.execCmpiLtn h v1 v2 v3 v4 v5 s
  | .cmpiGen h v1 v2 v3 v4 v5 => Sys2Proof.Machine.execCmpiGen h v1 v2 v3 v4 v5 s
  | .cmpiTst h v1 v2 v3 v4 v5 => Sys2Proof.Machine.execCmpiTst h v1 v2 v3 v4 v5 s
  | .pand h v1 v2 v3 => Sys2Proof.Machine.execPand h v1 v2 v3 s
  | .por h v1 v2 v3 => Sys2Proof.Machine.execPor h v1 v2 v3 s
  | .pxor h v1 v2 v3 => Sys2Proof.Machine.execPxor h v1 v2 v3 s
  | .pnot h v1 v2 => Sys2Proof.Machine.execPnot h v1 v2 s
  | .pmov h v1 v2 => Sys2Proof.Machine.execPmov h v1 v2 s
  | .pandn h v1 v2 v3 => Sys2Proof.Machine.execPandn h v1 v2 v3 s
  | .bfx h v1 v2 v3 => Sys2Proof.Machine.execBfx h v1 v2 v3 s
  | .bfxn h v1 v2 v3 => Sys2Proof.Machine.execBfxn h v1 v2 v3 s
  | .bfi h v1 v2 v3 => Sys2Proof.Machine.execBfi h v1 v2 v3 s
  | .fshr h v1 v2 v3 v4 v5 => Sys2Proof.Machine.execFshr h v1 v2 v3 v4 v5 s
  | .mul h v1 v2 v3 => Sys2Proof.Machine.execMul h v1 v2 v3 s
  | .mulW h v1 v2 v3 => Sys2Proof.Machine.execMulW h v1 v2 v3 s
  | .mulh h v1 v2 v3 => Sys2Proof.Machine.execMulh h v1 v2 v3 s
  | .mulhn h v1 v2 v3 => Sys2Proof.Machine.execMulhn h v1 v2 v3 s
  | .div h v1 v2 v3 => Sys2Proof.Machine.execDiv h v1 v2 v3 s
  | .divW h v1 v2 v3 => Sys2Proof.Machine.execDivW h v1 v2 v3 s
  | .divn h v1 v2 v3 => Sys2Proof.Machine.execDivn h v1 v2 v3 s
  | .divnW h v1 v2 v3 => Sys2Proof.Machine.execDivnW h v1 v2 v3 s
  | .rem h v1 v2 v3 => Sys2Proof.Machine.execRem h v1 v2 v3 s
  | .remW h v1 v2 v3 => Sys2Proof.Machine.execRemW h v1 v2 v3 s
  | .remn h v1 v2 v3 => Sys2Proof.Machine.execRemn h v1 v2 v3 s
  | .remnW h v1 v2 v3 => Sys2Proof.Machine.execRemnW h v1 v2 v3 s
  | .pfd h v1 v2 v3 => Sys2Proof.Machine.execPfd h v1 v2 v3 s
  | .pfi h v1 v2 v3 => Sys2Proof.Machine.execPfi h v1 v2 v3 s
  | .hint2 h v1 v2 v3 v4 => Sys2Proof.Machine.execHint2 h v1 v2 v3 v4 s
  | .hint3 h v1 v2 v3 v4 => Sys2Proof.Machine.execHint3 h v1 v2 v3 v4 s
  | .hint4 h v1 v2 v3 v4 => Sys2Proof.Machine.execHint4 h v1 v2 v3 v4 s
  | .hint5 h v1 v2 v3 v4 => Sys2Proof.Machine.execHint5 h v1 v2 v3 v4 s
  | .hint6 h v1 v2 v3 v4 => Sys2Proof.Machine.execHint6 h v1 v2 v3 v4 s
  | .hint7 h v1 v2 v3 v4 => Sys2Proof.Machine.execHint7 h v1 v2 v3 v4 s
  | .ldB h v1 v2 v3 => Sys2Proof.Machine.execLdB h v1 v2 v3 s
  | .ldBn h v1 v2 v3 => Sys2Proof.Machine.execLdBn h v1 v2 v3 s
  | .ldH h v1 v2 v3 => Sys2Proof.Machine.execLdH h v1 v2 v3 s
  | .ldHn h v1 v2 v3 => Sys2Proof.Machine.execLdHn h v1 v2 v3 s
  | .ldW h v1 v2 v3 => Sys2Proof.Machine.execLdW h v1 v2 v3 s
  | .ldWn h v1 v2 v3 => Sys2Proof.Machine.execLdWn h v1 v2 v3 s
  | .ldD h v1 v2 v3 => Sys2Proof.Machine.execLdD h v1 v2 v3 s
  | .stB h v1 v2 v3 => Sys2Proof.Machine.execStB h v1 v2 v3 s
  | .stH h v1 v2 v3 => Sys2Proof.Machine.execStH h v1 v2 v3 s
  | .stW h v1 v2 v3 => Sys2Proof.Machine.execStW h v1 v2 v3 s
  | .stD h v1 v2 v3 => Sys2Proof.Machine.execStD h v1 v2 v3 s
  | .ldaD h v1 v2 v3 => Sys2Proof.Machine.execLdaD h v1 v2 v3 s
  | .stlD h v1 v2 v3 => Sys2Proof.Machine.execStlD h v1 v2 v3 s
  | .getx h v1 v2 => Sys2Proof.Machine.execGetx h v1 v2 s
  | .setx h v1 v2 => Sys2Proof.Machine.execSetx h v1 v2 s
  | .vadd h v1 v2 v3 v4 v5 v6 => Sys2Proof.Machine.execVadd h v1 v2 v3 v4 v5 v6 s
  | .vaddSat h v1 v2 v3 v4 v5 v6 => Sys2Proof.Machine.execVaddSat h v1 v2 v3 v4 v5 v6 s
  | .vsub h v1 v2 v3 v4 v5 v6 => Sys2Proof.Machine.execVsub h v1 v2 v3 v4 v5 v6 s
  | .vsubSat h v1 v2 v3 v4 v5 v6 => Sys2Proof.Machine.execVsubSat h v1 v2 v3 v4 v5 v6 s
  | .vmul h v1 v2 v3 v4 v5 v6 => Sys2Proof.Machine.execVmul h v1 v2 v3 v4 v5 v6 s
  | .vmulHi h v1 v2 v3 v4 v5 v6 => Sys2Proof.Machine.execVmulHi h v1 v2 v3 v4 v5 v6 s
  | .vfma h v1 v2 v3 v4 v5 v6 => Sys2Proof.Machine.execVfma h v1 v2 v3 v4 v5 v6 s
  | .vfms h v1 v2 v3 v4 v5 v6 => Sys2Proof.Machine.execVfms h v1 v2 v3 v4 v5 v6 s
  | .vfnma h v1 v2 v3 v4 v5 v6 => Sys2Proof.Machine.execVfnma h v1 v2 v3 v4 v5 v6 s
  | .vmin h v1 v2 v3 v4 v5 v6 => Sys2Proof.Machine.execVmin h v1 v2 v3 v4 v5 v6 s
  | .vmax h v1 v2 v3 v4 v5 v6 => Sys2Proof.Machine.execVmax h v1 v2 v3 v4 v5 v6 s
  | .vabs h v1 v2 v3 v4 => Sys2Proof.Machine.execVabs h v1 v2 v3 v4 s
  | .vneg h v1 v2 v3 v4 => Sys2Proof.Machine.execVneg h v1 v2 v3 v4 s
  | .vcmpEq h v1 v2 v3 v4 v5 v6 v7 => Sys2Proof.Machine.execVcmpEq h v1 v2 v3 v4 v5 v6 v7 s
  | .vcmpNe h v1 v2 v3 v4 v5 v6 v7 => Sys2Proof.Machine.execVcmpNe h v1 v2 v3 v4 v5 v6 v7 s
  | .vcmpLt h v1 v2 v3 v4 v5 v6 v7 => Sys2Proof.Machine.execVcmpLt h v1 v2 v3 v4 v5 v6 v7 s
  | .vcmpLe h v1 v2 v3 v4 v5 v6 v7 => Sys2Proof.Machine.execVcmpLe h v1 v2 v3 v4 v5 v6 v7 s
  | .vcmpGt h v1 v2 v3 v4 v5 v6 v7 => Sys2Proof.Machine.execVcmpGt h v1 v2 v3 v4 v5 v6 v7 s
  | .vcmpGe h v1 v2 v3 v4 v5 v6 v7 => Sys2Proof.Machine.execVcmpGe h v1 v2 v3 v4 v5 v6 v7 s
  | .vcmpUn h v1 v2 v3 v4 v5 v6 v7 => Sys2Proof.Machine.execVcmpUn h v1 v2 v3 v4 v5 v6 v7 s
  | .vcmpOrd h v1 v2 v3 v4 v5 v6 v7 => Sys2Proof.Machine.execVcmpOrd h v1 v2 v3 v4 v5 v6 v7 s
  | .vsel h v1 v2 v3 v4 v5 v6 => Sys2Proof.Machine.execVsel h v1 v2 v3 v4 v5 v6 s
  | .vcvt h v1 v2 v3 v4 v5 v6 => Sys2Proof.Machine.execVcvt h v1 v2 v3 v4 v5 v6 s
  | .vscl h v1 v2 v3 v4 v5 v6 => Sys2Proof.Machine.execVscl h v1 v2 v3 v4 v5 v6 s
  | .vsclS h v1 v2 v3 v4 v5 => Sys2Proof.Machine.execVsclS h v1 v2 v3 v4 v5 s
  | .vrcp h v1 v2 v3 v4 => Sys2Proof.Machine.execVrcp h v1 v2 v3 v4 s
  | .vrsq h v1 v2 v3 v4 => Sys2Proof.Machine.execVrsq h v1 v2 v3 v4 s
  | .vredAdd h v1 v2 v3 v4 => Sys2Proof.Machine.execVredAdd h v1 v2 v3 v4 s
  | .vredMin h v1 v2 v3 v4 => Sys2Proof.Machine.execVredMin h v1 v2 v3 v4 s
  | .vredMax h v1 v2 v3 v4 => Sys2Proof.Machine.execVredMax h v1 v2 v3 v4 s
  | .vredAnd h v1 v2 v3 v4 => Sys2Proof.Machine.execVredAnd h v1 v2 v3 v4 s
  | .vredOr h v1 v2 v3 v4 => Sys2Proof.Machine.execVredOr h v1 v2 v3 v4 s
  | .vredXor h v1 v2 v3 v4 => Sys2Proof.Machine.execVredXor h v1 v2 v3 v4 s
  | .vpermIdx h v1 v2 v3 v4 v5 v6 => Sys2Proof.Machine.execVpermIdx h v1 v2 v3 v4 v5 v6 s
  | .vpermRot h v1 v2 v3 v4 v5 v6 => Sys2Proof.Machine.execVpermRot h v1 v2 v3 v4 v5 v6 s
  | .vpermRev h v1 v2 v3 v4 => Sys2Proof.Machine.execVpermRev h v1 v2 v3 v4 s
  | .vpermZip h v1 v2 v3 v4 v5 v6 => Sys2Proof.Machine.execVpermZip h v1 v2 v3 v4 v5 v6 s
  | .vpermUnzip h v1 v2 v3 v4 v5 v6 => Sys2Proof.Machine.execVpermUnzip h v1 v2 v3 v4 v5 v6 s
  | .vbcast h v1 v2 v3 v4 v5 v6 => Sys2Proof.Machine.execVbcast h v1 v2 v3 v4 v5 v6 s
  | .vbcastS h v1 v2 v3 => Sys2Proof.Machine.execVbcastS h v1 v2 v3 s
  | .vlut h v1 v2 v3 v4 v5 v6 => Sys2Proof.Machine.execVlut h v1 v2 v3 v4 v5 v6 s
  | .vand h v1 v2 v3 v4 v5 v6 => Sys2Proof.Machine.execVand h v1 v2 v3 v4 v5 v6 s
  | .vor h v1 v2 v3 v4 v5 v6 => Sys2Proof.Machine.execVor h v1 v2 v3 v4 v5 v6 s
  | .vxor h v1 v2 v3 v4 v5 v6 => Sys2Proof.Machine.execVxor h v1 v2 v3 v4 v5 v6 s
  | .vshl h v1 v2 v3 v4 v5 v6 => Sys2Proof.Machine.execVshl h v1 v2 v3 v4 v5 v6 s
  | .vshr h v1 v2 v3 v4 v5 v6 => Sys2Proof.Machine.execVshr h v1 v2 v3 v4 v5 v6 s
  | .vshrA h v1 v2 v3 v4 v5 v6 => Sys2Proof.Machine.execVshrA h v1 v2 v3 v4 v5 v6 s
  | .vmad h v1 v2 v3 v4 v5 v6 => Sys2Proof.Machine.execVmad h v1 v2 v3 v4 v5 v6 s
  | .vpopc h v1 v2 v3 v4 => Sys2Proof.Machine.execVpopc h v1 v2 v3 v4 s
  | .vmovq h v1 v2 v3 v4 => Sys2Proof.Machine.execVmovq h v1 v2 v3 v4 s
  | .qrd h v1 v2 v3 => Sys2Proof.Machine.execQrd h v1 v2 v3 s
  | .qrdS h v1 v2 v3 => Sys2Proof.Machine.execQrdS h v1 v2 v3 s
  | .qwr h v1 v2 v3 v4 => Sys2Proof.Machine.execQwr h v1 v2 v3 v4 s
  | .qwrS h v1 v2 v3 v4 => Sys2Proof.Machine.execQwrS h v1 v2 v3 v4 s
  | .tdef h v1 v2 v3 v4 v5 => Sys2Proof.Machine.execTdef h v1 v2 v3 v4 v5 s
  | .tfree h v1 => Sys2Proof.Machine.execTfree h v1 s
  | .tmov h v1 v2 v3 v4 => Sys2Proof.Machine.execTmov h v1 v2 v3 v4 s
  | .tmovK h v1 v2 v3 v4 => Sys2Proof.Machine.execTmovK h v1 v2 v3 v4 s
  | .tqryW0 h v1 v2 => Sys2Proof.Machine.execTqryW0 h v1 v2 s
  | .tqryW1 h v1 v2 => Sys2Proof.Machine.execTqryW1 h v1 v2 s
  | .cpl h v1 v2 v3 v4 => Sys2Proof.Machine.execCpl h v1 v2 v3 v4 s
  | .cps h v1 v2 v3 v4 => Sys2Proof.Machine.execCps h v1 v2 v3 v4 s
  | .cpacc h v1 v2 v3 v4 => Sys2Proof.Machine.execCpacc h v1 v2 v3 v4 s
  | .cpaccr h v1 v2 v3 => Sys2Proof.Machine.execCpaccr h v1 v2 v3 s
  | .cpcasW h v1 v2 v3 => Sys2Proof.Machine.execCpcasW h v1 v2 v3 s
  | .cpcasD h v1 v2 v3 => Sys2Proof.Machine.execCpcasD h v1 v2 v3 s
  | .cpmeta h v1 v2 v3 => Sys2Proof.Machine.execCpmeta h v1 v2 v3 s
  | .cpmc h v1 v2 v3 => Sys2Proof.Machine.execCpmc h v1 v2 v3 s
  | .resp h v1 => Sys2Proof.Machine.execResp h v1 s
  | .respPk h v1 => Sys2Proof.Machine.execRespPk h v1 s
  | .chpush h v1 v2 v3 v4 => Sys2Proof.Machine.execChpush h v1 v2 v3 v4 s
  | .chpop h v1 v2 v3 => Sys2Proof.Machine.execChpop h v1 v2 v3 s
  | .chpopPk h v1 v2 v3 => Sys2Proof.Machine.execChpopPk h v1 v2 v3 s
  | .chqry h v1 v2 => Sys2Proof.Machine.execChqry h v1 v2 s
  | .tstep h v1 v2 v3 v4 => Sys2Proof.Machine.execTstep h v1 v2 v3 v4 s
  | .tstepSp h v1 v2 v3 v4 => Sys2Proof.Machine.execTstepSp h v1 v2 v3 v4 s
  | .tcfg h v1 v2 => Sys2Proof.Machine.execTcfg h v1 v2 s
  | .tswap h v1 => Sys2Proof.Machine.execTswap h v1 s
  | .tdrain h v1 v2 => Sys2Proof.Machine.execTdrain h v1 v2 s
  | .tresumeRepl h v1 v2 => Sys2Proof.Machine.execTresumeRepl h v1 v2 s
  | .tresumeDisc h v1 => Sys2Proof.Machine.execTresumeDisc h v1 s
  | .tresumeAbort h v1 => Sys2Proof.Machine.execTresumeAbort h v1 s
  | .tcbk h v1 v2 v3 => Sys2Proof.Machine.execTcbk h v1 v2 v3 s
  | .scaccRow h v1 v2 v3 => Sys2Proof.Machine.execScaccRow h v1 v2 v3 s
  | .scaccCol h v1 v2 v3 => Sys2Proof.Machine.execScaccCol h v1 v2 v3 s
  | .scaccBlk h v1 v2 v3 => Sys2Proof.Machine.execScaccBlk h v1 v2 v3 s
  | .tsoundOn h => Sys2Proof.Machine.execTsoundOn h s
  | .tsoundOff h => Sys2Proof.Machine.execTsoundOff h s
  | .tsoundNow h => Sys2Proof.Machine.execTsoundNow h s
  | .fenceAcq h v1 => Sys2Proof.Machine.execFenceAcq h v1 s
  | .fenceRel h v1 => Sys2Proof.Machine.execFenceRel h v1 s
  | .fenceSc h v1 => Sys2Proof.Machine.execFenceSc h v1 s
  | .waitc h v1 v2 v3 v4 v5 => Sys2Proof.Machine.execWaitc h v1 v2 v3 v4 v5 s
  | .gbar h v1 => Sys2Proof.Machine.execGbar h v1 s
  | .gbarArr h v1 => Sys2Proof.Machine.execGbarArr h v1 s
  | .signal h v1 v2 => Sys2Proof.Machine.execSignal h v1 v2 s
  | .signalW h v1 v2 => Sys2Proof.Machine.execSignalW h v1 v2 s
  | .spawn h v1 v2 => Sys2Proof.Machine.execSpawn h v1 v2 s
  | .modeGuarded h => Sys2Proof.Machine.execModeGuarded h s
  | .modeExposed h => Sys2Proof.Machine.execModeExposed h s
  | .cairnSet h v1 v2 v3 => Sys2Proof.Machine.execCairnSet h v1 v2 v3 s
  | .cairnRoll h v1 => Sys2Proof.Machine.execCairnRoll h v1 s
  | .cairnDrop h v1 => Sys2Proof.Machine.execCairnDrop h v1 s
  | .lfdone h v1 => Sys2Proof.Machine.execLfdone h v1 s
  | .trap h v1 => Sys2Proof.Machine.execTrap h v1 s
  | .eret h v1 => Sys2Proof.Machine.execEret h v1 s
  | .bkpt h v1 => Sys2Proof.Machine.execBkpt h v1 s
  | .haltx h v1 => Sys2Proof.Machine.execHaltx h v1 s
  | .cpy1d h v1 v2 v3 => Sys2Proof.Machine.execCpy1d h v1 v2 v3 s
  | .cpy2d h v1 v2 v3 v4 v5 => Sys2Proof.Machine.execCpy2d h v1 v2 v3 v4 v5 s
  | .cpy3d h v1 v2 v3 v4 v5 => Sys2Proof.Machine.execCpy3d h v1 v2 v3 v4 v5 s
  | .zero h v1 v2 v3 v4 => Sys2Proof.Machine.execZero h v1 v2 v3 v4 s
  | .fill h v1 v2 v3 v4 v5 v6 => Sys2Proof.Machine.execFill h v1 v2 v3 v4 v5 v6 s
  | .acc h v1 v2 v3 v4 => Sys2Proof.Machine.execAcc h v1 v2 v3 v4 s
  | .accr h v1 v2 v3 v4 => Sys2Proof.Machine.execAccr h v1 v2 v3 v4 s
  | .casW h v1 v2 v3 => Sys2Proof.Machine.execCasW h v1 v2 v3 s
  | .casD h v1 v2 v3 => Sys2Proof.Machine.execCasD h v1 v2 v3 s
  | .gather h v1 v2 v3 v4 v5 v6 => Sys2Proof.Machine.execGather h v1 v2 v3 v4 v5 v6 s
  | .scatter h v1 v2 v3 v4 v5 v6 => Sys2Proof.Machine.execScatter h v1 v2 v3 v4 v5 v6 s
  | .mcast h v1 v2 v3 v4 => Sys2Proof.Machine.execMcast h v1 v2 v3 v4 s
  | .wake h v1 v2 => Sys2Proof.Machine.execWake h v1 v2 s
  | .seq h v1 => Sys2Proof.Machine.execSeq h v1 s
  | .link h v1 v2 => Sys2Proof.Machine.execLink h v1 v2 s
  | .pkgetW h v1 v2 => Sys2Proof.Machine.execPkgetW h v1 v2 s
  | .pkgetD h v1 v2 => Sys2Proof.Machine.execPkgetD h v1 v2 s
  | .shdr h v1 v2 => Sys2Proof.Machine.execShdr h v1 v2 s
  | .shdw h v1 v2 => Sys2Proof.Machine.execShdw h v1 v2 s
  | .emtask h v1 v2 v3 => Sys2Proof.Machine.execEmtask h v1 v2 v3 s
  | .emlaunch h v1 v2 => Sys2Proof.Machine.execEmlaunch h v1 v2 s
  | .emlaunchCfg h v1 v2 v3 => Sys2Proof.Machine.execEmlaunchCfg h v1 v2 v3 s
  | .sigwaitLe h v1 v2 => Sys2Proof.Machine.execSigwaitLe h v1 v2 s
  | .sigwaitLt h v1 v2 => Sys2Proof.Machine.execSigwaitLt h v1 v2 s
  | .sigwaitEq h v1 v2 => Sys2Proof.Machine.execSigwaitEq h v1 v2 s
  | .sigwaitNe h v1 v2 => Sys2Proof.Machine.execSigwaitNe h v1 v2 s
  | .delta h v1 v2 v3 => Sys2Proof.Machine.execDelta h v1 v2 v3 s
  | .abortPkt h => Sys2Proof.Machine.execAbortPkt h s
  | .abortQueue h => Sys2Proof.Machine.execAbortQueue h s
  | .complete h v1 v2 v3 => Sys2Proof.Machine.execComplete h v1 v2 v3 s
  | .barrier => Sys2Proof.Machine.execBarrier s
  | .bundleIssue => Sys2Proof.Machine.execBundleIssue s
  | .queueWaitTimeout => Sys2Proof.Machine.execQueueWaitTimeout s
  | .loadDataReturn => Sys2Proof.Machine.execLoadDataReturn s
  | .storePerformed => Sys2Proof.Machine.execStorePerformed s
  | .qrdLanding => Sys2Proof.Machine.execQrdLanding s
  | .lateAccessRefusal => Sys2Proof.Machine.execLateAccessRefusal s
  | .waitcComplete => Sys2Proof.Machine.execWaitcComplete s
  | .fenceComplete => Sys2Proof.Machine.execFenceComplete s
  | .modeDrainDone => Sys2Proof.Machine.execModeDrainDone s
  | .gbarPhaseComplete => Sys2Proof.Machine.execGbarPhaseComplete s
  | .taskEndDrained => Sys2Proof.Machine.execTaskEndDrained s
  | .copyStart => Sys2Proof.Machine.execCopyStart s
  | .copyGranule => Sys2Proof.Machine.execCopyGranule s
  | .copyComplete => Sys2Proof.Machine.execCopyComplete s
  | .copyTranslationFault => Sys2Proof.Machine.execCopyTranslationFault s
  | .slotTranslationFault => Sys2Proof.Machine.execSlotTranslationFault s
  | .chainRegister => Sys2Proof.Machine.execChainRegister s
  | .chainEntryRead => Sys2Proof.Machine.execChainEntryRead s
  | .chainCommandComplete => Sys2Proof.Machine.execChainCommandComplete s
  | .taskCancelAtHead => Sys2Proof.Machine.execTaskCancelAtHead s
  | .bindFresh => Sys2Proof.Machine.execBindFresh s
  | .bindRestore => Sys2Proof.Machine.execBindRestore s
  | .bindPreempt => Sys2Proof.Machine.execBindPreempt s
  | .slotStopped => Sys2Proof.Machine.execSlotStopped s
  | .slotSaveDone => Sys2Proof.Machine.execSlotSaveDone s
  | .tenantScrub => Sys2Proof.Machine.execTenantScrub s
  | .stepArm => Sys2Proof.Machine.execStepArm s
  | .stepRowWritten => Sys2Proof.Machine.execStepRowWritten s
  | .stepComplete => Sys2Proof.Machine.execStepComplete s
  | .scaccDone => Sys2Proof.Machine.execScaccDone s
  | .tcfgLoadDone => Sys2Proof.Machine.execTcfgLoadDone s
  | .segmentSwitch => Sys2Proof.Machine.execSegmentSwitch s
  | .drainEmpty => Sys2Proof.Machine.execDrainEmpty s
  | .siteFire => Sys2Proof.Machine.execSiteFire s
  | .collarTrapDelivery => Sys2Proof.Machine.execCollarTrapDelivery s
  | .hardwareRollback => Sys2Proof.Machine.execHardwareRollback s
  | .channelPark => Sys2Proof.Machine.execChannelPark s
  | .channelWake => Sys2Proof.Machine.execChannelWake s
  | .sumpRefill => Sys2Proof.Machine.execSumpRefill s
  | .sumpGrant => Sys2Proof.Machine.execSumpGrant s
  | .sumpDecline => Sys2Proof.Machine.execSumpDecline s
  | .sumpSpillFault => Sys2Proof.Machine.execSumpSpillFault s
  | .deadlockScan => Sys2Proof.Machine.execDeadlockScan s
  | .landfall => Sys2Proof.Machine.execLandfall s
  | .deadlineHardStop => Sys2Proof.Machine.execDeadlineHardStop s
  | .packetStart => Sys2Proof.Machine.execPacketStart s
  | .packetBudget => Sys2Proof.Machine.execPacketBudget s
  | .sigwaitReread => Sys2Proof.Machine.execSigwaitReread s
  | .emlaunchGroupsFree => Sys2Proof.Machine.execEmlaunchGroupsFree s
  | .cfgTrapTimeout => Sys2Proof.Machine.execCfgTrapTimeout s
  | .launchRetire => Sys2Proof.Machine.execLaunchRetire s
  | .packetRetire => Sys2Proof.Machine.execPacketRetire s
  | .hostWrite => Sys2Proof.Machine.execHostWrite s
  | .hostRead => Sys2Proof.Machine.execHostRead s
  | .hostTail => Sys2Proof.Machine.execHostTail s
  | .hostAck => Sys2Proof.Machine.execHostAck s
  | .hostFaultRetry => Sys2Proof.Machine.execHostFaultRetry s
  | .hostFaultAbort => Sys2Proof.Machine.execHostFaultAbort s
  | .hostRetransmit => Sys2Proof.Machine.execHostRetransmit s
  | .hostLinkLoss => Sys2Proof.Machine.execHostLinkLoss s
  | .hostLinkUp => Sys2Proof.Machine.execHostLinkUp s
  | .mgmtStatus => Sys2Proof.Machine.execMgmtStatus s
  | .mgmtQdesc => Sys2Proof.Machine.execMgmtQdesc s
  | .mgmtQprog => Sys2Proof.Machine.execMgmtQprog s
  | .mgmtQtear => Sys2Proof.Machine.execMgmtQtear s
  | .mgmtChopen => Sys2Proof.Machine.execMgmtChopen s
  | .mgmtChclose => Sys2Proof.Machine.execMgmtChclose s
  | .mgmtNodemap => Sys2Proof.Machine.execMgmtNodemap s
  | .mgmtTxinv => Sys2Proof.Machine.execMgmtTxinv s
  | .mgmtPtpdom => Sys2Proof.Machine.execMgmtPtpdom s
  | .mgmtCounters => Sys2Proof.Machine.execMgmtCounters s
  | .mgmtLinktrain => Sys2Proof.Machine.execMgmtLinktrain s
  | .mgmtFence => Sys2Proof.Machine.execMgmtFence s
  | .mgmtAttest => Sys2Proof.Machine.execMgmtAttest s
  | .mgmtBaseimg => Sys2Proof.Machine.execMgmtBaseimg s
  | .mgmtPower => Sys2Proof.Machine.execMgmtPower s
  | .mgmtSensors => Sys2Proof.Machine.execMgmtSensors s
  | .txinvPages => Sys2Proof.Machine.execTxinvPages s
  | .txinvChart => Sys2Proof.Machine.execTxinvChart s
  | .txinvAsid => Sys2Proof.Machine.execTxinvAsid s
  | .txinvAll => Sys2Proof.Machine.execTxinvAll s
  | .txinvDone => Sys2Proof.Machine.execTxinvDone s
  | .registerWrite => Sys2Proof.Machine.execRegisterWrite s
  | .ptpMessage => Sys2Proof.Machine.execPtpMessage s
  | .ptpHoldover => Sys2Proof.Machine.execPtpHoldover s
  | .remotePacketArrival => Sys2Proof.Machine.execRemotePacketArrival s
  | .remoteAckArrival => Sys2Proof.Machine.execRemoteAckArrival s
  | .remoteResendTimeout => Sys2Proof.Machine.execRemoteResendTimeout s
  | .remoteRefusal => Sys2Proof.Machine.execRemoteRefusal s
  | .destinationUnreachable => Sys2Proof.Machine.execDestinationUnreachable s
  | .flitCrcRetry => Sys2Proof.Machine.execFlitCrcRetry s
  | .linkLossOfLock => Sys2Proof.Machine.execLinkLossOfLock s
  | .linkFlitErrorRate => Sys2Proof.Machine.execLinkFlitErrorRate s
  | .linkRemoved => Sys2Proof.Machine.execLinkRemoved s
  | .correctedError => Sys2Proof.Machine.execCorrectedError s
  | .uncorrectableError => Sys2Proof.Machine.execUncorrectableError s
  | .backgroundScrub => Sys2Proof.Machine.execBackgroundScrub s
  | .channelRemap => Sys2Proof.Machine.execChannelRemap s
  | .tileRetire => Sys2Proof.Machine.execTileRetire s
  | .throttleStep => Sys2Proof.Machine.execThrottleStep s
  | .carrierThrottle => Sys2Proof.Machine.execCarrierThrottle s
  | .thermalTrip => Sys2Proof.Machine.execThermalTrip s
  | .coldReset => Sys2Proof.Machine.execColdReset s
  | .illegalWord => Sys2Proof.Machine.execIllegalWord s
  | .resultLands => Sys2Proof.Machine.execResultLands s
  | .stepPreloadDone => Sys2Proof.Machine.execStepPreloadDone s
  | .stepRowEnters => Sys2Proof.Machine.execStepRowEnters s
  | .spareTakeoverDone => Sys2Proof.Machine.execSpareTakeoverDone s
  | .linkTrained => Sys2Proof.Machine.execLinkTrained s
  | .railOutOfRange => Sys2Proof.Machine.execRailOutOfRange s

end Sys2Proof.Machine
end

