-- ==== Sys2Proof/Machine/Tick.lean ====
section
/-! DEFINITION. Sys2Proof/Machine/Tick.lean: what a clock cycle changes by itself: the cycle count, meridian time, and the
slot cycles of exposed slots (R5, R120, R255). -/

namespace Sys2Proof.Machine

/-- A result is due in the slot cycle after this one and is not there (R255: the slot freezes until it is). -/
def Slot.missing (sl : Slot) : Bool := sl.ops.any fun o =>
  !o.done && decide (o.due ≤ sl.cycle + 1) && (match o.kind with
    | .load .. => true
    | .qrd .. => true
    | _ => false)

/-- R173, R258: a MODE word drains the slot, whose count starts anew with it. -/
def Slot.draining (sl : Slot) : Bool :=
  [0, 1, 2, 3].any fun x => match (sl.stream x).wait with
    | some (.mode _) => true
    | _ => false

/-- R255: every stream of an exposed slot has done its part of the slot cycle and nothing freezes it; the results of words
issued before a trap or a stop go on landing. -/
def Slot.cycleOver (sl : Slot) : Bool :=
  if sl.exposed then
    !sl.draining && !sl.missing && ((sl.late.any fun t => decide (t.at_ < sl.cycle)) || sl.phase != .running || sl.diverting ||
      (!sl.gathered && [0, 1, 2, 3].all fun x => sl.cycleSpent x))
  else !sl.pend.isEmpty

/-- R249: the ages of a core's other slots do not advance while one is exposed. -/
def Slot.ageHeld (sl : Slot) : Slot :=
  { sl with rvSince := sl.rvSince.map (· + 1),
            streams := sl.streams.map fun (p : Nat × Stream) => (p.1, { p.2 with readySince := p.2.readySince.map (· + 1) }) }

/-- What is kept of a slot's words for one cycle: the flags they raised, now ORed in (R34), and the registers they wrote and
read (R244). -/
def Slot.cycleDone (sl : Slot) : Slot := { sl with raised := 0, wrote := [], seen := [] }

/-- A cycle ends for a slot: a SETX takes effect in its tile (R19, R120), and the next slot cycle begins, with the results due in
it. The count stands still while a MODE word drains the slot or a configuration delta halts its tile (R255, R258, R376);
what returns a counter or lands in a reservation lands in the drain all the same, and a scalar or predicate stays unwritten. -/
def State.slotTick (s : State) (k : Nat) : State :=
  let s := if (s.slot k).pend.any fun p => p.eff.isSys then s.landWhere k fun p => p.eff.isSys else s
  let sl := s.slot k
  let s :=
    if sl.exposed && sl.draining then s.landWhere k fun p => p.eff.drains
    else if sl.cycleOver && !s.haltsSlot k then (s.modSlot k fun sl => { sl with cycle := sl.cycle + 1 }).landDue k
    else s
  let sl := s.slot k
  if sl.cycleDone = sl then s else s.setSlot k sl.cycleDone

/-- R247: what is ready, and since when: a word that is ready as a cycle begins, and a complete rendezvous. The ages of a
core's other slots do not advance while one is exposed (R249). -/
def State.slotAge (s : State) (k : Nat) : State :=
  if s.otherExposed k then s.modSlot k Slot.ageHeld
  else
    let sl := s.slot k
    let since := fun (on : Bool) (old : Option Nat) => if on then some (old.getD s.cycle) else none
    s.setSlot k { sl with
      rvSince := since sl.gathered sl.rvSince,
      streams := sl.streams.map fun (p : Nat × Stream) => (p.1, { p.2 with readySince := since (s.wordReady k p.1) p.2.readySince }) }

/-- Parts of a nanosecond that meridian time counts in: every clock of R450 divides them. -/
def nsParts : Nat := 144403552893600

/-- R411: what slewing at 500 ppm adds to or takes from a cycle, in parts of a nanosecond, and the clock after it. -/
def Clock.slewed (c : Clock) (parts : Nat) : Clock × Int :=
  if c.slew = 0 then (c, 0)
  else
    let step := parts / 2000
    let sum := c.part + step
    let done : Int := (sum / nsParts : Nat)
    let left := if 0 < c.slew then c.slew - done else c.slew + done
    ({ c with slew := left, part := if left = 0 then 0 else sum % nsParts }, if 0 < c.slew then (step : Int) else -(step : Int))

/-- One array-clock cycle: at 33 times 100 MHz it is 10/33 ns (R5, R450). What completed after a save has reached its area by its end
(R253). -/
def State.tick (s : State) : State :=
  let parts := nsParts * 10 / max 1 s.power.clock
  let r := s.clock.slewed parts
  let f := (s.mfrac + parts + r.2).toNat
  let s := { s with issued := [], tripped := [], landed := [], host := { s.host with sends := [] }, torus := { s.torus with sending := [] },
                    cycle := s.cycle + 1, clock := r.1, mtime := s.mtime + BitVec.ofNat 64 (f / nsParts), mfrac := f % nsParts }
  let t := s.slots.foldl (fun s p => s.slotTick p.1) s
  ((t.slots.filter fun p => p.2.phase == .running).foldl (fun s p => s.slotAge p.1) t).flushAreas

end Sys2Proof.Machine
end

