-- ==== Sys2Proof/Machine/Step.lean ====
section
/-! DEFINITION. Sys2Proof/Machine/Step.lean: one step of the machine: the next turn of the agenda. -/

namespace Sys2Proof.Machine

/-- The word a stream turn runs: what the stream decodes, else the illegal-word event (R73). -/
def State.wordOr (i : Option Instr) : Instr := i.getD .illegalWord

/-- A queue's packet whose program has just ended makes room (R370). -/
def settled (q : Nat) : Host.Outcome State Fault Refusal → Host.Outcome State Fault Refusal
  | .next t => .next (t.settle q)
  | .fault f => .fault f
  | .refused r => .refused r

/-- A word or a bundle that the turn has issued takes the clusters of its core, or does not issue (R247). -/
def arbitrated (s : State) : Host.Outcome State Fault Refusal → Host.Outcome State Fault Refusal
  | .next t => .next (s.arbitrate t)
  | .fault f => .fault f
  | .refused r => .refused r

/-- One turn. -/
def State.turn (s : State) : Turn → Host.Outcome State Fault Refusal
  | .tick => .next s.tick
  | .stream k x =>
    arbitrated s (exec (State.wordOr (s.streamNext k x)) { s with cur := .stream k x, fetched := s.streamWords k x })
  | .command id => match s.commandNext id with
    | some i => arbitrated s (exec i { s with cur := .command id, fetched := s.commandWords id })
    | none => .next s
  | .queue q => match s.queueNext q with
    | some i => arbitrated s (settled q (exec i { s with cur := .queue q, fetched := s.queueWords q }))
    | none => .next s
  | .event i inp => arbitrated s (exec i { s with cur := .none, inp := inp })

/-- R452: with the rails off only a cold reset can happen. -/
def Turn.powered : Turn → Bool
  | .event .coldReset _ => true
  | _ => false

/-- The next turn of the agenda; an empty one lets a clock cycle pass. With the rails off nothing runs (R451, R452). -/
def step (s : State) : Host.Outcome State Fault Refusal :=
  match s.agenda with
  | [] => if s.power.railsOff then .fault .railsOff else .next s.tick
  | t :: r => if s.power.railsOff && !t.powered then .fault .railsOff else { s with agenda := r }.turn t

/-! ## A word placed where the next step fetches it -/

/-- The stream that a control-core word is given to (R143, R178). -/
def wordStream (i : Instr) : Nat := if i.mStreamOnly then 3 else if i.tStreamOnly then 2 else 0

/-- The bytes at PC 0 of slot 0, which runs in one stream, and that stream's turn next. -/
def State.withStreamWord (s : State) (x : Nat) (bs : List Byte) : State :=
  let sl := s.slot 0
  let streams := [0, 1, 2, 3].map fun y => (y, if y = x then { sl.stream y with ctl := { (sl.stream y).ctl with pc := 0 } }
                                                else { sl.stream y with ended := true })
  { s with mem := Memory.writeBytes s.mem (imemAddr 0 0) bs, agenda := [.stream 0 x] }.setSlot 0
    { sl with phase := .running, streams := streams }

/-- A started command whose program is the word, and its turn next. -/
def State.withCommandWord (s : State) (ws : List Nat) : State :=
  { s with agenda := [.command 0] }.setJob 0 { code := ws, len := ws.length, engine := 64, queue := 2, started := true }

/-- A packet that queue 0 has read, whose program is the word, and the queue's turn next. -/
def State.withQueueWord (s : State) (ws : List Nat) : State :=
  { s with agenda := [.queue 0] }.setHqueue 0
    { s.hqueue 0 with state := 1, cur := some { bytes := List.replicate 256 0, code := ws } }

/-- The state whose very next step fetches and runs the word of an opcode-table row: the agenda names the engine that reads
it, and the word stands where that engine fetches. -/
def State.withFetchWord (s : State) (nbits w : Nat) : State :=
  let bs := tableBytes (w % 2 ^ nbits)
  let ws := fun two : Bool => if two then [bytesWord bs, bytesWord (bs.drop 4)] else [bytesWord bs]
  match decodeTable nbits w with
  | some (.copy, _) => s.withCommandWord (ws (twoWordCopy (bytesWord bs)))
  | some (.front, _) => s.withQueueWord (ws (twoWordFront (bytesWord bs)))
  | some (.core, i) => s.withStreamWord (wordStream i) bs
  | none => s.withStreamWord 0 bs

end Sys2Proof.Machine
end

