-- ==== Sys2Proof/Safety.lean ====
section
/-! DEFINITION. Sys2Proof/Safety.lean: what counts as a safe state, and the words the claims use: when a stream issues a
word, and the state after it. -/

namespace Sys2Proof.Machine

/-- Memory has its canonical form. -/
def State.memSafe (s : State) : Prop := Memory.wf s.mem = true

/-- R247: no cluster of a core has issued two words in this cycle. -/
def State.clustersApart (s : State) : Prop :=
  s.issued.Pairwise fun a b => ¬ (coreKey a.1 = coreKey b.1 ∧ a.2 = b.2)

end Sys2Proof.Machine

namespace Sys2Proof.Claims

open Sys2Proof.Machine

/-- Slot `k` runs, and nothing holds its streams together: no word of an earlier cycle is to trap late, and it has no debug stop,
no halt of its tile, no diversion, no re-entry drain and no other exposed slot in its core (R233, R235, R249, R257, R258, R376,
R395). -/
structure FreeSlot (s : State) (k : Nat) : Prop where
  running : (s.slot k).phase = .running
  late : ∀ t ∈ (s.slot k).late, s.slotClock k ≤ t.at_
  broke : (s.slot k).broke = false
  diverting : (s.slot k).diverting = false
  reenter : (s.slot k).reenter = false
  moves : s.haltsSlot k = false
  alone : s.otherExposed k = false

/-- The mode of slot `k` lets stream `x` issue: in guarded mode no result of an earlier word is still to land, but a SETX's of this
cycle; in exposed mode the stream's slot cycle has come, and every earlier stream has done its part of it (R233, R255). -/
def ModeLets (s : State) (k x : Nat) : Prop :=
  let sl := s.slot k
  (sl.exposed = false ∧ ∀ p ∈ sl.pend, p.eff.isSys = true) ∨
    (sl.exposed = true ∧ (sl.stream x).next ≤ sl.cycle ∧
      ∀ y < 4, y < x → sl.live y = false ∨ sl.cycle < (sl.stream y).next ∨ (sl.stream y).presented = true)

/-- It is the turn of stream `x` of slot `k`, not in a bundle, and it may issue its word of header `h`, in either mode: it
waits for no service (R356), no collar trap (R292), no channel word stalls the slot (R404), and, when the word takes part in
rendezvous, there is no other stream to meet (R241). -/
structure AtTurn (s : State) (k x : Nat) (h : Hdr) : Prop where
  cur : s.cur = .stream k x
  single : s.bundle = false
  slot : FreeSlot s k
  mode : ModeLets s k x
  live : (s.slot k).live x = true
  served : ((s.slot k).stream x).serviced = false
  unstalled : (s.slot k).stalled x = false
  uncollared : s.collarHolds k x = false
  meets : h.s = true → (s.slot k).mustPresent x = false

/-- The word `i` with header `h` stands there, and its counter has room (R115). -/
structure AtWord (s : State) (k x : Nat) (i : Instr) (h : Hdr) : Prop extends AtTurn s k x h where
  counter : (s.slot k).counterBlock (usesOf i) = .go

/-- The word issues and acts: its guard is true (R54, R126), and its registers and queues are ready (R250, R251, R254). -/
structure Issues (s : State) (k x : Nat) (i : Instr) (h : Hdr) : Prop extends AtWord s k x i h where
  guard : wordActive (usesOf i) ((s.slot k).view x) h.g h.n = true
  ready : s.interlock k x (usesOf i) (h.s && !(s.slot k).trap.inHandler) = .go

/-- It issues in guarded mode. -/
structure IssuesGuarded (s : State) (k x : Nat) (i : Instr) (h : Hdr) : Prop extends Issues s k x i h where
  guarded : (s.slot k).exposed = false

/-- It issues in exposed mode (R255). -/
structure IssuesExposed (s : State) (k x : Nat) (i : Instr) (h : Hdr) : Prop extends Issues s k x i h where
  exposed : (s.slot k).exposed = true

/-- R95: the stream's control state after a word of `len` words that makes no taken transfer; `skip` more words are skipped. -/
def passed (s : State) (k : Nat) (c : Ctl) (len skip : Nat) : Ctl :=
  c.advance (fun g => lane0 (readPred (s.slot k).preds g)) (wrapPc (c.pc + len - 1)) (wrapPc (c.pc + len + skip))

/-- The stream after its word has issued in state `s` of the slot: its control state, its rendezvous count (R241), and the
end of its waits. -/
def issuedStream (s : State) (k : Nat) (h : Hdr) (c : Ctl) (bubble : Nat) (cycle : Nat) (st : Stream) : Stream :=
  { st with ctl := c, presented := false, qsince := none, wait := none, readySince := none, next := cycle + 1 + bubble,
            rvCount := if h.s && !(s.slot k).trap.inHandler then st.rvCount + 1 else st.rvCount }

/-- State `t`, which holds a word's effects, once the word has issued from stream `x` of slot `k` in state `s` and the
stream has gone on to control state `c`. -/
def after (s t : State) (k x : Nat) (h : Hdr) (c : Ctl) (bubble : Nat) : State :=
  { t with issued := t.issued ++ [(k, x)] }.setSlot k
    ((t.slot k).setStream x (issuedStream s k h c bubble (t.slot k).cycle ((t.slot k).stream x)))

/-- R97, R128, R151, R257: slot `k` once stream `x`'s word is to trap late, where its result would land: in exposed mode `n` slot
cycles from now. The trap keeps the stream as it was before the word, and the cycle in which the word issued. -/
def trapsLater (s : State) (k x n cause : Nat) (aux : Word) : Slot :=
  let sl := s.slot k
  { sl with late := sl.late ++ [{ due := if sl.exposed then sl.cycle + n else sl.cycle, x := x, cause := cause, aux := aux,
                                  at_ := if sl.exposed then sl.cycle else s.cycle,
                                  ctl := (sl.stream x).ctl, rv := (sl.stream x).rvCount }] }

/-- R84: register `d` of slot `k` receives `v`; register 0 discards it. -/
def received (s : State) (k : Nat) (d : BitVec 5) (v : Word) : State :=
  if d = 0 then s else s.setSlot k { s.slot k with regs := (s.slot k).regs.set d.toNat v }

/-- R255: the slot `k` of `s` with results `es` of a word of stream `x` that become readable `n` slot cycles from now. -/
def landing (s : State) (k x n : Nat) (es : List PendEff) : State :=
  s.setSlot k { s.slot k with pend := (s.slot k).pend ++ es.map fun e => { due := (s.slot k).cycle + n, x := x, eff := e } }

/-- R255: register `d` receives `v`: at once in guarded mode, in exposed mode `n` slot cycles from now. -/
def receives (s : State) (k x n : Nat) (d : BitVec 5) (v : Word) : State :=
  if (s.slot k).exposed = true then landing s k x n [.scalar d v] else received s k d v

/-- R29, R125, R127, R255: slot `k`, with its queues `qs` after the pops, once a word of stream `x` and latency `n` pushes entry `e`
onto queue `q` with flags `fl`. It reserves a tail place; in guarded mode the entry is there at once, to be popped from the next
cycle on, and the flags stick; in exposed mode entry and flags land `n` slot cycles from now. -/
def pushed (s : State) (k x n q : Nat) (qs : Tab (List QPlace)) (e : Entry) (fl : BitVec 5) : State :=
  let sl := s.slot k
  let reserved := fun due => qs.get [] q ++ [{ op := s.nextId, val := none, due := due }]
  ({ s with nextId := s.nextId + 1 } : State).setSlot k (
    if sl.exposed = true then { sl with
      queues := qs.set q (reserved (sl.cycle + n))
      pend := sl.pend ++ [{ due := sl.cycle + n, x := x, eff := .entry q s.nextId e fl }] }
    else { sl with
      queues := qs.set q (landEntry s.nextId e (reserved (s.cycle + 1)))
      fpcsr := sl.fpcsr ||| fl.setWidth 64, raised := sl.raised ||| fl })

/-- R97, R246: slot `sl` with a trap of a word of stream `x` taken after the word has issued: the stream stands at the word again,
as it was before it. -/
def takenBack (sl : Slot) (x : Nat) (c : Ctl) (rv cause : Nat) (aux : Word) (late : Bool) : Slot :=
  (sl.setStream x { sl.stream x with ctl := c, rvCount := rv }).takeTrap x c.pc cause aux late

/-- R257: a late trap. -/
def takenLate (sl : Slot) (x : Nat) (c : Ctl) (rv cause : Nat) (aux : Word) : Slot := takenBack sl x c rv cause aux true

/-- State `t` once a word of `len` words has issued in `s` and its stream has gone on to the next word (R95). -/
def done (s t : State) (k x : Nat) (h : Hdr) (len : Nat) : State :=
  after s t k x h (passed s k ((t.slot k).stream x).ctl len 0) 0

end Sys2Proof.Claims
end

