-- ==== Sys2Proof/Safety/Scalar.lean ====
section
/-! DEFINITION. Sys2Proof/Safety/Scalar.lean: the terms of the statements about the scalar, predicate and divide words. -/

namespace Sys2Proof.Claims

open Sys2Proof.Machine

/-! ## Shared words -/

/-- R82: the low 32 bits of a number, sign-extended to a scalar. -/
def word32 (n : Int) : Word := BitVec.ofInt 64 (BitVec.ofInt 32 n).toInt
/-- R82: bits 31:0 of a scalar as a signed number. -/
def low32 (v : Word) : Int := (BitVec.ofInt 32 v.toNat).toInt
/-- R4, R10: a number cut to a scalar. -/
def word (n : Int) : Word := BitVec.ofInt 64 n

/-- Wherever word `i` of `len` words issues in guarded mode, scalar `d` receives what `f` makes of the registers before it; s0 stays zero
(R27). Nothing else changes but the stream's own progress: no other scalar, predicate, queue, flag, system register, counter,
trap register, tile, memory byte or other slot. -/
def Writes (i : Instr) (h : Hdr) (len : Nat) (d : BitVec 5) (f : View → Word) : Prop :=
  ∀ s k x, IssuesGuarded s k x i h → exec i s = .next (done s (received s k d (f ((s.slot k).view x))) k x h len)

/-- Wherever word `i` issues in guarded mode, predicate `p` receives `f` of the predicates and scalars, then predicate `q` receives `g`;
p0 keeps reading all ones (R27). Nothing else changes but the stream's own progress. -/
def WritesPair (i : Instr) (h : Hdr) (p q : BitVec 3) (f g : View → Lanes) : Prop :=
  ∀ s k x, IssuesGuarded s k x i h →
    let v := (s.slot k).view x
    let put := fun (t : Tab Lanes) (p : BitVec 3) (l : Lanes) => if p = 0 then t else t.set p.toNat l
    exec i s = .next (done s
      (s.setSlot k { s.slot k with preds := put (put (s.slot k).preds p (f v)) q (g v) }) k x h 1)

/-- As `WritesPair`, for one predicate. -/
def WritesPred (i : Instr) (h : Hdr) (p : BitVec 3) (f : View → Lanes) : Prop :=
  ∀ s k x, IssuesGuarded s k x i h →
    exec i s = .next (done s
      (if p = 0 then s else s.setSlot k { s.slot k with preds := (s.slot k).preds.set p.toNat (f ((s.slot k).view x)) }) k x h 1)

/-- Wherever word `i` issues, in either mode, it has no effect but the stream's own progress. -/
def Passes (i : Instr) (h : Hdr) : Prop := ∀ s k x, Issues s k x i h → exec i s = .next (done s s k x h 1)

/-- A precise trap (R233): nothing of the word has happened, and the stream's slot takes the trap at the stream's PC. -/
def Traps (s : State) (k x : Nat) (i : Instr) (cause : Nat) (aux : Word) : Prop :=
  exec i s = .next (s.setSlot k ((s.slot k).takeTrap x ((s.slot k).stream x).ctl.pc cause aux false))

/-- R107, R108: in guarded mode, a divide by `b`: a zero divisor traps with the dividend, any other writes `q`. -/
def Divides (i : Instr) (h : Hdr) (d : BitVec 5) (b : View → Int) (dividend q : View → Word) : Prop :=
  ∀ s k x, IssuesGuarded s k x i h →
    let v := (s.slot k).view x
    (b v = 0 → Traps s k x i 4 (dividend v)) ∧
    (b v ≠ 0 → exec i s = .next (done s (received s k d (q v)) k x h 1))

/-- R105: position and width of a bit field: b[5:0] and b[13:8], where 0 means 64. -/
def fieldAt (b : Word) : Nat × Nat :=
  (b.toNat % 2 ^ 6, if b.toNat / 2 ^ 8 % 2 ^ 6 = 0 then 64 else b.toNat / 2 ^ 8 % 2 ^ 6)

/-- R105: the field that `b` names in `a`, bits above 63 reading as zero. -/
def fieldIn (a b : Word) : Nat := a.toNat / 2 ^ (fieldAt b).1 % 2 ^ (fieldAt b).2

/-- R103: a condition broadcast to every lane, and what mode `m` makes of it and of predicate `e`. -/
def Compares (i : Instr) (h : Hdr) (m : BitVec 2) (p e : BitVec 3) (c : View → Bool) : Prop :=
  WritesPair i h p e (fun v => BitVec.fill 128 (c v)) (fun v =>
    let cv : Lanes := BitVec.fill 128 (c v)
    match m.toNat with
    | 0 => ~~~ cv
    | 1 => v.pred e &&& cv
    | 2 => v.pred e ||| cv
    | _ => v.pred e &&& ~~~ cv)

/-- R82, R99, R100: what the adds, subtracts, bitwise words, moves and immediates write. -/
def arithmeticTable (P : Instr → Hdr → Nat → BitVec 5 → (View → Word) → Prop) : Prop :=
  ∀ (h : Hdr) (d a b : BitVec 5) (i : BitVec 9) (l : BitVec 14) (w : BitVec 32) (t : BitVec 4) (p : BitVec 3),
    P (.add h d a b) h 1 d (fun v => word ((v.reg a).toInt + (v.reg b).toInt)) ∧
    P (.addW h d a b) h 1 d (fun v => word32 ((v.reg a).toInt + (v.reg b).toInt)) ∧
    P (.sub h d a b) h 1 d (fun v => word ((v.reg a).toInt - (v.reg b).toInt)) ∧
    P (.subW h d a b) h 1 d (fun v => word32 ((v.reg a).toInt - (v.reg b).toInt)) ∧
    P (.addi h d a i) h 1 d (fun v => word ((v.reg a).toInt + i.toInt)) ∧
    P (.lui h d l) h 1 d (fun v => word (l.toInt * 2 ^ 32 + (v.reg d).toNat % 2 ^ 32)) ∧
    P (.li32 h d w) h 2 d (fun _ => word w.toInt) ∧
    P (.and h d a b) h 1 d (fun v => v.reg a &&& v.reg b) ∧
    P (.or h d a b) h 1 d (fun v => v.reg a ||| v.reg b) ∧
    P (.xor h d a b) h 1 d (fun v => v.reg a ^^^ v.reg b) ∧
    P (.andi h d a i) h 1 d (fun v => v.reg a &&& word i.toInt) ∧
    P (.ori h d a i) h 1 d (fun v => v.reg a ||| word i.toInt) ∧
    P (.xori h d a i) h 1 d (fun v => v.reg a ^^^ word i.toInt) ∧
    P (.sel h d a b p) h 1 d (fun v => if (v.pred p).getLsbD 0 then v.reg a else v.reg b) ∧
    P (.mov h d a) h 1 d (fun v => v.reg a) ∧
    P (.addsh h d a b t) h 1 d (fun v => word ((v.reg a).toNat + (v.reg b).toNat * 2 ^ t.toNat))

/-- R82, R99: what the shifts write. -/
def shiftTable (P : Instr → Hdr → Nat → BitVec 5 → (View → Word) → Prop) : Prop :=
  ∀ (h : Hdr) (d a b : BitVec 5) (n : BitVec 6),
    P (.shl h d a b) h 1 d (fun v => word ((v.reg a).toNat * 2 ^ ((v.reg b).toNat % 64))) ∧
    P (.shlW h d a b) h 1 d (fun v => word32 ((v.reg a).toNat * 2 ^ ((v.reg b).toNat % 32))) ∧
    P (.shr h d a b) h 1 d (fun v => word ((v.reg a).toNat / 2 ^ ((v.reg b).toNat % 64))) ∧
    P (.shrW h d a b) h 1 d (fun v => word32 ((v.reg a).toNat % 2 ^ 32 / 2 ^ ((v.reg b).toNat % 32))) ∧
    P (.sra h d a b) h 1 d (fun v => word ((v.reg a).toInt / 2 ^ ((v.reg b).toNat % 64))) ∧
    P (.sraW h d a b) h 1 d (fun v => word32 (low32 (v.reg a) / 2 ^ ((v.reg b).toNat % 32))) ∧
    P (.shli h d a n) h 1 d (fun v => word ((v.reg a).toNat * 2 ^ n.toNat)) ∧
    P (.shri h d a n) h 1 d (fun v => word ((v.reg a).toNat / 2 ^ n.toNat)) ∧
    P (.srai h d a n) h 1 d (fun v => word ((v.reg a).toInt / 2 ^ n.toNat))

/-- R82, R99: what the minima, maxima and bit counts write. -/
def minMaxTable (P : Instr → Hdr → Nat → BitVec 5 → (View → Word) → Prop) : Prop :=
  ∀ (h : Hdr) (d a b : BitVec 5),
    P (.min h d a b) h 1 d (fun v => word (min (v.reg a).toInt (v.reg b).toInt)) ∧
    P (.minW h d a b) h 1 d (fun v => word (min (low32 (v.reg a)) (low32 (v.reg b)))) ∧
    P (.max h d a b) h 1 d (fun v => word (max (v.reg a).toInt (v.reg b).toInt)) ∧
    P (.maxW h d a b) h 1 d (fun v => word (max (low32 (v.reg a)) (low32 (v.reg b)))) ∧
    P (.minn h d a b) h 1 d (fun v => word (min (v.reg a).toNat (v.reg b).toNat)) ∧
    P (.minnW h d a b) h 1 d (fun v => word32 (min ((v.reg a).toNat % 2 ^ 32) ((v.reg b).toNat % 2 ^ 32))) ∧
    P (.maxn h d a b) h 1 d (fun v => word (max (v.reg a).toNat (v.reg b).toNat)) ∧
    P (.maxnW h d a b) h 1 d (fun v => word32 (max ((v.reg a).toNat % 2 ^ 32) ((v.reg b).toNat % 2 ^ 32))) ∧
    P (.clz h d a) h 1 d (fun v => if v.reg a = 0 then 64 else word (63 - Nat.log2 (v.reg a).toNat)) ∧
    P (.clzW h d a) h 1 d
      (fun v => if (v.reg a).toNat % 2 ^ 32 = 0 then 32 else word (31 - Nat.log2 ((v.reg a).toNat % 2 ^ 32))) ∧
    P (.popc h d a) h 1 d (fun v => word ((List.range 64).filter fun j => (v.reg a).getLsbD j).length) ∧
    P (.popcW h d a) h 1 d (fun v => word ((List.range 32).filter fun j => (v.reg a).getLsbD j).length)

/-- R101, R105-R107: what the bit-field words, the funnel shift, the products and AGEN2 write. -/
def fieldTable (P : Instr → Hdr → Nat → BitVec 5 → (View → Word) → Prop) : Prop :=
  ∀ (h : Hdr) (d a b : BitVec 5) (r : Bool) (c : BitVec 6),
    P (.bfx h d a b) h 1 d (fun v =>
      let f := fieldIn (v.reg a) (v.reg b)
      let w := (fieldAt (v.reg b)).2
      if f / 2 ^ (w - 1) % 2 = 1 then word (f - 2 ^ w) else word f) ∧
    P (.bfxn h d a b) h 1 d (fun v => word (fieldIn (v.reg a) (v.reg b))) ∧
    (∃ f, P (.bfi h d a b) h 1 d f ∧ ∀ v j, j < 64 →
      let p := (fieldAt (v.reg b)).1
      let w := (fieldAt (v.reg b)).2
      (f v).getLsbD j = if p ≤ j ∧ j < p + w then (v.reg a).getLsbD (j - p) else (v.reg d).getLsbD j) ∧
    P (.fshr h d a b r c) h 2 d (fun v =>
      let n := if r then (v.reg (BitVec.ofNat 5 c.toNat)).toNat % 2 ^ 6 else c.toNat
      word (((v.reg b).toNat * 2 ^ 64 + (v.reg a).toNat) / 2 ^ n : Nat)) ∧
    P (.mul h d a b) h 1 d (fun v => word ((v.reg a).toInt * (v.reg b).toInt)) ∧
    P (.mulW h d a b) h 1 d (fun v => word32 ((v.reg a).toInt * (v.reg b).toInt)) ∧
    P (.mulh h d a b) h 1 d (fun v => word ((v.reg a).toInt * (v.reg b).toInt / 2 ^ 64)) ∧
    P (.mulhn h d a b) h 1 d (fun v => word ((v.reg a).toNat * (v.reg b).toNat / 2 ^ 64 : Nat)) ∧
    P (.agen2 h d a b) h 1 d (fun v =>
      let here := v.ctl.loops.filter fun l => l.depth = v.ctl.depth
      let last := match here with
        | l :: _ => decide (l.count = 1)
        | [] => false
      word ((v.reg d).toInt + (if last then (v.reg b).toInt else (v.reg a).toInt)))

/-- R107, R108: the dividend, the divisor and the result of each divide. -/
def divideTable (P : Instr → Hdr → BitVec 5 → (View → Int) → (View → Word) → (View → Word) → Prop) : Prop :=
  ∀ (h : Hdr) (d a b : BitVec 5),
    let sa := fun v : View => (v.reg a).toInt
    let sb := fun v : View => (v.reg b).toInt
    let na := fun v : View => ((v.reg a).toNat : Int)
    let nb := fun v : View => ((v.reg b).toNat : Int)
    let wa := fun v : View => low32 (v.reg a)
    let wb := fun v : View => low32 (v.reg b)
    let ma := fun v : View => ((v.reg a).toNat % 2 ^ 32 : Int)
    let mb := fun v : View => ((v.reg b).toNat % 2 ^ 32 : Int)
    P (.div h d a b) h d sb (fun v => v.reg a) (fun v => word ((sa v).tdiv (sb v))) ∧
    P (.divW h d a b) h d wb (fun v => word32 (v.reg a).toNat) (fun v => word32 ((wa v).tdiv (wb v))) ∧
    P (.divn h d a b) h d nb (fun v => v.reg a) (fun v => word (na v / nb v)) ∧
    P (.divnW h d a b) h d mb (fun v => word32 (v.reg a).toNat) (fun v => word32 (ma v / mb v)) ∧
    P (.rem h d a b) h d sb (fun v => v.reg a) (fun v => word ((sa v).tmod (sb v))) ∧
    P (.remW h d a b) h d wb (fun v => word32 (v.reg a).toNat) (fun v => word32 ((wa v).tmod (wb v))) ∧
    P (.remn h d a b) h d nb (fun v => v.reg a) (fun v => word (na v % nb v)) ∧
    P (.remnW h d a b) h d mb (fun v => word32 (v.reg a).toNat) (fun v => word32 (ma v % mb v))

/-- R102: the condition of each compare word. -/
def compareTable (P : Instr → Hdr → BitVec 2 → BitVec 3 → BitVec 3 → (View → Bool) → Prop) : Prop :=
  ∀ (h : Hdr) (m : BitVec 2) (p e : BitVec 3) (a b : BitVec 5) (i : BitVec 6),
    P (.cmpEq h m p a b e) h m p e (fun v => v.reg a = v.reg b) ∧
    P (.cmpNe h m p a b e) h m p e (fun v => v.reg a ≠ v.reg b) ∧
    P (.cmpLt h m p a b e) h m p e (fun v => (v.reg a).toInt < (v.reg b).toInt) ∧
    P (.cmpGe h m p a b e) h m p e (fun v => (v.reg b).toInt ≤ (v.reg a).toInt) ∧
    P (.cmpLtn h m p a b e) h m p e (fun v => (v.reg a).toNat < (v.reg b).toNat) ∧
    P (.cmpGen h m p a b e) h m p e (fun v => (v.reg b).toNat ≤ (v.reg a).toNat) ∧
    P (.cmpTst h m p a b e) h m p e (fun v => v.reg a &&& v.reg b ≠ 0) ∧
    P (.cmpNtst h m p a b e) h m p e (fun v => v.reg a &&& v.reg b = 0) ∧
    P (.cmpiEq h m p a i e) h m p e (fun v => v.reg a = word i.toInt) ∧
    P (.cmpiNe h m p a i e) h m p e (fun v => v.reg a ≠ word i.toInt) ∧
    P (.cmpiLt h m p a i e) h m p e (fun v => (v.reg a).toInt < i.toInt) ∧
    P (.cmpiGe h m p a i e) h m p e (fun v => i.toInt ≤ (v.reg a).toInt) ∧
    P (.cmpiLtn h m p a i e) h m p e (fun v => (v.reg a).toNat < (word i.toInt).toNat) ∧
    P (.cmpiGen h m p a i e) h m p e (fun v => (word i.toInt).toNat ≤ (v.reg a).toNat) ∧
    P (.cmpiTst h m p a i e) h m p e (fun v => v.reg a &&& word i.toInt ≠ 0)

/-- R104: what the predicate words write. -/
def predicateTable (P : Instr → Hdr → BitVec 3 → (View → Lanes) → Prop) : Prop :=
  ∀ (h : Hdr) (p q r : BitVec 3),
    P (.pand h p q r) h p (fun v => v.pred q &&& v.pred r) ∧
    P (.por h p q r) h p (fun v => v.pred q ||| v.pred r) ∧
    P (.pxor h p q r) h p (fun v => v.pred q ^^^ v.pred r) ∧
    P (.pnot h p q) h p (fun v => ~~~ v.pred q) ∧
    P (.pmov h p q) h p (fun v => v.pred q) ∧
    P (.pandn h p q r) h p (fun v => v.pred q &&& ~~~ v.pred r)

/-- R79, R85, R109: the no-operation and the hints. -/
def idleTable (P : Instr → Hdr → Prop) : Prop :=
  ∀ (h : Hdr) (d a b : BitVec 5) (i : BitVec 9) (f : BitVec 4),
    P (.nop h) h ∧ P (.pfd h d a i) h ∧ P (.pfi h d a i) h ∧ P (.hint2 h d a b f) h ∧
    P (.hint3 h d a b f) h ∧ P (.hint4 h d a b f) h ∧ P (.hint5 h d a b f) h ∧
    P (.hint6 h d a b f) h ∧ P (.hint7 h d a b f) h

end Sys2Proof.Claims
end

