-- ==== Sys2Proof/Safety/Guards.lean ====
section
/-! DEFINITION. Sys2Proof/Safety/Guards.lean: the terms of the statements about false guards, transfers and loops, and the shared words on engines. -/

namespace Sys2Proof.Claims

open Sys2Proof.Machine

/-! ## Guards -/

/-- A word that waits issues nothing: no word is noted, and registers, predicates, queues, operations and memory stay. -/
def Stands (s : State) (k : Nat) (i : Instr) : Prop :=
  ∃ t, exec i s = .next t ∧ t.issued = s.issued ∧ t.mem = s.mem ∧ (t.slot k).regs = (s.slot k).regs ∧
    (t.slot k).preds = (s.slot k).preds ∧ (t.slot k).queues = (s.slot k).queues ∧ (t.slot k).ops = (s.slot k).ops

/-- R115, R142: whatever the guard, a word whose counter stands at 63 traps in exposed mode, and waits in guarded mode with nothing
changed. -/
def CounterFull (i : Instr) (h : Hdr) : Prop :=
  ∀ s k x c, AtTurn s k x h → (usesOf i).cls = some c → 63 ≤ ((s.slot k).ops.filter fun o => o.cls = c).length →
    ((s.slot k).exposed = true → Traps s k x i 9 (BitVec.ofNat 64 c)) ∧ ((s.slot k).exposed = false → exec i s = .next s)

/-- R250, R251: an active word that finds its queues short. In exposed mode the first operand that cannot be taken traps, when no
entry is reserved for it or its entry is not yet due; one that is due and not there is waited for, and with every operand there a
push into a queue that stays full traps. In guarded mode the word waits. -/
def QueuesShort (i : Instr) (h : Hdr) : Prop :=
  ∀ s k x, AtWord s k x i h → wordActive (usesOf i) ((s.slot k).view x) h.g h.n = true →
    let sl := s.slot k
    let rv := h.s && !sl.trap.inHandler
    let u := usesOf i
    let place := fun o : Nat × Nat × Bool => (sl.queues.get [] o.1)[o.2.1]?
    let there := fun o => ∃ p, place o = some p ∧ p.val.isSome = true
    (sl.exposed = true →
      (∀ before o behind, u.q = before ++ o :: behind → (∀ b ∈ before, there b) →
        (place o = none ∨ (∃ p, place o = some p ∧ p.val = none ∧ sl.cycle < p.due) → Traps s k x i 11 (BitVec.ofNat 64 o.1)) ∧
        ((∃ p, place o = some p ∧ p.val = none ∧ p.due ≤ sl.cycle) → Stands s k i)) ∧
      (∀ q, (∀ o ∈ u.q, there o) → u.push = some q →
        4 + (u.q.filter fun o => o.1 = q ∧ o.2.2).length + s.otherPops k x q rv ≤ (sl.queues.get [] q).length →
        Traps s k x i 12 (BitVec.ofNat 64 q))) ∧
    (sl.exposed = false → s.interlock k x u rv ≠ .go → Stands s k i)

/-- Wherever word `i` of `len` words stands under a false guard, in either mode, its stream passes it and `skip` words more, and
nothing happens but that a memory, command or tile word takes its counter and retires it in issue order (R54, R94, R115). -/
def Passed (i : Instr) (h : Hdr) (len skip : Nat) : Prop :=
  ∀ s k x, AtWord s k x i h → wordActive (usesOf i) ((s.slot k).view x) h.g h.n = false →
    let t := match (usesOf i).cls with
      | none => s
      | some c => ({ s with nextId := s.nextId + 1 } : State).setSlot k { s.slot k with
          ops := retireNulls [] ((s.slot k).ops ++ [{ id := s.nextId, cls := c, x := x, kind := .null, due := 0 }]) }
    exec i s = .next (after s t k x h (passed s k ((s.slot k).stream x).ctl len skip) 0)

/-- What becomes of a word that does not act or cannot issue: under a false guard, with its counter full, with its queues short. -/
def Skips (i : Instr) (h : Hdr) (len skip : Nat) : Prop := Passed i h len skip ∧ CounterFull i h ∧ QueuesShort i h

/-! ## Transfers and loops -/

/-- R93, R96: the address `t` lies in the body of loop `l`; PCs wrap at 32,768. -/
abbrev inBody (l : Loop) (t : Nat) : Prop := (t + 32768 - l.start) % 32768 ≤ (l.last + 32768 - l.start) % 32768

/-- R95, R96: the counter of the innermost loop of the current depth that ends at the stream's PC. -/
def endingHere (c : Ctl) : Option Nat := ((c.loops.filter fun l => l.last = c.pc ∧ l.depth = c.depth).map fun l => l.lc).head?

/-- R93, R96: the counts with those of the given loops kept in their counters, which are idle. -/
def idled (counts : Tab Nat) (gone : List Loop) : Tab Nat := gone.foldl (fun t l => t.set l.lc l.count) counts

/-- R64: the target of a signed word offset on a control core. -/
def targetOf (pc : Nat) (o : BitVec 19) : Nat := (((pc : Int) + o.toInt) % 32768).toNat

/-- R96: of loops, innermost first, those that a BR or JMPR to `t` at this depth makes idle: the loops of the depth whose body `t` lies
outside of, and those nested in one of them, whose own word, just before the body, lies in its body. -/
def leaving (depth t : Nat) : List Loop → List Loop
  | [] => []
  | l :: outer =>
    let gone := leaving depth t outer
    if l.depth = depth ∧ (¬ inBody l t ∨ ∃ o ∈ gone, inBody o ((l.start + 32767) % 32768)) then l :: gone else gone

/-- R96: a BR or JMPR to `t` makes `gone` idle and no other loop; `kept` is the rest. -/
def Leaves (c : Ctl) (t : Nat) (gone kept : List Loop) : Prop :=
  gone = leaving c.depth t c.loops ∧ kept = c.loops.filter fun l => l ∉ gone

/-- R94: a LOOP (`isX` false) or LOOPX that issues: the loop trap when its counter is active, in the stream or in the
loops that a running handler leaves untouched (R234), or when its body reaches past the end of the loop it stands in; else a
count of zero skips the body, and any other arms the counter. -/
def Loops (i : Instr) (h : Hdr) (n : BitVec 2) (l : BitVec 9) (x' : BitVec 8) (isX : Bool) : Prop :=
  ∀ s k x, Issues s k x i h →
    let c := ((s.slot k).stream x).ctl
    let last := (c.pc + l.toNat) % 32768
    let count := if 128 ≤ x'.toNat then (readScalar (s.slot k).regs (BitVec.ofNat 5 x'.toNat)).toNat % 2 ^ 32 else x'.toNat
    let active := ∃ e ∈ c.loops ++ (s.slot k).heldLoops x, e.lc = n.toNat
    let beyond := ∃ e, (c.loops.filter fun e => e.depth = c.depth ∧ e.holds c.pc).head? = some e ∧
      (e.last + 32768 - e.start) % 32768 < (last + 32768 - e.start) % 32768
    (active ∨ beyond → Traps s k x i 3 (n.setWidth 64)) ∧
    (¬ active → ¬ beyond → count = 0 → exec i s = .next (after s s k x h
      { c with counts := c.counts.set n.toNat 0, pc := (c.pc + (1 + l.toNat)) % 32768 } 0)) ∧
    (¬ active → ¬ beyond → count ≠ 0 → exec i s = .next (after s s k x h
      { c with pc := (c.pc + 1) % 32768,
               loops := { lc := n.toNat, count := count, start := (c.pc + 1) % 32768, last := last, depth := c.depth,
                          x := isX, g := h.g, n := h.n } :: c.loops } 0))

/-! ## Shared words of copy commands and queue programs (R84) -/

/-- R84: what a program that is not a control core's becomes when its word of `len` words issues with registers `rs` and
predicates `ps` written. -/
def passedProg (p : Prog) (len : Nat) (rs : Tab Word) (ps : Tab Bool) : Prog :=
  { regs := rs, preds := ps, ctl := p.ctl.advance (fun g => readBit p.preds g) (p.ctl.pc + len - 1) (p.ctl.pc + len) }

/-- R84, R213, R224: a word with guard `g`, `n` takes a program from `p` to `q`, on the copy engine and in the front end; a
packet's words are counted. -/
def EngineRuns (i : Instr) (g : BitVec 3) (n : Bool) (f : Prog → Prog) : Prop :=
  (∀ s id, s.cur = .command id → (s.job id).busy = false → (readBit (s.job id).prog.preds g != n) = true →
    exec i s = .next (s.setJob id { s.job id with prog := f (s.job id).prog })) ∧
  (∀ s q p, s.cur = .queue q → (s.hqueue q).cur = some p → p.still = false → (readBit p.prog.preds g != n) = true →
    exec i s = .next (s.setHqueue q { s.hqueue q with cur := some { p with prog := f p.prog, words := p.words + 1 } }))

/-- The registers of a program as a word reads them (R56). -/
def progView (p : Prog) : View :=
  { reg := readScalar p.regs, pred := fun i => lanesOf (readBit p.preds i), ctl := p.ctl }

def EngineWrites (i : Instr) (h : Hdr) (len : Nat) (d : BitVec 5) (f : View → Word) : Prop :=
  EngineRuns i h.g h.n fun p => passedProg p len (if d = 0 then p.regs else p.regs.set d.toNat (f (progView p))) p.preds

/-- R84: a predicate write stores lane 0. -/
def EngineWritesPred (i : Instr) (h : Hdr) (p : BitVec 3) (f : View → Lanes) : Prop :=
  EngineRuns i h.g h.n fun r =>
    passedProg r 1 r.regs (if p = 0 then r.preds else r.preds.set p.toNat ((f (progView r)).getLsbD 0))

def EngineCompares (i : Instr) (h : Hdr) (m : BitVec 2) (p e : BitVec 3) (c : View → Bool) : Prop :=
  EngineRuns i h.g h.n fun r =>
    let put := fun (t : Tab Bool) (p : BitVec 3) (b : Bool) => if p = 0 then t else t.set p.toNat b
    let cv := c (progView r)
    let old := readBit r.preds e
    let ev := match m.toNat with
      | 0 => !cv
      | 1 => old && cv
      | 2 => old || cv
      | _ => old && !cv
    passedProg r 1 r.regs (put (put r.preds p cv) e ev)

def EnginePasses (i : Instr) (h : Hdr) : Prop := EngineRuns i h.g h.n fun p => passedProg p 1 p.regs p.preds

/-- R108: a zero divisor ends a copy command, or a packet's program, with status ARITH (6); its registers stay. -/
def EngineDivides (i : Instr) (h : Hdr) (d : BitVec 5) (b : View → Int) (_ q : View → Word) : Prop :=
  (∀ s id, s.cur = .command id → (s.job id).busy = false → (readBit (s.job id).prog.preds h.g != h.n) = true →
    let p := (s.job id).prog
    (b (progView p) = 0 → exec i s = .next (s.setJob id { s.job id with stop := some 6, badWord := p.ctl.pc })) ∧
    (b (progView p) ≠ 0 → exec i s = .next (s.setJob id { s.job id with
      prog := passedProg p 1 (if d = 0 then p.regs else p.regs.set d.toNat (q (progView p))) p.preds }))) ∧
  (∀ s j p, s.cur = .queue j → (s.hqueue j).cur = some p → p.still = false → (readBit p.prog.preds h.g != h.n) = true →
    (b (progView p.prog) = 0 →
      exec i s = .next (s.setHqueue j { s.hqueue j with cur := some { p with ended := some 6, words := p.words + 1 } })) ∧
    (b (progView p.prog) ≠ 0 → exec i s = .next (s.setHqueue j { s.hqueue j with
      cur := some { p with
        prog := passedProg p.prog 1 (if d = 0 then p.prog.regs else p.prog.regs.set d.toNat (q (progView p.prog))) p.prog.preds
        words := p.words + 1 } })))

end Sys2Proof.Claims
end

