-- ==== Sys2Proof/Safety/MemoryWords.lean ====
section
/-! DEFINITION. Sys2Proof/Safety/MemoryWords.lean: the terms of the statements about loads, stores and decoupled words. -/

namespace Sys2Proof.Claims

open Sys2Proof.Machine

/-! ## Scalar loads and stores, decoupled reads and writes -/

/-- State `s` with the translation caches and draws of `u` (R351). -/
def cached (s u : State) : State := { s with dies := u.dies, fresh := u.fresh }

/-- R112: the effective address: register `a` and a signed element count, modulo 2^56. -/
def effective (s : State) (k : Nat) (a : BitVec 5) (off : Int) : Nat :=
  ((((readScalar (s.slot k).regs a).toNat : Int) + off) % 2 ^ 56).toNat

/-- R115, R142: slot `k` with one operation more outstanding. -/
def outstanding (s : State) (k : Nat) (o : Op) : State :=
  ({ s with nextId := s.nextId + 1 } : State).setSlot k { s.slot k with ops := retireNulls [] ((s.slot k).ops ++ [o]) }

/-- What an access of slot `k` for the given bytes does when it meets the translation fault of cause `c` at `va` (R353,
R356): its record goes to the host; a launch with fault service waits at the word, any other traps with `aux`. -/
def Faults (s u : State) (k x : Nat) (i : Instr) (va c : Nat) (write : Bool) (aux : Word) : Prop :=
  let sl := s.slot k
  let t := (cached s u).faultRecord { va := va, launch := sl.task.launch, asid := sl.task.asid, cause := c,
                                      access := if write then 1 else 0, agent := 0, who := k }
  (sl.task.fsvc = true → exec i s = .next (t.setSlot k (sl.setStream x { sl.stream x with wait := some (.fault va write) }))) ∧
  (sl.task.fsvc = false → exec i s = .next (t.setSlot k (sl.takeTrap x (sl.stream x).ctl.pc 7 aux false)))

/-- R111-R118: a scalar load or store (`data` gives the bytes stored) of `size` bytes; `sync` for LDA and STL, `sgn` for a
sign-extended load. It takes its counter and waits; nothing else of the slot, of memory or of another slot changes, and only the
die's translation caches may. -/
def Accesses (i : Instr) (h : Hdr) (d a : BitVec 5) (im : BitVec 9) (size : Nat) (sgn sync store : Bool) : Prop :=
  ∀ s k x, Issues s k x i h →
    let ea := effective s k a (im.toInt * size)
    let bytes := (List.range size).map fun j => (ea + j) % 2 ^ 56
    let aux := BitVec.ofNat 64 ea
    let u := s.touchAll (dieOf k) (s.slot k).task.asid bytes
    let r := u.reach (s.slotWho k) coreParts (if store then .write else .read) bytes
    (sync = true → ea % 8 ≠ 0 → Traps s k x i 6 aux) ∧
    (¬ (sync = true ∧ ea % 8 ≠ 0) →
      (∀ va, r = .hole va → Traps s k x i 5 aux) ∧
      (∀ va c, r = .fault va c → Faults s u k x i va c store aux) ∧
      (∀ locs, r = .ok locs →
        (∀ va, store = false → u.firstMarked k bytes locs = some va → Traps s k x i 8 (BitVec.ofNat 64 (va / 8 * 8))) ∧
        ((store = true ∨ u.firstMarked k bytes locs = none) → exec i s = .next (done s (outstanding (cached s u) k
          { id := s.nextId, cls := if store then 1 else 0, x := x
            kind := if store then .store ea (leBytes size (readScalar (s.slot k).regs d).toNat) locs sync else .load d sgn ea locs sync
            due := if store then 0 else (s.slot k).cycle + 6
            remote := locs.any fun p => isRemote p.1, vas := bytes }) k x h 1))))

/-- R111: the value that bytes give a register, the lowest address first. -/
def extended (bs : List Byte) (sgn : Bool) : Word :=
  word (if sgn = true ∧ 2 ^ (8 * bs.length - 1) ≤ leNat bs then (leNat bs : Int) - 2 ^ (8 * bs.length) else leNat bs)

/-- The bytes that an access of slot `k` reads at its places `is` when they may be read: those of the pending store of the slot
that it takes its value from (R336, R337), those that came back from another package, or memory's. -/
def seenBytes (s : State) (k : Nat) (o : Op) (is : List Nat) (far : List Byte) : List Byte :=
  let at_ := is.map fun i => o.kind.locs.getD i (0, 0)
  match ((s.slot k).forwarder o at_).map Op.kind with
  | some (OpKind.store _ bs ls _) => at_.map fun p =>
      match (ls.zip bs).find? fun q => q.1.1 == p.1 with
      | some q => q.2
      | none => 0
  | some _ => []
  | none => if o.remote then far else at_.map fun p => Memory.read s.mem p.1

/-- R114, R343: bytes `i` and `j` of an access are read or written together: those of a scalar access aligned to its size, and
those of an aligned 8-byte unit of which every byte is accessed. -/
def together (o : Op) (i j : Nat) : Prop :=
  let unit := fun n => o.vas.getD n 0 / 8
  let scalar := o.qwr = false ∧ ∀ q m ea l, o.kind ≠ .qrd q m ea l
  i = j ∨ (scalar ∧ o.vas.headD 0 % max 1 o.vas.length = 0) ∨
    (unit i = unit j ∧ (o.vas.filter fun va => va / 8 = unit i).length = 8)

/-- R114: the places of the bytes that go with byte `i` of an access, when that byte is not done. -/
def isPiece (o : Op) (i : Nat) (is : List Nat) : Prop :=
  i < o.kind.locs.length ∧ o.got.find? i = none ∧ is.Pairwise (· < ·) ∧ ∀ j, j ∈ is ↔ j < o.kind.locs.length ∧ together o i j

/-- The operation with the bytes at some places done. -/
def withBytes (o : Op) (is : List Nat) (bs : List Byte) : Op :=
  { o with got := (is.zip bs).foldl (fun t p => t.set p.1 p.2) o.got }

/-- Every byte of the access is done. -/
def allDone (o : Op) : Prop := ∀ i, i < o.kind.locs.length → o.got.find? i ≠ none

/-- Slot `k` with its operation replaced. -/
def withOp (s : State) (k : Nat) (o : Op) : State :=
  s.setSlot k { s.slot k with ops := (s.slot k).ops.map fun p => if p.id = o.id then o else p }

/-- R115, R116: the slot after its operation `o` is done: the counter returns. -/
def returned (sl : Slot) (o : Op) : Slot := { sl with ops := retireNulls [] (sl.ops.filter fun p => p.id != o.id) }

/-- R257: the slot after its outstanding access `o` is to have no effect: its counter returns, an entry it popped is back at the head
of its queue, and a place it reserved is released. -/
def undone (sl : Slot) (o : Op) : Slot :=
  let back := match o.popped with
    | some (q, e) => sl.queues.set q ({ op := o.id, val := some e, due := 0 } :: sl.queues.get [] q)
    | none => sl.queues
  { returned sl o with
    queues := back.map fun (p : Nat × List QPlace) => (p.1, p.2.filter fun e => !(e.op == o.id && e.val.isNone)) }

/-- R118, R151, R428: the address of the first byte of a piece that comes with an uncorrectable error: of this package's memory the
first whose unit is marked, of another package's the one that the event names as its place plus one. Once a later word has issued,
the piece is one whose read came before the error (log entries 120, 125). -/
def spoilt (s : State) (k : Nat) (o : Op) (is : List Nat) : Option Nat :=
  if (s.slot k).last ≠ some o.at_ then none
  else if o.remote then (if s.inp.b ≠ 0 ∧ s.inp.b - 1 ∈ is then o.vas[s.inp.b - 1]? else none)
  else s.firstMarked k (is.map fun i => o.vas.getD i 0) (is.map fun i => o.kind.locs.getD i (0, 0))

/-- R255: the result of an access of an exposed slot that is there before its slot cycle: the access is waited for no longer, and its
result `e` becomes readable then. -/
def heldBack (s : State) (k : Nat) (o : Op) (e : PendEff) : State :=
  s.setSlot k { s.slot k with
    ops := (s.slot k).ops.map fun p => if p.id = o.id then { p with done := true } else p
    pend := (s.slot k).pend ++ [{ due := o.due, x := o.x, eff := e }] }

/-- R4, R332: memory after bytes are written at locations, one by one; the bytes of a pseudo-channel that is lost stay
unwritten (R431). -/
def stored (s : State) (l : List (Nat × Byte)) : Memory :=
  l.foldl (fun m p => if s.brokenAt p.1 then m else Memory.write m p.1 p.2) s.mem

/-- R150: the lanes that a guard makes active. -/
def activeLanes (s : State) (k : Nat) (h : Hdr) : List Nat :=
  (List.range 128).filter fun j => (readPred (s.slot k).preds h.g).getLsbD j != h.n

/-- R150, R151, R257, R356: a translation fault of a decoupled word at byte `va`: its record goes to the host; with fault
service the word issues as slot `held` and its access waits at its landing, and without it the trap is taken there, in exposed mode
of a QRD and a QWR alike 8 slot cycles from now. -/
def LateFaults (s u : State) (k x : Nat) (i : Instr) (h : Hdr) (va c : Nat) (write : Bool) (held : Slot) : Prop :=
  let sl := s.slot k
  let t := (cached s u).faultRecord { va := va, launch := sl.task.launch, asid := sl.task.asid, cause := c,
                                      access := if write then 1 else 0, agent := 0, who := k }
  (sl.task.fsvc = true → exec i s = .next (done s (({ t with nextId := s.nextId + 1 } : State).setSlot k held) k x h 1)) ∧
  (sl.task.fsvc = false → exec i s = .next (done s (t.setSlot k (trapsLater s k x 8 7 (BitVec.ofNat 64 va))) k x h 1))

/-- R149-R151: a QRD into queue `q` at an address `off` above register `a`: its guard names the bytes read. -/
def Reads (i : Instr) (h : Hdr) (q : BitVec 4) (a : BitVec 5) (off : State → Nat → Int) : Prop :=
  ∀ s k x, Issues s k x i h →
    let sl := s.slot k
    let ea := effective s k a (off s k)
    let bytes := (activeLanes s k h).map fun j => (ea + j) % 2 ^ 56
    let u := s.touchAll (dieOf k) sl.task.asid bytes
    let r := u.reach (s.slotWho k) coreParts .read bytes
    let issued := fun (locs : List (Nat × Nat)) (fault : Option Nat) =>
      { sl with
        queues := sl.queues.set q.toNat (sl.queues.get [] q.toNat ++ [{ op := s.nextId, val := none, due := if sl.exposed then sl.cycle + 8 else 0 }])
        ops := retireNulls [] (sl.ops ++ [{ id := s.nextId, cls := 0, x := x
                                            kind := .qrd q.toNat ((s.slot k).view x |>.lanes h.g h.n) ea locs
                                            due := sl.cycle + 8, remote := locs.any fun p => isRemote p.1
                                            vas := bytes, fault := fault }]) }
    (ea % 64 ≠ 0 → Traps s k x i 6 (BitVec.ofNat 64 ea)) ∧
    (ea % 64 = 0 →
      (∀ va, r = .hole va → Traps s k x i 5 (BitVec.ofNat 64 va)) ∧
      (∀ va c, r = .fault va c → LateFaults s u k x i h va c false (issued [] (some va))) ∧
      (∀ locs, r = .ok locs → exec i s = .next (done s
        (({ cached s u with nextId := s.nextId + 1 } : State).setSlot k (issued locs none)) k x h 1)))

/-- R149-R151: a QWR of the head of queue `q`, which leaves unless it peeks: the guard names the bytes written. -/
def WritesBack (i : Instr) (h : Hdr) (peek : Bool) (q : BitVec 4) (a : BitVec 5) (off : State → Nat → Int) : Prop :=
  ∀ s k x, Issues s k x i h →
    let sl := s.slot k
    let ea := effective s k a (off s k)
    let bytes := (activeLanes s k h).map fun j => (ea + j) % 2 ^ 56
    let u := s.touchAll (dieOf k) sl.task.asid bytes
    let r := u.reach (s.slotWho k) coreParts .write bytes
    let issued := fun (e : Entry) (rest : List QPlace) (locs : List (Nat × Nat)) (fault : Option Nat) =>
      { sl with
        queues := if peek then sl.queues else sl.queues.set q.toNat rest
        ops := retireNulls [] (sl.ops ++ [{ id := s.nextId, cls := 1, x := x
                                            kind := .store ea ((activeLanes s k h).map fun j => e.extractLsb' (8 * j) 8) locs false
                                            due := 0, remote := locs.any fun p => isRemote p.1, vas := bytes, fault := fault
                                            popped := if peek then none else some (q.toNat, e), qwr := true }]) }
    (ea % 64 ≠ 0 → Traps s k x i 6 (BitVec.ofNat 64 ea)) ∧
    (ea % 64 = 0 →
      (∀ va, r = .hole va → Traps s k x i 5 (BitVec.ofNat 64 va)) ∧
      (∀ p e rest, sl.queues.get [] q.toNat = p :: rest → p.val = some e →
        (∀ va c, r = .fault va c → LateFaults s u k x i h va c true (issued e rest [] (some va))) ∧
        (∀ locs, r = .ok locs → exec i s = .next (done s
          (({ cached s u with nextId := s.nextId + 1 } : State).setSlot k (issued e rest locs none)) k x h 1))))

/-- R150: the entry whose byte at lane `j` is the byte that came for `j`, and 0 where the guard left the lane out. -/
def entryHas (e : Entry) (lanes : List Nat) (bs : List Byte) : Prop :=
  ∀ j, j < 128 → e.extractLsb' (8 * j) 8 = match (lanes.zip bs).find? fun p => p.1 == j with
    | some p => p.2
    | none => 0

end Sys2Proof.Claims
end

