-- ==== Sys2Proof/Safety/Vectors.lean ====
section
/-! DEFINITION. Sys2Proof/Safety/Vectors.lean: the terms of the statements about the vector words. -/

namespace Sys2Proof.Claims

open Sys2Proof.Machine

/-! ## Vector words -/

/-- R124: the entry at a place of a queue. -/
def entryAt (sl : Slot) (q : BitVec 4) (i : Nat) : Entry :=
  match (sl.queues.get [] q.toNat)[i]? with
  | some p => p.val.getD 0
  | none => 0

/-- R124: one source: its queue, its place, and whether it leaves (`x` marks a peek). -/
def src1 (a : BitVec 4) (x : Bool) : List (BitVec 4 × Nat × Bool) := [(a, 0, !x)]
/-- R124: two sources: of one queue that both pop, qa takes the head and qb the entry behind it. -/
def src2 (a : BitVec 4) (x : Bool) (b : BitVec 4) (y : Bool) : List (BitVec 4 × Nat × Bool) :=
  [(a, 0, !x), (b, if a = b ∧ x = false ∧ y = false then 1 else 0, !y)]
/-- R124: an accumulator takes the next entry after the pops of its own queue. -/
def src3 (a : BitVec 4) (x : Bool) (b : BitVec 4) (y : Bool) (d : BitVec 4) : List (BitVec 4 × Nat × Bool) :=
  src2 a x b y ++ [(d, (if a = d ∧ x = false then 1 else 0) + (if b = d ∧ y = false then 1 else 0), true)]

/-- R256: the frozen latency of a word in slot cycles, of the words that have one. -/
def frozenLatency : Instr → Nat
  | .getx _ _ _ | .tqryW0 _ _ _ | .tqryW1 _ _ _ | .resp _ _ | .respPk _ _ => 2
  | .fshr _ _ _ _ _ _ | .mul _ _ _ _ | .mulW _ _ _ _ => 3
  | .mulh _ _ _ _ | .mulhn _ _ _ _ => 4
  | .divW _ _ _ _ | .divnW _ _ _ _ | .remW _ _ _ _ | .remnW _ _ _ _ => 18
  | .div _ _ _ _ | .divn _ _ _ _ | .rem _ _ _ _ | .remn _ _ _ _ => 34
  | .vadd _ _ _ _ t _ _ | .vsub _ _ _ _ t _ _ | .vmin _ _ _ _ t _ _ | .vmax _ _ _ _ t _ _ | .vabs _ _ _ t _
  | .vneg _ _ _ t _ => if t.toNat ≤ 2 then 4 else 2
  | .vaddSat _ _ _ _ _ _ _ | .vsubSat _ _ _ _ _ _ _ | .vand _ _ _ _ _ _ _ | .vor _ _ _ _ _ _ _ | .vxor _ _ _ _ _ _ _
  | .vshl _ _ _ _ _ _ _ | .vshr _ _ _ _ _ _ _ | .vshrA _ _ _ _ _ _ _ | .vpopc _ _ _ _ _ | .vmovq _ _ _ _ _
  | .vsel _ _ _ _ _ _ _ | .vcmpEq _ _ _ _ _ _ _ _ | .vcmpNe _ _ _ _ _ _ _ _ | .vcmpLt _ _ _ _ _ _ _ _
  | .vcmpLe _ _ _ _ _ _ _ _ | .vcmpGt _ _ _ _ _ _ _ _ | .vcmpGe _ _ _ _ _ _ _ _ | .vcmpUn _ _ _ _ _ _ _ _
  | .vcmpOrd _ _ _ _ _ _ _ _ => 2
  | .vmul _ _ _ _ _ _ _ | .vmulHi _ _ _ _ _ _ _ | .vmad _ _ _ _ _ _ _ | .vscl _ _ _ _ _ _ _ | .vsclS _ _ _ _ _ _
  | .vcvt _ _ _ _ _ _ _ => 4
  | .vfma _ _ _ _ _ _ _ | .vfms _ _ _ _ _ _ _ | .vfnma _ _ _ _ _ _ _ => 5
  | .vpermIdx _ _ _ _ _ _ _ | .vpermRot _ _ _ _ _ _ _ | .vpermRev _ _ _ _ _ | .vpermZip _ _ _ _ _ _ _
  | .vpermUnzip _ _ _ _ _ _ _ | .vbcast _ _ _ _ _ _ _ | .vbcastS _ _ _ _ | .vlut _ _ _ _ _ _ _ => 3
  | .ldB _ _ _ _ | .ldBn _ _ _ _ | .ldH _ _ _ _ | .ldHn _ _ _ _ | .ldW _ _ _ _ | .ldWn _ _ _ _ | .ldD _ _ _ _
  | .ldaD _ _ _ _ => 6
  | .qrd _ _ _ _ | .qrdS _ _ _ _ | .chpop _ _ _ true | .chpopPk _ _ _ true => 8
  | .vredAdd _ _ _ _ _ | .vredMin _ _ _ _ _ | .vredMax _ _ _ _ _ | .vredAnd _ _ _ _ _ | .vredOr _ _ _ _ _
  | .vredXor _ _ _ _ _ => 9
  | .vrcp _ _ _ _ _ | .vrsq _ _ _ _ _ => 12
  | _ => 1

/-- R124: the queues after the entries that leave have left. -/
def leave (qs : Tab (List QPlace)) : List (BitVec 4 × Nat × Bool) → Tab (List QPlace)
  | [] => qs
  | (q, _, pop) :: l => leave (if pop then qs.set q.toNat ((qs.get [] q.toNat).drop 1) else qs) l

/-- R127: the flags of a word: those of its active elements together. -/
def flagsTogether (l : List (Nat × BitVec 5)) : BitVec 5 := l.foldl (fun a p => a ||| p.2) 0

/-- R128: TRAPAUX: the flags, and the lowest element that raised an enabled one. -/
def flagTrapAux (te : BitVec 5) (l : List (Nat × BitVec 5)) : Word :=
  BitVec.ofNat 64 (((l.filter fun p => p.2 &&& te != 0).foldl (fun a p => min a p.1) 127) * 2 ^ 8 + (flagsTogether l).toNat)

/-- R124-R128, R256: a vector word that pushes, in either mode: its sources leave, the result takes the place it reserved at the
tail of queue `d` and the flags stick, in exposed mode at its frozen latency; a flag that is enabled traps instead, late, with
nothing popped, pushed or flagged. `r` gives the result from the rounding mode and the sources. -/
def Pushes (i : Instr) (h : Hdr) (len : Nat) (d : BitVec 4) (srcs : List (BitVec 4 × Nat × Bool))
    (r : View → Rnd → List Entry → VRes) : Prop :=
  ∀ s k x, Issues s k x i h →
    let sl := s.slot k
    let te := sl.fpcsr.extractLsb' 10 5
    let out := r (sl.view x) (sl.fpcsr.extractLsb' 5 2) (srcs.map fun q => entryAt sl q.1 q.2.1)
    let fl := flagsTogether out.flags
    let n := frozenLatency i
    (fl &&& te = 0 → exec i s = .next (done s (pushed s k x n d.toNat (leave sl.queues srcs) out.entry fl) k x h len)) ∧
    (fl &&& te ≠ 0 → exec i s = .next (done s (s.setSlot k (trapsLater s k x n 10 (flagTrapAux te out.flags))) k x h len))

/-- R122: an integer element as the number it holds. -/
def elemInt (t : BitVec 4) (c : Nat) : Int :=
  if t.toNat = 4 ∨ t.toNat = 5 ∨ t.toNat = 6 then (if 2 ^ (width t - 1) ≤ c then (c : Int) - 2 ^ width t else c) else c
/-- R128: a number cut to an element. -/
def elemCut (t : BitVec 4) (v : Int) : Nat := (v % 2 ^ width t).toNat
/-- R128: the limits of a `.SAT` variant. -/
def elemMin (t : BitVec 4) : Int := if t.toNat = 4 ∨ t.toNat = 5 ∨ t.toNat = 6 then -2 ^ (width t - 1) else 0
def elemMax (t : BitVec 4) : Int := if t.toNat = 4 ∨ t.toNat = 5 ∨ t.toNat = 6 then 2 ^ (width t - 1) - 1 else 2 ^ width t - 1

/-- R136: the lanes that the elements chosen by `p` cover. -/
def coversLanes (l : Lanes) (stride : Nat) (p : Nat → Bool) : Prop := ∀ j, j < 128 → l.getLsbD j = p (j / stride)

/-- R136, R62: a VCMP: its sources leave, and the lanes of active elements receive the condition in p(2k) and what the mode makes of
it in p(2k+1), which is written last; flags stick, and an enabled one traps late instead. In exposed mode predicates and flags land
two slot cycles from now (R256). -/
def VCompares (i : Instr) (h : Hdr) (pk m : BitVec 2) (srcs : List (BitVec 4 × Nat × Bool)) (t : BitVec 4) (c : VCc) : Prop :=
  ∀ s k x, Issues s k x i h →
    let sl := s.slot k
    let v := sl.view x
    let b := strideOf t
    let es := srcs.map fun q => entryAt sl q.1 q.2.1
    let on := fun j => (readPred sl.preds h.g).getLsbD (j * b) != h.n
    let res := fun j => c.holds t ((es.getD 0 0).toNat / 2 ^ (8 * b * j) % 2 ^ (8 * b)) ((es.getD 1 0).toNat / 2 ^ (8 * b * j) % 2 ^ (8 * b))
    let fls := (List.range (128 / b)).map fun j => (j, if on j then (res j).2 else (0 : BitVec 5))
    let fl := flagsTogether fls
    let te := sl.fpcsr.extractLsb' 10 5
    let put := fun (t : Tab Lanes) (p : BitVec 3) (l mask : Lanes) =>
      if p = 0 then t else t.set p.toNat ((readPred t p &&& ~~~ mask) ||| (l &&& mask))
    (fl &&& te = 0 → ∃ cv mask, coversLanes cv b (fun j => on j && (res j).1) ∧ coversLanes mask b on ∧
      let ev := match m.toNat with
        | 0 => ~~~ cv
        | 1 => v.pred (BitVec.ofNat 3 (2 * pk.toNat + 1)) &&& cv
        | 2 => v.pred (BitVec.ofNat 3 (2 * pk.toNat + 1)) ||| cv
        | _ => v.pred (BitVec.ofNat 3 (2 * pk.toNat + 1)) &&& ~~~ cv
      let p := BitVec.ofNat 3 (2 * pk.toNat)
      let e := BitVec.ofNat 3 (2 * pk.toNat + 1)
      (sl.exposed = false → exec i s = .next (done s (s.setSlot k { sl with
        queues := leave sl.queues srcs
        preds := put (put sl.preds p cv mask) e ev mask
        fpcsr := sl.fpcsr ||| fl.setWidth 64, raised := sl.raised ||| fl }) k x h 1)) ∧
      (sl.exposed = true → exec i s = .next (done s
        (landing (s.setSlot k { sl with queues := leave sl.queues srcs }) k x 2 [.pred p cv mask, .pred e ev mask, .flags fl]) k x h 1))) ∧
    (fl &&& te ≠ 0 → exec i s = .next (done s (s.setSlot k (trapsLater s k x 2 10 (flagTrapAux te fls))) k x h 1))

/-- R138: what VCVT makes of one element. -/
def converted (rm : Rnd) (f : BitVec 32) (ts td : BitVec 4) (c : Nat) : Nat × BitVec 5 := convElem rm (NFmt.of f) ts td c

end Sys2Proof.Claims
end

