-- ==== Sys2Proof/Safety/SystemWords.lean ====
section
/-! DEFINITION. Sys2Proof/Safety/SystemWords.lean: the terms of the statements about system registers, waits, modes, traps and cairns. -/

namespace Sys2Proof.Claims

open Sys2Proof.Machine

/-! ## System registers, waits, traps -/

/-- R32-R37: what a GETX of register `r` reads: each register's fields in their places. -/
def systemRegister (s : State) (k r : Nat) : Word :=
  let sl := s.slot k
  let t := s.tile (k / 8)
  let seg := fun i =>
    let g := t.segs.get {} i
    g.active.img * 2 ^ 4 + g.shadow.img * 2 ^ 8 + g.active.valid.toNat * 2 ^ 12 + g.trapped.isSome.toNat * 2 ^ 13 +
      (if g.mode = 0 then 0 else 2 ^ 14) + g.shadow.valid.toNat * 2 ^ 15
  if r = 0x00 then BitVec.ofNat 64 k
  else if r = 0x01 then sl.fpcsr
  else if r = 0x02 then BitVec.ofNat 64 (sl.exposed.toNat + sl.resumed.toNat * 2 ^ 3 + sl.lfrun.toNat * 2 ^ 4 +
    sl.lfpend.toNat * 2 ^ 5 + sl.task.role.toNat * 2 ^ 6)
  else if r = 0x03 then BitVec.ofNat 64 sl.task.asid
  else if r = 0x04 then BitVec.ofNat 64 (sl.trap.cause.toNat + sl.trap.xsave.toNat * 2 ^ 28 + sl.trap.cpend.toNat * 2 ^ 29 +
    sl.trap.late.toNat * 2 ^ 30 + sl.trap.inHandler.toNat * 2 ^ 31)
  else if r = 0x05 then BitVec.ofNat 64 (sl.trap.pc + sl.trap.stream.toNat * 2 ^ 16)
  else if r = 0x06 then sl.trap.aux
  else if r = 0x08 then s.mtime
  else if r = 0x09 then BitVec.ofNat 64 s.cycle
  else if r = 0x0A then sl.task.deadline
  else if r = 0x0B then sl.task.landfall
  else if r = 0x20 then t.ashare
  else if r = 0x21 then BitVec.ofNat 64 (s.agelim.get 0x400 (k / 4))
  else if r = 0x22 then BitVec.ofNat 64 (seg 0 + seg 1 * 2 ^ 16 + seg 2 * 2 ^ 32 + seg 3 * 2 ^ 48)
  else if r < 0x20 then (t.fmt.get 0 (r - 0x10)).setWidth 64
  else (sl.chans.get 0 (r - 0x40)).setWidth 64

/-- R7, R32, R38, R121: a value that register `r` refuses: one with a reserved bit set, or no legal format. -/
def valueRefused (r : Nat) (v : Word) : Prop :=
  let n := v.toNat
  if r = 1 then n / 2 ^ 7 % 8 ≠ 0 ∨ n / 2 ^ 15 ≠ 0
  else if r < 0x20 then n / 2 ^ 32 ≠ 0 ∨ n / 2 ^ 9 % 2 = 1 ∨ n / 2 ^ 24 % 256 ≠ 0 ∨ n / 2 ^ 18 % 4 = 3 ∨
    8 < n / 2 ^ 8 % 2 + n % 16 + n / 2 ^ 4 % 16 ∨ n % 16 + n / 2 ^ 4 % 16 = 0
  else n / 2 ^ 32 ≠ 0 ∨ n / 2 ^ 15 % 2 ^ 15 ≠ 0

/-- The state in which stream `x` of slot `k` waits at its word. -/
def waiting (s : State) (k x : Nat) (w : Wait) : State :=
  s.setSlot k ((s.slot k).setStream x { (s.slot k).stream x with wait := some w })

/-- R148, R168: a fence of the slot has nothing left to wait for: no operation it orders is outstanding, those of copy commands
aside, and for a release no copy command of the slot's task is still under way; those that write UNORDERED pages alone only
FENCE.SC looks at; and no earlier release holds what it lets stand outside its scope (R341). -/
def fenceFree (s : State) (k kind scope : Nat) : Prop :=
  (∀ o ∈ (s.slot k).ops, o.awaited k kind scope = true → o.kind = .unit ∧ (s.jobs.find? o.id).isSome = true) ∧
  (kind = 0 ∨ ∀ p ∈ s.jobs, p.1 < s.nextId → p.2.mac.isSome = true → p.2.owner = (s.slot k).task.loc →
    kind ≠ 2 ∧ s.looseJob p.2 = true) ∧
  s.crossHeld k kind scope = false

/-- R168: a fence: it waits, with nothing else changed; or it completes, and the accesses that it lets stand outside its scope
have crossed its boundary (R333). -/
def Fences (i : Instr) (h : Hdr) (kind : Nat) (scope : BitVec 3) : Prop :=
  ∀ s k x, Issues s k x i h →
    (¬ fenceFree s k kind scope.toNat → exec i s = .next (waiting s k x (.fence kind scope.toNat 0))) ∧
    (fenceFree s k kind scope.toNat → ∃ cr, exec i s = .next (done s { s with nextId := s.nextId + 1, crossings := cr } k x h 1))

/-- R26, R115: the operations of a class that are outstanding, at most 63; a false-guarded word counts while an earlier
operation of its class does. -/
def countOf (sl : Slot) (cls : Nat) : Nat :=
  min 63 ((retireNulls [] (sl.ops.filter fun o => o.done = false)).filter fun o => o.cls = cls).length

/-- R170, R378: the group `g` as slot `k` may use it: its launch's, with the slot's tile a member, and one of the task's groups. -/
def groupOf (s : State) (k g : Nat) : Option Group :=
  (s.groups.find? g).filter fun gr =>
    gr.members.contains (k / 8) && gr.launch == (s.slot k).task.launch && (s.slot k).task.groups.contains g

/-- R170: the group after an arrival of tile `t`. -/
def arrivedAt (g : Group) (t : Nat) : Group := { g with arrived := g.arrived.set t (g.arrived.get 0 t + 1) }

/-- R255: each stream may issue from slot cycle 1 on. -/
def restarted (l : Tab Stream) : Tab Stream := l.map fun (p : Nat × Stream) => (p.1, { p.2 with next := 1 })

/-- R255: what was to come in later slot cycles, once the count starts anew at zero. -/
def recounted (sl : Slot) : Slot :=
  { sl with
    pend := sl.pend.map fun p => { p with due := p.due - sl.cycle }
    ops := sl.ops.map fun o => { o with due := o.due - sl.cycle }
    late := sl.late.map fun t => { t with due := t.due - sl.cycle, at_ := 0 }
    queues := sl.queues.map fun (q : Nat × List QPlace) => (q.1, q.2.map fun p => { p with due := p.due - sl.cycle }) }

/-- R173: MODE, in a slot of either mode: it waits until the slot is drained; then the slot is in the mode, its slot cycles counted
anew (R255). -/
def Switches (i : Instr) (h : Hdr) (mode : Bool) : Prop :=
  ∀ s k x, Issues s k x i h →
    let sl := s.slot k
    let drained := sl.ops = [] ∧ (∀ q ∈ sl.queues, ∀ p ∈ q.2, p.val.isSome = true)
    (¬ drained → exec i s = .next (waiting s k x (.mode mode))) ∧
    (drained → exec i s = .next (done s (s.setSlot k { recounted sl with exposed := mode, cycle := 0, streams := restarted sl.streams })
      k x h 1))

end Sys2Proof.Claims
end

