-- ==== Sys2Proof/Safety/TileWords.lean ====
section
/-! DEFINITION. Sys2Proof/Safety/TileWords.lean: the terms of the statements about the tile table and copies. -/

namespace Sys2Proof.Claims

open Sys2Proof.Machine

/-! ## The tile table, and commands for the tile copy engine -/

/-- R20, R154: the entry under a handle in the table of slot `k`'s tile. -/
def entryOf (s : State) (k h : Nat) : TileEntry := (s.tile (k / 8)).table.get {} h

/-- The state with that entry changed. -/
def withEntry (s : State) (k h : Nat) (e : TileEntry) : State :=
  s.setTile (k / 8) { s.tile (k / 8) with table := (s.tile (k / 8)).table.set h e }

/-- R154, R157, R188: a word of a slot that does not own the entry traps; one that meets an armed step waits; one that meets a
filling or draining entry traps. -/
def OwnerStops (i : Instr) (s : State) (k x h : Nat) : Prop :=
  let e := entryOf s k h
  (e.owner ≠ k % 8 → Traps s k x i 15 (BitVec.ofNat 64 h)) ∧
  (e.owner = k % 8 → s.heldByStep (k / 8) h = true → exec i s = .next s) ∧
  (e.owner = k % 8 → s.heldByStep (k / 8) h = false → e.state = 1 ∨ e.state = 3 → Traps s k x i 14 (BitVec.ofNat 64 h))

/-- None of these: the slot's own word may go on with the entry. -/
def Owns (s : State) (k h : Nat) : Prop :=
  let e := entryOf s k h
  e.owner = k % 8 ∧ s.heldByStep (k / 8) h = false ∧ e.state ≠ 1 ∧ e.state ≠ 3

/-- R152, R285: the entry that TDEF describes: columns, rows and base from the register, type, layout and pitch from the word, and
the plane count of its type in the tile's formats at that moment. -/
def described (fmt : Tab (BitVec 32)) (k : Nat) (w : Word) (type layout pitch : Nat) : TileEntry :=
  { cols := w.toNat / 2 ^ 48, rows := w.toNat / 2 ^ 32 % 2 ^ 16, base := w.toNat / 2 ^ 16 % 2 ^ 16, type := type, layout := layout,
    state := 2, fault := false, owner := k % 8, pending := 0, pitch := pitch,
    planes := bptPlanes fmt type }

/-- R153, R271: TDEF refuses the entry: an empty or illegal shape, an unset format, a unit that does not fit its pitch, or a
range past the scratchpad's end. -/
def entryRefused (s : State) (k : Nat) (w : Word) (e : TileEntry) : Prop :=
  let fmt := (s.tile (k / 8)).fmt
  e.rows = 0 ∨ e.cols = 0 ∨ e.pitch = 0 ∨ 25 ≤ e.type ∨ (e.layout = 2 ∧ (bptType e.type = false ∨ tyUnset fmt e.type = true)) ∨
    w.toNat % 2 ^ 16 ≠ 0 ∨ unitFits e.layout e.rows e.cols e.type e.pitch = false ∨ 65536 < e.base + e.extent

/-- R20: the words of an entry: field by field, each at its lowest bit. -/
def entryWord0 (e : TileEntry) : Word :=
  BitVec.ofNat 64 (e.owner * 2 ^ 3 + e.fault.toNat * 2 ^ 6 + e.state * 2 ^ 7 + e.layout * 2 ^ 9 + e.type * 2 ^ 11 +
    e.base * 2 ^ 16 + e.rows * 2 ^ 32 + e.cols * 2 ^ 48)
def entryWord1 (e : TileEntry) : Word := BitVec.ofNat 64 (e.pitch + e.pending * 2 ^ 16)

/-- R142-R145, R385: the state once a word has handed a command to the tile copy engine: its operation is outstanding in
counter `cls`, a returning word holds a response place, the command stands in its queue, behind the slot's early releases (R168), and the launch's
census counts it. -/
def handed (s : State) (k x cls : Nat) (m : Macro) (w : Option Work) (word : Nat) : State :=
  let sl := s.slot k
  let o : Op := { id := s.nextId, cls := cls, x := x, kind := .unit, due := 0 }
  let t := ({ s with nextId := s.nextId + 1 } : State).setSlot k
    { sl with ops := retireNulls [] (sl.ops ++ [o]), resp := if m = .returning then sl.resp ++ [{ op := s.nextId, val := none }] else sl.resp }
  (t.setJob s.nextId { mac := some m, k := k, engine := k / 8, queue := m.queue, asid := sl.task.asid, launch := sl.task.launch,
                       owner := sl.task.loc, upto := (sl.rels.map Prod.snd).foldl max 0
                       flights := match w with
                         | some w => [{ word := word, work := w }]
                         | none => [] }).raiseCensus sl.task.launch 1

/-- R142-R145: the word of a legal command. With 32 commands in its queue (R144), or 16 responses outstanding for a returning
one (R145), it waits; else it hands its command over and issues. `edit` is what its family does beside. -/
def Hands (i : Instr) (h : Hdr) (s : State) (k x cls : Nat) (m : Macro) (w : Option Work) (word : Nat) (edit : State → State) : Prop :=
  let full := 32 ≤ s.queued (k / 8) m.queue ∨ m = .returning ∧ 16 ≤ (s.slot k).resp.length
  (full → exec i s = .next s) ∧ (¬ full → exec i s = .next (done s (edit (handed s k x cls m w word)) k x h 1))

/-- R156: an address or a pitch of a pair that is not a multiple of 64 traps, the address first. -/
def PairStops (i : Instr) (s : State) (k x : Nat) (va mp : Word) : Prop :=
  (va.toNat % 64 ≠ 0 → Traps s k x i 6 va) ∧
  (va.toNat % 64 = 0 → mp.toNat % 64 ≠ 0 → Traps s k x i 6 mp)
def PairFits (va mp : Word) : Prop := va.toNat % 64 = 0 ∧ mp.toNat % 64 = 0

/-- R157, R158: CPL and CPS with entry `h`. The checks stand in R157's order; then the entry fills or drains, with the bytes
that the command will move pending. -/
def TileCopies (i : Instr) (hd : Hdr) (load : Bool) (u : BitVec 6) (a : BitVec 5) (reint : Bool) (l : BitVec 2) : Prop :=
  ∀ s k x, Issues s k x i hd →
    let h := u.toNat
    let e := entryOf s k h
    let va := readScalar (s.slot k).regs a
    let mp := readScalar (s.slot k).regs (a + 1)
    let units := e.units (if reint then l.toNat else e.layout)
    let layoutOk := reint = true ∨ l.toNat = e.layout
    let whole := load = true ∨ e.fault = false
    let fits := reint = true → e.base + units * e.pitch ≤ 65536
    (e.state = 0 → Traps s k x i 14 (BitVec.ofNat 64 h)) ∧
    (e.state ≠ 0 → OwnerStops i s k x h) ∧
    (e.state ≠ 0 → Owns s k h →
      (¬ layoutOk → Traps s k x i 16 (BitVec.ofNat 64 l.toNat)) ∧
      (layoutOk → ¬ whole → Traps s k x i 8 (BitVec.ofNat 64 h)) ∧
      (layoutOk → whole → PairStops i s k x va mp) ∧
      (layoutOk → whole → PairFits va mp → ¬ fits → Traps s k x i 13 (BitVec.ofNat 64 h)) ∧
      (layoutOk → whole → PairFits va mp → fits →
        Hands i hd s k x 2 (if load then .cpl h else .cps h)
          (some (.tile load h { e with layout := l.toNat } (va.toNat % 2 ^ 56) (if mp = 0 then e.pitch * 64 else mp.toNat) units)) 0
          fun t => withEntry t k h { e with state := if load then 1 else 3, pending := units * e.pitch * 64 }))

/-- R157-R159, R271: TMOV: the entry drains, and the engine converts its elements to the word's type and layout. -/
def TileMoves (i : Instr) (hd : Hdr) (keep : Bool) (u : BitVec 6) (a : BitVec 5) (l : BitVec 2) (ty : BitVec 5) : Prop :=
  ∀ s k x, Issues s k x i hd →
    let h := u.toNat
    let e := entryOf s k h
    let fmt := (s.tile (k / 8)).fmt
    let va := readScalar (s.slot k).regs a
    let mp := readScalar (s.slot k).regs (a + 1)
    let refused := (e.type ≠ ty.toNat ∧ (tyInt e.type = true ∨ tyInt ty.toNat = true)) ∨ (l.toNat = 2 ∧ bptType ty.toNat = false) ∨
      tyUnset fmt e.type = true ∨ tyUnset fmt ty.toNat = true
    (e.state = 0 → Traps s k x i 14 (BitVec.ofNat 64 h)) ∧
    (e.state ≠ 0 → OwnerStops i s k x h) ∧
    (e.state ≠ 0 → Owns s k h →
      (e.fault = true → Traps s k x i 8 (BitVec.ofNat 64 h)) ∧
      (e.fault = false → PairStops i s k x va mp) ∧
      (e.fault = false → PairFits va mp → refused → Traps s k x i 13 (BitVec.ofNat 64 h)) ∧
      (e.fault = false → PairFits va mp → ¬ refused →
        Hands i hd s k x 3 (.tmov h keep) (some (.tmov e (va.toNat % 2 ^ 56) mp.toNat ty.toNat l.toNat fmt)) 0
          fun t => withEntry t k h { e with state := 3, pending := e.extent * 64 }))

/-- R163: the bytes of an element of each accumulate operation. -/
def elementBytes (op : Nat) : Nat := if op = 3 then 2 else 4

/-- R162, R171: a word that works on one element of memory: misaligned, it traps; else it hands the operation over. -/
def OneElement (i : Instr) (hd : Hdr) (m : Macro) (d : BitVec 5) (r : State → Nat → Rmw) (size : Nat) (wake : Bool) : Prop :=
  ∀ s k x, Issues s k x i hd →
    let a := readScalar (s.slot k).regs d
    (a.toNat % size ≠ 0 → Traps s k x i 6 (BitVec.ofNat 64 (a.toNat % 2 ^ 56))) ∧
    (a.toNat % size = 0 → Hands i hd s k x 2 m (some (.rmw (a.toNat % 2 ^ 56) (r s k) wake)) 0 id)

end Sys2Proof.Claims
end

