-- ==== Sys2Proof/Safety/ArrayWords.lean ====
section
/-! DEFINITION. Sys2Proof/Safety/ArrayWords.lean: the terms of the statements about array steps and the collar. -/

namespace Sys2Proof.Claims

open Sys2Proof.Machine

/-! ## Array steps, scales, planes, collar traps, codebooks and soundings -/

/-- The word makes its checks in order: the first that is violated traps with its cause and auxiliary word; with none, `ok`. -/
def Checks (s : State) (k x : Nat) (i : Instr) : List (Prop × Nat × Word) → Prop → Prop
  | [], ok => ok
  | (bad, c, aux) :: rest, ok => (bad → Traps s k x i c aux) ∧ (¬ bad → Checks s k x i rest ok)

/-- R184: the fields of the step descriptor. -/
def stepFields (w : Word) : StepDesc :=
  let n := w.toNat
  { bh := n / 2 ^ 58, oh := n / 2 ^ 52 % 2 ^ 6, aty := n / 2 ^ 47 % 2 ^ 5, bty := n / 2 ^ 42 % 2 ^ 5, cnt := n / 2 ^ 38 % 2 ^ 4,
    accbase := n / 2 ^ 27 % 2 ^ 11, acclen := n / 2 ^ 15 % 2 ^ 12, moff := n / 2 ^ 7 % 2 ^ 8, rsv := n % 2 ^ 7 }

/-- R36: the slot's core holds array windows. -/
def holdsWindows (s : State) (k : Nat) : Prop :=
  let share := (s.tile (k / 8)).ashare.toNat % 4
  share = 0 ∨ share = k / 4 % 2 + 1

/-- The aux word of the first handle in a list whose entry meets a condition. -/
def firstHandle (s : State) (k : Nat) (p : TileEntry → Prop) [DecidablePred p] (hs : List Nat) : Nat :=
  (hs.find? fun h => p (entryOf s k h)).getD 0

/-- The step as the array holds it, but for its preload. -/
def bare (p : Step) : Step := { p with preload := none }

/-- R142: the slot with one more operation in counter tl. -/
def withTl (s : State) (k x : Nat) : Slot :=
  { s.slot k with ops := retireNulls [] ((s.slot k).ops ++ [{ id := s.nextId, cls := 3, x := x, kind := .unit, due := 0 }]) }

/-- R183-R188, R180, R271: TSTEP makes R186's checks in their order, waits for entries that fill or drain and for a place
among its core's two armed steps, and then arms a step with the next step sequence; an emitting step's output entry fills. -/
def Arms (i : Instr) (hd : Hdr) (sp : Bool) (u : BitVec 6) (a : BitVec 5) (emit acc : Bool) : Prop :=
  ∀ s k x, Issues s k x i hd →
    let w := readScalar (s.slot k).regs a
    let ti := s.tile (k / 8)
    let d := stepFields w
    let ta := u.toNat
    let hs := (List.range (d.cnt + 1)).map (ta + ·)
    let as := hs.map (entryOf s k)
    let b := entryOf s k d.bh
    let o := entryOf s k d.oh
    let named := hs ++ [d.bh] ++ (if emit then [d.oh] else [])
    let moving := fun e : TileEntry => e.state = 1 ∨ e.state = 3
    let task := (s.slot k).task
    let south := (ti.segs.get {} 2).planned
    let p : Step := { id := s.nextId, k := k, owner := task.loc, seq := ti.stepSeq, launch := task.launch, ta := ta, cnt := d.cnt,
                      bh := d.bh, oh := if emit then some d.oh else none, aty := d.aty, bty := d.bty, accbase := d.accbase,
                      acclen := d.acclen, moff := d.moff, sp := sp, acc := acc, fmt := ti.fmt, aEnts := as, bEnt := b,
                      ohEnt := if emit then some o else none, sound := if south.valid then some south.soundRec else none,
                      southTurn := (ti.segs.get {} 2).turns + (ti.segs.get {} 2).swaps.length }
    let waits := (∃ e ∈ as, moving e) ∨ moving b ∨ (emit = true ∧ moving o) ∨ 2 ≤ (ti.steps.filter fun q => coreKey q.k == coreKey k).length
    Checks s k x i
      [(¬ holdsWindows s k, 22, 0),
       (d.formed ta sp emit ti.fmt = false, 23, w),
       (∃ h ∈ named, (entryOf s k h).state = 0, 14, BitVec.ofNat 64 (firstHandle s k (fun e => e.state = 0) named)),
       (emit = true ∧ o.owner ≠ k % 8, 15, BitVec.ofNat 64 d.oh),
       (d.fits ta sp emit ti.fmt as b o = false, 23, w),
       ((ti.planBit d emit as b o).isSome = true, 24, BitVec.ofNat 64 ((ti.planBit d emit as b o).getD 0)),
       (∃ h ∈ hs ++ [d.bh], (entryOf s k h).fault = true, 8,
         BitVec.ofNat 64 (firstHandle s k (fun e => e.fault = true) (hs ++ [d.bh])))]
      ((waits → exec i s = .next s) ∧
       (¬ waits → ∃ t, exec i s = .next (done s t k x hd 1) ∧
        (t.tile (k / 8)).steps.map bare = ti.steps.map bare ++ [p] ∧
        (t.tile (k / 8)).stepSeq = (ti.stepSeq + 1) % 65536 ∧
        (∀ h, entryOf t k h = if emit = true ∧ h = d.oh then { o with state := 1, pending := o.extent * 64 } else entryOf s k h) ∧
        t.slot k = withTl s k x ∧ t.mem = s.mem))

/-- R193: the fields of the scale descriptor. -/
def scaleFields (w : Word) : ScaccDesc :=
  let n := w.toNat
  { src := n / 2 ^ 53, dst := n / 2 ^ 42 % 2 ^ 11, nrows := n / 2 ^ 30 % 2 ^ 12, ncols := n / 2 ^ 22 % 2 ^ 8, br := n / 2 ^ 18 % 2 ^ 4,
    bc := n / 2 ^ 15 % 2 ^ 3, rsv := n % 2 ^ 15 }

/-- R192-R194: SCACC checks its descriptor and its scale entry, waits for an entry that fills or drains, and joins the tile's
accumulator operations. -/
def Scales (i : Instr) (hd : Hdr) (kind : Nat) (u : BitVec 6) (a : BitVec 5) (set : Bool) : Prop :=
  ∀ s k x, Issues s k x i hd →
    let w := readScalar (s.slot k).regs a
    let ti := s.tile (k / 8)
    let d := scaleFields w
    let e := entryOf s k u.toNat
    Checks s k x i
      [(d.formed kind = false, 23, w), (e.state = 0, 14, BitVec.ofNat 64 u.toNat), (d.fits kind ti.fmt e = false, 23, w),
       (e.fault = true, 8, BitVec.ofNat 64 u.toNat)]
      ((e.state = 1 ∨ e.state = 3 → exec i s = .next s) ∧
       (¬ (e.state = 1 ∨ e.state = 3) → exec i s = .next (done s
        ((({ s with nextId := s.nextId + 1 } : State).setSlot k (withTl s k x)).setTile (k / 8) { ti with scaccs := ti.scaccs ++
          [{ id := s.nextId, k := k, ent := e, fmt := ti.fmt.get 0 e.type, src := d.src, dst := d.dst, nrows := d.nrows,
             ncols := d.ncols, br := d.br, bc := d.bc, set := set, kind := kind }] }) k x hd 1)))

/-- A segment of the slot's tile. -/
def segOf (s : State) (k g : Nat) : Seg := (s.tile (k / 8)).segs.get {} g

/-- R181: the mask names segment `g`: west, north, south, east from bit 0. -/
def names (m : BitVec 4) (g : Nat) : Prop := m.getLsbD g = true

/-- R199: two plane words of a segment of the mask are pending. -/
def crowded (s : State) (k : Nat) (m : BitVec 4) : Prop :=
  ∃ g < 4, names m g ∧ 2 ≤ (segOf s k g).loads.length + (segOf s k g).swaps.length + (segOf s k g).drains.length

/-- The state after a plane word: its operation holds tl, each named segment is as `f` says, every other as before, and
memory is as before. -/
def Planned (s t : State) (k x : Nat) (m : BitVec 4) (f : Nat → Seg → Seg) : Prop :=
  t.slot k = withTl s k x ∧ (∀ g < 4, names m g → segOf t k g = f g (segOf s k g)) ∧
    (∀ g < 4, ¬ names m g → segOf t k g = segOf s k g) ∧ t.mem = s.mem

/-- R195: the place of a segment among those that the mask names, from 1. -/
def turn (m : BitVec 4) (g : Nat) : Nat := ((List.range (g + 1)).filter fun j => m.getLsbD j).length

end Sys2Proof.Claims
end

