-- ==== Sys2Proof/Safety/ChannelWords.lean ====
section
/-! DEFINITION. Sys2Proof/Safety/ChannelWords.lean: the terms of the statements about channels and copy programs. -/

namespace Sys2Proof.Claims

open Sys2Proof.Machine

/-! ## Channels -/

/-- R38: the channel that a handle names: its die and its index in the die's table. -/
def channelOf (hv : Nat) : Nat := hv / 2 ^ 12 % 8 * 4096 + hv % 4096

/-- R38, R399, R401: the handle is valid and names an open channel of the slot's address space, and the slot holds the end the
handle is for: the reader's (bit 30 set) or the writer's. -/
def mayUse (s : State) (k hv : Nat) : Prop :=
  let ch := s.chan (channelOf hv)
  let e := if hv / 2 ^ 30 % 2 = 1 then ch.rend.toNat else ch.wend.toNat
  hv / 2 ^ 31 % 2 = 1 ∧ ch.isOpen = true ∧ ch.asid = (s.slot k).task.asid ∧ e / 2 ^ 31 % 2 = 1 ∧ e / 2 ^ 30 % 2 = 0 ∧ e % 512 = k

/-- R166: the word stalls: its stall began now, or goes on. -/
def stalled (s : State) (k x : Nat) : State :=
  waiting s k x (.channel (some (match ((s.slot k).stream x).wait with
    | some (.channel (some n)) => n
    | _ => s.cycle)))

/-- R407: a push that finds ring and sump full freezes the channel and asks the pilot for a segment, when one may be had. -/
def askedFor (s : State) (c : Nat) : State :=
  let ch := s.chan c
  if ch.frozen = false ∧ ch.declined = false ∧ ch.canPush = false ∧ ch.segs.length < ch.maxseg then
    { s with chans := s.chans.set c { ch with frozen := true, sumpFull := true }, told := s.told ++ [[c, ch.asid]] }
  else s

/-- Bytes at rising addresses. -/
def run (a : Nat) (bs : List Byte) : List (Nat × Byte) := bs.zipIdx.map fun p => (a + p.2, p.1)

/-- R398: where ring place `n` of channel `c` lies: in its die's scratchpad. -/
def ringPlace (ch : Chan) (c n : Nat) : Nat :=
  dieBase (c / 4096) + 0x20000000 + ch.ringOff * 64 + n % ch.rplaces * (if ch.big then 128 else 8)

/-- What becomes of everything but the channel, memory and the queues when a channel word completes. -/
def ChannelFrame (s t : State) (k c : Nat) (qs : Tab (List QPlace)) : Prop :=
  (∀ d, d ≠ c → t.chan d = s.chan d) ∧ (t.slot k).queues = qs ∧ (t.slot k).regs = (s.slot k).regs ∧
    (t.slot k).ops = (s.slot k).ops

/-! ## The words of command programs -/

/-- What a word of a copy command does: nothing more, data work whose old value may go to a register, a LINK, an illegal LINK, or a
failure. -/
inductive Moves where
  | none
  | data (w : Work) (old : Option (BitVec 5))
  | link (base n : Nat)
  | unlinks
  | fails (status : Nat)

/-- R54, R208, R213, R214: a word of `len` words of a copy command's program: a false guard only passes it; a failure ends the
command with its status at this word. -/
def CopyRuns (i : Instr) (g : Grd) (len : Nat) (f : State → Job → (BitVec 5 → Word) → Moves) : Prop :=
  ∀ s id, s.cur = .command id → (s.job id).busy = false →
    let j := s.job id
    let on := passedProg j.prog len j.prog.regs j.prog.preds
    let active := (readBit j.prog.preds g.g != g.n) = true
    (¬ active → exec i s = .next (s.setJob id { j with prog := on })) ∧
    (active → exec i s = .next (s.setJob id (match f s j (readScalar j.prog.regs) with
      | .none => { j with prog := on }
      | .data w old => { j with prog := on, flights := j.flights ++ [{ word := j.prog.ctl.pc, work := w, reg := old }] }
      | .link b n => { j with prog := on, link := some (b, n) }
      | .unlinks => { j with stop := some 5, badWord := j.prog.ctl.pc, badOff := 0, link := none }
      | .fails st => { j with stop := some st, badWord := j.prog.ctl.pc, badOff := 0 })))

/-- R217: the signed 32-bit halves of a pitch register: of the source, of the destination. -/
def sourcePitch (v : Word) : Int := (v.extractLsb' 0 32).toInt
def targetPitch (v : Word) : Int := (v.extractLsb' 32 32).toInt

/-- R83: an address in a register: its low 56 bits. -/
def va56 (v : Word) : Nat := v.toNat % 2 ^ 56

/-- R217, R218: planes of rows of bytes; a length of 2^32 or more is illegal, and nothing moves for a zero. -/
def copies (d a n : Word) (rows planes : Nat) (row plane : Word) : Moves :=
  if 2 ^ 32 ≤ n.toNat then .fails 5
  else if n = 0 ∨ rows = 0 ∨ planes = 0 then .none
  else .data (.copy (va56 d) (va56 a) n.toNat rows planes (sourcePitch row) (targetPitch row) (sourcePitch plane) (targetPitch plane)) none

/-- R219: rows of a pattern of `z` bytes; register 0 for the row count means one row. -/
def fills (d n : Word) (z : Nat) (pattern : Word) (one : Prop) [Decidable one] (c p : Word) : Moves :=
  let rows := if one then 1 else c.toNat % 2 ^ 32
  if d.toNat % z ≠ 0 ∨ n.toNat % z ≠ 0 then .fails 2
  else if n = 0 ∨ rows = 0 then .none
  else .data (.fill (va56 d) n.toNat rows (if one then 0 else targetPitch p) (pattern.toNat % 2 ^ (8 * z)) z) none

/-- R220: one element of `size` bytes. -/
def element (d : Word) (r : Rmw) (size : Nat) (wake : Bool) (old : Option (BitVec 5)) : Moves :=
  if d.toNat % size ≠ 0 then .fails 2 else .data (.rmw (va56 d) r wake) old

/-- R221: elements of `z` bytes by 32-bit or 64-bit indices. -/
def gathers (scatter wide : Bool) (d a b : Word) (z : Nat) (c : Word) : Moves :=
  let n := c.toNat % 2 ^ 32
  if 2 ^ 24 < n then .fails 5
  else if d.toNat % z ≠ 0 ∨ a.toNat % z ≠ 0 ∨ b.toNat % (if wide then 8 else 4) ≠ 0 then .fails 2
  else if n = 0 then .none else .data (.gather scatter wide (va56 d) (va56 a) (va56 b) n z) none

/-- R212, R217: the sizes of rings: powers of two from 16 to 65,536. -/
abbrev ringSize (n : Nat) : Prop := ∃ i < 13, n = 2 ^ (i + 4)

/-- R222: a multicast range lies in one part of a tile's slot, in whole units of 64 bytes. -/
abbrev castFits (o a n : Nat) : Prop :=
  o % 64 = 0 ∧ a % 64 = 0 ∧ n % 64 = 0 ∧ o < 0x1000000 ∧ (tilePart o).isSome = true ∧
    (n ≠ 0 → tilePart (o + n - 1) = tilePart o) ∧ o + n ≤ 0x1000000

/-- R45: the tiles of a group, none when the group is not live. -/
def membersOf (s : State) (g : Nat) : List Nat :=
  match s.groups.find? g with
  | some gr => gr.members
  | none => []

end Sys2Proof.Claims
end

