-- ==== Sys2Proof/Safety/QueueWords.lean ====
section
/-! DEFINITION. Sys2Proof/Safety/QueueWords.lean: the terms of the statements about queue programs. -/

namespace Sys2Proof.Claims

open Sys2Proof.Machine

/-! ## The words of queue programs -/

/-- R224, R359: queue `q` of state `t` once a word of its packet has taken effect, with register `d` written: the packet's
program goes on, and the queue is active unless it has been torn down. -/
def wentOn (t : State) (q : Nat) (regs : Option (BitVec 5 × Word)) : State :=
  let hq := t.hqueue q
  t.setHqueue q { hq with
    state := if hq.state = 3 then 3 else 1,
    cur := hq.cur.map fun p => { p with
      prog := passedProg p.prog 1 (match regs with
        | some (d, v) => if d = 0 then p.prog.regs else p.prog.regs.set d.toNat v
        | none => p.prog.regs) p.prog.preds,
      words := p.words + 1, wait := none } }

/-- The packet with its word counted. -/
def counted (t : State) (q : Nat) : State :=
  t.setHqueue q { t.hqueue q with cur := (t.hqueue q).cur.map fun p => { p with words := p.words + 1 } }

/-- R229, R367, R373: the packet's word waits, and the queue is suspended unless it has been torn down. -/
def suspended (t : State) (q : Nat) (w : FeWait) : State :=
  let hq := t.hqueue q
  t.setHqueue q { hq with state := if hq.state = 3 then 3 else 2, cur := hq.cur.map fun p => { p with wait := some w } }

/-- R353, R456: the packet's word meets a translation fault: the host is told, and the word runs again after service. -/
def faulting (t : State) (q va c a : Nat) : State :=
  let u := t.faultRecord { va := va, launch := 0, asid := (t.hqueue q).asid, cause := c, access := a, agent := 3, who := 0 }
  u.setHqueue q { u.hqueue q with cur := (u.hqueue q).cur.map fun p => { p with wait := some (.fault va) } }

/-- It is the turn of queue `q`, whose packet `p` runs its program and stands at a word of guard `g`, `n`. -/
structure AtFront (s : State) (q : Nat) (p : Packet) : Prop where
  cur : s.cur = .queue q
  packet : (s.hqueue q).cur = some p
  runs : p.still = false

/-- R54: the guard of a word of the program is true. -/
def active (p : Packet) (g : BitVec 3) (n : Bool) : Prop := (readBit p.prog.preds g != n) = true

/-- R54: a false guard only passes the word. -/
def FrontSkips (i : Instr) (g : Grd) : Prop :=
  ∀ s q p, AtFront s q p → ¬ active p g.g g.n → exec i s = .next (wentOn s q none)

/-- A field of the packet: `n` bytes from `off` on, the lowest first. -/
def field (p : Packet) (off n : Nat) : Nat := leNat ((p.bytes.drop off).take n)

/-- R226: the shadow words that a mask names take the packet's dwords from `w` on, the lowest index first: `l` are the indexes
named. -/
def filled (p : Packet) (sh : Tab Word) (w : Nat) (l : List Nat) : Tab Word :=
  (l.zipIdx).foldl (fun t e => if w + e.2 < 32 then t.set e.1 (BitVec.ofNat 64 (field p (8 * (w + e.2)) 8)) else t) sh

/-- R365: the packet keeps the launches that have added to the signal at `va` and have not retired (log entry 146). -/
def heeding (t : State) (q va : Nat) : State :=
  match t.feReach q .read va 8 with
  | .ok locs => t.setHqueue q { t.hqueue q with cur := (t.hqueue q).cur.map fun p => { p with
      heeds := p.heeds ++ (t.launches.filter fun l => !l.2.retired && l.2.signalled.contains (locs.headD 0)).map Prod.fst } }
  | _ => t

/-- R229: SIGWAIT: a misaligned signal ends the packet BADADDR, a poisoned one POISONED, an aborted one ABORTED; else the packet
goes on once the signal compares with the register, and waits until then. A read that accesses which have crossed first are ahead of
is made at a later turn (R333). -/
def SignalWaits (i : Instr) (g : Grd) (d a : BitVec 5) (met : Int → Int → Prop) : Prop :=
  FrontSkips i g ∧ ∀ s q p, AtFront s q p → active p g.g g.n →
    let va := va56 (readScalar p.prog.regs d)
    let t := s.feTouch q va 8
    (va % 8 ≠ 0 → exec i s = .next ((counted s q).endPacket q 2)) ∧
    (va % 8 = 0 →
      (∀ st, t.feRead q va 8 = .stop st → exec i s = .next ((counted t q).endPacket q st)) ∧
      (∀ v c k, t.feRead q va 8 = .fault v c k → exec i s = .next (faulting t q v c k)) ∧
      (t.feRead q va 8 = .hold → exec i s = .next t) ∧
      (∀ bs, t.feRead q va 8 = .ok bs →
        let x := (BitVec.ofNat 64 (leNat bs)).toInt
        (x ≤ -2 ^ 30 → exec i s = .next ((counted (heeding t q va) q).endPacket q 8)) ∧
        (-2 ^ 30 < x → met x (readScalar p.prog.regs a).toInt → exec i s = .next (wentOn (heeding t q va) q none)) ∧
        (-2 ^ 30 < x → ¬ met x (readScalar p.prog.regs a).toInt → exec i s = .next (suspended t q (.signal va)))))

end Sys2Proof.Claims
end

