-- ==== Sys2Proof/Safety/Waits.lean ====
section
/-! DEFINITION. Sys2Proof/Safety/Waits.lean: the terms of the statements about what ends a wait, and the events of a slot. -/

namespace Sys2Proof.Claims

open Sys2Proof.Machine

/-! ## Events of slots -/

/-- The state in which stream `x` of slot `k` has its turn. -/
def turnOf (s : State) (k x : Nat) : State := { s with cur := .stream k x, fetched := s.streamWords k x }

/-- R241: stream `x` stands at a rendezvous that is complete. -/
def atRendezvous (s : State) (k x : Nat) : Prop := (s.slot k).gathered = true ∧ x ∈ (s.slot k).rvStreams

end Sys2Proof.Claims
end

