-- ==== Sys2Proof/Safety/TaskLife.lean ====
section
/-! DEFINITION. Sys2Proof/Safety/TaskLife.lean: the terms of the statements about tasks from binding to their end. -/

namespace Sys2Proof.Claims

open Sys2Proof.Machine

/-! ## Events of tasks -/

/-- A field of the record at `loc`: `n` bytes from `off` on, the lowest first (R377); of a record in another package, free bytes. -/
def recordField (s : State) (loc off n : Nat) : Nat :=
  leNat ((List.range n).map fun j =>
    if isRemote loc = true then Config.remoteByte s.fresh (loc + off + j) else Memory.read s.mem (loc + off + j))

/-- R382: the record's PLACE allows slot `k`: on its tile or anywhere on its die, on its core or on either. -/
def placeAllows (s : State) (loc k : Nat) : Prop :=
  let p := recordField s loc 50 2
  let tile := p / 2 ^ 8 % 64
  (if p / 2 ^ 14 = 0 then tile = k / 8 else tile / 8 = k / 64) ∧ (p % 4 = 2 ∨ p % 4 = k / 4 % 2)

/-- R412: a point in time of a task that has a deadline has come. -/
def come (s : State) (deadline point : Word) : Prop := deadline ≠ BitVec.allOnes 64 ∧ point.toNat ≤ s.mtime.toNat

/-- R412: the landfall point: the deadline less the landfall budget, the launch's where the record has none. -/
def landfallPoint (s : State) (loc : Nat) : Word :=
  let dl := recordField s loc 32 8
  let b := recordField s loc 40 4
  BitVec.ofNat 64 (if dl = 2 ^ 64 - 1 then dl else dl - if b = 0 then (s.launch (recordField s loc 44 4)).budget else b)

/-- The slot may take a task of address space `asid` (R382, R383). -/
def slotTakes (s : State) (k loc asid : Nat) : Prop :=
  (s.slot k).phase = .free ∧ placeAllows s loc k ∧ s.tenantFits k asid = true

/-- R372, R253: nothing of the slot's task holds its stop up: no result still to come, no collar trap and no armed step. -/
def quietTask (s : State) (k : Nat) : Prop :=
  s.trapsOf (s.slot k).task.loc = [] ∧ s.stepsOf (s.slot k).task.loc = []

end Sys2Proof.Claims
end

