-- ==== Sys2Proof/Safety/EngineEvents.lean ====
section
/-! DEFINITION. Sys2Proof/Safety/EngineEvents.lean: the terms of the statements about the copy engines and the array at work. -/

namespace Sys2Proof.Claims

open Sys2Proof.Machine

/-! ## Events of copy engines and of the array -/

/-- No slot has an outstanding operation of this number: its counter has returned (R142). -/
def returnedOp (t : State) (id : Nat) : Prop := ∀ k, ∀ o ∈ (t.slot k).ops, o.id ≠ id

/-- The launch's census has fallen by one item (R385). -/
def itemEnded (s t : State) (n : Nat) : Prop := ∀ L, s.launches.find? n = some L → (t.launch n).census = L.census - 1

/-- R144: the first command that waits in queue `q` of the engine of tile `t`. -/
def waitsFirst (s : State) (t q : Nat) : Option (Nat × Job) :=
  List.find? (fun (p : Nat × Job) => p.2.mac.isSome && p.2.engine == t && p.2.queue == q && !p.2.started) s.jobs

end Sys2Proof.Claims
end

