-- ==== Sys2Proof/Safety/FrontEvents.lean ====
section
/-! DEFINITION. Sys2Proof/Safety/FrontEvents.lean: the terms of the statements about sumps, the front end and retirement. -/

namespace Sys2Proof.Claims

open Sys2Proof.Machine

/-! ## Events of channels and of the queue front end -/

/-- R406, R407: channel `c` has `n` segments more, taken in order from the reserve of its die and address space; nothing holds it
but a sump fault. -/
def Granted (s t : State) (c n : Nat) : Prop :=
  let ch := s.chan c
  let key := 256 * (c / 4096) + ch.asid
  let free := s.sumpFree.get [] key
  t.chan c = { ch with segs := ch.segs ++ free.take n, sumpFull := false, frozen := ch.spFault } ∧
    t.sumpFree.get [] key = free.drop n ∧ (∀ k, k ≠ key → t.sumpFree.get [] k = s.sumpFree.get [] k) ∧
    (∀ e, e ≠ c → t.chan e = s.chan e) ∧ t.slots = s.slots ∧ t.launches = s.launches

/-- R353, R408: the record of a fault that a channel's sump meets, for the launch of the writer; a refill's stops refills. -/
def sumpFault (s : State) (c va cause : Nat) (refill : Bool) : State :=
  let t := s.faultRecord { va := va, launch := s.writerLaunch (s.chan c), asid := (s.chan c).asid, cause := cause, access := 6, agent := 2,
                           who := c / 4096 * 4 + s.inp.a % 4 }
  { t with chans := t.chans.set c { s.chan c with
    spFault := true, frozen := true, faultVa := va, faultLaunch := s.writerLaunch (s.chan c), refillStuck := refill } }

/-- R406, R438: a deadlock is told to the pilot, and to the host by an EVENT on stream 2. -/
def deadlocked (s : State) (cs : List Nat) : State :=
  ({ s with told := s.told ++ [cs] } : State).event (cs.flatMap fun c => leBytes 4 c)

/-- R359, R390: a packet whose program has ended may leave its queue: its add is not held, its launch has retired, no launch whose
signal it went on by is to retire first (log entry 146), and in a torn queue it is the oldest, else no older one's add is held. -/
def mayLeave (s : State) (q : Nat) (p : Packet) : Prop :=
  let hq := s.hqueue q
  p.addFault = none ∧ p.addSent = none ∧ s.heedful p = false ∧
    (∀ n, p.launch = some n → (s.launch n).retired = true) ∧
    (hq.state = 3 → (hq.started.head?.map Packet.idx) = some p.idx) ∧
    (hq.state ≠ 3 → ∀ e ∈ hq.started.takeWhile fun e => e.idx != p.idx, e.addFault = none)

/-- R439: stream 0 takes another COMPLETION. -/
def roomLeft (s : State) : Prop := (s.devOut.get {} 0).unacked.length < 65536

/-- R359, R440: the packet is gone from its queue, its launch's number is free, and stream 0 carries its COMPLETION. -/
def Retired (s t : State) (q : Nat) (p : Packet) (status : Nat) (applied : Bool) : Prop :=
  (t.hqueue q).started = ((s.hqueue q).started.filter fun e => e.idx != p.idx) ∧
    (∀ n, p.launch = some n → t.launches.find? n = none) ∧
    (t.devOut.get {} 0).unacked = (s.devOut.get {} 0).unacked ++ [{
      seq := (s.devOut.get {} 0).seq, type := 4, sent := s.mtime.toNat
      data := leBytes 2 q ++ leBytes 1 status ++ leBytes 1 (((p.launch.map s.launch).getD {}).landed.toNat + if applied then 2 else 0) ++
        leBytes 4 p.idx ++ leBytes 8 (match p.comp with
          | some (_, _, w) => w.toNat
          | none => 0) ++
        leBytes 8 ((p.launch.map s.launch).getD {}).validity.toNat ++ leBytes 4 (p.launch.getD 0) ++ leBytes 4 0 ++
        leBytes 8 s.mtime.toNat ++ leBytes 8 0 }] ∧
    t.slots = s.slots

/-- R370, R385: a packet's status: that of its program, else that of its torn or retired launch. -/
def packetStatus (s : State) (p : Packet) : Nat :=
  match p.ended with
  | some (e + 1) => e + 1
  | _ => match p.launch with
    | some n => match (s.launch n).aborted with
      | some a => a
      | none => (s.launch n).status
    | none => 0

/-- R370: the packet or its launch was aborted, so that its addend is −2^31. -/
def addendOf (s : State) (p : Packet) (given : Word) : Nat :=
  match p.ended, p.launch.map fun n => (s.launch n).aborted with
  | some (_ + 1), _ => 2 ^ 64 - 2 ^ 31
  | _, some (some _) => 2 ^ 64 - 2 ^ 31
  | _, _ => given.toNat

end Sys2Proof.Claims
end

