-- ==== Sys2Proof/Safety/HostEvents.lean ====
section
/-! DEFINITION. Sys2Proof/Safety/HostEvents.lean: the terms of the statements about the host port and the management operations. -/

namespace Sys2Proof.Claims

open Sys2Proof.Machine

/-! ## The host port -/

/-- R437, R439: ACK `ack` and SACK `sack` cover a message of this sequence. -/
def covers (ack sack seq : Nat) : Prop :=
  (∃ n, 1 ≤ n ∧ n < 2 ^ 31 ∧ (seq + n) % 2 ^ 32 = ack) ∨ ∃ i < 32, sack / 2 ^ i % 2 = 1 ∧ seq % 2 ^ 32 = (ack + 1 + i) % 2 ^ 32

/-- R437, R438: the port hears a well-formed message of VER 1, with the device's boot count: a stream that exists, FLAGS without a reserved
bit and LEN at most 8,192. -/
def Hears (s : State) : Prop :=
  s.host.up = true ∧ s.inp.ver = 1 ∧ s.inp.c = s.boot.count % 2 ^ 32 ∧ s.inp.unit < 16 ∧ s.inp.x ≤ 3 ∧ s.inp.data.length ≤ 8192 ∧ s.inp.a < 2 ^ 32

/-- The state with the acknowledgement of the message applied. -/
def heard (s : State) : State := s.hostAck s.inp.unit s.inp.a s.inp.b

/-- How far the message's SEQ lies ahead of the next one expected on its stream. -/
def seqAhead (s : State) : Nat := (s.inp.id % 2 ^ 32 + 2 ^ 32 - s.host.next.get 0 s.inp.unit) % 2 ^ 32

/-- R439: the message is the next of its stream, none is held behind it, and the device has been READY (R452). -/
structure InTurn (s : State) : Prop where
  hears : Hears s
  carries : s.inp.x / 2 % 2 = 0
  next : seqAhead s = 0
  alone : ∀ w ∈ s.host.held, w.stream ≠ s.inp.unit
  ready : s.host.ready = true
  well : s.power.recovery = false

/-- The state in which the message takes effect: it is acknowledged, and the next SEQ is expected. -/
def taken (s : State) : State :=
  let t := heard s
  { t with host := { t.host with next := t.host.next.set s.inp.unit ((t.host.next.get 0 s.inp.unit + 1) % 2 ^ 32) } }

/-- R439: the message that has come is acknowledged, with no payload (its form: log entry 147). -/
def confirmed (s : State) (type : Nat) (t : State) : State := t.ackOnly s.inp.unit type

/-- R437: the 32 bytes of a device message's header: VER, TYPE, FLAGS, STREAM, SEQ, ACK, SACK, LEN, zero, BOOTCOUNT, zero. -/
def header (t : State) (type flags stream seq sack len : Nat) : List Byte :=
  leBytes 1 1 ++ leBytes 1 type ++ leBytes 1 flags ++ leBytes 1 stream ++ leBytes 4 seq ++ leBytes 4 (t.host.next.get 0 stream) ++
    leBytes 4 sack ++ leBytes 2 len ++ leBytes 2 0 ++ leBytes 4 t.boot.count ++ leBytes 8 0

/-- R437: SACK: bit i for the host message i + 1 beyond the next one expected, when it is held. -/
def sackOf (t : State) (stream sack : Nat) : Prop :=
  sack < 2 ^ 32 ∧ ∀ i < 32, sack / 2 ^ i % 2 = 1 ↔
    ∃ w ∈ t.host.held, w.stream = stream ∧ (w.seq + 2 ^ 32 - t.host.next.get 0 stream) % 2 ^ 32 = i + 1

/-- What stands on the link to the host in `t` after what stood there in `s`: a header and its payload. -/
def onTheWire (s t : State) (type flags stream seq : Nat) (data : List Byte) : Prop :=
  ∃ sack, sackOf s stream sack ∧ t.host.sends = s.host.sends ++ [header s type flags stream seq sack data.length ++ data]

/-- R438: the answer to a WRITE (1) or READ (2): the address, the status, and the bytes. -/
def answered (t : State) (type : Nat) (d : List Byte) (st : Nat) (bytes : List Byte) : State :=
  t.send 3 type (d.take 8 ++ leBytes 1 st ++ leBytes 7 0 ++ bytes)

/-- The same page (R441). -/
def onePage (a b : Nat) : Prop := a % 2 ^ 56 / 4096 = b % 2 ^ 56 / 4096

/-- R441, R456: an agent of launch `l` and address space `a` that a FAULT message names. -/
def named (n asid l a : Nat) : Prop := l = n ∧ (n ≠ 0 ∨ a = asid)

/-- R442: the pilot's answer to a MGMT message. -/
def replied (t : State) (d : List Byte) (st : Nat) (body : List Byte) : State :=
  t.sendLong 3 7 (d.take 1 ++ leBytes 1 st ++ leBytes 6 0 ++ body)

/-- The MGMT message `i` of operation `op`, in turn, takes effect as `P` says, in the state `taken s`, and is acknowledged. -/
def Manages (i : Instr) (op : Nat) (P : State → List Byte → (State → Prop) → Prop) : Prop :=
  ∀ s, InTurn s → bytesAt s.inp.data 0 1 = op → P (taken s) s.inp.data fun t => exec i s = .next (confirmed s 7 t)

/-- R367: the 288 bytes of a queue descriptor. -/
def descriptor (hq : HQueue) : List Byte :=
  leBytes 8 hq.ring ++ leBytes 4 hq.size ++ leBytes 4 hq.tail ++ leBytes 4 hq.head ++ leBytes 1 hq.asid ++ leBytes 1 hq.state ++
    leBytes 2 hq.prog ++ ((List.range 32).flatMap fun i => leBytes 8 (hq.sh.get 0 i).toNat) ++ List.replicate 8 0

/-- R423, R12: the ports: six of the package, and from 16 on four of each die in the die torus. -/
def portOf (n : Nat) : Prop := n < 6 ∨ (16 ≤ n ∧ n < 48)

/-- R445: measurement register `n` extended with an item. -/
def measured (t : State) (n : Nat) (x : List Byte) : State :=
  { t with boot := { t.boot with meas := t.boot.meas.set n (sha256 (t.boot.meas.get (List.replicate 32 0) n ++ sha256 x)) } }

/-- R352: a write to a die's TXINV, ignored while DONE is 0. -/
def txinvWritten (t : State) (i : Nat) (w : Nat) : State :=
  let v := (t.die i).txinv
  if v.toNat / 2 % 2 = 0 then t.setDie i (t.die i) else
    t.setDie i { t.die i with txinv := BitVec.ofNat 64 (w % 2 ^ 64 / 16 * 16 + if w % 2 = 1 then 0 else 2) }

end Sys2Proof.Claims
end

