-- ==== Sys2Proof/Safety/TorusEvents.lean ====
section
/-! DEFINITION. Sys2Proof/Safety/TorusEvents.lean: the terms of the statements about the torus, errors and power. -/

namespace Sys2Proof.Claims

open Sys2Proof.Machine

/-! ## The torus, errors, power and reset -/

/-- R422, R435: what the torus unit puts on its links: an acknowledgement (1) or a refusal (2) of a packet from a node. -/
def sentBack (t : Torus) (kind node seq status value : Nat) : Torus :=
  { t with sending := t.sending ++ [{ kind := kind, node := node, seq := seq, status := status, value := value }] }

/-- Everything but the torus unit stands. -/
def torusOnly (s t : State) : Prop := t.mem = s.mem ∧ t.slots = s.slots ∧ t.jobs = s.jobs ∧ t.hqueues = s.hqueues ∧ t.chans = s.chans

/-- R213, R435: command `j` whose packets to a node are refused or given up becomes `j'`: it ends FENCED at the first of its words that
has one, with OFFSET the bytes acknowledged before the first of them, sends nothing more of that word and the words after it, and
awaits none of them. A completion record that cannot be written leaves the command as it ended. -/
def EndsFenced (j j' : Job) (node : Nat) : Prop :=
  ∀ n f, j.flights[n]? = some f → (∃ pc ∈ f.packets, pc.node = node) →
    (∀ e < n, ∀ g, j.flights[e]? = some g → ∀ pc ∈ g.packets, pc.node ≠ node) →
    (j.recorded = true → n + 1 = j.flights.length → j' = { j with flights := [] }) ∧
    (j.failed = none → ¬ (j.recorded = true ∧ n + 1 = j.flights.length) →
      j'.stop = some 10 ∧ j'.badWord = f.word ∧ j'.badOff ≤ f.done ∧
      (∀ pc ∈ f.packets, pc.node = node → j'.badOff ≤ pc.off) ∧ (j'.badOff = f.done ∨ ∃ pc ∈ f.packets, pc.node = node ∧ pc.off = j'.badOff) ∧
      ∀ (e : Nat) (g : Flight), j.flights[e]? = some g →
        j'.flights[e]? = some { g with packets := g.packets.filter fun pc => pc.node != node, closed := g.closed || decide (n ≤ e) })

/-- R435: the router's table holds a packet's key: it was installed, by the node map or otherwise (log entry 143), and is not revoked. -/
def admitted (s : State) (key : Nat) : Prop := (key ∈ s.torus.keys ∨ Config.partitionKey key = true) ∧ key ∉ s.torus.revoked

/-- R422, R423: the packets to a node that are sent again go each over one of the up to four live ports of the node, and RESENT counts
them; one that finds its first path so is counted in PKTOUT. With no path they wait. -/
def Resends (s t : State) (node : Nat) (which : OutPacket → Bool) : Prop :=
  let pair := s.torus.pairs.get {} node
  let hits := pair.unacked.filter which
  let unsent := (hits.filter fun p => p.path.isEmpty).length
  (hits = [] → t = s) ∧
  (hits ≠ [] → s.torus.live ≠ [] → (t.torus.pairs.get {} node).unacked.length = pair.unacked.length ∧
    (∀ (n : Nat) (p : OutPacket), pair.unacked[n]? = some p → which p = false → (t.torus.pairs.get {} node).unacked[n]? = some p) ∧
    (∀ (n : Nat) (p : OutPacket), pair.unacked[n]? = some p → which p = true → ∃ port ∈ s.torus.paths node, port ∈ s.torus.live ∧
      (t.torus.pairs.get {} node).unacked[n]? = some { p with sent := s.mtime.toNat, path := [port] }) ∧
    t.torus.counters.get 0 0 = min (2 ^ 64 - 1) (s.torus.counters.get 0 0 + unsent) ∧
    t.torus.counters.get 0 1 = min (2 ^ 64 - 1) (s.torus.counters.get 0 1 + (hits.length - unsent)) ∧ torusOnly s t) ∧
  (hits ≠ [] → s.torus.live = [] → torusOnly s t ∧ (t.torus.pairs.get {} node).unacked = pair.unacked ∧
    (t.torus.pairs.get {} node).deadSince = pair.deadSince.or (some s.mtime.toNat))

/-- R12: the ports 16 + 4 d + i of one link of the die torus: i = 0 to 3 lead from die d to +x, −x, +y, −y. -/
def sameLink (n m : Nat) : Prop :=
  let d := fun p => ((p - 16) / 4 % 4, (p - 16) / 16)
  let near := fun (a b : Nat × Nat) => ((a.1 + 1) % 4 = b.1 ∧ a.2 = b.2)
  let beside := fun (a b : Nat × Nat) => (a.1 = b.1 ∧ (a.2 + 1) % 2 = b.2)
  16 ≤ n ∧ n < 48 ∧ 16 ≤ m ∧ m < 48 ∧
    ((n % 4 = 0 ∧ m % 4 = 1 ∧ near (d n) (d m)) ∨ (n % 4 = 1 ∧ m % 4 = 0 ∧ near (d m) (d n)) ∨
      (n % 4 = 2 ∧ m % 4 = 3 ∧ beside (d n) (d m)) ∨ (n % 4 = 3 ∧ m % 4 = 2 ∧ beside (d m) (d n)))

/-- One EVENT more stands in stream 2, of 64 bytes with this byte at place 8 (an error record's CLASS). -/
def recorded (s t : State) (cls : Nat) : Prop :=
  ∃ m, (t.devOut.get {} 2).unacked = (s.devOut.get {} 2).unacked ++ [m] ∧ m.type = 6 ∧ m.data.getD 8 0 = BitVec.ofNat 8 cls

/-- R447, R450, R451: what lowers the clock: 0 the module's 5,400 W, 1 a junction at 100 °C, 2 a stack at 95 °C, 3 the carrier, 4 an
enforced PWRCAP. Temperatures come in sixteenths of a degree. -/
def causeOf (p : Power) (n : Nat) : Prop :=
  match n with
  | 0 => 5400 < p.watts
  | 1 => 1600 ≤ p.hottest 0
  | 2 => 1520 ≤ p.hottest 16
  | 3 => p.ext = true
  | 4 => p.cap.toNat % 2 = 1 ∧ p.cap.toNat / 2 ^ 16 % 2 ^ 16 < p.watts
  | _ => False

/-- R451: a junction at 110 °C or a stack at 100 °C. -/
def tooHot (p : Power) : Prop := 1760 ≤ p.hottest 0 ∨ 1600 ≤ p.hottest 16

/-- R423: the link record in stream 2: when the link died, of which node, peer and port, its CAUSE and the packets in flight. -/
def linkRecorded (s t : State) (l : Link) (n died cause flown : Nat) : Prop :=
  ∃ m, (t.devOut.get {} 2).unacked = (s.devOut.get {} 2).unacked ++ [m] ∧ m.type = 6 ∧
    m.data = leBytes 8 died ++ leBytes 2 s.torus.node ++ leBytes 2 l.peer ++ leBytes 1 n ++ leBytes 1 cause ++ leBytes 2 0 ++
      leBytes 4 flown ++ leBytes 4 0 ++ leBytes 8 s.mtime.toNat ++ leBytes 32 0

/-- R444: the image passes the boot ROM: its key, its version, its signature. -/
def imageAccepted (image : List Byte) (version rollback : Nat) : Prop :=
  sha256 (image.take 48) = vendorDigest ∧ rollback ≤ version ∧ Config.verifies image = true

end Sys2Proof.Claims
end

