-- ==== Sys2Proof/Safety/Reading.lean ====
section
/-! DEFINITION. Sys2Proof/Safety/Reading.lean: the terms of the statements about decoding, turns and the choice of clusters. -/

namespace Sys2Proof.Claims

open Sys2Proof.Machine

/-! ## Words, turns and issue -/

/-- The engines that fetch the word of an instruction: the shared half all three, a private half one, an event none (R65-R69). -/
def readBy : Instr → List Engine
  | .nop _ | .endStream _ | .br _ _ | .call _ _ | .ret _ | .jmpr _ _ _ | .loop _ _ _ _ | .loopx _ _ _ _ | .add _ _ _ _
  | .addW _ _ _ _ | .sub _ _ _ _ | .subW _ _ _ _ | .addi _ _ _ _ | .lui _ _ _ | .li32 _ _ _ | .and _ _ _ _ | .or _ _ _ _
  | .xor _ _ _ _ | .andi _ _ _ _ | .ori _ _ _ _ | .xori _ _ _ _ | .shl _ _ _ _ | .shlW _ _ _ _ | .shr _ _ _ _ | .shrW _ _ _ _
  | .sra _ _ _ _ | .sraW _ _ _ _ | .shli _ _ _ _ | .shri _ _ _ _ | .srai _ _ _ _ | .min _ _ _ _ | .minW _ _ _ _ | .max _ _ _ _
  | .maxW _ _ _ _ | .minn _ _ _ _ | .minnW _ _ _ _ | .maxn _ _ _ _ | .maxnW _ _ _ _ | .sel _ _ _ _ _ | .mov _ _ _
  | .addsh _ _ _ _ _ | .agen2 _ _ _ _ | .clz _ _ _ | .clzW _ _ _ | .popc _ _ _ | .popcW _ _ _ | .cmpEq _ _ _ _ _ _
  | .cmpNe _ _ _ _ _ _ | .cmpLt _ _ _ _ _ _ | .cmpGe _ _ _ _ _ _ | .cmpLtn _ _ _ _ _ _ | .cmpGen _ _ _ _ _ _
  | .cmpTst _ _ _ _ _ _ | .cmpNtst _ _ _ _ _ _ | .cmpiEq _ _ _ _ _ _ | .cmpiNe _ _ _ _ _ _ | .cmpiLt _ _ _ _ _ _
  | .cmpiGe _ _ _ _ _ _ | .cmpiLtn _ _ _ _ _ _ | .cmpiGen _ _ _ _ _ _ | .cmpiTst _ _ _ _ _ _ | .pand _ _ _ _ | .por _ _ _ _
  | .pxor _ _ _ _ | .pnot _ _ _ | .pmov _ _ _ | .pandn _ _ _ _ | .bfx _ _ _ _ | .bfxn _ _ _ _ | .bfi _ _ _ _ | .fshr _ _ _ _ _ _
  | .mul _ _ _ _ | .mulW _ _ _ _ | .mulh _ _ _ _ | .mulhn _ _ _ _ | .div _ _ _ _ | .divW _ _ _ _ | .divn _ _ _ _
  | .divnW _ _ _ _ | .rem _ _ _ _ | .remW _ _ _ _ | .remn _ _ _ _ | .remnW _ _ _ _ | .pfd _ _ _ _ | .pfi _ _ _ _
  | .hint2 _ _ _ _ _ | .hint3 _ _ _ _ _ | .hint4 _ _ _ _ _ | .hint5 _ _ _ _ _ | .hint6 _ _ _ _ _ | .hint7 _ _ _ _ _ => [.core, .copy, .front]
  | .ldB _ _ _ _ | .ldBn _ _ _ _ | .ldH _ _ _ _ | .ldHn _ _ _ _ | .ldW _ _ _ _ | .ldWn _ _ _ _ | .ldD _ _ _ _ | .stB _ _ _ _
  | .stH _ _ _ _ | .stW _ _ _ _ | .stD _ _ _ _ | .ldaD _ _ _ _ | .stlD _ _ _ _ | .getx _ _ _ | .setx _ _ _ | .vadd _ _ _ _ _ _ _
  | .vaddSat _ _ _ _ _ _ _ | .vsub _ _ _ _ _ _ _ | .vsubSat _ _ _ _ _ _ _ | .vmul _ _ _ _ _ _ _ | .vmulHi _ _ _ _ _ _ _
  | .vfma _ _ _ _ _ _ _ | .vfms _ _ _ _ _ _ _ | .vfnma _ _ _ _ _ _ _ | .vmin _ _ _ _ _ _ _ | .vmax _ _ _ _ _ _ _
  | .vabs _ _ _ _ _ | .vneg _ _ _ _ _ | .vcmpEq _ _ _ _ _ _ _ _ | .vcmpNe _ _ _ _ _ _ _ _ | .vcmpLt _ _ _ _ _ _ _ _
  | .vcmpLe _ _ _ _ _ _ _ _ | .vcmpGt _ _ _ _ _ _ _ _ | .vcmpGe _ _ _ _ _ _ _ _ | .vcmpUn _ _ _ _ _ _ _ _
  | .vcmpOrd _ _ _ _ _ _ _ _ | .vsel _ _ _ _ _ _ _ | .vcvt _ _ _ _ _ _ _ | .vscl _ _ _ _ _ _ _ | .vsclS _ _ _ _ _ _
  | .vrcp _ _ _ _ _ | .vrsq _ _ _ _ _ | .vredAdd _ _ _ _ _ | .vredMin _ _ _ _ _ | .vredMax _ _ _ _ _ | .vredAnd _ _ _ _ _
  | .vredOr _ _ _ _ _ | .vredXor _ _ _ _ _ | .vpermIdx _ _ _ _ _ _ _ | .vpermRot _ _ _ _ _ _ _ | .vpermRev _ _ _ _ _
  | .vpermZip _ _ _ _ _ _ _ | .vpermUnzip _ _ _ _ _ _ _ | .vbcast _ _ _ _ _ _ _ | .vbcastS _ _ _ _ | .vlut _ _ _ _ _ _ _
  | .vand _ _ _ _ _ _ _ | .vor _ _ _ _ _ _ _ | .vxor _ _ _ _ _ _ _ | .vshl _ _ _ _ _ _ _ | .vshr _ _ _ _ _ _ _
  | .vshrA _ _ _ _ _ _ _ | .vmad _ _ _ _ _ _ _ | .vpopc _ _ _ _ _ | .vmovq _ _ _ _ _ | .qrd _ _ _ _ | .qrdS _ _ _ _
  | .qwr _ _ _ _ _ | .qwrS _ _ _ _ _ | .tdef _ _ _ _ _ _ | .tfree _ _ | .tmov _ _ _ _ _ | .tmovK _ _ _ _ _ | .tqryW0 _ _ _
  | .tqryW1 _ _ _ | .cpl _ _ _ _ _ | .cps _ _ _ _ _ | .cpacc _ _ _ _ _ | .cpaccr _ _ _ _ | .cpcasW _ _ _ _ | .cpcasD _ _ _ _
  | .cpmeta _ _ _ _ | .cpmc _ _ _ _ | .resp _ _ | .respPk _ _ | .chpush _ _ _ _ _ | .chpop _ _ _ _ | .chpopPk _ _ _ _
  | .chqry _ _ _ | .tstep _ _ _ _ _ | .tstepSp _ _ _ _ _ | .tcfg _ _ _ | .tswap _ _ | .tdrain _ _ _ | .tresumeRepl _ _ _
  | .tresumeDisc _ _ | .tresumeAbort _ _ | .tcbk _ _ _ _ | .scaccRow _ _ _ _ | .scaccCol _ _ _ _ | .scaccBlk _ _ _ _
  | .tsoundOn _ | .tsoundOff _ | .tsoundNow _ | .fenceAcq _ _ | .fenceRel _ _ | .fenceSc _ _ | .waitc _ _ _ _ _ _ | .gbar _ _
  | .gbarArr _ _ | .signal _ _ _ | .signalW _ _ _ | .spawn _ _ _ | .modeGuarded _ | .modeExposed _ | .cairnSet _ _ _ _
  | .cairnRoll _ _ | .cairnDrop _ _ | .lfdone _ _ | .trap _ _ | .eret _ _ | .bkpt _ _ | .haltx _ _ => [.core]
  | .cpy1d _ _ _ _ | .cpy2d _ _ _ _ _ _ | .cpy3d _ _ _ _ _ _ | .zero _ _ _ _ _ | .fill _ _ _ _ _ _ _ | .acc _ _ _ _ _
  | .accr _ _ _ _ _ | .casW _ _ _ _ | .casD _ _ _ _ | .gather _ _ _ _ _ _ _ | .scatter _ _ _ _ _ _ _ | .mcast _ _ _ _ _
  | .wake _ _ _ | .seq _ _ | .link _ _ _ => [.copy]
  | .pkgetW _ _ _ | .pkgetD _ _ _ | .shdr _ _ _ | .shdw _ _ _ | .emtask _ _ _ _ | .emlaunch _ _ _ | .emlaunchCfg _ _ _ _
  | .sigwaitLe _ _ _ | .sigwaitLt _ _ _ | .sigwaitEq _ _ _ | .sigwaitNe _ _ _ | .delta _ _ _ _ | .abortPkt _ | .abortQueue _
  | .complete _ _ _ _ | .barrier => [.front]
  | .bundleIssue | .queueWaitTimeout | .loadDataReturn | .storePerformed | .qrdLanding | .lateAccessRefusal | .waitcComplete
  | .fenceComplete | .modeDrainDone | .gbarPhaseComplete | .taskEndDrained | .copyStart | .copyGranule | .copyComplete
  | .copyTranslationFault | .slotTranslationFault | .chainRegister | .chainEntryRead | .chainCommandComplete | .taskCancelAtHead
  | .bindFresh | .bindRestore | .bindPreempt | .slotStopped | .slotSaveDone | .tenantScrub | .stepArm | .stepRowWritten
  | .stepComplete | .scaccDone | .tcfgLoadDone | .segmentSwitch | .drainEmpty | .siteFire | .collarTrapDelivery
  | .hardwareRollback | .channelPark | .channelWake | .sumpRefill | .sumpGrant | .sumpDecline | .sumpSpillFault | .deadlockScan
  | .landfall | .deadlineHardStop | .packetStart | .packetBudget | .sigwaitReread | .emlaunchGroupsFree | .cfgTrapTimeout
  | .launchRetire | .packetRetire | .hostWrite | .hostRead | .hostTail | .hostAck | .hostFaultRetry | .hostFaultAbort
  | .hostRetransmit | .hostLinkLoss | .hostLinkUp | .mgmtStatus | .mgmtQdesc | .mgmtQprog | .mgmtQtear | .mgmtChopen
  | .mgmtChclose | .mgmtNodemap | .mgmtTxinv | .mgmtPtpdom | .mgmtCounters | .mgmtLinktrain | .mgmtFence | .mgmtAttest
  | .mgmtBaseimg | .mgmtPower | .mgmtSensors | .txinvPages | .txinvChart | .txinvAsid | .txinvAll | .txinvDone | .registerWrite
  | .ptpMessage | .ptpHoldover | .remotePacketArrival | .remoteAckArrival | .remoteResendTimeout | .remoteRefusal
  | .destinationUnreachable | .flitCrcRetry | .linkLossOfLock | .linkFlitErrorRate | .linkRemoved | .correctedError
  | .uncorrectableError | .backgroundScrub | .channelRemap | .tileRetire | .throttleStep | .carrierThrottle | .thermalTrip
  | .coldReset | .illegalWord | .resultLands | .stepPreloadDone | .stepRowEnters | .spareTakeoverDone | .linkTrained
  | .railOutOfRange => []

/-- R247: `a` is taken before `b`: in the first pass, of words and rendezvous whose age has reached the limit, the oldest; else the
best by role, then by age. Ties in age go to the lower slot. -/
def goesFirst (limit : Nat) (a b : Rank) : Prop :=
  let older := b.age < a.age ∨ (a.age = b.age ∧ a.slot < b.slot)
  (limit ≤ a.age ∧ (b.age < limit ∨ older)) ∨ (a.age < limit ∧ b.age < limit ∧ (a.role < b.role ∨ (a.role = b.role ∧ older)))

/-- R247: rendezvous `a` is taken before single word `b`: `b` is left to the third pass, or both are aged and `a` is older. -/
def bundleFirst (limit : Nat) (a b : Rank) : Prop :=
  b.age < limit ∨ (limit ≤ a.age ∧ (b.age < a.age ∨ (a.age = b.age ∧ a.slot < b.slot)))

/-- R247: no word of the core has issued from cluster `x` in this cycle. -/
def idleCluster (s : State) (k x : Nat) : Prop := ∀ e ∈ s.issued, coreKey e.1 = coreKey k → e.2 ≠ x

/-- R22, R29, R244: a word of stream `x` of slot `k` comes in its order: no word of a later core of the tile has issued or trapped
before it in this cycle, and no word of a later stream of the slot, nor has a load of one landed. -/
def comesInOrder (s : State) (k x : Nat) : Prop :=
  (∀ e ∈ s.issued ++ s.tripped, e.1 / 8 = k / 8 → e.1 / 4 % 2 ≤ k / 4 % 2) ∧
    (∀ e ∈ s.issued ++ s.tripped ++ s.landed, e.1 = k → e.2 ≤ x)

/-- R28, R244: it comes in its turn: in its order, and in guarded mode it writes no register of which a word of the cycle has read an
earlier write of the cycle. -/
def comesInTurn (s : State) (k x : Nat) : Prop :=
  comesInOrder s k x ∧ ((s.slot k).exposed = true ∨ ∀ r ∈ s.writesAt k x, r ∉ (s.slot k).seen)

/-- R247: the complete rendezvous of slot `k` is chosen by all four clusters. Of an aged word and an aged rendezvous of one slot and
one age the word goes first (the model's choice, log entry 142). -/
def bundleChosen (s : State) (k : Nat) : Prop :=
  (∀ y < 4, idleCluster s k y) ∧ ∀ j ∈ s.coreSlots k,
    (j ≠ k → s.rvReady j = true → ¬ goesFirst (s.ageLimit k) (s.rvRank j) (s.rvRank k)) ∧
    (∀ y < 4, s.wordReady j y = true → bundleFirst (s.ageLimit k) (s.rvRank k) (s.wordRank j y))

/-- R247: single word of stream `x` of slot `k` is chosen by its cluster, among the words and rendezvous of the core's slots. -/
def wordChosen (s : State) (k x : Nat) : Prop :=
  idleCluster s k x ∧ ∀ j ∈ s.coreSlots k,
    (s.rvReady j = true → bundleChosen s j → ¬ bundleFirst (s.ageLimit k) (s.rvRank j) (s.wordRank k x)) ∧
    (j ≠ k → s.wordReady j x = true → ¬ goesFirst (s.ageLimit k) (s.wordRank j x) (s.wordRank k x))

end Sys2Proof.Claims
end

