-- ==== Sys2Proof/Safety/Exposed.lean ====
section
/-! DEFINITION. Sys2Proof/Safety/Exposed.lean: the terms of the statements about exposed mode. -/

namespace Sys2Proof.Claims

open Sys2Proof.Machine

/-! ## Exposed mode (R255, R256) -/


/-- In an exposed slot, word `i` issued in slot cycle c gives scalar `d` what `f` makes of the registers at issue, readable at
c + L; until then every word reads the old value, and nothing else changes but the stream's own progress. -/
def WritesExposed (i : Instr) (h : Hdr) (len : Nat) (d : BitVec 5) (f : View → Word) : Prop :=
  ∀ s k x, IssuesExposed s k x i h →
    exec i s = .next (done s (landing s k x (frozenLatency i) [.scalar d (f ((s.slot k).view x))]) k x h len)

/-- As `WritesExposed`, for a predicate: all its lanes. -/
def WritesPredExposed (i : Instr) (h : Hdr) (p : BitVec 3) (f : View → Lanes) : Prop :=
  ∀ s k x, IssuesExposed s k x i h →
    exec i s = .next (done s (landing s k x 1 [.pred p (f ((s.slot k).view x)) (BitVec.allOnes 128)]) k x h 1)

/-- R103 in an exposed slot: both predicates of a compare, the first first. -/
def ComparesExposed (i : Instr) (h : Hdr) (m : BitVec 2) (p e : BitVec 3) (c : View → Bool) : Prop :=
  ∀ s k x, IssuesExposed s k x i h →
    let v := (s.slot k).view x
    let cv : Lanes := BitVec.fill 128 (c v)
    let ev := match m.toNat with
      | 0 => ~~~ cv
      | 1 => v.pred e &&& cv
      | 2 => v.pred e ||| cv
      | _ => v.pred e &&& ~~~ cv
    exec i s = .next (done s (landing s k x 1 [.pred p cv (BitVec.allOnes 128), .pred e ev (BitVec.allOnes 128)]) k x h 1)

/-- R108 in an exposed slot: the trap is taken at issue, and a quotient lands at its latency. -/
def DividesExposed (i : Instr) (h : Hdr) (d : BitVec 5) (b : View → Int) (dividend q : View → Word) : Prop :=
  ∀ s k x, IssuesExposed s k x i h →
    let v := (s.slot k).view x
    (b v = 0 → Traps s k x i 4 (dividend v)) ∧
    (b v ≠ 0 → exec i s = .next (done s (landing s k x (frozenLatency i) [.scalar d (q v)]) k x h 1))

/-- R255: what a result does to its slot when it becomes readable, for scalars and predicates; s0 and p0 stay (R27). -/
def landed (sl : Slot) : PendEff → Slot
  | .scalar d v => if d = 0 then sl else { sl with regs := sl.regs.set d.toNat v }
  | .pred p v _ => if p = 0 then sl else { sl with preds := sl.preds.set p.toNat v }
  | _ => sl

end Sys2Proof.Claims
end

