-- ==== Sys2Proof/Certificates/Slice0/Obligations.lean ====
section
/-! DEFINITION. Sys2Proof/Certificates/Slice0/Obligations.lean: the statements of this model, by the rules of spec/. -/

open Sys2Proof Sys2Proof.Machine Sys2Proof.Claims

/-- R53-R72: words of the spec's own examples decode to the instructions that they encode, and words it calls illegal to
none. -/
def Obligations.SpecWordsDecode : Prop :=
  decode .core 0x1000C850 0 = some (.add ⟨false, 0, false⟩ 3 4 5) ∧
  decode .core 0x12B9CFFF 0 = some (.addi ⟨true, 3, true⟩ 7 7 0x1FF) ∧
  decode .core 0x4200904D 0 = some (.cmpLt ⟨false, 0, false⟩ 0 2 8 9 5) ∧
  decode .core 0x90010989 0 = some (.vadd ⟨false, 0, false⟩ 2 1 3 1 false true) ∧
  decode .copy 0x14018000 0x7FC00000 = some (.li32 ⟨false, 0, false⟩ 6 0x7FC00000) ∧
  decode .front 0x0217FFFB 0 = some (.br ⟨false, 1, false⟩ 0x7FFFB) ∧
  decode .core 0xF000000A 0 = some (.fenceRel ⟨false, 0, false⟩ 2) ∧
  decode .core 0x82020800 0 = some (.ldH ⟨false, 0, false⟩ 8 4 0) ∧
  decode .core 0xD0006800 0 = some (.cpl ⟨false, 0, false⟩ 3 8 false 0) ∧
  decode .core 0xE4000640 0 = some (.tresumeRepl ⟨false, 0, false⟩ 3 4) ∧
  decode .core 0xF5800001 0 = some (.modeExposed ⟨0, false⟩) ∧
  decode .copy 0x8B018E00 0 = some (.wake ⟨0, false⟩ 6 7) ∧
  decode .front 0x86014C00 0 = some (.sigwaitLe ⟨0, false⟩ 5 6) ∧
  decode .core 0x00000000 0 = some (.nop ⟨false, 0, false⟩) ∧
  decode .core 0x1000C853 0 = none ∧ decode .copy 0x7A923456 0 = none ∧ decode .copy 0x9A5E0C80 0 = none ∧
  decode .core 0xFFFFFFFF 0 = none ∧ decode .copy 0xFFFFFFFF 0 = none ∧ decode .front 0xFFFFFFFF 0 = none

/-- Every well-formed instruction that is a word is read back from its encoding by every engine that fetches it; on the
copy engines and the front end a word has S = 0 (R55). Whatever stands after a one-word instruction does not matter.
-/
def Obligations.DecodeReadsEncode : Prop :=
  ∀ (i : Instr) (e : Engine), i.wf = true → e ∈ readBy i → (e = .core ∨ i.rv = false) →
    (∃ w, encode i = [w] ∧ w < 2 ^ 32 ∧ twoWord e w = false ∧ ∀ v, decode e w v = some i) ∨
    (∃ w v, encode i = [w, v] ∧ w < 2 ^ 32 ∧ v < 2 ^ 32 ∧ twoWord e w = true ∧ decode e w v = some i)

/-- One step is one turn of the agenda: of a stream, a command or a packet the word at its PC as its engine decodes it,
and what the turn issues takes the clusters of its core (R247); else an event, or a clock cycle. R451, R452: with the
rails off nothing runs until a cold reset. -/
def Obligations.StepRunsTheDecodedInstruction : Prop :=
  (∀ (s : State), s.power.railsOff = false →
     (s.agenda = [] → step s = .next s.tick) ∧
     ∀ turn rest, s.agenda = turn :: rest →
       let u : State := { s with agenda := rest }
       (turn = .tick → step s = .next u.tick) ∧
       (∀ k x, turn = .stream k x →
         let c := ((s.slot k).stream x).ctl
         let w := bytesWord (Memory.readBytes s.mem (imemAddr k c.pc) 4)
         let v := bytesWord (Memory.readBytes s.mem (imemAddr k (c.pc + 1)) 4)
         let at_ : State := { u with cur := .stream k x, fetched := (w, v) }
         let readable := s.fetchMark k c.pc = none ∧ (twoWordCore w = true → c.loopEnding c.pc = none)
         (∀ i, readable → decode .core w v = some i → i.streamOk x = true → step s = arbitrated u (exec i at_)) ∧
         (¬ readable ∨ decode .core w v = none → step s = arbitrated u (exec .illegalWord at_)) ∧
         (∀ i, decode .core w v = some i → i.streamOk x = false → step s = arbitrated u (exec .illegalWord at_))) ∧
       (∀ id i, turn = .command id →
         let j := s.job id
         let pc := j.prog.ctl.pc
         let w := j.code.getD pc 0
         let v := j.code.getD (pc + 1) 0
         j.busy = false → j.mac = none → pc < j.len → (twoWordCopy w = true → pc + 1 < j.len ∧ j.prog.ctl.loopEnding pc = none) →
         decode .copy w v = some i → inProgram i pc j.len = true →
         step s = arbitrated u (exec i { u with cur := .command id, fetched := (w, v) })) ∧
       (∀ q p i, turn = .queue q → (s.hqueue q).cur = some p →
         let pc := p.prog.ctl.pc
         let w := p.code.getD pc 0
         let v := p.code.getD (pc + 1) 0
         p.still = false → pc < p.code.length → (twoWordFront w = true → pc + 1 < p.code.length ∧ p.prog.ctl.loopEnding pc = none) →
         decode .front w v = some i → inProgram i pc p.code.length = true →
         step s = arbitrated u (settled q (exec i { u with cur := .queue q, fetched := (w, v) }))) ∧
       (∀ i inp, turn = .event i inp → step s = arbitrated u (exec i { u with cur := .none, inp := inp }))) ∧
  (∀ (s : State), s.power.railsOff = true →
     (s.agenda = [] → step s = .fault .railsOff) ∧
     (∀ turn rest, s.agenda = turn :: rest → (∀ inp, turn ≠ .event .coldReset inp) → step s = .fault .railsOff))

/-- R27: a write to s0 or p0 is discarded; s0 reads zero and p0 all ones, on a control core, in a copy command and in a
queue program. A scalar instruction that reads a predicate, by its guard, as SEL or as a loop's condition, tests only
its bit 0. -/
def Obligations.HardwiredRegisters : Prop :=
  (∀ (sl : Slot) (x : Nat), (sl.view x).reg 0 = 0 ∧ (sl.view x).pred 0 = BitVec.allOnes 128) ∧
  (∀ (p : Prog), p.view.reg 0 = 0 ∧ p.view.pred 0 = BitVec.allOnes 128) ∧
  (∀ (s : State) (k : Nat) (e : PendEff), (∃ v, e = .scalar 0 v) ∨ (∃ v m, e = .pred 0 v m) →
    s.land k e = s.setSlot k (s.slot k)) ∧
  (∀ (p : Prog) (e : PendEff), (∃ v, e = .scalar 0 v) ∨ (∃ v m, e = .pred 0 v m) → p.write e = p) ∧
  (∀ (sl : Slot) (x : Nat) (d : BitVec 5), d ≠ 0 → (sl.view x).reg d = sl.regs.get 0 d.toNat) ∧
  (∀ (h : Hdr) (d a b : BitVec 5) (p : BitVec 3),
    Writes (.sel h d a b p) h 1 d (fun v => if (v.pred p).getLsbD 0 then v.reg a else v.reg b) ∧
    EngineWrites (.sel h d a b p) h 1 d (fun v => if (v.pred p).getLsbD 0 then v.reg a else v.reg b)) ∧
  (∀ (u : Uses) (v : View) (g : BitVec 3) (n : Bool), u.always = false → u.stride = 0 →
    wordActive u v g n = ((v.pred g).getLsbD 0 != n)) ∧
  (∀ (c : Ctl) (p q : BitVec 3 → Lanes) (pos next : Nat), (∀ r, (p r).getLsbD 0 = (q r).getLsbD 0) →
    c.advance (fun r => lane0 (p r)) pos next = c.advance (fun r => lane0 (q r)) pos next)

/-- R70, R72: no engine decodes an unassigned OPC, nor 0xFF, so a stream that meets one takes the illegal-instruction
trap; the word of zeros is NOP guarded by p0 on every engine. -/
def Obligations.UnassignedOpcodesAreIllegal : Prop :=
  (∀ w v : Nat, w < 2 ^ 32 →
    let o := w / 2 ^ 24
    ((0x08 ≤ o ∧ o ≤ 0x0F ∨ 0x2B ≤ o ∧ o ≤ 0x3F ∨ 0x5A ≤ o ∧ o ≤ 0x5F ∨ 0x60 ≤ o ∧ o ≤ 0x77 ∨ o = 0xFF) →
      ∀ e, decode e w v = none) ∧
    ((o = 0x8F ∨ 0xB7 ≤ o ∧ o ≤ 0xBF ∨ 0xC9 ≤ o ∧ o ≤ 0xCF ∨ 0xDB ≤ o ∧ o ≤ 0xDF ∨ 0xE8 ≤ o ∧ o ≤ 0xEF ∨ 0xFC ≤ o ∧ o ≤ 0xFE) →
      decode .core w v = none) ∧
    (0x8E ≤ o ∧ o ≤ 0xFE → decode .copy w v = none) ∧
    (0x8B ≤ o ∧ o ≤ 0xFE → decode .front w v = none)) ∧
  (∀ e v, decode e 0 v = some (.nop ⟨false, 0, false⟩)) ∧
  (∀ (s : State) (k x : Nat), s.cur = .stream k x → s.bundle = false → s.mayIssue k x = true →
    let pc := ((s.slot k).stream x).ctl.pc
    let w := bytesWord (Memory.readBytes s.mem (imemAddr k pc) 4)
    s.fetchMark k pc = none → w / 2 ^ 24 = 0xFF →
    exec .illegalWord s = .next (s.setSlot k ((s.slot k).takeTrap x pc 1 (BitVec.ofNat 64 w) false)))

/-- R107, R108: the divides, on a control core in both modes, in a copy command and in a queue program: quotients
truncated toward zero, remainders with the dividend's sign. A zero divisor leaves d as it is: on a core it raises the
precise divide trap with the dividend in TRAPAUX, in both modes, whatever FPCSR holds; in a copy command it ends the
command, and in a queue program the packet, with status ARITH. A divide whose guard is false does nothing. -/
def Obligations.DivideWords : Prop :=
  divideTable Divides ∧ divideTable DividesExposed ∧ divideTable EngineDivides ∧
  divideTable fun i h _ _ _ _ => Skips i h 1 0 ∧
    (∀ s id, s.cur = .command id → (s.job id).busy = false → (readBit (s.job id).prog.preds h.g != h.n) = false →
      let p := (s.job id).prog
      exec i s = .next (s.setJob id { s.job id with prog := passedProg p 1 p.regs p.preds })) ∧
    (∀ s j p, s.cur = .queue j → (s.hqueue j).cur = some p → p.still = false → (readBit p.prog.preds h.g != h.n) = false →
      exec i s = .next (s.setHqueue j { s.hqueue j with
        cur := some { p with prog := passedProg p.prog 1 p.prog.regs p.prog.preds, words := p.words + 1 } }))

/-- R22, R29, R244, R247, R248, R257: a single word or a rendezvous that a turn has issued takes the clusters of its core
when it comes in its turn, nothing holds it, and they choose it, by age, role and slot, among what would issue; else it
does not issue and nothing changes. R255, R251, R258: in an exposed slot a later stream's word that does not issue in this
slot cycle freezes the slot, and a push that finds no place after all traps; the word that leaves exposed mode takes every
free cluster. A turn whose word traps comes in its turn too. Of an aged word and an aged rendezvous of one slot and one
age the word goes first (log entry 142). When an exposed word's queues are judged is log entry 122, and that ages count
from the end of a cycle log entry 23. -/
def Obligations.ClustersChoose : Prop :=
  ∀ (s t : State) (k x : Nat), x < 4 →
    (t.issued = s.issued ++ [(k, x)] →
      let goes := comesInTurn s k x ∧ s.unheld k [x] = true ∧ wordChosen s k x
      ((s.slot k).exposed = false → goes → s.arbitrate t = s.noted t k [x]) ∧
      ((s.slot k).exposed = true → goes →
        (∀ u, s.frozen k x = some u → s.arbitrate t = u) ∧
        (∀ q, s.frozen k x = none → s.overfull t k x = some q →
          s.arbitrate t = { s.trapAt k x 12 (BitVec.ofNat 64 q) with tripped := s.tripped ++ [(k, x)] }) ∧
        (s.frozen k x = none → s.overfull t k x = none → (t.slot k).exposed = true → s.arbitrate t = s.noted t k [x]) ∧
        (s.frozen k x = none → s.overfull t k x = none → (t.slot k).exposed = false → ∃ ys : List Nat,
          s.arbitrate t = { s.noted t k [x] with issued := s.issued ++ ys.map fun y => (k, y) } ∧
          ∀ y, y ∈ ys ↔ y < 4 ∧ (y = x ∨ idleCluster s k y))) ∧
      (¬ goes → s.arbitrate t = s)) ∧
    (t.issued = s.issued → (s.tripOf t = none → s.arbitrate t = t) ∧
      ∀ e, s.tripOf t = some e →
        (comesInOrder s e.1 e.2 → s.suspect e.1 = false → s.arbitrate t = { t with tripped := s.tripped ++ [e] }) ∧
        (¬ comesInOrder s e.1 e.2 ∨ s.suspect e.1 = true → s.arbitrate t = s)) ∧
    (∀ e es, t.issued = s.issued ++ (k, x) :: e :: es → (∀ p ∈ e :: es, p.2 < 4) →
      let xs := ((k, x) :: e :: es).map Prod.snd
      let goes := comesInOrder s k 3 ∧ s.unheld k xs = true ∧ bundleChosen s k
      (goes → s.arbitrate t = { s.noted t k xs with issued := s.issued ++ [(k, 0), (k, 1), (k, 2), (k, 3)] }) ∧
      (¬ goes → s.arbitrate t = s))

/-- R247: each cycle, each cluster of a core issues at most one word: every step keeps it. -/
def Obligations.EveryStepKeepsClustersApart : Prop :=
  ∀ (s t : State), s.clustersApart → step s = .next t → t.clustersApart

/-- R247 holds at reset. -/
def Obligations.ClustersApartAtReset : Prop := State.reset.clustersApart

/-- R33, R120, R248, R352, R391, R447, R450, R452: what holds at READY after a cold reset. That general registers are zero is the
model's choice (log entry 3), as it is that the tables of groups, launches, channels and nodes are empty (log entry 4), and that the
cluster and die scratchpads are zero, which R452 does not name (log entry 7). -/
def Obligations.ResetValues : Prop :=
  let s := State.reset
  (∀ a, Memory.read s.mem a = 0) ∧ s.mtime = 0 ∧
  (∀ k, (s.slot k).phase = .free ∧ (s.slot k).exposed = false ∧ (s.slot k).ops = [] ∧ (∀ q, (s.slot k).queue q = []) ∧
    (∀ r, (s.slot k).regs.get 0 r = 0)) ∧
  (∀ c, s.agelim.get 0x400 c = 0x400) ∧ (∀ d, (s.die d).txinv = 2) ∧ (∀ q, s.hqueue q = {}) ∧
  (∀ t, (s.tile t).ashare = 0 ∧ (s.tile t).steps = [] ∧ (s.tile t).tenant = none) ∧
  s.power.cap = 0x0000000015180A01 ∧ s.power.clock = 33 ∧ s.power.railsOff = false ∧ s.host.ready = true ∧
  s.groups = [] ∧ s.launches = [] ∧ s.chans = [] ∧ s.nodemap = [] ∧ s.issued = []

/-- R82, R99, R100: the adds, subtracts, bitwise words, moves and immediates, in guarded mode. R82, R99: the shifts, by b[5:0],
b[4:0] or an immediate. R82, R99: minima and maxima, signed and natural, and the bit counts. R101, R105-R107: bit fields, the
funnel shift, products, and AGEN2's step, which in a handler looks at the handler's own loops alone (log entry 119). R79, R85, R109:
the no-operation and the hints, in either mode. -/
def Obligations.ScalarValueWords : Prop :=
  (arithmeticTable Writes) ∧
  (shiftTable Writes) ∧
  (minMaxTable Writes) ∧
  (fieldTable Writes) ∧
  (idleTable Passes)

/-- R62, R102, R103: the compare words. R104: the predicate words. -/
def Obligations.CompareAndPredicateWords : Prop :=
  (compareTable Compares) ∧
  (predicateTable WritesPred)

/-- R255, R256: in an exposed slot the result of a scalar or predicate word lands at the word's frozen latency (AGEN2 in a handler
looks at the handler's own loops alone, log entry 119). A result that stands alone for its slot cycle is in its register once
RESULT_LANDS has come in that cycle. The slot cycle count goes on by one once every stream has done its part of the slot cycle, and
stands still before that and while the data of a load or a QRD that is due in the next slot cycle is not there. -/
def Obligations.ExposedResults : Prop :=
  arithmeticTable WritesExposed ∧ shiftTable WritesExposed ∧ minMaxTable WritesExposed ∧ fieldTable WritesExposed ∧
  compareTable ComparesExposed ∧ predicateTable WritesPredExposed ∧
  (∀ (s : State) (k : Nat) (p : Pend),
    (s.slot k).pend = [p] → p.due ≤ (s.slot k).cycle →
    (∀ d v, p.eff = .scalar d v → s.landDue k = s.setSlot k (landed { s.slot k with pend := [] } p.eff)) ∧
    (∀ r v, p.eff = .pred r v (BitVec.allOnes 128) → s.landDue k = s.setSlot k (landed { s.slot k with pend := [] } p.eff))) ∧
  ∀ (s : State) (k : Nat),
    let sl := s.slot k
    let frozen := ∃ o ∈ sl.ops, o.kind.isLoad = true ∧ o.done = false ∧ o.due ≤ sl.cycle + 1
    let allOver := ∀ x < 4, sl.live x = false ∨ sl.cycle < (sl.stream x).next ∨ (sl.stream x).presented = true
    sl.exposed = true → sl.phase = .running → sl.diverting = false → sl.late = [] → sl.gathered = false → s.haltsSlot k = false →
    (∀ p ∈ sl.pend, p.eff.isSys = false) → (∀ x < 4, ∀ m, (sl.stream x).wait ≠ some (.mode m)) →
    (frozen ∨ ¬ allOver → ((s.slotTick k).slot k).cycle = sl.cycle) ∧ (¬ frozen → allOver → ((s.slotTick k).slot k).cycle = sl.cycle + 1)

/-- R54, R94, R115: a word whose guard is false writes no register, predicate, flag or memory, in either mode. R115, R142, R250,
R251: whatever its guard, a word whose counter stands at 63 traps in exposed mode and waits in guarded mode; an active word whose
queues are short traps in exposed mode, on the first operand that it cannot take in the order qa, qb, qd and then the push, and
issues nothing in guarded mode. -/
def Obligations.FalseGuardedWords : Prop :=
  ∀ (h : Hdr) (o : BitVec 19) (r r2 r3 : BitVec 5) (m m2 : BitVec 2) (l : BitVec 9) (c : BitVec 8) (w : BitVec 14) (e : BitVec 32) (i : BitVec 6) (p p2 p3 : BitVec 3) (n n2 n3 n4 n5 : BitVec 4) (b b2 : Bool) (z16 : BitVec 16),
    Skips (.nop h) h 1 0 ∧ Skips (.endStream h) h 1 0 ∧ Skips (.br h o) h 1 0 ∧ Skips (.call h o) h 1 0 ∧
    Skips (.ret h) h 1 0 ∧ Skips (.jmpr h r r2) h 1 0 ∧ Skips (.loop h m l c) h 1 l.toNat ∧
    Skips (.loopx h m l c) h 1 l.toNat ∧ Skips (.add h r r2 r3) h 1 0 ∧ Skips (.addW h r r2 r3) h 1 0 ∧
    Skips (.sub h r r2 r3) h 1 0 ∧ Skips (.subW h r r2 r3) h 1 0 ∧ Skips (.addi h r r2 l) h 1 0 ∧ Skips (.lui h r w) h 1 0 ∧
    Skips (.li32 h r e) h 2 0 ∧ Skips (.and h r r2 r3) h 1 0 ∧ Skips (.or h r r2 r3) h 1 0 ∧ Skips (.xor h r r2 r3) h 1 0 ∧
    Skips (.andi h r r2 l) h 1 0 ∧ Skips (.ori h r r2 l) h 1 0 ∧ Skips (.xori h r r2 l) h 1 0 ∧ Skips (.shl h r r2 r3) h 1 0 ∧
    Skips (.shlW h r r2 r3) h 1 0 ∧ Skips (.shr h r r2 r3) h 1 0 ∧ Skips (.shrW h r r2 r3) h 1 0 ∧
    Skips (.sra h r r2 r3) h 1 0 ∧ Skips (.sraW h r r2 r3) h 1 0 ∧ Skips (.shli h r r2 i) h 1 0 ∧
    Skips (.shri h r r2 i) h 1 0 ∧ Skips (.srai h r r2 i) h 1 0 ∧ Skips (.min h r r2 r3) h 1 0 ∧
    Skips (.minW h r r2 r3) h 1 0 ∧ Skips (.max h r r2 r3) h 1 0 ∧ Skips (.maxW h r r2 r3) h 1 0 ∧
    Skips (.minn h r r2 r3) h 1 0 ∧ Skips (.minnW h r r2 r3) h 1 0 ∧ Skips (.maxn h r r2 r3) h 1 0 ∧
    Skips (.maxnW h r r2 r3) h 1 0 ∧ Skips (.sel h r r2 r3 p) h 1 0 ∧ Skips (.mov h r r2) h 1 0 ∧
    Skips (.addsh h r r2 r3 n) h 1 0 ∧ Skips (.agen2 h r r2 r3) h 1 0 ∧ Skips (.clz h r r2) h 1 0 ∧
    Skips (.clzW h r r2) h 1 0 ∧ Skips (.popc h r r2) h 1 0 ∧ Skips (.popcW h r r2) h 1 0 ∧
    Skips (.cmpEq h m p r r2 p2) h 1 0 ∧ Skips (.cmpNe h m p r r2 p2) h 1 0 ∧ Skips (.cmpLt h m p r r2 p2) h 1 0 ∧
    Skips (.cmpGe h m p r r2 p2) h 1 0 ∧ Skips (.cmpLtn h m p r r2 p2) h 1 0 ∧ Skips (.cmpGen h m p r r2 p2) h 1 0 ∧
    Skips (.cmpTst h m p r r2 p2) h 1 0 ∧ Skips (.cmpNtst h m p r r2 p2) h 1 0 ∧ Skips (.cmpiEq h m p r i p2) h 1 0 ∧
    Skips (.cmpiNe h m p r i p2) h 1 0 ∧ Skips (.cmpiLt h m p r i p2) h 1 0 ∧ Skips (.cmpiGe h m p r i p2) h 1 0 ∧
    Skips (.cmpiLtn h m p r i p2) h 1 0 ∧ Skips (.cmpiGen h m p r i p2) h 1 0 ∧ Skips (.cmpiTst h m p r i p2) h 1 0 ∧
    Skips (.pand h p p2 p3) h 1 0 ∧ Skips (.por h p p2 p3) h 1 0 ∧ Skips (.pxor h p p2 p3) h 1 0 ∧
    Skips (.pnot h p p2) h 1 0 ∧ Skips (.pmov h p p2) h 1 0 ∧ Skips (.pandn h p p2 p3) h 1 0 ∧ Skips (.bfx h r r2 r3) h 1 0 ∧
    Skips (.bfxn h r r2 r3) h 1 0 ∧ Skips (.bfi h r r2 r3) h 1 0 ∧ Skips (.fshr h r r2 r3 b i) h 2 0 ∧
    Skips (.mul h r r2 r3) h 1 0 ∧ Skips (.mulW h r r2 r3) h 1 0 ∧ Skips (.mulh h r r2 r3) h 1 0 ∧
    Skips (.mulhn h r r2 r3) h 1 0 ∧ Skips (.div h r r2 r3) h 1 0 ∧ Skips (.divW h r r2 r3) h 1 0 ∧
    Skips (.divn h r r2 r3) h 1 0 ∧ Skips (.divnW h r r2 r3) h 1 0 ∧ Skips (.rem h r r2 r3) h 1 0 ∧
    Skips (.remW h r r2 r3) h 1 0 ∧ Skips (.remn h r r2 r3) h 1 0 ∧ Skips (.remnW h r r2 r3) h 1 0 ∧
    Skips (.pfd h r r2 l) h 1 0 ∧ Skips (.pfi h r r2 l) h 1 0 ∧ Skips (.hint2 h r r2 r3 n) h 1 0 ∧
    Skips (.hint3 h r r2 r3 n) h 1 0 ∧ Skips (.hint4 h r r2 r3 n) h 1 0 ∧ Skips (.hint5 h r r2 r3 n) h 1 0 ∧
    Skips (.hint6 h r r2 r3 n) h 1 0 ∧ Skips (.hint7 h r r2 r3 n) h 1 0 ∧ Skips (.ldB h r r2 l) h 1 0 ∧
    Skips (.ldBn h r r2 l) h 1 0 ∧ Skips (.ldH h r r2 l) h 1 0 ∧ Skips (.ldHn h r r2 l) h 1 0 ∧ Skips (.ldW h r r2 l) h 1 0 ∧
    Skips (.ldWn h r r2 l) h 1 0 ∧ Skips (.ldD h r r2 l) h 1 0 ∧ Skips (.stB h r r2 l) h 1 0 ∧ Skips (.stH h r r2 l) h 1 0 ∧
    Skips (.stW h r r2 l) h 1 0 ∧ Skips (.stD h r r2 l) h 1 0 ∧ Skips (.ldaD h r r2 l) h 1 0 ∧ Skips (.stlD h r r2 l) h 1 0 ∧
    Skips (.getx h r w) h 1 0 ∧ Skips (.setx h r w) h 1 0 ∧ Skips (.vadd h n n2 n3 n4 b b2) h 1 0 ∧
    Skips (.vaddSat h n n2 n3 n4 b b2) h 1 0 ∧ Skips (.vsub h n n2 n3 n4 b b2) h 1 0 ∧
    Skips (.vsubSat h n n2 n3 n4 b b2) h 1 0 ∧ Skips (.vmul h n n2 n3 n4 b b2) h 1 0 ∧
    Skips (.vmulHi h n n2 n3 n4 b b2) h 1 0 ∧ Skips (.vfma h n n2 n3 n4 b b2) h 1 0 ∧ Skips (.vfms h n n2 n3 n4 b b2) h 1 0 ∧
    Skips (.vfnma h n n2 n3 n4 b b2) h 1 0 ∧ Skips (.vmin h n n2 n3 n4 b b2) h 1 0 ∧ Skips (.vmax h n n2 n3 n4 b b2) h 1 0 ∧
    Skips (.vabs h n n2 n3 b) h 1 0 ∧ Skips (.vneg h n n2 n3 b) h 1 0 ∧ Skips (.vcmpEq h m m2 n n2 n3 b b2) h 1 0 ∧
    Skips (.vcmpNe h m m2 n n2 n3 b b2) h 1 0 ∧ Skips (.vcmpLt h m m2 n n2 n3 b b2) h 1 0 ∧
    Skips (.vcmpLe h m m2 n n2 n3 b b2) h 1 0 ∧ Skips (.vcmpGt h m m2 n n2 n3 b b2) h 1 0 ∧
    Skips (.vcmpGe h m m2 n n2 n3 b b2) h 1 0 ∧ Skips (.vcmpUn h m m2 n n2 n3 b b2) h 1 0 ∧
    Skips (.vcmpOrd h m m2 n n2 n3 b b2) h 1 0 ∧ Skips (.vsel h n n2 n3 n4 b b2) h 1 0 ∧
    Skips (.vcvt h n n2 n3 n4 b n5) h 2 0 ∧ Skips (.vscl h n n2 n3 n4 b b2) h 1 0 ∧ Skips (.vsclS h n n2 n3 n4 b) h 1 0 ∧
    Skips (.vrcp h n n2 n3 b) h 1 0 ∧ Skips (.vrsq h n n2 n3 b) h 1 0 ∧ Skips (.vredAdd h n n2 n3 b) h 1 0 ∧
    Skips (.vredMin h n n2 n3 b) h 1 0 ∧ Skips (.vredMax h n n2 n3 b) h 1 0 ∧ Skips (.vredAnd h n n2 n3 b) h 1 0 ∧
    Skips (.vredOr h n n2 n3 b) h 1 0 ∧ Skips (.vredXor h n n2 n3 b) h 1 0 ∧ Skips (.vpermIdx h n n2 n3 n4 b b2) h 1 0 ∧
    Skips (.vpermRot h n n2 n3 n4 b b2) h 1 0 ∧ Skips (.vpermRev h n n2 n3 b) h 1 0 ∧
    Skips (.vpermZip h n n2 n3 n4 b b2) h 1 0 ∧ Skips (.vpermUnzip h n n2 n3 n4 b b2) h 1 0 ∧
    Skips (.vbcast h n n2 n3 n4 b b2) h 1 0 ∧ Skips (.vbcastS h n n2 n3) h 1 0 ∧ Skips (.vlut h n n2 n3 n4 b b2) h 1 0 ∧
    Skips (.vand h n n2 n3 n4 b b2) h 1 0 ∧ Skips (.vor h n n2 n3 n4 b b2) h 1 0 ∧ Skips (.vxor h n n2 n3 n4 b b2) h 1 0 ∧
    Skips (.vshl h n n2 n3 n4 b b2) h 1 0 ∧ Skips (.vshr h n n2 n3 n4 b b2) h 1 0 ∧ Skips (.vshrA h n n2 n3 n4 b b2) h 1 0 ∧
    Skips (.vmad h n n2 n3 n4 b b2) h 1 0 ∧ Skips (.vpopc h n n2 n3 b) h 1 0 ∧ Skips (.vmovq h n n2 n3 b) h 1 0 ∧
    Skips (.qrd h n r l) h 1 0 ∧ Skips (.qrdS h n r r2) h 1 0 ∧ Skips (.qwr h b n r l) h 1 0 ∧
    Skips (.qwrS h b n r r2) h 1 0 ∧ Skips (.tdef h i r m r2 z16) h 2 0 ∧ Skips (.tfree h i) h 1 0 ∧
    Skips (.tmov h i r m r2) h 1 0 ∧ Skips (.tmovK h i r m r2) h 1 0 ∧ Skips (.tqryW0 h i r) h 1 0 ∧
    Skips (.tqryW1 h i r) h 1 0 ∧ Skips (.cpl h i r b m) h 1 0 ∧ Skips (.cps h i r b m) h 1 0 ∧
    Skips (.cpacc h r r2 r3 n) h 1 0 ∧ Skips (.cpaccr h r r2 n) h 1 0 ∧ Skips (.cpcasW h r r2 r3) h 1 0 ∧
    Skips (.cpcasD h r r2 r3) h 1 0 ∧ Skips (.cpmeta h i r c) h 1 0 ∧ Skips (.cpmc h i r c) h 1 0 ∧ Skips (.resp h r) h 1 0 ∧
    Skips (.respPk h r) h 1 0 ∧ Skips (.chpush h i r b b2) h 1 0 ∧ Skips (.chpop h i r b) h 1 0 ∧
    Skips (.chpopPk h i r b) h 1 0 ∧ Skips (.chqry h i r) h 1 0 ∧ Skips (.tstep h i r b b2) h 1 0 ∧
    Skips (.tstepSp h i r b b2) h 1 0 ∧ Skips (.tcfg h n n2) h 1 0 ∧ Skips (.tswap h n) h 1 0 ∧ Skips (.tdrain h b n) h 1 0 ∧
    Skips (.tresumeRepl h r r2) h 1 0 ∧ Skips (.tresumeDisc h r) h 1 0 ∧ Skips (.tresumeAbort h r) h 1 0 ∧
    Skips (.tcbk h i r r2) h 1 0 ∧ Skips (.scaccRow h i r b) h 1 0 ∧ Skips (.scaccCol h i r b) h 1 0 ∧
    Skips (.scaccBlk h i r b) h 1 0 ∧ Skips (.tsoundOn h) h 1 0 ∧ Skips (.tsoundOff h) h 1 0 ∧ Skips (.tsoundNow h) h 1 0 ∧
    Skips (.fenceAcq h p) h 1 0 ∧ Skips (.fenceRel h p) h 1 0 ∧ Skips (.fenceSc h p) h 1 0 ∧
    Skips (.waitc h n n2 n3 n4 p) h 1 0 ∧ Skips (.gbar h c) h 1 0 ∧ Skips (.gbarArr h c) h 1 0 ∧
    Skips (.signal h r r2) h 1 0 ∧ Skips (.signalW h r r2) h 1 0 ∧ Skips (.spawn h r r2) h 1 0 ∧
    Skips (.modeGuarded { g := h.g, n := h.n }) { h with s := true } 1 0 ∧ Skips (.modeExposed { g := h.g, n := h.n }) { h with s := true } 1 0 ∧ Skips (.cairnSet h r r2 r3) h 1 0 ∧
    Skips (.cairnRoll h r) h 1 0 ∧ Skips (.cairnDrop h r) h 1 0 ∧ Skips (.lfdone h r) h 1 0 ∧ Skips (.trap h w) h 1 0 ∧
    Skips (.eret h b) h 1 0 ∧ Skips (.bkpt h w) h 1 0 ∧ Skips (.haltx h r) h 1 0

/-- R90, R91, R96: the transfer words; each raises the loop trap at the last PC of an active loop of its depth, CALL and
RET the return-stack trap. Of several active loops that end there the trap names the innermost (log entry 118). Of a CALL or RET
that meets both conditions the return-stack trap stands (log entry 24). -/
def Obligations.TransferWords : Prop :=
  ∀ (s : State) (k x : Nat) (h : Hdr) (o : BitVec 19) (d a : BitVec 5),
    let c := ((s.slot k).stream x).ctl
    let up := (c.pc + 1) % 32768
    (Issues s k x (.br h o) h →
      (∀ n, endingHere c = some n → Traps s k x (.br h o) 3 (BitVec.ofNat 64 n)) ∧
      (endingHere c = none → ∃ gone kept, Leaves c (targetOf c.pc o) gone kept ∧ exec (.br h o) s = .next (after s s k x h
        { c with pc := targetOf c.pc o, loops := kept, counts := idled c.counts gone } 1))) ∧
    (Issues s k x (.call h o) h →
      (c.depth = 4 → Traps s k x (.call h o) 2 0) ∧
      (∀ n, c.depth ≠ 4 → endingHere c = some n → Traps s k x (.call h o) 3 (BitVec.ofNat 64 n)) ∧
      (c.depth ≠ 4 → endingHere c = none → exec (.call h o) s = .next (after s s k x h
        { c with pc := targetOf c.pc o, rs := c.rs.set c.depth up, depth := c.depth + 1 } 1))) ∧
    (Issues s k x (.ret h) h →
      (c.depth = 0 → Traps s k x (.ret h) 2 1) ∧
      (∀ n, c.depth ≠ 0 → endingHere c = some n → Traps s k x (.ret h) 3 (BitVec.ofNat 64 n)) ∧
      (c.depth ≠ 0 → endingHere c = none → exec (.ret h) s = .next (after s s k x h
        { c with pc := c.rs.get 0 (c.depth - 1), depth := c.depth - 1, loops := c.loops.filter fun l => l.depth ≤ c.depth - 1,
                 counts := idled c.counts (c.loops.filter fun l => c.depth - 1 < l.depth) } 1))) ∧
    (Issues s k x (.jmpr h d a) h →
      let t := (readScalar (s.slot k).regs a).toNat % 2 ^ 15
      let u := receives s k x 0 d (BitVec.ofNat 64 up)
      (∀ n, endingHere c = some n → Traps s k x (.jmpr h d a) 3 (BitVec.ofNat 64 n)) ∧
      (endingHere c = none → ∃ gone kept, Leaves c t gone kept ∧ exec (.jmpr h d a) s = .next (after s u k x h
        { c with pc := t, loops := kept, counts := idled c.counts gone } 1)))

/-- R92, R94: LOOP and LOOPX. -/
def Obligations.LoopWords : Prop :=
  ∀ (h : Hdr) (n : BitVec 2) (l : BitVec 9) (x : BitVec 8),
    Loops (.loop h n l x) h n l x false ∧ Loops (.loopx h n l x) h n l x true

/-- R86, R96, R383: END stops its stream and discards its loops; the end of the last of the four streams begins the end of
the task, which waits for its counters. -/
def Obligations.EndOfAStream : Prop :=
  ∀ (s : State) (k x : Nat) (h : Hdr), x < 4 → Issues s k x (.endStream h) h →
    let st := (s.slot k).stream x
    let sl := (s.slot k).setStream x { st with ended := true, ctl := { st.ctl with loops := [] } }
    ((∃ y < 4, y ≠ x ∧ ((s.slot k).stream y).ended = false) →
      exec (.endStream h) s = .next (after s (s.setSlot k sl) k x h { st.ctl with loops := [] } 0)) ∧
    ((∀ y < 4, y ≠ x → ((s.slot k).stream y).ended = true) →
      exec (.endStream h) s = .next (after s (s.setSlot k { sl with phase := .ending, ending := some .endOk }) k x h
        { st.ctl with loops := [] } 0))

/-- R56, R84, R108: in a copy command and in a queue program the shared words have the effects they have on a control
core, on the engine's own registers, with one bit per predicate. -/
def Obligations.SharedWordsOnEngines : Prop :=
  arithmeticTable EngineWrites ∧ shiftTable EngineWrites ∧ minMaxTable EngineWrites ∧ fieldTable EngineWrites ∧
    divideTable EngineDivides ∧ compareTable EngineCompares ∧ predicateTable EngineWritesPred ∧ idleTable EnginePasses

/-- R111-R118, R353, R356: the scalar loads at issue, in either mode: of several traps alignment comes first (log entry 112), and a
marked byte traps at issue too (log entry 120). R111-R118, R353, R356: the scalar stores at issue. -/
def Obligations.ScalarMemoryWords : Prop :=
  (∀ (h : Hdr) (d a : BitVec 5) (i : BitVec 9),
     Accesses (.ldB h d a i) h d a i 1 true false false ∧ Accesses (.ldBn h d a i) h d a i 1 false false false ∧
     Accesses (.ldH h d a i) h d a i 2 true false false ∧ Accesses (.ldHn h d a i) h d a i 2 false false false ∧
     Accesses (.ldW h d a i) h d a i 4 true false false ∧ Accesses (.ldWn h d a i) h d a i 4 false false false ∧
     Accesses (.ldD h d a i) h d a i 8 false false false ∧ Accesses (.ldaD h d a i) h d a i 8 false true false) ∧
  (∀ (h : Hdr) (d a : BitVec 5) (i : BitVec 9),
     Accesses (.stB h d a i) h d a i 1 false false true ∧ Accesses (.stH h d a i) h d a i 2 false false true ∧
     Accesses (.stW h d a i) h d a i 4 false false true ∧ Accesses (.stD h d a i) h d a i 8 false false true ∧
     Accesses (.stlD h d a i) h d a i 8 false true true)

/-- R149-R151: the decoupled words at issue, in either mode. -/
def Obligations.DecoupledWords : Prop :=
  ∀ (h : Hdr) (p : Bool) (q : BitVec 4) (a b : BitVec 5) (i : BitVec 9),
    Reads (.qrd h q a i) h q a (fun _ _ => i.toInt * 128) ∧
    Reads (.qrdS h q a b) h q a (fun s k => ((readScalar (s.slot k).regs b).toNat : Int)) ∧
    WritesBack (.qwr h p q a i) h p q a (fun _ _ => i.toInt * 128) ∧
    WritesBack (.qwrS h p q a b) h p q a (fun s k => ((readScalar (s.slot k).regs b).toNat : Int))

/-- R111, R114-R116, R255, R343: LOAD_DATA_RETURN satisfies a piece of a load that may be performed. With its last piece,
in guarded mode, and in exposed mode once the load's slot cycle has come, its register receives the value, extended as the
word says, and ld returns; earlier in exposed mode the value waits for that slot cycle. Nothing else of the slot changes.
R115, R150, R175, R332: STORE_PERFORMED writes exactly the bytes of a piece of a scalar store or a QWR that may be performed,
and returns st with the last. Where no task holds a cairn, nothing else changes but the marks of the memory units written
whole (R453); where one does, memory is written just so too, unless a save faults (R432). R125, R150: QRD_LANDING places the
entry of a QRD whose last piece may be performed in the place its word reserved, with no late trap due, and returns ld; in exposed
mode it waits for its slot cycle. R118, R151: a byte with an uncorrectable error traps the word: a load's precisely, a QRD's late
(while no later word has issued, log entries 120 and 125); R151, R257: a late trap that is due is taken, with the LATE bit, its
stream standing at the word. R454, R257: LATE_ACCESS_REFUSAL of an operation that another package may still refuse, with no later
word issued: its counter returns, a place it reserved is released, an entry it popped is back at the head of its queue, and the
access-fault trap is taken late with the word's ea, for QRD and QWR the lowest refused byte. The split into pieces is as log entry
124 says, and a pending store of the slot gives its bytes to a load whole or not at all (log entry 31). -/
def Obligations.MemoryOperationsEnd : Prop :=
  (∀ (s : State) (o : Op) (d : BitVec 5) (sgn acq : Bool) (ea : Nat) (locs : List (Nat × Nat)) (is : List Nat),
     let k := s.inp.unit
     let sl := s.slot k
     (sl.ops.find? fun p => p.id == s.inp.id) = some o → o.kind = .load d sgn ea locs acq → isPiece o s.inp.a is →
     s.mayPerform k o is = true → (o.remote = true → s.inp.data.length = is.length) →
     (sl.exposed = true ∨ (∀ e ∈ s.issued ++ s.landed, e.1 = k → e.2 ≤ o.x) ∧ (d = 0 ∨ d.toNat ∉ sl.seen)) →
     let o' := withBytes o is (seenBytes s k o is s.inp.data)
     let v := extended ((List.range locs.length).map fun i => o'.got.get 0 i) sgn
     (∀ va, spoilt s k o is = some va → exec .loadDataReturn s = .next (s.setSlot k
       (takenBack (undone sl o) o.x o.ctl o.rv 8 (BitVec.ofNat 64 (va / 8 * 8)) false))) ∧
     (spoilt s k o is = none → ¬ allDone o' → exec .loadDataReturn s = .next (withOp s k o')) ∧
     (spoilt s k o is = none → allDone o' → (sl.exposed = false ∨ o.due ≤ sl.cycle) →
       exec .loadDataReturn s = .next ({ s with landed := s.landed ++ [(k, o.x)] }.setSlot k { returned sl o with
         regs := if d = 0 then sl.regs else sl.regs.set d.toNat v
         wrote := sl.wrote ++ if d = 0 then [] else [d.toNat] })) ∧
     (spoilt s k o is = none → allDone o' → sl.exposed = true → sl.cycle < o.due →
       exec .loadDataReturn s = .next (heldBack (withOp s k o') k o (.loaded o.id d v)))) ∧
  (∀ (s : State) (o : Op) (ea : Nat) (bytes : List Byte) (locs : List (Nat × Nat)) (rel : Bool) (is : List Nat),
     let k := s.inp.unit
     let at_ := is.map fun i => (locs.getD i (0, 0)).1
     let put := at_.zip (is.map fun i => bytes.getD i 0)
     let o' := withBytes o is (is.map fun _ => 0)
     ((s.slot k).ops.find? fun p => p.id == s.inp.id) = some o → o.kind = .store ea bytes locs rel → isPiece o s.inp.a is →
     s.mayPerform k o is = true → o.remote = false →
     (s.cairnHolders = [] → ∃ marks, (∀ m ∈ marks, m ∈ s.marks) ∧
       let t : State := { s with mem := stored s put, marks := marks }
       (allDone o' → exec .storePerformed s = .next (t.setSlot k (returned (s.slot k) o))) ∧
       (¬ allDone o' → exec .storePerformed s = .next (withOp t k o'))) ∧
     (s.cairnFault at_ = none → ∃ t, exec .storePerformed s = .next t ∧ t.mem = stored s put ∧
       (∀ a, a ∉ at_ → Memory.read t.mem a = Memory.read s.mem a) ∧
       (at_.Nodup → (∀ a ∈ at_, s.brokenAt a = false) → at_.map (Memory.read t.mem) = is.map fun i => bytes.getD i 0) ∧
       (allDone o' → (t.slot k).ops = (returned (s.slot k) o).ops) ∧
       (t.slot k).regs = (s.slot k).regs ∧ (t.slot k).preds = (s.slot k).preds)) ∧
  (∀ (s : State),
     let k := s.inp.unit
     let sl := s.slot k
     (∀ o q m ea locs is, sl.late = [] → (sl.ops.find? fun p => p.id == s.inp.id) = some o → o.kind = .qrd q m ea locs → locs ≠ [] →
       isPiece o s.inp.a is → s.mayPerform k o is = true → (o.remote = true → s.inp.data.length = is.length) →
       let o' := withBytes o is (seenBytes s k o is s.inp.data)
       (∀ va, spoilt s k o is = some va →
         exec .qrdLanding s = .next (s.setSlot k (takenLate (undone sl o) o.x o.ctl o.rv 8 (BitVec.ofNat 64 (va / 8 * 8))))) ∧
       (spoilt s k o is = none → ¬ allDone o' → exec .qrdLanding s = .next (withOp s k o')) ∧
       (spoilt s k o is = none → allDone o' →
         ∃ e, entryHas e ((List.range 128).filter fun j => m.getLsbD j) ((List.range locs.length).map fun i => o'.got.get 0 i) ∧
           (sl.exposed = false ∨ o.due ≤ sl.cycle →
             exec .qrdLanding s = .next ({ s with landed := s.landed ++ [(k, o.x)] }.setSlot k { returned sl o with
               queues := sl.queues.set q ((sl.queues.get [] q).map fun p : QPlace => if p.op == o.id && p.val.isNone then { p with val := some e } else p) })) ∧
           (sl.exposed = true → sl.cycle < o.due →
             exec .qrdLanding s = .next (heldBack (withOp s k o') k o (.qloaded o.id q e))))) ∧
     (∀ t, sl.late = [t] → t.due ≤ sl.cycle →
       exec .qrdLanding s = .next (s.setSlot k (takenLate { sl with late := [] } t.x t.ctl t.rv t.cause t.aux)))) ∧
  (∀ (s : State) (o : Op),
     let k := s.inp.unit
     let sl := s.slot k
     (sl.ops.find? fun p => p.id == s.inp.id) = some o → o.done = false → sl.last = some o.at_ →
     (∃ p, o.kind.locs[s.inp.a]? = some p ∧ isRemote p.1 = true) → o.got.find? s.inp.a = none →
     let at_ := match o.kind with
       | .load _ _ ea _ _ => ea
       | .store ea _ _ _ => if o.qwr then o.vas.getD s.inp.a 0 else ea
       | _ => o.vas.getD s.inp.a 0
     exec .lateAccessRefusal s = .next (s.setSlot k (takenLate (undone sl o) o.x o.ctl o.rv 5 (BitVec.ofNat 64 at_))))

/-- R124-R135, R137, R139, R140: the vector words that push: their sources, and the function of Float.lean and Vector.lean
that gives each element. -/
def Obligations.VectorPushWords : Prop :=
  ∀ (h : Hdr) (d a b t k : BitVec 4) (x y : Bool),
    Pushes (.vadd h d a b t y x) h 1 d (src2 a x b y) (fun v rm e =>
      vecMap t (v.lanes h.g h.n) (src e 0) fun j =>
        addElem t rm (elem (strideOf t) (src e 0) j) (elem (strideOf t) (src e 1) j)) ∧
    Pushes (.vaddSat h d a b t y x) h 1 d (src2 a x b y) (fun v rm e =>
      vecMap t (v.lanes h.g h.n) (src e 0) fun j =>
        addSatElem t rm (elem (strideOf t) (src e 0) j) (elem (strideOf t) (src e 1) j)) ∧
    Pushes (.vsub h d a b t y x) h 1 d (src2 a x b y) (fun v rm e =>
      vecMap t (v.lanes h.g h.n) (src e 0) fun j =>
        subElem t rm (elem (strideOf t) (src e 0) j) (elem (strideOf t) (src e 1) j)) ∧
    Pushes (.vsubSat h d a b t y x) h 1 d (src2 a x b y) (fun v rm e =>
      vecMap t (v.lanes h.g h.n) (src e 0) fun j =>
        subSatElem t rm (elem (strideOf t) (src e 0) j) (elem (strideOf t) (src e 1) j)) ∧
    Pushes (.vmul h d a b t y x) h 1 d (src2 a x b y) (fun v rm e =>
      vecMap t (v.lanes h.g h.n) (src e 0) fun j =>
        mulElem t rm (elem (strideOf t) (src e 0) j) (elem (strideOf t) (src e 1) j)) ∧
    Pushes (.vmulHi h d a b t y x) h 1 d (src2 a x b y) (fun v rm e =>
      vecMap t (v.lanes h.g h.n) (src e 0) fun j =>
        mulHiElem t rm (elem (strideOf t) (src e 0) j) (elem (strideOf t) (src e 1) j)) ∧
    Pushes (.vmin h d a b t y x) h 1 d (src2 a x b y) (fun v rm e =>
      vecMap t (v.lanes h.g h.n) (src e 0) fun j =>
        minElem t rm (elem (strideOf t) (src e 0) j) (elem (strideOf t) (src e 1) j)) ∧
    Pushes (.vmax h d a b t y x) h 1 d (src2 a x b y) (fun v rm e =>
      vecMap t (v.lanes h.g h.n) (src e 0) fun j =>
        maxElem t rm (elem (strideOf t) (src e 0) j) (elem (strideOf t) (src e 1) j)) ∧
    Pushes (.vfma h d a b t y x) h 1 d (src3 a x b y d) (fun v rm e =>
      vecMap t (v.lanes h.g h.n) (src e 2) fun j =>
        fmaElem t rm (elem (strideOf t) (src e 0) j) (elem (strideOf t) (src e 1) j) (elem (strideOf t) (src e 2) j)) ∧
    Pushes (.vfms h d a b t y x) h 1 d (src3 a x b y d) (fun v rm e =>
      vecMap t (v.lanes h.g h.n) (src e 2) fun j =>
        fmsElem t rm (elem (strideOf t) (src e 0) j) (elem (strideOf t) (src e 1) j) (elem (strideOf t) (src e 2) j)) ∧
    Pushes (.vfnma h d a b t y x) h 1 d (src3 a x b y d) (fun v rm e =>
      vecMap t (v.lanes h.g h.n) (src e 2) fun j =>
        fnmaElem t rm (elem (strideOf t) (src e 0) j) (elem (strideOf t) (src e 1) j) (elem (strideOf t) (src e 2) j)) ∧
    Pushes (.vmad h d a b t y x) h 1 d (src3 a x b y d) (fun v rm e =>
      vecMap t (v.lanes h.g h.n) (src e 2) fun j =>
        madElem t rm (elem (strideOf t) (src e 0) j) (elem (strideOf t) (src e 1) j) (elem (strideOf t) (src e 2) j)) ∧
    Pushes (.vabs h d a t x) h 1 d (src1 a x) (fun v rm e =>
      vecMap t (v.lanes h.g h.n) (src e 0) fun j => absElem t rm (elem (strideOf t) (src e 0) j)) ∧
    Pushes (.vneg h d a t x) h 1 d (src1 a x) (fun v rm e =>
      vecMap t (v.lanes h.g h.n) (src e 0) fun j => negElem t rm (elem (strideOf t) (src e 0) j)) ∧
    Pushes (.vrcp h d a t x) h 1 d (src1 a x) (fun v rm e =>
      vecMap t (v.lanes h.g h.n) (src e 0) fun j => rcpElem t rm (elem (strideOf t) (src e 0) j)) ∧
    Pushes (.vrsq h d a t x) h 1 d (src1 a x) (fun v rm e =>
      vecMap t (v.lanes h.g h.n) (src e 0) fun j => rsqElem t rm (elem (strideOf t) (src e 0) j)) ∧
    Pushes (.vpopc h d a t x) h 1 d (src1 a x) (fun v rm e =>
      vecMap t (v.lanes h.g h.n) (src e 0) fun j => popcElem t rm (elem (strideOf t) (src e 0) j)) ∧
    Pushes (.vmovq h d a t x) h 1 d (src1 a x) (fun v _ e =>
      vecMap t (v.lanes h.g h.n) (src e 0) fun j => (elem (strideOf t) (src e 0) j, 0)) ∧
    Pushes (.vsel h d a b t y x) h 1 d (src2 a x b y) (fun v _ e =>
      vecSelect t (v.lanes h.g h.n) (src e 0) (src e 1)) ∧
    Pushes (.vscl h d a b t y x) h 1 d (src2 a x b y) (fun v rm e =>
      vecMap t (v.lanes h.g h.n) (src e 0) fun j =>
        sclElem t rm (elem (strideOf t) (src e 0) j) (fromCode true (8 * strideOf t) (elem (strideOf t) (src e 1) j))) ∧
    Pushes (.vsclS h d a k t x) h 1 d (src1 a x) (fun v rm e =>
      vecMap t (v.lanes h.g h.n) (src e 0) fun j => sclElem t rm (elem (strideOf t) (src e 0) j) (v.reg (k.setWidth 5)).toInt) ∧
    Pushes (.vredAdd h d a t x) h 1 d (src1 a x) (fun v rm e =>
      vecReduce t (v.lanes h.g h.n) rm .add (src e 0)) ∧
    Pushes (.vredMin h d a t x) h 1 d (src1 a x) (fun v rm e =>
      vecReduce t (v.lanes h.g h.n) rm .min (src e 0)) ∧
    Pushes (.vredMax h d a t x) h 1 d (src1 a x) (fun v rm e =>
      vecReduce t (v.lanes h.g h.n) rm .max (src e 0)) ∧
    Pushes (.vredAnd h d a t x) h 1 d (src1 a x) (fun v rm e =>
      vecReduce t (v.lanes h.g h.n) rm .and (src e 0)) ∧
    Pushes (.vredOr h d a t x) h 1 d (src1 a x) (fun v rm e =>
      vecReduce t (v.lanes h.g h.n) rm .or (src e 0)) ∧
    Pushes (.vredXor h d a t x) h 1 d (src1 a x) (fun v rm e =>
      vecReduce t (v.lanes h.g h.n) rm .xor (src e 0)) ∧
    Pushes (.vpermIdx h d a b t y x) h 1 d (src2 a x b y) (fun v _ e =>
      vecMap t (v.lanes h.g h.n) (src e 0) fun j => (elem (strideOf t) (src e 0) (elem (strideOf t) (src e 1) j % elems t), 0)) ∧
    Pushes (.vpermRot h d a b t y x) h 1 d (src2 a x b y) (fun v _ e =>
      vecMap t (v.lanes h.g h.n) (src e 0) fun j =>
        (elem (strideOf t) (src e 0) ((j + elem (strideOf t) (src e 1) 0) % elems t), 0)) ∧
    Pushes (.vpermRev h d a t x) h 1 d (src1 a x) (fun v _ e =>
      vecMap t (v.lanes h.g h.n) (src e 0) fun j => (elem (strideOf t) (src e 0) (elems t - 1 - j), 0)) ∧
    Pushes (.vpermZip h d a b t y x) h 1 d (src2 a x b y) (fun v _ e =>
      vecMap t (v.lanes h.g h.n) (src e 0) fun j => (elem (strideOf t) (if j % 2 = 0 then src e 0 else src e 1) (j / 2), 0)) ∧
    Pushes (.vpermUnzip h d a b t y x) h 1 d (src2 a x b y) (fun v _ e =>
      vecMap t (v.lanes h.g h.n) (src e 0) fun j =>
        (if 2 * j < elems t then elem (strideOf t) (src e 0) (2 * j) else elem (strideOf t) (src e 1) (2 * j - elems t), 0)) ∧
    Pushes (.vbcast h d a b t y x) h 1 d (src2 a x b y) (fun v _ e =>
      vecMap t (v.lanes h.g h.n) (src e 0) fun _ => (elem (strideOf t) (src e 0) (elem (strideOf t) (src e 1) 0 % elems t), 0)) ∧
    Pushes (.vbcastS h d k t) h 1 d [] (fun v _ _ =>
      vecMap t (v.lanes h.g h.n) 0 fun _ => ((v.reg (k.setWidth 5)).toNat % 2 ^ (8 * strideOf t), 0)) ∧
    Pushes (.vlut h d a b t y x) h 1 d (src2 a x b y) (fun v _ e =>
      vecMap t (v.lanes h.g h.n) 0 fun j => (elem (strideOf t) (src e 1) (elem 1 (src e 0) j % elems t), 0)) ∧
    Pushes (.vand h d a b t y x) h 1 d (src2 a x b y) (fun v _ e =>
      vecMap t (v.lanes h.g h.n) (src e 0) fun j => (elem (strideOf t) (src e 0) j &&& elem (strideOf t) (src e 1) j, 0)) ∧
    Pushes (.vor h d a b t y x) h 1 d (src2 a x b y) (fun v _ e =>
      vecMap t (v.lanes h.g h.n) (src e 0) fun j => (elem (strideOf t) (src e 0) j ||| elem (strideOf t) (src e 1) j, 0)) ∧
    Pushes (.vxor h d a b t y x) h 1 d (src2 a x b y) (fun v _ e =>
      vecMap t (v.lanes h.g h.n) (src e 0) fun j => (elem (strideOf t) (src e 0) j ^^^ elem (strideOf t) (src e 1) j, 0)) ∧
    Pushes (.vshl h d a b t y x) h 1 d (src2 a x b y) (fun v rm e =>
      vecMap t (v.lanes h.g h.n) (src e 0) fun j =>
        shlElem t rm (elem (strideOf t) (src e 0) j) (elem (strideOf t) (src e 1) j)) ∧
    Pushes (.vshr h d a b t y x) h 1 d (src2 a x b y) (fun v rm e =>
      vecMap t (v.lanes h.g h.n) (src e 0) fun j =>
        shrElem t rm (elem (strideOf t) (src e 0) j) (elem (strideOf t) (src e 1) j)) ∧
    Pushes (.vshrA h d a b t y x) h 1 d (src2 a x b y) (fun v rm e =>
      vecMap t (v.lanes h.g h.n) (src e 0) fun j =>
        sraElem t rm (elem (strideOf t) (src e 0) j) (elem (strideOf t) (src e 1) j))

/-- R122, R123, R126: the entry an element-wise word pushes: active elements take the result, cut to the element, and the
others the merge value; only active elements raise flags. R128, R130-R132, R135: what the integer words compute from
elements `x`, `y` and `c`, with no flag. -/
def Obligations.VectorElements : Prop :=
  (∀ (t : BitVec 4) (m : Lanes) (merge : Entry) (f : Nat → Nat × BitVec 5) (j : Nat), t.toNat ≤ 10 → j < 128 / strideOf t →
     let r := vecMap t m merge f
     r.entry.toNat / 2 ^ (8 * strideOf t * j) % 2 ^ (8 * strideOf t) =
       (if m.getLsbD (j * strideOf t) then (f j).1 % 2 ^ (8 * strideOf t)
        else merge.toNat / 2 ^ (8 * strideOf t * j) % 2 ^ (8 * strideOf t)) ∧
     r.flags[j]? = some (j, if m.getLsbD (j * strideOf t) then (f j).2 else 0)) ∧
  (∀ (t : BitVec 4) (rm : Rnd) (x y c : Nat), vecI t = true → x < 2 ^ width t → y < 2 ^ width t → c < 2 ^ width t →
     let X := elemInt t x
     let Y := elemInt t y
     addElem t rm x y = (elemCut t (X + Y), 0) ∧
     addSatElem t rm x y = (elemCut t (max (elemMin t) (min (elemMax t) (X + Y))), 0) ∧
     subElem t rm x y = (elemCut t (X - Y), 0) ∧
     subSatElem t rm x y = (elemCut t (max (elemMin t) (min (elemMax t) (X - Y))), 0) ∧
     mulElem t rm x y = (elemCut t (X * Y), 0) ∧
     mulHiElem t rm x y = (elemCut t (X * Y / 2 ^ width t), 0) ∧
     minElem t rm x y = (elemCut t (min X Y), 0) ∧
     maxElem t rm x y = (elemCut t (max X Y), 0) ∧
     madElem t rm x y c = (elemCut t (elemInt t c + X * Y), 0) ∧
     absElem t rm x = (elemCut t (if X < 0 then -X else X), 0) ∧
     negElem t rm x = (elemCut t (-X), 0) ∧
     shlElem t rm x y = ((if y < width t then x * 2 ^ y % 2 ^ width t else 0), 0) ∧
     shrElem t rm x y = ((if y < width t then x / 2 ^ y else 0), 0) ∧
     sraElem t rm x y = (elemCut t ((if 2 ^ (width t - 1) ≤ x then (x : Int) - 2 ^ width t else x) / 2 ^ y), 0) ∧
     popcElem t rm x = (((List.range (width t)).filter fun j => x.testBit j).length, 0))

/-- R127, R268: a number that a wide format holds is rounded to itself in every rounding mode, with no flag. -/
def Obligations.HeldNumbersRoundToThemselves : Prop :=
  ∀ (f : WFmt) (rm : Rnd) (c : Nat), f = fp32 ∨ f = fp16 ∨ f = bf16 → c < 2 ^ f.width →
    ∀ sg m e, f.read c = .num sg m e → f.round rm sg m e = (c, 0)

/-- R61, R62, R124-R128, R136: the vector compares. -/
def Obligations.VectorCompareWords : Prop :=
  ∀ (h : Hdr) (p m : BitVec 2) (a b t : BitVec 4) (x y : Bool), t.toNat ≤ 9 → t.toNat ≠ 3 →
    let s := src2 a x b y
    VCompares (.vcmpEq h p m a b t y x) h p m s t .eq ∧ VCompares (.vcmpNe h p m a b t y x) h p m s t .ne ∧
    VCompares (.vcmpLt h p m a b t y x) h p m s t .lt ∧ VCompares (.vcmpLe h p m a b t y x) h p m s t .le ∧
    VCompares (.vcmpGt h p m a b t y x) h p m s t .gt ∧ VCompares (.vcmpGe h p m a b t y x) h p m s t .ge ∧
    VCompares (.vcmpUn h p m a b t y x) h p m s t .un ∧ VCompares (.vcmpOrd h p m a b t y x) h p m s t .ord

/-- R138, R256, R271: VCVT through a format register that sets no legal format traps as an illegal word; any other converts its
low elements and leaves zero above them, in exposed mode with latency 4. An integer that is too large for FP16 raises OF too (log
entry 150). -/
def Obligations.ConversionWord : Prop :=
  ∀ (h : Hdr) (d a ts td f : BitVec 4) (x : Bool) (s : State) (k xx : Nat), Issues s k xx (.vcvt h d a ts td x f) h →
    let fr := (s.tile (k / 8)).fmt.get 0 f.toNat
    let narrow := ts.toNat = 3 ∨ td.toNat = 3
    let big := max (strideOf ts) (strideOf td)
    let b := strideOf td
    (narrow ∧ fmtOk fr = false → Traps s k xx (.vcvt h d a ts td x f) 1
      (BitVec.ofNat 64 (s.fetched.1 + s.fetched.2 * 2 ^ 32))) ∧
    (¬ (narrow ∧ fmtOk fr = false) → ∃ out : View → Rnd → List Entry → VRes,
      (∀ v rm e j, j < 128 / b →
        (out v rm e).entry.toNat / 2 ^ (8 * b * j) % 2 ^ (8 * b) =
          (if j < 128 / big ∧ ((readPred (s.slot k).preds h.g).getLsbD (j * big) != h.n) = true then
            (converted rm fr ts td ((e.getD 0 0).toNat / 2 ^ (8 * strideOf ts * j) % 2 ^ (8 * strideOf ts))).1 % 2 ^ (8 * b)
           else 0)) ∧
      (∀ v rm e j, j < 128 / big → (out v rm e).flags[j]? = some (j,
        if ((readPred (s.slot k).preds h.g).getLsbD (j * big) != h.n) = true then
          (converted rm fr ts td ((e.getD 0 0).toNat / 2 ^ (8 * strideOf ts * j) % 2 ^ (8 * strideOf ts))).2 else 0)) ∧
      (let sl := s.slot k
       let te := sl.fpcsr.extractLsb' 10 5
       let r := out (sl.view xx) (sl.fpcsr.extractLsb' 5 2) [entryAt sl a 0]
       let fl := flagsTogether r.flags
       (fl &&& te = 0 → exec (.vcvt h d a ts td x f) s =
         .next (done s (pushed s k xx 4 d.toNat (leave sl.queues (src1 a x)) r.entry fl) k xx h 2)) ∧
       (fl &&& te ≠ 0 → exec (.vcvt h d a ts td x f) s =
         .next (done s (s.setSlot k (trapsLater s k xx 4 10 (flagTrapAux te r.flags))) k xx h 2))))

/-- R32-R38, R119, R120, R256: GETX reads a system register into a scalar, in exposed mode with latency 2, and changes nothing else.
R7, R32, R34, R38, R119-R121: SETX writes FPCSR, a format register of the tile, or a channel handle, and nothing else, as its cycle
ends, with the flags of that cycle ORed into FPCSR; a value the register refuses traps, with the value in TRAPAUX. -/
def Obligations.SystemRegisterWords : Prop :=
  (∀ (h : Hdr) (d : BitVec 5) (r : BitVec 14) (s : State) (k x : Nat), Issues s k x (.getx h d r) h → sysReadable r.toNat = true →
     exec (.getx h d r) s = .next (done s (receives s k x 2 d (systemRegister s k r.toNat)) k x h 1)) ∧
  (∀ (h : Hdr) (d : BitVec 5) (r : BitVec 14) (s : State) (k x : Nat), Issues s k x (.setx h d r) h → sysWritable r.toNat = true →
     let v := readScalar (s.slot k).regs d
     let n := r.toNat
     (valueRefused n v → Traps s k x (.setx h d r) 1 v) ∧
     (¬ valueRefused n v → exec (.setx h d r) s = .next (done s (s.setSlot k { s.slot k with
       pend := (s.slot k).pend ++ [{ due := if (s.slot k).exposed then (s.slot k).cycle + 1 else (s.slot k).cycle
                                     x := x, eff := .sysreg n v }] }) k x h 1))) ∧
  (∀ (s : State) (k x n due : Nat) (v : Word), sysWritable n = true →
     (s.slot k).pend = [{ due := due, x := x, eff := .sysreg n v }] →
     let t := s.slotTick k
     (n = 1 → (t.slot k).fpcsr = v ||| (s.slot k).raised.setWidth 64 ∧ (t.slot k).chans = (s.slot k).chans) ∧
     (0x10 ≤ n → n < 0x20 → t.tile (k / 8) = { s.tile (k / 8) with fmt := (s.tile (k / 8)).fmt.set (n - 0x10) (BitVec.ofNat 32 v.toNat) } ∧
       (t.slot k).fpcsr = (s.slot k).fpcsr) ∧
     (0x40 ≤ n → (t.slot k).chans = (s.slot k).chans.set (n - 0x40) (BitVec.ofNat 32 v.toNat) ∧ (t.slot k).fpcsr = (s.slot k).fpcsr) ∧
     (t.slot k).regs = (s.slot k).regs ∧ (t.slot k).preds = (s.slot k).preds ∧ (t.slot k).queues = (s.slot k).queues ∧ t.mem = s.mem)

/-- R148, R168, R333: the fences: one waits while an operation that it orders is outstanding, and for a release while a
copy command of the slot's task is under way (log entry 19). R146, R169: WAITC: a copy-status record set when the cp limit
is reached raises the copy-status trap and is cleared, whatever the other limits; else the word waits until each counter
is at or below its limit, and completes with nothing changed. R148, R170, R378: the group barrier. A group that is not the
slot's traps. A GBAR that has not arrived waits for its release, then arrives and waits; GBAR.ARR arrives and goes on. A
GBAR that has arrived goes on once its phase is over. How the arrivals of a fast member are told apart is log entry 43. -/
def Obligations.WaitingWords : Prop :=
  (∀ (h : Hdr) (e : BitVec 3),
     Fences (.fenceAcq h e) h 0 e ∧ Fences (.fenceRel h e) h 1 e ∧ Fences (.fenceSc h e) h 2 e) ∧
  (∀ (h : Hdr) (a b c d : BitVec 4) (e : BitVec 3) (s : State) (k x : Nat), Issues s k x (.waitc h a b c d e) h →
     let i := Instr.waitc h a b c d e
     let sl := s.slot k
     let met := countOf sl 0 ≤ a.toNat ∧ countOf sl 1 ≤ b.toNat ∧ countOf sl 2 ≤ c.toNat ∧ countOf sl 3 ≤ d.toNat
     let clear := sl.copyStatus = none ∨ c.toNat < countOf sl 2
     (¬ met → clear → exec i s = .next (waiting s k x (.waitc a.toNat b.toNat c.toNat d.toNat))) ∧
     (met → sl.copyStatus = none → exec i s = .next (done s s k x h 1)) ∧
     (∀ st off, countOf sl 2 ≤ c.toNat → sl.copyStatus = some (st, off) → exec i s = .next (s.setSlot k
       (({ sl with copyStatus := none } : Slot).takeTrap x (sl.stream x).ctl.pc 18 (BitVec.ofNat 64 (st * 2 ^ 56 + off % 2 ^ 56)) false)))) ∧
  (∀ (h : Hdr) (g : BitVec 8) (s : State) (k x : Nat),
     let sl := s.slot k
     let st := sl.stream x
     let came := fun a : Nat × Nat × Nat => a.1 = st.ctl.pc ∧ a.2.1 = g.toNat
     (Issues s k x (.gbar h g) h →
       (groupOf s k g.toNat = none → Traps s k x (.gbar h g) 19 (BitVec.ofNat 64 g.toNat)) ∧
       (∀ gr a, groupOf s k g.toNat = some gr → st.arrived = some a → came a →
         (gr.phase ≤ a.2.2 → exec (.gbar h g) s = .next (waiting s k x .gbar)) ∧
         (a.2.2 < gr.phase →
           exec (.gbar h g) s = .next (done s (s.setSlot k (sl.setStream x { st with arrived := none })) k x h 1))) ∧
       (∀ gr, groupOf s k g.toNat = some gr → (∀ a, st.arrived = some a → ¬ came a) →
         (¬ fenceFree s k 1 5 → exec (.gbar h g) s = .next (waiting s k x (.fence 1 5 0))) ∧
         (fenceFree s k 1 5 → ∃ t, exec (.gbar h g) s = .next t ∧ t.groups = s.groups.set g.toNat (arrivedAt gr (k / 8)) ∧
           (t.slot k).stream x = { st with wait := some .gbar
                                           arrived := some (st.ctl.pc, g.toNat, gr.arrived.get 0 (k / 8) / max 1 gr.count) } ∧
           (t.slot k).ops = sl.ops ∧ (t.slot k).regs = sl.regs ∧ t.mem = s.mem))) ∧
     (Issues s k x (.gbarArr h g) h →
       (groupOf s k g.toNat = none → Traps s k x (.gbarArr h g) 19 (BitVec.ofNat 64 g.toNat)) ∧
       (∀ gr, groupOf s k g.toNat = some gr → (∀ a, st.arrived = some a → ¬ came a) → fenceFree s k 1 5 →
         ∃ cr, exec (.gbarArr h g) s = .next (done s { s with
           groups := s.groups.set g.toNat (arrivedAt gr (k / 8)), nextId := s.nextId + 1, crossings := cr } k x h 1))))

/-- R173, R255, R258: the MODE words, issued from a slot of either mode; no other slot of the core is exposed then, since
none may issue beside one. What becomes of results that are still on their way is log entry 19. -/
def Obligations.ModeWords : Prop :=
  ∀ (g : Grd), Switches (.modeGuarded g) { s := true, g := g.g, n := g.n } false ∧
    Switches (.modeExposed g) { s := true, g := g.g, n := g.n } true

/-- R233: what a trap that a slot takes outside a handler writes: the cause, stream, PC and auxiliary word, LATE and
XSAVE; the slot is in guarded mode, the trapped stream stands at its trap entry with its loops set aside for ERET, and
every other stream keeps its PC; a word of the same cycle that was to trap late has no effect, and its stream stands
before it. An absent entry ends the task FAULTED; inside a handler any trap but a collar trap, which waits (R234), ends it
DOUBLETRAP, and the PC of no stream moves. Nothing else of the slot changes but what R245 says of presented words and
waits. Which of several late traps of one cycle stands is log entry 16. -/
def Obligations.TrapEntry : Prop :=
  ∀ (sl : Slot) (x pc cause : Nat) (aux : Word) (late : Bool), x < 4 → cause < 256 →
    let t := sl.takeTrap x pc cause aux late
    let frame := t.regs = sl.regs ∧ t.preds = sl.preds ∧ t.queues = sl.queues ∧ t.chans = sl.chans ∧ t.fpcsr = sl.fpcsr ∧
      t.ops = sl.ops ∧ t.pend = sl.pend ∧ t.resp = sl.resp ∧ t.cairns = sl.cairns ∧ t.task = sl.task ∧ t.cycle = sl.cycle
    let before := fun y => match sl.late.reverse.find? fun u => u.x == y with
      | some u => u.ctl
      | none => (sl.stream y).ctl
    frame ∧ t.late = [] ∧ t.trap.cause.toNat = cause ∧ t.trap.stream.toNat = x ∧ t.trap.pc = pc ∧ t.trap.aux = aux ∧ t.trap.late = late ∧
    t.trap.inHandler = true ∧
    (∀ y, y ≠ x → (t.stream y).ctl = before y ∧ (t.stream y).ended = (sl.stream y).ended) ∧
    (sl.trap.inHandler = true → cause ≠ 26 → t.phase = .ending ∧ t.ending = some .doubleTrap ∧ (t.stream x).ctl = before x) ∧
    (sl.trap.inHandler = false → t.trap.xsave = sl.exposed ∧ t.exposed = false ∧
      t.trap.depth = (before x).depth ∧ t.trap.held = (before x).loops ∧
      (∀ e, sl.task.trapEntry.find? x = some e → t.phase = sl.phase ∧
        (t.stream x).ctl = { before x with pc := e, loops := [] } ∧ (t.stream x).presented = false ∧
        (t.stream x).wait = none) ∧
      (sl.task.trapEntry.find? x = none → t.phase = .ending ∧ t.ending = some .faulted))

/-- R176, R235, R246, R354: TRAP, BKPT, HALTX and LFDONE. R236, R246: ERET. Outside a handler it is an illegal word. With
XSAVE it waits for the drain; then, or at once, the handler ends, the mode is the one the trap left, and the stream goes
on where the trap stands, past the trapped word with SKIP but for a collar trap, with its loops and its return-stack depth
as they were; of the trap's own fields only IN changes, and CPEND, which says whether a collar trap waits (R231, R236). With a
further collar trap waiting, the first in site order is delivered to the T stream at once (R200, R236, R292). -/
def Obligations.TrapAndEndWords : Prop :=
  (∀ (h : Hdr) (n : BitVec 14) (d : BitVec 5) (s : State) (k x : Nat),
     let sl := s.slot k
     (Issues s k x (.trap h n) h → Traps s k x (.trap h n) 27 (BitVec.ofNat 64 n.toNat)) ∧
     (Issues s k x (.bkpt h n) h →
       (sl.debug = false → Traps s k x (.bkpt h n) 28 (BitVec.ofNat 64 n.toNat)) ∧
       (sl.debug = true → ∃ t data, exec (.bkpt h n) s = .next t ∧ t.slot k = { sl with broke := true } ∧ t.mem = s.mem ∧
         (t.devOut.get {} 2).unacked = (s.devOut.get {} 2).unacked ++
           [{ seq := (s.devOut.get {} 2).seq, type := 6, data := data, sent := s.mtime.toNat }])) ∧
     (Issues s k x (.haltx h d) h → exec (.haltx h d) s = .next (after s
       (s.setSlot k { sl with phase := .ending, ending := some (.haltx (BitVec.ofNat 32 (readScalar sl.regs d).toNat)) })
       k x h (sl.stream x).ctl 0)) ∧
     (Issues s k x (.lfdone h d) h →
       (sl.lfrun = false → Traps s k x (.lfdone h d) 21 0) ∧
       (sl.lfrun = true → exec (.lfdone h d) s = .next (after s
         (s.setSlot k { sl with validity := some (readScalar sl.regs d), phase := .ending
                                ending := some (.landed (readScalar sl.regs d)) })
         k x h (sl.stream x).ctl 0)))) ∧
  (∀ (h : Hdr) (skip : Bool) (s : State) (k x : Nat), Issues s k x (.eret h skip) h →
     let i := Instr.eret h skip
     let sl := s.slot k
     let t := sl.trap
     let st := sl.stream x
     let drained := sl.ops = [] ∧ (∀ q ∈ sl.queues, ∀ p ∈ q.2, p.val.isSome = true)
     let w := s.imemWord k t.pc
     let past := if skip = true ∧ t.cause ≠ 26 then (if twoWordCore w then 2 else 1) else 0
     (t.inHandler = false → Traps s k x i 1 (BitVec.ofNat 64 s.fetched.1)) ∧
     (t.inHandler = true → t.xsave = true → ¬ drained → exec i s = .next (waiting s k x (.eret skip))) ∧
     let heldAt := fun e => ((s.tile (e / 4)).segs.get {} (e % 4)).trapped
     let back := if t.xsave = true then recounted sl else sl
     let mode := if t.xsave = true then true else sl.exposed
     (t.inHandler = true → (t.xsave = true → drained) → (∀ e ∈ sl.collarTraps, heldAt e = none) →
       ∃ u, exec i s = .next u ∧
         (u.slot k).trap = { t with inHandler := false, held := [], cpend := false } ∧
         (u.slot k).exposed = mode ∧
         ((u.slot k).stream x).ctl = { st.ctl with pc := (t.pc + past) % 32768, depth := t.depth, loops := t.held } ∧
         ((u.slot k).stream x).rvCount =
           st.rvCount + (if skip = true ∧ t.cause ≠ 26 ∧ w / 2 ^ 23 % 2 = 1 then 1 else 0) ∧
         (∀ y, y ≠ x → ((u.slot k).stream y).ctl = (sl.stream y).ctl) ∧
         (u.slot k).regs = sl.regs ∧ (u.slot k).preds = sl.preds ∧ (u.slot k).queues = back.queues ∧ (u.slot k).fpcsr = sl.fpcsr ∧
         u.mem = s.mem) ∧
     (∀ e h', t.inHandler = true → (t.xsave = true → drained) → sl.late = [] → e ∈ sl.collarTraps → heldAt e = some h' →
       (∀ f ∈ sl.collarTraps, (heldAt f).isSome = true → f ≠ e → e % 4 < f % 4) →
       ∃ u, exec i s = .next u ∧
         (u.slot k).trap.inHandler = true ∧ (u.slot k).trap.late = true ∧ (u.slot k).trap.cause = 26 ∧
         (u.slot k).trap.stream = 2 ∧ (u.slot k).trap.xsave = mode ∧
         (u.slot k).trap.pc = (if x = 2 then (t.pc + past) % 32768 else (sl.stream 2).ctl.pc) ∧
         (u.slot k).trap.aux = BitVec.ofNat 64 (h'.site + e % 4 * 2 ^ 8 + h'.seq * 2 ^ 16) ∧
         ((u.slot k).trap.cpend = true ↔ ∃ f ∈ sl.collarTraps, f ≠ e ∧ (heldAt f).isSome = true) ∧
         (u.slot k).collarTraps = sl.collarTraps.filter (· ≠ e) ∧ (u.slot k).exposed = false ∧
         (u.slot k).regs = sl.regs ∧ (u.slot k).preds = sl.preds ∧ (u.slot k).queues = back.queues ∧ u.mem = s.mem))

/-- R145, R164: RESP takes the head response, RESP.PK leaves it: a status that is not OK traps, and is consumed by both;
an empty queue underflows; a response still to come is waited for. In exposed mode its latency is 2 (R256). -/
def Obligations.ResponseWords : Prop :=
  ∀ (h : Hdr) (d : BitVec 5) (keep : Bool) (s : State) (k x : Nat),
    let i := if keep then Instr.respPk h d else Instr.resp h d
    let sl := s.slot k
    Issues s k x i h →
      (sl.resp = [] → Traps s k x i 11 16) ∧
      (∀ op rest, sl.resp = { op := op, val := none } :: rest → exec i s = .next s) ∧
      (∀ op v a rest, sl.resp = { op := op, val := some (0, v, a) } :: rest → exec i s = .next (done s
        (receives (s.setSlot k { sl with resp := if keep then sl.resp else rest }) k x 2 d v) k x h 1)) ∧
      (∀ op st v a rest, sl.resp = { op := op, val := some (st, v, a) } :: rest → st ≠ 0 →
        exec i s = .next (s.setSlot k (({ sl with resp := rest } : Slot).takeTrap x (sl.stream x).ctl.pc 8
          (BitVec.ofNat 64 (st * 2 ^ 56 + a % 2 ^ 56)) false)))

/-- R148, R174, R175: CAIRN.SET makes the lowest free cairn live over a legal range, once its release is done, and
CAIRN.DROP frees a cairn and gives its saved granules back to the die's reserve. CAIRN.SET reports a misaligned base
first, then a length, then the range (log entry 112), and the cairn's number is in its register at issue (log entry 44). -/
def Obligations.CairnWords : Prop :=
  ∀ (h : Hdr) (d a b : BitVec 5) (s : State) (k x : Nat),
    let sl := s.slot k
    let base := readScalar sl.regs a
    let len := readScalar sl.regs b
    let va := base.toNat % 2 ^ 56
    let n := len.toNat
    (Issues s k x (.cairnSet h d a b) h →
      let i := Instr.cairnSet h d a b
      let inside := va + n ≤ 0xFF000000000000 ∨ cairnWindow k va n = true
      let sized := n % 256 = 0 ∧ 256 ≤ n ∧ n ≤ 2 ^ 30
      (va % 256 ≠ 0 → Traps s k x i 6 (BitVec.ofNat 64 va)) ∧
      (va % 256 = 0 → ¬ sized → Traps s k x i 6 len) ∧
      (va % 256 = 0 → sized → ¬ inside → Traps s k x i 5 (BitVec.ofNat 64 va)) ∧
      (va % 256 = 0 → sized → inside → (∀ j < 4, (sl.cairns.find? j).isSome = true) → Traps s k x i 20 0) ∧
      (∀ j < 4, va % 256 = 0 → sized → inside → sl.cairns.find? j = none → (∀ m < j, (sl.cairns.find? m).isSome = true) →
        (¬ fenceFree s k 1 5 → exec i s = .next (waiting s k x (.fence 1 5 0))) ∧
        (fenceFree s k 1 5 → ∃ cr,
          exec i s = .next (done s (receives (({ s with nextId := s.nextId + 1, crossings := cr } : State).setSlot k { sl with
            cairns := sl.cairns.set j { base := va, len := n } }) k x 1 d (BitVec.ofNat 64 j)) k x h 1)))) ∧
    (Issues s k x (.cairnDrop h a) h →
      (sl.cairns.find? base.toNat = none → Traps s k x (.cairnDrop h a) 20 1) ∧
      (∀ c, sl.cairns.find? base.toNat = some c → exec (.cairnDrop h a) s = .next (done s
        (({ s with cairnFree := s.cairnFree.set (k / 64) (s.cairnFree.get 0 (k / 64) + c.saved.length) } : State).setSlot k
          { sl with cairns := sl.cairns.del base.toNat }) k x h 1)))

/-- R20, R152-R154, R188, R256, R271, R285: TDEF, TFREE and TQRY, of latency 2 in exposed mode; TDEF keeps the plane count that its type has in the tile's
formats at that moment. -/
def Obligations.TileTableWords : Prop :=
  ∀ (hd : Hdr) (u : BitVec 6) (a d : BitVec 5) (l : BitVec 2) (ty : BitVec 5) (p : BitVec 16) (s : State) (k x : Nat),
    let h := u.toNat
    (Issues s k x (.tdef hd u a l ty p) hd →
      let i := Instr.tdef hd u a l ty p
      let w := readScalar (s.slot k).regs a
      let e := described (s.tile (k / 8)).fmt k w ty.toNat l.toNat p.toNat
      ((entryOf s k h).state ≠ 0 → OwnerStops i s k x h) ∧
      ((entryOf s k h).state = 0 ∨ Owns s k h → entryRefused s k w e → Traps s k x i 13 w) ∧
      ((entryOf s k h).state = 0 ∨ Owns s k h → ¬ entryRefused s k w e → exec i s = .next (done s (withEntry s k h e) k x hd 2))) ∧
    (Issues s k x (.tfree hd u) hd →
      ((entryOf s k h).state = 0 → exec (.tfree hd u) s = .next (done s s k x hd 1)) ∧
      ((entryOf s k h).state ≠ 0 → OwnerStops (.tfree hd u) s k x h) ∧
      ((entryOf s k h).state ≠ 0 → Owns s k h → exec (.tfree hd u) s = .next (done s (withEntry s k h {}) k x hd 1))) ∧
    (Issues s k x (.tqryW0 hd u d) hd →
      exec (.tqryW0 hd u d) s = .next (done s (receives s k x 2 d (entryWord0 (entryOf s k h))) k x hd 1)) ∧
    (Issues s k x (.tqryW1 hd u d) hd →
      exec (.tqryW1 hd u d) s = .next (done s (receives s k x 2 d (entryWord1 (entryOf s k h))) k x hd 1))

/-- R156-R159, R271, R285: CPL, CPS, TMOV and TMOV.K; TRAPAUX of a misaligned address register is its whole value, and of
two, that of s[k] (log entry 114). TMOV's own checks come after those of alignment (log entry 52). -/
def Obligations.TileCopyWords : Prop :=
  ∀ (hd : Hdr) (u : BitVec 6) (a : BitVec 5) (r : Bool) (l : BitVec 2) (ty : BitVec 5),
    TileCopies (.cpl hd u a r l) hd true u a r l ∧ TileCopies (.cps hd u a r l) hd false u a r l ∧
    TileMoves (.tmov hd u a l ty) hd false u a l ty ∧ TileMoves (.tmovK hd u a l ty) hd true u a l ty

/-- R156, R160, R161: CPMETA loads one metadata bit for each element of a READY entry into the metadata store (the order
of its checks is the model's, log entry 114), and CPMC hands over a multicast whose members the command itself checks.
R162, R163, R171: CPACC, CPACCR, CPCAS, SIGNAL and SIGNAL.W (of several misaligned operands CPACC reports the first of
destination, source and length, log entry 114). R172, R175: SPAWN counts its child in the census from issue on; CAIRN.ROLL
hands over the write-back of a live cairn. -/
def Obligations.TileCommandWords : Prop :=
  (∀ (hd : Hdr) (u : BitVec 6) (a : BitVec 5) (o m : BitVec 8) (s : State) (k x : Nat),
     let h := u.toNat
     let e := entryOf s k h
     let va := readScalar (s.slot k).regs a
     let mp := readScalar (s.slot k).regs (a + 1)
     let n := (e.rows * e.cols + 511) / 512 * 64
     (Issues s k x (.cpmeta hd u a o) hd →
       let i := Instr.cpmeta hd u a o
       (e.state = 0 → Traps s k x i 14 (BitVec.ofNat 64 h)) ∧
       (e.state ≠ 0 → va.toNat % 64 ≠ 0 → Traps s k x i 6 (BitVec.ofNat 64 (va.toNat % 2 ^ 56))) ∧
       (e.state ≠ 0 → va.toNat % 64 = 0 → e.state ≠ 2 → exec i s = .next s) ∧
       (va.toNat % 64 = 0 → e.state = 2 → 262144 < o.toNat * 1024 + n → Traps s k x i 13 (BitVec.ofNat 64 h)) ∧
       (va.toNat % 64 = 0 → e.state = 2 → o.toNat * 1024 + n ≤ 262144 →
         Hands i hd s k x 2 (.cpmeta h) (some (.copy (tileBase (k / 8) + 0x500000 + o.toNat * 1024) (va.toNat % 2 ^ 56) n 1 1 0 0 0 0)) 0 id)) ∧
     (Issues s k x (.cpmc hd u a m) hd →
       let i := Instr.cpmc hd u a m
       PairStops i s k x va mp ∧
       (PairFits va mp → s.heldByStep (k / 8) h = true → exec i s = .next s) ∧
       (PairFits va mp → s.heldByStep (k / 8) h = false →
         Hands i hd s k x 2 (.cpmc h m.toNat) (some (.cpmc (va.toNat % 2 ^ 56) mp.toNat h {} [])) 0 id))) ∧
  (∀ (hd : Hdr) (d a b : BitVec 5) (o : BitVec 4),
     let z := elementBytes o.toNat
     let reg := fun (s : State) (k : Nat) (r : BitVec 5) => (readScalar (s.slot k).regs r).toNat
     (∀ s k x, Issues s k x (.cpacc hd d a b o) hd →
       let i := Instr.cpacc hd d a b o
       let dst := reg s k d
       let src := reg s k a
       let n := reg s k b
       (dst % z ≠ 0 → Traps s k x i 6 (BitVec.ofNat 64 (dst % 2 ^ 56))) ∧
       (dst % z = 0 → src % z ≠ 0 → Traps s k x i 6 (BitVec.ofNat 64 (src % 2 ^ 56))) ∧
       (dst % z = 0 → src % z = 0 → n % z ≠ 0 ∨ 2 ^ 24 < n → Traps s k x i 6 (BitVec.ofNat 64 n)) ∧
       (dst % z = 0 → src % z = 0 → n % z = 0 → n ≤ 2 ^ 24 →
         Hands i hd s k x 2 .cpacc (if n = 0 then none else some (.acc o.toNat (dst % 2 ^ 56) (src % 2 ^ 56) n)) 0 id)) ∧
     OneElement (.cpaccr hd d a o) hd .returning d (fun s k => .op o.toNat z (reg s k a % 2 ^ (8 * z))) z false ∧
     OneElement (.cpcasW hd d a b) hd .returning d (fun s k => .cas 4 (reg s k a) (reg s k b)) 4 false ∧
     OneElement (.cpcasD hd d a b) hd .returning d (fun s k => .cas 8 (reg s k a) (reg s k b)) 8 false ∧
     OneElement (.signal hd d a) hd .signal d (fun s k => .add64 (reg s k a)) 8 false ∧
     OneElement (.signalW hd d a) hd .signal d (fun s k => .op 0 4 (reg s k a % 2 ^ 32)) 4 true) ∧
  (∀ (hd : Hdr) (d a : BitVec 5) (s : State) (k x : Nat),
     let dst := readScalar (s.slot k).regs d
     let src := readScalar (s.slot k).regs a
     let task := (s.slot k).task
     (Issues s k x (.spawn hd d a) hd →
       let i := Instr.spawn hd d a
       (src.toNat % 128 ≠ 0 → Traps s k x i 6 (BitVec.ofNat 64 (src.toNat % 2 ^ 56))) ∧
       (src.toNat % 128 = 0 → dst.toNat % 128 ≠ 0 → Traps s k x i 6 (BitVec.ofNat 64 (dst.toNat % 2 ^ 56))) ∧
       (src.toNat % 128 = 0 → dst.toNat % 128 = 0 →
         Hands i hd s k x 2 .spawn (some (.spawn (dst.toNat % 2 ^ 56) (src.toNat % 2 ^ 56))) task.deadline.toNat
           fun t => t.raiseCensus task.launch 1)) ∧
     (Issues s k x (.cairnRoll hd a) hd →
       let i := Instr.cairnRoll hd a
       ((s.slot k).cairns.find? src.toNat = none → Traps s k x i 20 1) ∧
       (∀ c, (s.slot k).cairns.find? src.toNat = some c → c.lost = true → Traps s k x i 20 2) ∧
       (∀ c, (s.slot k).cairns.find? src.toNat = some c → c.lost = false →
         Hands i hd s k x 2 (.roll src.toNat) (some (.roll [] 0)) 0 id)))

/-- R180, R183-R189, R271: TSTEP and TSTEP.SP. R192-R194: the three forms of SCACC. Where the checks of R204 and R271
stand among those of R186 is log entry 59. -/
def Obligations.StepAndScaleWords : Prop :=
  (∀ (hd : Hdr) (u : BitVec 6) (a : BitVec 5) (emit acc : Bool),
     Arms (.tstep hd u a emit acc) hd false u a emit acc ∧ Arms (.tstepSp hd u a emit acc) hd true u a emit acc) ∧
  (∀ (hd : Hdr) (u : BitVec 6) (a : BitVec 5) (set : Bool),
     Scales (.scaccRow hd u a set) hd 0 u a set ∧ Scales (.scaccCol hd u a set) hd 1 u a set ∧ Scales (.scaccBlk hd u a set) hd 2 u a set)

/-- R181, R195-R199: TCFG, TSWAP and TDRAIN. A switch that may happen does so at once (R196). A TSWAP issued while a
segment drains is marked as later than the TDRAIN: it alone reopens the segment when it is empty (R197, R198). What TCFG
leaves at issue and how the pending words are counted is log entry 60; what a switch waits for, log entry 61. -/
def Obligations.PlaneWords : Prop :=
  ∀ (hd : Hdr) (m n : BitVec 4) (o : Bool) (s : State) (k x : Nat),
    let seg := segOf s k
    let held := s.segHeld (k / 8)
    (Issues s k x (.tcfg hd m n) hd →
      let i := Instr.tcfg hd m n
      let waits := (∃ g < 4, names m g ∧ (seg g).swaps ≠ []) ∨ crowded s k m
      (waits → exec i s = .next s) ∧
      (¬ waits → ∃ t, exec i s = .next (done s t k x hd 1) ∧ Planned s t k x m fun g sg =>
        { sg with shadow := { sg.shadow with valid := false }, loads := sg.loads ++ [(s.nextId, n.toNat, s.cycle + 16 * turn m g)] })) ∧
    (Issues s k x (.tswap hd m) hd →
      let i := Instr.tswap hd m
      let empty := fun g => names m g ∧ (seg g).shadow.valid = false ∧ (seg g).loads = []
      let waits := (∃ g < 4, names m g ∧ (seg g).loads ≠ []) ∨ crowded s k m
      (∀ g < 4, empty g → (∀ j < g, ¬ empty j) → Traps s k x i 24 (BitVec.ofNat 64 (2 ^ g))) ∧
      ((∀ g < 4, ¬ empty g) → waits → exec i s = .next s) ∧
      ((∀ g < 4, ¬ empty g) → ¬ waits → ∃ t, exec i s = .next (done s (t.switchAll (k / 8)) k x hd 1) ∧ Planned s t k x m fun g sg =>
        { sg with swaps := sg.swaps ++ [{ q := (s.tile (k / 8)).stepSeq, op := s.nextId, late := sg.mode == 1 }],
                  mode := if sg.mode = 2 ∧ held g = false then 0 else sg.mode })) ∧
    (Issues s k x (.tdrain hd o m) hd →
      let i := Instr.tdrain hd o m
      (crowded s k m → exec i s = .next s) ∧
      (¬ crowded s k m → ∃ t, exec i s = .next (done s (t.planeDone (k / 8) s.nextId) k x hd 1) ∧ Planned s t k x m fun g sg =>
        let more := { sg with drains := sg.drains ++ [{ open_ := o, op := s.nextId }] }
        if sg.mode = 1 then more
        else if o then { sg with mode := if held g then sg.mode else 0 }
        else if sg.mode = 0 then { more with mode := 1 } else sg))

/-- R201, R202: TRESUME. It names a segment with a trapped site of a step of the slot's own task; any other operand traps.
REPL and DISC resolve the held operation, ABORT flushes and replays the segment. R204-R206, R317, R318: TCBK queues a
table at a codebook unit of the north segment, and TSOUND turns the step records on and off, or writes one now. The order
of TCBK's checks is log entry 59, its data fault log entry 70, and the steps that TSOUND reaches log entry 65. -/
def Obligations.CollarWords : Prop :=
  (∀ (hd : Hdr) (a b : BitVec 5) (s : State) (k x : Nat),
     let v := readScalar (s.slot k).regs a
     let w := readScalar (s.slot k).regs b
     let T := k / 8
     let mine := fun g => ∃ h p, (segOf s k g).trapped = some h ∧ (s.tile T).stepOf h.seq = some p ∧ p.owner = (s.slot k).task.loc
     let does := fun (i : Instr) (t : State) =>
       (¬ (v.toNat < 4 ∧ mine v.toNat) → Traps s k x i 25 v) ∧
       (v.toNat < 4 → mine v.toNat → exec i s = .next (done s t k x hd 1))
     (Issues s k x (.tresumeRepl hd a b) hd → does (.tresumeRepl hd a b) (s.resolveTrap T v.toNat (some w.toNat))) ∧
     (Issues s k x (.tresumeDisc hd a) hd → does (.tresumeDisc hd a) (s.resolveTrap T v.toNat none)) ∧
     (Issues s k x (.tresumeAbort hd a) hd → does (.tresumeAbort hd a) (s.abortSeg T v.toNat))) ∧
  (∀ (hd : Hdr) (u : BitVec 6) (a c : BitVec 5) (s : State) (k x : Nat),
     let T := k / 8
     let ti := s.tile T
     let v := readScalar (s.slot k).regs a
     let e := entryOf s k u.toNat
     let site := c.toNat + 24
     let codebooks := fun n => ti.codebooks.get [] n
     (Issues s k x (.tcbk hd u a c) hd →
       let i := Instr.tcbk hd u a c
       let waits := e.state = 1 ∨ e.state = 3 ∨ s.slotStored k s.nextId = false ∨ 4 ≤ (codebooks site).length
       Checks s k x i
         [(v = 0 ∨ 65535 < v.toNat, 23, v), (e.state = 0, 14, BitVec.ofNat 64 u.toNat),
          (e.rows ≠ 1 ∨ e.cols = 0 ∨ 16 < e.cols ∨ (tyNarrow e.type = false ∧ tyWide e.type = false) ∨ tyUnset ti.fmt e.type = true, 23, v),
          ((segOf s k 1).active.valid = false ∨ ((segOf s k 1).active.site site).kind ≠ 2, 24, 2),
          (e.fault = true ∨ (∃ j < e.cols, ∃ l ∈ elemAddrs ti.fmt T e 0 j, s.marked l = true), 8, BitVec.ofNat 64 u.toNat)]
         ((waits → exec i s = .next s) ∧
          (¬ waits → exec i s = .next (done s (s.setTile T { ti with codebooks := ti.codebooks.set site (codebooks site ++
             [{ vals := (List.range e.cols).map fun j => s.elemAt T ti.fmt e 0 j, type := e.type, blocks := v.toNat }]) }) k x hd 1)))) ∧
     (Issues s k x (.tsoundOn hd) hd → exec (.tsoundOn hd) s = .next (done s (s.setTile T { ti with
       sound := { ti.sound with on := true, since := if ti.sound.on then ti.sound.since else s.nextId } }) k x hd 1)) ∧
     (Issues s k x (.tsoundOff hd) hd → exec (.tsoundOff hd) s = .next (done s (s.setTile T { ti with
       sound := { ti.sound with on := false } }) k x hd 1)) ∧
     (Issues s k x (.tsoundNow hd) hd →
       ((segOf s k 2).active.valid = false → exec (.tsoundNow hd) s = .next (done s s k x hd 1)) ∧
       ((segOf s k 2).active.valid = true →
         let t := s.writeRun (scratchAddr T (segOf s k 2).active.soundRec) (ti.sound.bytes s.mtime)
         exec (.tsoundNow hd) s = .next (done s (t.setTile T { t.tile T with
           sound := { on := ti.sound.on, since := ti.sound.since } }) k x hd 1))))

/-- R38, R148, R166, R402, R407: CHPUSH. After its release the element goes to the ring while the sump is empty and the
ring has a place, else to the tail of the sump; with no place, or frozen, it stalls. R38, R125, R164, R166, R167, R402:
CHPOP takes the ring's oldest element and CHPOP.PK reads it, into a register, or with Q into a tail place of a queue;
CHQRY reads the channel status word. In exposed mode CHPOP with Q has latency 8 (R256), and a place given back to a writer
in another package goes to it as a credit (R409). Reserved bits of a handle are not looked at here (log entry 46), and a
push is released at device scope (log entry 48). -/
def Obligations.ChannelWords : Prop :=
  (∀ (hd : Hdr) (u : BitVec 6) (r : BitVec 5) (keep big : Bool) (s : State) (k x : Nat), r.toNat < 16 ∨ big = false →
     Issues s k x (.chpush hd u r keep big) hd →
     let i := Instr.chpush hd u r keep big
     let sl := s.slot k
     let hv := (sl.chans.get 0 u.toNat).toNat
     let c := channelOf hv
     let ch := s.chan c
     let ok := hv / 2 ^ 30 % 2 = 0 ∧ mayUse s k hv ∧ ch.big = big
     let e := if big then leBytes 128 (entryAt sl (r.setWidth 4) 0).toNat else leBytes 8 (readScalar sl.regs r).toNat
     let qs := if big = true ∧ keep = false then sl.queues.set r.toNat ((sl.queues.get [] r.toNat).drop 1) else sl.queues
     let ring := ch.frozen = false ∧ ch.scnt = 0 ∧ ch.rcnt < ch.rplaces
     let got := { ch with pushed := (ch.pushed + 1) % 2 ^ 64, declined := false }
     let u' := s.touch (c / 4096) ch.asid ch.tailAddr
     (¬ ok → Traps s k x i 17 (BitVec.ofNat 64 hv)) ∧
     (ok → ¬ fenceFree s k 1 5 → exec i s = .next (waiting s k x (.channel none))) ∧
     (ok → fenceFree s k 1 5 → ring → ∃ t, exec i s = .next (done s t k x hd 1) ∧
       t.chan c = { got with rcnt := ch.rcnt + 1 } ∧ t.mem = stored s (run (ringPlace ch c ch.pushed) e) ∧ ChannelFrame s t k c qs) ∧
     (ok → fenceFree s k 1 5 → ¬ ring → ch.canPush = true →
       (∀ l n, u'.sumpPlace c ch.tailAddr .write = .at l n → ∃ t, exec i s = .next (done s t k x hd 1) ∧
         t.chan c = got.grown ∧ t.mem = stored s (run l e) ∧ ChannelFrame s t k c qs) ∧
       ((∀ l n, u'.sumpPlace c ch.tailAddr .write ≠ .at l n) → exec i s = .next (stalled s k x))) ∧
     (ok → fenceFree s k 1 5 → ch.canPush = false → exec i s = .next (stalled (askedFor s c) k x))) ∧
  (∀ (hd : Hdr) (u : BitVec 6) (r : BitVec 5) (big keep : Bool) (s : State) (k x : Nat), r.toNat < 16 ∨ big = false →
     let sl := s.slot k
     let hv := (sl.chans.get 0 u.toNat).toNat
     let c := channelOf hv
     let ch := s.chan c
     let reader := hv / 2 ^ 30 % 2 = 1
     let pop := if keep then Instr.chpopPk hd u r big else Instr.chpop hd u r big
     let size := if ch.big then 128 else 8
     let a := ringPlace ch c ch.popped
     let v := leNat ((List.range size).map fun j => Memory.read s.mem (a + j))
     let marked := ∃ j < size / 8, s.marked (a + 8 * j) = true
     let less : State := { s with chans := s.chans.set c { ch with rcnt := ch.rcnt - 1, popped := (ch.popped + 1) % 2 ^ 64 } }
     let gone := if ch.wend.toNat / 2 ^ 30 % 2 = 1 then less.creditBack c else less
     let t := if keep then s else gone
     (Issues s k x pop hd →
       (¬ (reader ∧ mayUse s k hv ∧ ch.big = big) → Traps s k x pop 17 (BitVec.ofNat 64 hv)) ∧
       (reader → mayUse s k hv → ch.big = big →
         (ch.rcnt = 0 → exec pop s = .next (stalled s k x)) ∧
         (0 < ch.rcnt → marked → exec pop s = .next (gone.setSlot k (sl.takeTrap x (sl.stream x).ctl.pc 8 (BitVec.ofNat 64 hv) false))) ∧
         (0 < ch.rcnt → ¬ marked → big = false → exec pop s = .next (done s (receives t k x 1 r (BitVec.ofNat 64 v)) k x hd 1)) ∧
         (0 < ch.rcnt → ¬ marked → big = true → exec pop s =
           .next (done s (pushed t k x 8 r.toNat sl.queues (BitVec.ofNat 1024 v) 0) k x hd 1)))) ∧
     (Issues s k x (.chqry hd u r) hd →
       (¬ mayUse s k hv → Traps s k x (.chqry hd u r) 17 (BitVec.ofNat 64 hv)) ∧
       (mayUse s k hv → exec (.chqry hd u r) s = .next (done s (receives s k x 1 r (BitVec.ofNat 64 (
         (if reader then ch.rcnt + ch.scnt else ch.rplaces - ch.rcnt) % 2 ^ 32 +
         (if (if reader then ch.wpark else ch.rpark) = true then 2 ^ 61 else 0) + (if 0 < ch.scnt then 2 ^ 62 else 0) +
         (if ch.frozen = true then 2 ^ 63 else 0)))) k x hd 1))))

/-- R208, R217-R223: the words of command programs; pitches of the third dimension stand in the register after the row
pitches. A length of ZERO and FILL is the whole register, and MCAST of length zero looks at its destination all the same
(log entry 117). An illegal LINK ends the command and leaves the chain as it is. A GATHER or SCATTER count above 2^24 is
ILLEGAL (log entry 57). -/
def Obligations.CopyProgramWords : Prop :=
  ∀ (g : Grd) (d a b c p : BitVec 5) (z : BitVec 2) (o : BitVec 4) (x : Bool) (m : BitVec 8) (n : BitVec 17),
    let zb := 2 ^ z.toNat
    let ob := elementBytes o.toNat
    let keep := if b = 0 then none else some b
    CopyRuns (.cpy1d g d a b) g 2 (fun _ _ r => copies (r d) (r a) (r b) 1 1 0 0) ∧
    CopyRuns (.cpy2d g d a b c p) g 2 (fun _ _ r =>
      if 2 ^ 32 ≤ (r c).toNat then .fails 5 else copies (r d) (r a) (r b) (r c).toNat 1 (r p) 0) ∧
    CopyRuns (.cpy3d g d a b c p) g 2 (fun _ _ r =>
      copies (r d) (r a) (r b) ((r c).toNat % 2 ^ 32) ((r c).toNat / 2 ^ 32) (r p) (r (p + 1))) ∧
    CopyRuns (.zero g d b c p) g 2 (fun _ _ r => fills (r d) (r b) 1 0 (c = 0) (r c) (r p)) ∧
    CopyRuns (.fill g d a b z c p) g 2 (fun _ _ r => fills (r d) (r b) zb (r a) (c = 0) (r c) (r p)) ∧
    CopyRuns (.acc g d a b o) g 1 (fun _ _ r =>
      if (r d).toNat % ob ≠ 0 ∨ (r a).toNat % ob ≠ 0 ∨ (r b).toNat % ob ≠ 0 ∨ 2 ^ 24 < (r b).toNat then .fails 2
      else if r b = 0 then .none else .data (.acc o.toNat (va56 (r d)) (va56 (r a)) (r b).toNat) none) ∧
    CopyRuns (.accr g d a b o) g 1 (fun _ _ r => element (r d) (.op o.toNat ob ((r a).toNat % 2 ^ (8 * ob))) ob false keep) ∧
    CopyRuns (.casW g d a b) g 1 (fun _ _ r => element (r d) (.cas 4 (r a).toNat (r b).toNat) 4 false keep) ∧
    CopyRuns (.casD g d a b) g 1 (fun _ _ r => element (r d) (.cas 8 (r a).toNat (r b).toNat) 8 false keep) ∧
    CopyRuns (.gather g d a b z x c) g 2 (fun _ _ r => gathers false x (r d) (r a) (r b) zb (r c)) ∧
    CopyRuns (.scatter g d a b z x c) g 2 (fun _ _ r => gathers true x (r d) (r a) (r b) zb (r c)) ∧
    CopyRuns (.mcast g d a b m) g 2 (fun s _ r =>
      if ¬ castFits (r d).toNat (r a).toNat (r b).toNat then .fails 2
      else if membersOf s m.toNat = [] then .fails 7
      else if r b = 0 then .none
      else .data (.mcast (va56 (r a)) (r b).toNat (r d).toNat (membersOf s m.toNat)) none) ∧
    CopyRuns (.wake g d a) g 1 (fun _ _ r => element (r d) (.op 0 4 ((r a).toNat % 2 ^ 32)) 4 true none) ∧
    CopyRuns (.link g d n) g 2 (fun _ j r =>
      if j.mac.isSome = true ∨ (r d).toNat % 128 ≠ 0 ∨ ¬ ringSize n.toNat then .unlinks else .link (va56 (r d)) n.toNat) ∧
    (∀ s id, s.cur = .command id → (s.job id).busy = false → (readBit (s.job id).prog.preds g.g != g.n) = true →
      let j := s.job id
      let regs := if d = 0 then j.prog.regs else j.prog.regs.set d.toNat (BitVec.ofNat 64 j.seq)
      exec (.seq g d) s = .next (s.setJob id { j with prog := passedProg j.prog 1 regs j.prog.preds }))

/-- R54, R224-R226: PKGET, SHDR, SHDW and DELTA. An index that the load of the program would refuse (R371), a mask with a
bit above 31, or a packet that runs out ends the packet ILLEGAL. R228-R230, R370, R378, R390, R456: SIGWAIT, EMTASK and
the ending words; COMPLETE with a register that is not zero names a signal, the one at address zero too (R83). A read that
an access which has crossed first is ahead of is made at a later turn (R333). -/
def Obligations.QueueProgramWords : Prop :=
  (∀ (g : Grd) (d a b : BitVec 5) (n : BitVec 14),
     (FrontSkips (.pkgetW g d n) g ∧ FrontSkips (.pkgetD g d n) g ∧ FrontSkips (.shdr g d n) g ∧ FrontSkips (.shdw g d n) g ∧
       FrontSkips (.delta g d a b) g) ∧
     ∀ s q p, AtFront s q p → active p g.g g.n →
       let hq := s.hqueue q
       let m := n.toNat
       let r := readScalar p.prog.regs
       let mask := (r a).toNat
       let named := (List.range 32).filter fun j => mask / 2 ^ j % 2 = 1
       let t := s.setHqueue q { hq with sh := filled p hq.sh (r d).toNat named }
       (m < 64 → exec (.pkgetW g d n) s = .next (wentOn s q (some (d, BitVec.ofNat 64 (field p (4 * m) 4))))) ∧
       (64 ≤ m → exec (.pkgetW g d n) s = .next ((counted s q).endPacket q 5)) ∧
       (m < 32 → exec (.pkgetD g d n) s = .next (wentOn s q (some (d, BitVec.ofNat 64 (field p (8 * m) 8))))) ∧
       (32 ≤ m → exec (.pkgetD g d n) s = .next ((counted s q).endPacket q 5)) ∧
       (m < 32 → exec (.shdr g d n) s = .next (wentOn s q (some (d, hq.sh.get 0 m)))) ∧
       (32 ≤ m → exec (.shdr g d n) s = .next ((counted s q).endPacket q 5)) ∧
       (m < 32 → exec (.shdw g d n) s = .next (wentOn (s.setHqueue q { hq with sh := hq.sh.set m (r d) }) q none)) ∧
       (32 ≤ m → exec (.shdw g d n) s = .next ((counted s q).endPacket q 5)) ∧
       (2 ^ 32 ≤ mask → exec (.delta g d a b) s = .next ((counted s q).endPacket q 5)) ∧
       (mask < 2 ^ 32 → named.length = 0 ∨ (r d).toNat + named.length ≤ 32 →
         exec (.delta g d a b) s = .next (wentOn t q (some (b, BitVec.ofNat 64 named.length)))) ∧
       (mask < 2 ^ 32 → named.length ≠ 0 → 32 < (r d).toNat + named.length →
         exec (.delta g d a b) s = .next ((counted t q).endPacket q 5))) ∧
  (∀ (g : Grd) (d a b : BitVec 5),
     SignalWaits (.sigwaitLe g d a) g d a (fun x y => x ≤ y) ∧ SignalWaits (.sigwaitLt g d a) g d a (fun x y => x < y) ∧
     SignalWaits (.sigwaitEq g d a) g d a (fun x y => x = y) ∧ SignalWaits (.sigwaitNe g d a) g d a (fun x y => x ≠ y) ∧
     FrontSkips (.complete g d a b) g ∧ FrontSkips (.abortPkt g) g ∧ FrontSkips (.abortQueue g) g ∧
     ∀ s q p, AtFront s q p →
       let r := readScalar p.prog.regs
       let hq := s.hqueue q
       (active p g.g g.n →
         let sig := va56 (r d)
         (p.comp.isSome = true → exec (.complete g d a b) s = .next ((counted s q).endPacket q 5)) ∧
         (p.comp = none → sig % 8 ≠ 0 → exec (.complete g d a b) s = .next ((counted s q).endPacket q 2)) ∧
         (p.comp = none → sig % 8 = 0 → exec (.complete g d a b) s = .next (wentOn
           (s.setHqueue q { hq with cur := some { p with comp := some (if r d = 0 then none else some sig, r a, r b) } }) q none)) ∧
         exec (.abortPkt g) s = .next ((counted s q).endPacket q 8) ∧
         exec (.abortQueue g) s = .next (((counted ((s.setHqueue q { hq with cur := some { p with ended := some 4 } }).tearQueue q) q).endPacket
           q 4))) ∧
       (let w := s.fetched.1
        let on := active p (BitVec.ofNat 3 (w / 2 ^ 20)) (w.testBit 19)
        (on → exec .barrier s = .next (wentOn (s.setHqueue q { hq with cur := some { p with barrier := true } }) q none)) ∧
        (¬ on → exec .barrier s = .next (wentOn s q none))))

/-- R227, R228, R373, R376, R378, R390: EMTASK, EMLAUNCH and EMLAUNCH.CFG. EMTASK's records stand in memory, each the
image with its own index, and count in the launch's census. EMLAUNCH opens a launch for a packet that has none, waits
while a named group entry is taken, and ends the packet with the status of a refused check. EMLAUNCH.CFG first reads and
checks its delta, then works on one touched tile after another, and opens the launch when the last goes on. A read that an
access which has crossed first is ahead of is made at a later turn (R333). What a waiting EMLAUNCH checks again, and the
chart lines, are log entry 86; EMTASK of no record, log entry 85. -/
def Obligations.LaunchWords : Prop :=
  ∀ (g : Grd) (d a b : BitVec 5),
    FrontSkips (.emtask g d a b) g ∧ FrontSkips (.emlaunch g d a) g ∧ FrontSkips (.emlaunchCfg g d a b) g ∧
    ∀ s q p, AtFront s q p → active p g.g g.n →
      let r := readScalar p.prog.regs
      let dst := (r d).toNat
      let src := (r a).toNat
      let n := (r b).toNat
      let wrong := 4096 < n ∨ dst % 128 ≠ 0 ∨ src % 128 ≠ 0
      let va := va56 (r a)
      let emt := Instr.emtask g d a b
      let eml := Instr.emlaunch g d a
      let emc := Instr.emlaunchCfg g d a b
      let opens := fun (i : Instr) (s : State) (u : State) =>
        (∀ st, u.planLaunch q va = .stop st → exec i s = .next ((counted u q).endPacket q st)) ∧
        (∀ v c k, u.planLaunch q va = .fault v c k → exec i s = .next (faulting u q v c k)) ∧
        (u.planLaunch q va = .hold → exec i s = .next u) ∧
        (∀ plan, u.planLaunch q va = .ok plan →
          ((∃ e ∈ plan.groups, (u.groups.find? e.1).isSome = true) → exec i s = .next (suspended u q .groups)) ∧
          ((∀ e ∈ plan.groups, u.groups.find? e.1 = none) →
            exec i s = .next (wentOn (u.openLaunch q plan).1 q (some (d, BitVec.ofNat 64 u.nextLaunch)))))
      (p.launch = none ∨ wrong → exec emt s = .next ((counted s q).endPacket q 5)) ∧
      (∀ l, p.launch = some l → ¬ wrong → n = 0 → exec emt s = .next (wentOn s q none)) ∧
      (∀ l, p.launch = some l → ¬ wrong → n ≠ 0 → p.emitted = 0 → 4096 ≤ (s.launch l).ranges.length → exec emt s = .next ((counted s q).endPacket q 5)) ∧
      (∀ l L, p.launch = some l → s.launches.find? l = some L → ¬ wrong → n ≠ 0 → p.emitted = 0 → L.ranges.length < 4096 →
        let u := (s.feTouch q src 128).feTouch q dst (128 * n)
        (∀ st, u.feRead q src 128 = .stop st → exec emt s = .next ((counted u q).endPacket q st)) ∧
        (∀ v c k, u.feRead q src 128 = .fault v c k → exec emt s = .next (faulting u q v c k)) ∧
        (u.feRead q src 128 = .hold → exec emt s = .next u) ∧
        (∀ img locs, u.feRead q src 128 = .ok img → u.feReach q .write dst (128 * n) = .ok locs →
          (∀ x ∈ locs, isRemote x = false) → u.cairnFault locs = none → ∃ t, exec emt s = .next (wentOn t q none) ∧
          (t.launch l).census = L.census + n ∧
          (t.launch l).ranges = L.ranges ++ [(dst % 2 ^ 56, (s.hqueue q).asid, n)] ∧
          t.mem = stored u (locs.zip ((List.range n).flatMap fun j =>
            emitRecord img (s.hqueue q).asid l L.deadline.toNat (some j))))) ∧
      (p.launch.isSome = true → exec eml s = .next ((counted s q).endPacket q 5)) ∧
      (p.launch = none → opens eml s (s.touchLaunch q va)) ∧
      (p.launch.isSome = true → exec emc s = .next ((counted s q).endPacket q 5)) ∧
      (p.launch = none → p.wait = some .groups → opens emc s (s.touchLaunch q va)) ∧
      (∀ ps img tiles since, p.launch = none → p.wait = some (.delta ps img tiles since) →
        (∀ t w, s.deltaTurn ps img tiles since = (t, some w) → exec emc s = .next (suspended t q w)) ∧
        (∀ t, s.deltaTurn ps img tiles since = (t, none) → opens emc s (t.touchLaunch q va))) ∧
      (p.launch = none → p.wait = none →
        let u := (s.touchLaunch q va).feTouch q (va56 (r b)) 32
        (∀ st, u.planLaunch q va = .stop st → exec emc s = .next ((counted u q).endPacket q st)) ∧
        (∀ v c k, u.planLaunch q va = .fault v c k → exec emc s = .next (faulting u q v c k)) ∧
        (∀ plan v c k, u.planLaunch q va = .ok plan → u.planDelta q (va56 (r b)) = .fault v c k →
          exec emc s = .next (faulting u q v c k)) ∧
        (∀ plan st, u.planLaunch q va = .ok plan → u.planDelta q (va56 (r b)) = .stop st →
          exec emc s = .next ((counted u q).endPacket q st)) ∧
        (∀ plan img ps item, u.planLaunch q va = .ok plan → u.planDelta q (va56 (r b)) = .ok (img, ps, item) →
          exec emc s = .next (suspended (u.extend 3 item) q
            (.delta ps img ((List.range 64).filter fun t => ps.any fun e => e.tile == t) none))))

/-- R168, R169, R173, R236, R251, R258, R356, R388: what ends a wait runs the waiting word again: QUEUE_WAIT_TIMEOUT after
4,096 cycles on a queue with no reservation, MODE_DRAIN_DONE on a drained slot, SLOT_TRANSLATION_FAULT when the word then
meets a fault (LD.D: its record goes to the host, and it waits with fault service and traps without), WAITC_COMPLETE and
FENCE_COMPLETE, with which a waiting FENCE.REL may also let its stream go on early, since it orders earlier accesses
before later stores alone (R329; log entry 123); a restored exposed slot that has drained re-enters exposed mode. -/
def Obligations.WaitsEnd : Prop :=
  ∀ (s : State),
    let k := s.inp.unit
    let x := s.inp.x
    let sl := s.slot k
    let st := sl.stream x
    let drained := sl.ops = [] ∧ (∀ q ∈ sl.queues, ∀ p ∈ q.2, p.val.isSome = true)
    (∀ i, s.streamNext k x = some i → ¬ atRendezvous s k x →
      (∀ n, st.qsince = some n → 4096 ≤ s.cycle - n → exec .queueWaitTimeout s = .next (s.runAs k x i)) ∧
      (∀ n, st.qsince = some n → s.cycle - n < 4096 → exec .queueWaitTimeout s = .next s) ∧
      (sl.reenter = false → st.wait = some (.mode false) → drained → exec .modeDrainDone s = .next (s.runAs k x i)) ∧
      (sl.reenter = false → st.wait = some (.mode true) → drained → s.otherExposed k = false →
        exec .modeDrainDone s = .next (s.runAs k x i)) ∧
      (∀ b, sl.reenter = false → st.wait = some (.eret b) → drained → s.otherExposed k = false →
        exec .modeDrainDone s = .next (s.runAs k x i)) ∧
      (sl.trap.inHandler = false → sl.late = [] → (∀ o ∈ sl.ops, o.fault = none) → st.serviced = false →
        (((s.runAs k x i).slot k).stream x).serviced = true → exec .slotTranslationFault s = .next (s.runAs k x i))) ∧
    (∀ h d a im va c, let i := Instr.ldD h d a im
      let at_ := turnOf s k x
      let ea := effective at_ k a (im.toInt * 8)
      let bytes := (List.range 8).map fun j => (ea + j) % 2 ^ 56
      let u := at_.touchAll (dieOf k) sl.task.asid bytes
      s.streamNext k x = some i → ¬ atRendezvous s k x → Issues at_ k x i h → sl.trap.inHandler = false → sl.late = [] →
        (∀ o ∈ sl.ops, o.fault = none) →
      u.reach (s.slotWho k) coreParts .read bytes = .fault va c →
      let t := (cached at_ u).faultRecord { va := va, launch := sl.task.launch, asid := sl.task.asid, cause := c, access := 0, agent := 0, who := k }
      (sl.task.fsvc = true → exec .slotTranslationFault s = .next (t.setSlot k (sl.setStream x { st with wait := some (.fault va false) }))) ∧
      (sl.task.fsvc = false → exec .slotTranslationFault s = .next (t.setSlot k (sl.takeTrap x st.ctl.pc 7 (BitVec.ofNat 64 ea) false)))) ∧
    (sl.reenter = true → drained → s.otherExposed k = false → exec .modeDrainDone s = .next (s.setSlot k { recounted sl with
      exposed := true, cycle := 0, streams := restarted sl.streams, reenter := false })) ∧
    (∀ l1 l2 l3 l4 h a b c d e, st.wait = some (.waitc l1 l2 l3 l4) → s.streamNext k x = some (.waitc h a b c d e) →
      ∃ t, exec .waitcComplete s = .next t ∧ exec (.waitc h a b c d e) (turnOf s k x) = .next t) ∧
    (∀ h e, s.inp.a ≠ 0 → (∃ n p u, st.wait = some (.fence n p u)) → s.streamNext k x = some (.fenceRel h e) →
      Issues (turnOf s k x) k x (.fenceRel h e) h → s.crossHeld k 1 e.toNat = false → ∃ t, exec .fenceComplete s = .next t ∧
        (t.slot k).regs = sl.regs ∧ (t.slot k).rels.getLast? = some (e.toNat, s.nextId) ∧ ((t.slot k).stream x).wait = none ∧ t.mem = s.mem) ∧
    (∀ n p u h e i, s.inp.a = 0 → st.wait = some (.fence n p u) → i = .fenceAcq h e ∨ i = .fenceRel h e ∨ i = .fenceSc h e → s.streamNext k x = some i →
      ∃ t, exec .fenceComplete s = .next t ∧ exec i (turnOf s k x) = .next t)

/-- R73, R74, R81, R125, R128, R170, R200, R234, R241-R244, R255, R428: the other events of a slot. An illegal word that a
copy command reaches ends it ILLEGAL; none of its pending data lands, and a LINK before it is dropped (R74; log entry
121), but past its last word it ends with what it did (R208). The conflict of R243 comes before the traps of the bundle's
words (log entry 20). -/
def Obligations.SlotEvents : Prop :=
  ∀ (s : State),
    let k := s.inp.unit
    let sl := s.slot k
    -- RESULT_LANDS: a late trap that is due is taken; else what is due lands
    (∀ t, sl.late = [t] → t.due ≤ sl.cycle →
      exec .resultLands s = .next (s.setSlot k (takenLate { sl with late := [] } t.x t.ctl t.rv t.cause t.aux))) ∧
    (∀ due x d v, sl.late = [] → sl.pend = [{ due := due, x := x, eff := .scalar d v }] → due ≤ sl.cycle →
      exec .resultLands s = .next (s.setSlot k { sl with pend := [], regs := if d = 0 then sl.regs else sl.regs.set d.toNat v })) ∧
    (sl.late = [] → (∀ p ∈ sl.pend, sl.cycle < p.due) → exec .resultLands s = .next (s.setSlot k sl)) ∧
    -- GBAR_PHASE_COMPLETE: once every member has arrived for the phase
    (∀ g, s.groups.find? k = some g → (∀ t ∈ g.members, (g.phase + 1) * g.count ≤ g.arrived.get 0 t) →
      exec .gbarPhaseComplete s = .next { s with groups := s.groups.set k { g with phase := g.phase + 1 } }) ∧
    (∀ g, s.groups.find? k = some g → (∃ t ∈ g.members, g.arrived.get 0 t < (g.phase + 1) * g.count) →
      exec .gbarPhaseComplete s = .next s) ∧
    -- COLLAR_TRAP_DELIVERY: to the T stream; inside a handler CPEND is set
    (sl.collarTraps ≠ [] → sl.diverting = false → sl.phase = .running → sl.trap.inHandler = true →
      exec .collarTrapDelivery s = .next (s.setSlot k { sl with trap := { sl.trap with cpend := true } })) ∧
    (∀ t g held, sl.collarTraps = [4 * t + g] → g < 4 → sl.late = [] → sl.diverting = false → sl.phase = .running → sl.trap.inHandler = false →
      ((s.tile t).segs.get {} g).trapped = some held → ∃ u, exec .collarTrapDelivery s = .next u ∧
        (u.slot k).trap.cause = 26 ∧ (u.slot k).trap.late = true ∧ (u.slot k).trap.stream = 2 ∧
        (u.slot k).trap.pc = (sl.stream 2).ctl.pc ∧ (u.slot k).trap.inHandler = true ∧ (u.slot k).collarTraps = [] ∧
        (u.slot k).trap.aux = BitVec.ofNat 64 (held.site + g * 2 ^ 8 + held.seq * 2 ^ 16) ∧
        ((u.tile t).segs.get {} g).trapped = some { held with delivered := true }) ∧
    -- ILLEGAL_WORD: on a stream, in a command, in a packet
    (∀ j y, s.cur = .stream j y → s.mayIssue j y = true → s.bundle = false →
      let w := s.streamWords j y
      let pc := ((s.slot j).stream y).ctl.pc
      (s.fetchMark j pc = none → exec .illegalWord s = .next (s.setSlot j ((s.slot j).takeTrap y pc 1
        (BitVec.ofNat 64 (w.1 % 2 ^ 32 + if twoWordCore w.1 = true then w.2 % 2 ^ 32 * 2 ^ 32 else 0)) false))) ∧
      (∀ p, s.fetchMark j pc = some p → exec .illegalWord s = .next (s.setSlot j ((s.slot j).takeTrap y pc 8
        (BitVec.ofNat 64 (0x800000 + j / 4 % 2 * 0x20000 + 4 * p)) false)))) ∧
    (∀ id, s.cur = .command id → (s.job id).busy = false →
      let j := s.job id
      let ends := { j with stop := some 5, badWord := j.prog.ctl.pc, badOff := 0 }
      (j.len ≤ j.prog.ctl.pc → exec .illegalWord s = .next (s.setJob id ends)) ∧
      (j.prog.ctl.pc < j.len → exec .illegalWord s = .next (s.setJob id { ends with
        link := none, flights := j.flights.map fun f => { f with closed := true } }))) ∧
    (∀ q p, s.cur = .queue q → (s.hqueue q).cur = some p → p.still = false → exec .illegalWord s = .next (s.endPacket q 5)) ∧
    -- BUNDLE_ISSUE: the words of a complete rendezvous, together or not at all
    (let words := sl.rvStreams.map fun x => (x, s.streamNext k x)
     let ready := sl.gathered = true ∧ s.slotIssues k = true ∧ (∀ y ∈ sl.stallers, y ∈ sl.rvStreams) ∧
       ∀ x ∈ sl.rvStreams, (sl.stream x).serviced = false ∧ s.collarHolds k x = false
     (sl.gathered = false → exec .bundleIssue s = .next s) ∧
     (∀ ws : List (Nat × Instr), ready → words = ws.map (fun w => (w.1, some w.2)) →
      (∀ x aux, s.writeConflict k ws = some (x, aux) → exec .bundleIssue s = .next (s.trapAt k x 29 aux)) ∧
      (s.writeConflict k ws = none →
        let t := s.runBundle k ws
        (∀ x c a, t.bundleTrap = some (x, c, a) → exec .bundleIssue s = .next (s.trapOfBundle k ws x c a)) ∧
        (t.bundleTrap = none → (∃ w ∈ ws, ((t.slot k).stream w.1).presented = true) →
          exec .bundleIssue s = .next (s.waitOfBundle t k ws)) ∧
        (t.bundleTrap = none → (∀ w ∈ ws, ((t.slot k).stream w.1).presented = false) →
          exec .bundleIssue s = .next (t.bundleDone k (s.bundleMode k ws))))))

/-- R26, R261, R352, R377, R380, R382, R383, R388, R412, R413: binding, of the record where its address now leads.
BIND_FRESH starts a task with every register zero, each stream at its entry; BIND_RESTORE gives a saved task back what its
context area holds, the reserved bits of FPCSR zero (R7), its streams as the area's layout packs them (log entry 74); a
task whose landfall point has come is diverted before its first word, and goes ahead of every other (R413). Where a record
lies at each use is log entry 77, and the bind record's CTX for a task without one, log entry 128. -/
def Obligations.TasksBind : Prop :=
  ∀ (s : State),
    let k := s.inp.unit
    let loc := s.inp.a
    let d := k / 64
    (∀ r at_, let fields := recordField s at_
      ((s.ready.get [] d).find? fun r => r.loc == loc && !r.restore && !r.cancel) = some r → s.recordOpen d r = some at_ →
      slotTakes s k at_ (fields 48 1) → fields 58 1 = 0xFF → s.pilotWaits d ((List.range 128).map (at_ + ·)) = false →
      let late := come s (BitVec.ofNat 64 (fields 32 8)) (landfallPoint s at_)
      (late ∨ s.landfallAhead k = false) → ∃ t, exec .bindFresh s = .next t ∧
        let sl := t.slot k
        sl.phase = .running ∧ sl.regs = [] ∧ sl.preds = [] ∧ sl.queues = [] ∧ sl.chans = [] ∧ sl.fpcsr = 0 ∧ sl.trap = {} ∧
        sl.exposed = false ∧ sl.resumed = false ∧ sl.lfrun = false ∧ sl.ops = [] ∧ sl.resp = [] ∧ sl.cairns = [] ∧ sl.cycle = 0 ∧
        (late → sl.lfpend = true ∧ sl.diverting = true) ∧ (¬ late → sl.lfpend = false ∧ sl.diverting = false) ∧
        (∀ x < 4, sl.stream x = { ctl := { pc := fields (2 * x) 2 % 32768 } }) ∧
        (∀ x < 4, sl.task.trapEntry.find? x = if fields (8 + 2 * x) 2 / 2 ^ 15 % 2 = 1 then some (fields (8 + 2 * x) 2 % 32768) else none) ∧
        sl.task.asid = fields 48 1 ∧ sl.task.launch = fields 44 4 ∧ sl.task.role = BitVec.ofNat 2 (fields 49 1) ∧
        sl.task.deadline = BitVec.ofNat 64 (fields 32 8) ∧ sl.task.landfall = landfallPoint s at_ ∧
        sl.task.ctx = fields 64 8 / 256 * 256 ∧
        t.bind k = { ctx := if fields 64 8 / 256 = 0 then s.inp.b % 2 ^ 56 / 256 * 256 else fields 64 8 / 256 * 256, record := r.va, valid := true } ∧
         (t.tile (k / 8)).tenant = some (fields 48 1) ∧
        (∀ e ∈ t.ready.get [] d, e.loc ≠ loc) ∧ t.mem = s.mem) ∧
    (∀ r v at_ locs, ((s.ready.get [] d).find? fun r => r.loc == loc && r.restore) = some r →
      (s.saved.find? fun v => v.slot.task.loc == loc) = some v → v.stale = false → s.recordOpen d r = some at_ →
      slotTakes s k at_ v.slot.task.asid → s.pilotWaits d ((List.range 128).map (at_ + ·)) = false →
      (r.landfall = true ∨ come s v.slot.task.deadline v.slot.task.landfall ∨ s.landfallAhead k = false) →
      s.areaLocs d v.slot.task.asid v.ctx v.pool .read = .ok locs → locs.length = 16384 → (∀ l ∈ locs, s.marked l = false) →
      ∃ t, exec .bindRestore s = .next t ∧
        let sl := t.slot k
        let area := fun off n => leNat (((locs.drop off).take n).map (Memory.read s.mem))
        sl.phase = .running ∧ sl.resumed = true ∧ sl.exposed = false ∧ sl.reenter = (area 0x268 8).testBit 0 ∧
        (∀ i : BitVec 5, readScalar sl.regs i = if i = 0 then 0 else BitVec.ofNat 64 (area (8 * i.toNat) 8)) ∧
        (∀ i : BitVec 3, i ≠ 0 → readPred sl.preds i = BitVec.ofNat 128 (area (0x100 + 16 * i.toNat) 16)) ∧
        (∀ i < 64, sl.fpcsr.getLsbD i = ((area 0x260 8).testBit i && (decide (i < 7) || decide (10 ≤ i ∧ i < 15)))) ∧
        (∀ x < 4, (sl.stream x).ctl.pc = area (0x1C0 + 39 * x) 39 % 2 ^ 15 ∧ (sl.stream x).ended = (area (0x1C0 + 39 * x) 39).testBit 15 ∧
          (sl.stream x).wait = none) ∧
        sl.chans = (List.range 64).foldl (fun t i =>
          Tab.set t i (BitVec.ofNat 32 (area (0x460 + 4 * i) 4 / 2 ^ 30 * 2 ^ 30 + area (0x460 + 4 * i) 4 % 2 ^ 15))) [] ∧
        t.bind k = { ctx := v.ctx, record := r.va, restore := true, valid := true } ∧
        (∀ u ∈ t.saved, u.slot.task.loc ≠ loc) ∧ t.mem = s.mem)

/-- R253, R356, R372, R383, R387, R395, R404, R413-R416: how a bound task stops: pre-emption, landfall, the deadline, and
a channel stall of 2,048 cycles; what saving leaves. R294, R380, R384-R386, R389, R391, R404: how tasks end and tiles
change tenants. TASK_END_DRAINED ends an ending task whose counters are zero: its slot is free, holds its registers,
predicates, queues and trap fields as they stood, and its launch's census falls; TASK_CANCEL_AT_HEAD takes a cancelled
record off its ready queue; a parked task wakes to its ready queue; TENANT_SCRUB leaves a tile zero, its ASHARE and age
limits as the pilot says; a reserved ASHARE value is refused (R36). That a preempt acts after a landfall or a deadline
whose point has passed is log entry 77; the steps that a save leaves, log entry 72; the pilot's pool of areas, log entry
128. -/
def Obligations.TasksStopAndEnd : Prop :=
  (∀ (s : State),
     let k := s.inp.unit
     let sl := s.slot k
     let task := sl.task
     let preempted : State := { s with binds := s.binds.set k { s.bind k with preempt := true } }
     let dead := come s task.deadline task.deadline
     let landing := sl.diverting = true ∨ dead ∨ (sl.lfrun = false ∧ come s task.deadline task.landfall)
     let ctx := if (s.bind k).ctx = 0 then s.inp.a else (s.bind k).ctx
     (sl.phase = .running → ¬ landing → exec .bindPreempt s = .next (preempted.setSlot k { sl with phase := .stopping })) ∧
     (sl.phase = .running → landing → exec .bindPreempt s = .next preempted) ∧
     (sl.phase = .stopping → sl.wordsOut = false → (∀ o ∈ sl.ops, o.fault = none) → quietTask s k → exec .slotStopped s = .next (s.setSlot k { sl with
       phase := .saving
       asked := sl.asked ++ sl.askedFor
       streams := sl.streams.map fun (p : Nat × Stream) => (p.1, p.2.atRest) })) ∧
     (∀ locs, sl.phase = .saving → (task.ctx = 0 → s.poolFree ctx = true) → s.endWaits k sl = false →
       s.areaLocs (k / 64) task.asid ctx (task.ctx == 0) .write = .ok locs →
       ∃ t, exec .slotSaveDone s = .next t ∧ (t.slot k).phase = .free ∧ (t.bind k).valid = false ∧
         t.saved.map (fun v => (v.k, v.ctx, v.slot.regs, v.slot.streams, v.parked)) =
           s.saved.map (fun v => (v.k, v.ctx, v.slot.regs, v.slot.streams, v.parked)) ++ [(k, ctx, sl.regs, sl.streams, sl.parking)]) ∧
     (∀ c rd, s.parkable k = some (c, rd) → sl.phase = .running → sl.diverting = false →
       exec .channelPark s = .next (s.setSlot k { sl with phase := .stopping, parking := some (c, rd) })) ∧
     (s.inp.x = 0 → sl.phase = .running → sl.lfrun = false → come s task.deadline task.landfall → ¬ dead → sl.diverting = false →
       exec .landfall s = .next (s.setSlot k { sl with lfpend := true, diverting := true, parking := none })) ∧
     (s.inp.x = 0 → sl.phase = .running → sl.lfrun = false → come s task.deadline task.landfall → ¬ dead → sl.diverting = true → sl.late = [] →
       (∀ o ∈ sl.ops, o.fault = none) → quietTask s k → (s.bind k).preempt = false → task.landEntry ≠ [] → ∃ t, exec .landfall s = .next t ∧
         let u := t.slot k
         u.lfrun = true ∧ u.lfpend = false ∧ u.diverting = false ∧ u.trap.inHandler = false ∧ u.regs = sl.regs ∧ u.preds = sl.preds ∧
         u.queues = sl.queues ∧ u.task = task ∧
         (∀ x < 4, ∀ e, task.landEntry.find? x = some e → (u.stream x).ctl.pc = e ∧ (u.stream x).ended = false ∧ (u.stream x).ctl.depth = 0 ∧
           (u.stream x).ctl.loops = []) ∧
         (∀ x < 4, task.landEntry.find? x = none → (u.stream x).ended = true)) ∧
     (s.inp.x = 0 → sl.phase ≠ .free → (∀ v, sl.ending ≠ some (.landed v)) → dead → (∀ o ∈ sl.ops, o.fault = none) → quietTask s k →
       let stopped := { sl with phase := .ending, ending := some .cancelled, late := [], diverting := false, parking := none }
       exec .deadlineHardStop s = .next ((s.setSlot k stopped).killJobs (ofTask task.loc))) ∧
     (s.inp.x = 0 → ¬ dead → exec .deadlineHardStop s = .next s)) ∧
  (∀ (s : State),
     let k := s.inp.unit
     let sl := s.slot k
     (∀ e L, sl.phase = .ending → sl.ending = some e → (e = .endOk ∨ s.trapsOf sl.task.loc = []) → sl.ops = [] → sl.pend = [] →
       s.endWaits k sl = false → s.launches.find? sl.task.launch = some L → ∃ t, exec .taskEndDrained s = .next t ∧
         (let u := t.slot k
          u.phase = .free ∧ u.ops = [] ∧ u.pend = [] ∧ u.regs = sl.regs ∧ u.preds = sl.preds ∧ u.queues = sl.queues ∧ u.chans = sl.chans ∧
          u.fpcsr = sl.fpcsr ∧ u.trap = sl.trap ∧ u.debug = sl.debug ∧ u.task = sl.task ∧ u.lfrun = sl.lfrun ∧ u.resumed = sl.resumed) ∧
         (t.bind k).valid = false ∧ (sl.task.onabort = 0 → (t.launch sl.task.launch).census = L.census - 1) ∧
         (∀ v, e = .landed v → (t.launch sl.task.launch).landed = true ∧ (t.launch sl.task.launch).validity = (L.validity ||| v))) ∧
     (sl.phase = .ending → sl.ending ≠ none → sl.ops ≠ [] → s.trapsOf sl.task.loc = [] → exec .taskEndDrained s = .next s) ∧
     (∀ r rest, s.ready.get [] k = r :: rest → r.restore = false → r.cancel = true →
       (∀ at_, s.recordOpen k r = some at_ → s.pilotWaits k ((List.range 128).map (at_ + ·)) = false) →
       ∃ t, exec .taskCancelAtHead s = .next t ∧ ∀ d, ∀ e ∈ t.ready.get [] d, e.loc ≠ r.loc) ∧
     (∀ v c rd, (s.saved.find? fun v => v.slot.task.loc == s.inp.a) = some v → v.parked = some (c, rd) → s.wakes c rd = true →
       ∃ t, exec .channelWake s = .next t ∧ (∃ e ∈ t.ready.get [] (s.recDie s.inp.a), e.loc = s.inp.a ∧ e.restore = true) ∧
         (∀ u ∈ t.saved, u.slot.task.loc = s.inp.a → u.parked = none)) ∧
     (s.tileFree k = true → (s.tile k).tenant ≠ some s.inp.a → s.inp.b % 4 ≠ 3 → s.inp.b / 4 % 16 ≤ 6 → ∃ t, exec .tenantScrub s = .next t ∧
       (∀ a, tileBase k ≤ a → a < tileBase k + 0x1000000 → Memory.read t.mem a = 0) ∧
       (∀ a, a < tileBase k ∨ tileBase k + 0x1000000 ≤ a → Memory.read t.mem a = Memory.read s.mem a) ∧
       t.tile k = { tenant := some s.inp.a, ashare := BitVec.ofNat 64 (s.inp.b % 64), window := s.cycle } ∧
       (∀ c < 2, t.agelim.get 1024 (2 * k + c) = s.inp.c % 65536) ∧ t.slots = s.slots) ∧
     (s.tileFree k = false ∨ (s.tile k).tenant = some s.inp.a ∨ s.inp.b % 4 = 3 ∨ 6 < s.inp.b / 4 % 16 → exec .tenantScrub s = .next s))

/-- R22, R42, R144, R146, R158, R161, R162, R354, R386: commands of the tile copy engine: COPY_START takes the first of a
queue, COPY_GRANULE moves its next granule or ends it with a status, an element's operation is applied to memory at once,
COPY_TRANSLATION_FAULT suspends it, with the bytes read before the fault written, and COPY_COMPLETE gives its counter and
census item back, before the tile's words of its cycle issue. When CPACC and SIGNAL give cp back is log entry 50; what a
command that ends at a granule has written, log entry 51. -/
def Obligations.CopyEvents : Prop :=
  ∀ (s : State),
    let start := fun t : State => exec .copyStart s = .next t
    let id := s.inp.id
    let fi := s.inp.x
    let j := s.job id
    (∀ n c m, waitsFirst s s.inp.unit s.inp.x = some (n, c) → c.mac = some m → (∀ h g, m ≠ .cpmc h g) →
      (m ≠ .cpacc → m ≠ .signal → start (s.setJob n { c with started := true })) ∧
      (m = .cpacc ∨ m = .signal → start ((s.setJob n { c with started := true }).retireOp n))) ∧
    (∀ n c h g f rest, waitsFirst s s.inp.unit s.inp.x = some (n, c) → c.mac = some (.cpmc h g) → c.flights = f :: rest →
      s.membersAgree h (membersOf s g) = false → start (s.setJob n { c with started := true, stop := some 7, flights := [] })) ∧
    (∀ n c h g f rest src mp h' e ts, waitsFirst s s.inp.unit s.inp.x = some (n, c) → c.mac = some (.cpmc h g) → c.flights = f :: rest →
      s.membersAgree h (membersOf s g) = true → f.work = .cpmc src mp h' e ts →
      let first := (s.tile ((membersOf s g).headD 0)).table.get {} h
      start (s.setJob n { c with started := true
                                 flights := [{ f with work := .cpmc src (if mp = 0 then first.pitch * 64 else mp) h first (membersOf s g) }] })) ∧
    (waitsFirst s s.inp.unit s.inp.x = none → start s) ∧
    (∀ f, j.flights[fi]? = some f → s.mayMove id fi j f = true →
      let u := s.flightTouch j f
      let w := u.letGo id fi j f
      (∀ t f', u.granule id fi j f = .ok t f' → exec .copyGranule s = .next (t.setJob id
        (({ t.job id with flights := (t.job id).flights.set fi f' } : Job).landOld f'))) ∧
      (∀ st, u.granule id fi j f = .fail st → st ≠ 0 → (w = none → exec .copyGranule s = .next s) ∧
        ∀ p, w = some p → exec .copyGranule s = .next (p.1.setJob id (j.fails fi p.2 st))) ∧
      (∀ va c a asid, u.granule id fi j f = .fault va c a asid → exec .copyGranule s = .next s ∧
        (w = none → exec .copyTranslationFault s = .next s) ∧ (f.buf = [] → w ≠ none) ∧
        ∀ p, w = some p → ∃ t, exec .copyTranslationFault s = .next t ∧
          t.job id = { j with susp := some va, suspAt := (p.2.word, p.2.done), suspFlight := fi, flights := j.flights.set fi p.2 } ∧
          t.mem = p.1.mem ∧ (f.buf = [] → p.2 = f ∧ t.mem = s.mem ∧ t.slots = s.slots)) ∧
      (∀ dst r locs, f.work = .rmw dst r false → f.done = 0 →
        u.jobReach j .both ((List.range r.size).map fun n => (dst + n) % 2 ^ 56) = .ok locs → locs ≠ [] →
        (∀ p ∈ locs, isRemote p.1 = false ∧ s.marked p.1 = false) → u.jobWaits j locs = false → u.cairnFault (locs.map Prod.fst) = none →
        ∃ t, exec .copyGranule s = .next t ∧
          t.mem = stored s ((locs.map Prod.fst).zip (leBytes r.size (r.apply (leNat (locs.map fun p => Memory.read s.mem p.1))))) ∧
          ((t.job id).flights[fi]?.map fun f => f.done) = some 1)) ∧
    (let quiet := fun tile : Nat => ∀ e ∈ s.issued ++ s.tripped, e.1 / 8 ≠ tile
     let early := quiet j.engine ∧ ∀ f ∈ j.flights, ∀ src mp h e ts, f.work = .cpmc src mp h e ts → ∀ tile ∈ ts, quiet tile
     (∀ m, j.mac = some m → s.finished j = true → early → ∃ t, exec .copyComplete s = .next t ∧ t.jobs.find? id = none ∧
       returnedOp t id ∧ (j.status = 0 → itemEnded s t j.launch)) ∧
     (∀ m, j.mac = some m → s.finished j = false ∨ ¬ early → exec .copyComplete s = .next s))

/-- R208-R213, R223, R456: chains: registration keeps what the control block says and takes the requester's ASID; a
refused one is reported (in a list of the model's, log entry 130). An entry that can be read, its 72 bytes and the program
its words name, starts a command and moves the chain's head; a fault on the program leaves the entry unread until it is
serviced. The commands complete in the order of their entries, each setting DONE to its own sequence, and a LINK moves the
ring. -/
def Obligations.ChainEvents : Prop :=
  ∀ (s : State),
    let id := s.inp.id
    (∀ l n rest,
      let i := s.inp
      let c : Chain := { ccb := i.a, engine := i.unit, pilot := i.x == 1, launch := if i.x = 0 then i.c else 0
                         asid := if i.x = 0 then (s.launch i.c).asid else if i.x = 1 then i.b % 256 else (s.hqueue i.c).asid }
      let rd := fun o n => Memory.readLe s.mem (l + o) n
      let refused := (s.chains.find? id).isSome = true ∨ ccbRefused (rd 0 8) (rd 8 4) (rd 24 8) (rd 42 22) = true
      s.jobReach (c.job id) .both ((List.range 64).map fun n => (i.a + n) % 2 ^ 56) = .ok ((l, n) :: rest) → isRemote l = false →
      ((l, n) :: rest).map Prod.fst = (List.range 64).map (l + ·) →
      (¬ refused → ∃ t, exec .chainRegister s = .next t ∧ t.chains = s.chains.set id { c with
        base := rd 0 8, size := rd 8 4, tail := rd 32 4, head := rd 32 4, bias := rd 36 4, done := rd 16 8, loc := l }) ∧
      (refused → exec .chainRegister s = .next { s with refusals := s.refusals ++ [(i.x, i.c, i.a)] })) ∧
    (∀ c l n rest entry locs, s.chains.find? id = some c → c.wait = none → s.linking id = false →
      let u := s.jobTouch (c.job id) [c.ccb, c.entryAt c.head]
      let c' := ({ c with loc := l } : Chain).keep (Memory.readLe s.mem (l + 12) 4)
      let s' := { u with chains := s.chains.set id c' }
      let va := c'.entryAt c'.head
      let next := { c' with head := (c'.head + 1) % 2 ^ 32 }
      let seq := c.done + (s.chainJobs id).length + 1
      u.blockAt id c = .ok ((l, n) :: rest) → c'.tail ≠ c'.head → s'.jobReach (c'.job id) .read (spanOf va 72) = .ok locs →
      (∀ p ∈ locs, isRemote p.1 = false) → s'.jobRead (c'.job id) (spanOf va 72) = .ok entry →
      let code := s'.chainCode (c'.job id) va entry s.inp.data
      (∀ bs, code = .ok bs → ∃ t, exec .chainEntryRead s = .next t ∧ t.chains = s.chains.set id next ∧
        t.job s.nextId = c'.command id seq entry (.inl bs)) ∧
      (∀ st, code = .other (.fail st) → ∃ t, exec .chainEntryRead s = .next t ∧ t.chains = s.chains.set id next ∧
        t.job s.nextId = c'.command id seq entry (.inr st)) ∧
      (∀ v f a asid, code = .other (.fault v f a asid) → ∃ t, exec .chainEntryRead s = .next t ∧
        t.chains = s.chains.set id { c' with wait := some v } ∧ t.jobs = s.jobs ∧ t.mem = s.mem)) ∧
    (∀ c n j locs, s.chains.find? id = some c → ((s.chainJobs id).find? fun p => p.2.seq == c.done + 1) = some (n, j) →
      s.finished j = true → j.recorded = true → s.blockAt id c = .ok locs →
      ∃ t, exec .chainCommandComplete s = .next t ∧ t.jobs.find? n = none ∧
        (t.chains.get {} id).done = c.done + 1 ∧
        (∀ b z, j.link = some (b, z) → (t.chains.get {} id).base = b ∧ (t.chains.get {} id).size = z) ∧
        (j.link = none → (t.chains.get {} id).base = c.base ∧ (t.chains.get {} id).size = c.size)) ∧
    (∀ c n j, s.chains.find? id = some c → ((s.chainJobs id).find? fun p => p.2.seq == c.done + 1) = some (n, j) →
      s.finished j = false → exec .chainCommandComplete s = .next s)

/-- R188-R191, R194-R200, R206, R260, R292, R297-R300, R303, R305, R307, R310, R312: the array's events. Whatever can
switch after one switches at once (R196). A drain that becomes empty holds its segment unless a TSWAP after it reopens it
(R197, R198). A hardware rollback of a segment with no token and no loaded plane does nothing (R310; log entry 136). From
when a plane load counts is log entry 60, what a switch waits for log entry 61, and when a row reduction traps log entry
64. -/
def Obligations.ArrayEvents : Prop :=
  ∀ (s : State),
    let T := s.inp.unit
    let ti := s.tile T
    let id := s.inp.id
    let g := s.inp.x
    let sg := ti.segs.get {} g
    let withSeg := fun v : Seg => s.setTile T { ti with segs := ti.segs.set g v }
    let step := fun (t : State) => (t.tile T).steps.find? fun q => q.id == id
    (∀ h u a e c, s.streamNext T g = some (.tstep h u a e c) →
      ∃ t, exec .stepArm s = .next t ∧ exec (.tstep h u a e c) (turnOf s T g) = .next t) ∧
    (∀ h u a e c, s.streamNext T g = some (.tstepSp h u a e c) →
      ∃ t, exec .stepArm s = .next t ∧ exec (.tstepSp h u a e c) (turnOf s T g) = .next t) ∧
    (∀ p, step s = some p →
      (s.preloadOver T p = true → ∃ t, exec .stepPreloadDone s = .next t ∧ step t = some { p with loaded := true } ∧ t.mem = s.mem) ∧
      (s.rowReady T p = true → ∃ t q, exec .stepRowEnters s = .next t ∧ step t = some q ∧ q.rowsIn = p.rowsIn + 1 ∧
        q.transit = p.transit ++ [{ row := p.rowsIn, due := s.cycle + 136, sums := s.rowSums T p }] ∧ q.edge = [] ∧
        q.edgeFull = false ∧ q.lastCycle = some s.cycle ∧ t.mem = s.mem) ∧
      (s.rowReady T p = false → exec .stepRowEnters s = .next s) ∧
      (∀ tr rest, p.transit = tr :: rest → tr.due ≤ s.cycle → s.rowFree T p.id (p.accRow tr.row) = true →
        ∃ t, exec .stepRowWritten s = .next t ∧ step t = some { p with transit := rest, rowsOut := p.rowsOut + 1 }) ∧
      (∀ tr rest, p.transit = tr :: rest → s.cycle < tr.due → exec .stepRowWritten s = .next s) ∧
      (s.stepOver T p = true → ∃ t, exec .stepComplete s = .next t ∧ step t = none ∧ returnedOp t id ∧ itemEnded s t p.launch) ∧
      (s.stepOver T p = false → exec .stepComplete s = .next s)) ∧
    (∀ a, (ti.scaccs.find? fun a => a.id == id) = some a → s.slotStored a.k a.id = true →
      (∀ r < a.nrows, s.rowFree T a.id ((a.src + r) % 2048) = true ∧ s.rowFree T a.id ((a.dst + r) % 2048) = true) →
      ∃ t, exec .scaccDone s = .next t ∧ (∀ b ∈ (t.tile T).scaccs, b.id ≠ id) ∧ returnedOp t id) ∧
    (∀ op img due rest, sg.loads = (op, img, due) :: rest →
      (s.cycle < due → exec .tcfgLoadDone s = .next s) ∧
      (due ≤ s.cycle → exec .tcfgLoadDone s = .next ((withSeg { sg with
        shadow := (s.loadPlane T img g).getD { valid := false, img := img }, loads := rest }).planeDone T op))) ∧
    (∀ w rest, sg.swaps = w :: rest →
      (s.switchReady T g = true → exec .segmentSwitch s = .next ((withSeg
        (({ sg with active := sg.shadow, shadow := sg.active, swaps := rest, turns := sg.turns + 1 } : Seg).settle)).planeDone T w.op)) ∧
      (s.switchReady T g = false → exec .segmentSwitch s = .next s)) ∧
    (sg.mode = 1 → sg.tokens = [] → sg.replay = [] → sg.trapped = none → s.segHeld T g = false →
      ∃ t : State, exec .drainEmpty s = .next (t.switchAll T) ∧ (t.tile T).segs.get {} g = { sg with
        mode := if (∃ d ∈ sg.drains, d.open_ = true) ∨ (∃ w ∈ sg.swaps, w.late = true) then 0 else 2, drains := [],
        swaps := sg.swaps.map fun w => { w with late := false } }) ∧
    (sg.mode = 1 → sg.tokens ≠ [] → exec .drainEmpty s = .next s) ∧
    (∀ f, s.inp.a < 96 → isSite g s.inp.a = true → sg.active.valid = true → s.inp.a ∉ sg.waiting.map Prod.fst → sg.trapped = none →
      s.firing T g s.inp.a = some f →
      let r := sg.active.site s.inp.a
      let site := s.inp.a
      (sg.room site f = false → exec .siteFire s = .next (s.switchAll T)) ∧
      (sg.room site f = true → f.cause = 0 → exec .siteFire s = .next ((s.fireWith T g site f f.result f.tally).switchAll T)) ∧
      (sg.room site f = true → f.cause ≠ 0 → r.mode = 0 → exec .siteFire s = .next ((s.fireWith T g site f
        (f.result.map fun e => (e.1, { e.2 with poison := true, origin := site })) f.tally).switchAll T)) ∧
      (sg.room site f = true → f.cause ≠ 0 → r.mode = 1 → exec .siteFire s = .next ((s.fireWith T g site f
        (f.result.map fun e => (e.1, { e.2 with val := satCode (ti.fmtOf ((f.result.map Prod.snd).getD {}).seq) r.tout f.cause f.neg })) .sat).switchAll T)) ∧
      (sg.room site f = true → f.cause ≠ 0 → 2 ≤ r.mode → ∃ t : State, exec .siteFire s = .next (t.switchAll T) ∧
        ((t.tile T).segs.get {} g).trapped = some { site := site, seq := ((f.result.map Prod.snd).getD {}).seq } ∧
        ((t.tile T).segs.get {} g).inq = sg.inq)) ∧
    (s.inp.a = 96 → exec .siteFire s = .next ((s.enterSeg T g s.inp.b).switchAll T)) ∧
    (96 < s.inp.a → s.inp.a ∈ segExits g → exec .siteFire s = .next ((s.exitSeg T g s.inp.a).switchAll T)) ∧
    (sg.atRisk = false → exec .hardwareRollback s = .next s) ∧
    (sg.atRisk = true → exec .hardwareRollback s = .next (let t := s.abortSeg T g
      (t.setTile T { t.tile T with sound := { (t.tile T).sound with rback := min 65535 ((t.tile T).sound.rback + 1) } }).error
        { cls := 2, unit := 8, die := T / 8, tile := T % 8 } true))

/-- R402, R403, R406-R408: SUMP_REFILL moves the sump's oldest element behind the ring's newest, marked where its bytes
were marked; SUMP_GRANT, SUMP_DECLINE and SUMP_SPILL_FAULT; DEADLOCK_SCAN of a cycle of parked tasks. Which segments a
grant takes is log entry 80, WHO of a sump's fault record log entry 54, and that a scan tells of the same cycle again log
entry 79. -/
def Obligations.SumpEvents : Prop :=
  ∀ (s : State),
    let c := s.inp.unit
    let ch := s.chan c
    let n := s.inp.a
    let may := ch.isOpen = true ∧ 0 < ch.scnt ∧ ch.rcnt < ch.rplaces ∧ ch.refillStuck = false
    let u := s.touch (c / 4096) ch.asid ch.headAddr
    let grant := ch.sumpFull = true ∧ 0 < n ∧ ch.segs.length + n ≤ ch.maxseg ∧ n ≤ (s.sumpFree.get [] (256 * (c / 4096) + ch.asid)).length
    (∀ l p, may → u.sumpPlace c ch.headAddr .read = .at l p →
      let z := if ch.big then 128 else 8
      let dest := run (ringPlace ch c (ch.popped + ch.rcnt)) (Memory.readBytes s.mem l z)
      ∃ t, exec .sumpRefill s = .next t ∧ t.mem = stored s dest ∧ (t.chan c).rcnt = ch.rcnt + 1 ∧ (t.chan c).scnt = ch.scnt - 1 ∧
        (t.chan c).pushed = ch.pushed ∧ (t.chan c).popped = ch.popped ∧ (t.chan c).segs = ch.segs ∧ (∀ e, e ≠ c → t.chan e = s.chan e) ∧
        ((∃ i < z / 8, s.marked (l + 8 * i) = true) → ∀ a ∈ dest.map Prod.fst, t.marked a = true)) ∧
    (¬ may → exec .sumpRefill s = .next s) ∧
    (grant → ∃ t, exec .sumpGrant s = .next t ∧ Granted s t c n) ∧
    (¬ grant → exec .sumpGrant s = .next s) ∧
    (ch.sumpFull = true → exec .sumpDecline s = .next { s with
      chans := s.chans.set c { ch with sumpFull := false, frozen := ch.spFault, declined := true } }) ∧
    (ch.sumpFull = false → exec .sumpDecline s = .next s) ∧
    (∀ cause, s.inp.x ≠ 0 → may → ch.spFault = false → s.sumpPlace c ch.headAddr .read = .fault cause →
      exec .sumpSpillFault s = .next (sumpFault s c ch.headAddr cause true)) ∧
    (∀ cause, s.inp.x = 0 → ch.canPush = true → ch.spFault = false → (0 < ch.scnt ∨ ch.rplaces ≤ ch.rcnt) → s.pushWaits c = true →
      s.sumpPlace c ch.tailAddr .write = .fault cause → exec .sumpSpillFault s = .next (sumpFault s c ch.tailAddr cause false)) ∧
    (∀ v cyc, (s.saved.find? fun v => v.slot.task.loc == n) = some v → s.cycleFrom n (s.saved.length + 1) v [] = some cyc →
      let grow := fun d => (d, false) ∈ cyc ∧ (s.chan d).segs.length < (s.chan d).maxseg
      (∀ p ∈ cyc, ∃ w ∈ s.saved, w.parked = some p) ∧
      (∀ d, grow d → (∀ e, grow e → d ≤ e) → s.sumpFree.get [] (256 * (d / 4096) + (s.chan d).asid) ≠ [] →
        ∃ t, exec .deadlockScan s = .next t ∧ Granted s t d 1) ∧
      (∀ d, grow d → (∀ e, grow e → d ≤ e) → s.sumpFree.get [] (256 * (d / 4096) + (s.chan d).asid) = [] →
        exec .deadlockScan s = .next (deadlocked s (cyc.map Prod.fst))) ∧
      ((∀ d, ¬ grow d) → exec .deadlockScan s = .next (deadlocked s (cyc.map Prod.fst))))

/-- R224, R229, R333, R359, R369, R373, R376: a queue's front end: PACKET_START, PACKET_BUDGET, SIGWAIT_REREAD,
EMLAUNCH_GROUPS_FREE and CFG_TRAP_TIMEOUT. No packet starts behind a BARRIER packet before it has retired. What the
timeout of a delta ends is log entry 89. -/
def Obligations.FrontEvents : Prop :=
  ∀ (s : State),
    let q := s.inp.unit
    let hq := s.hqueue q
    -- PACKET_START
    (let may := hq.state ≠ 3 ∧ hq.head ≠ hq.tail ∧ hq.started.length < 64 ∧ ∀ p ∈ hq.started, p.launch ≠ none ∧ p.barrier = false
     let j := hq.head
     let va := hq.ring + j % hq.size * 256
     let u := (s.setHqueue q { hq with cur := some { idx := j }, head := (j + 1) % 2 ^ 32, state := 1 }).feTouch q va 256
     (hq.cur = none → ¬ may → exec .packetStart s = .next s) ∧
     (hq.cur = none → may →
       (∀ bs, u.feRead q va 256 = .ok bs →
         let code := s.progs.get [] hq.prog
         let t := u.setHqueue q { hq with cur := some { idx := j, bytes := bs, code := code }, head := (j + 1) % 2 ^ 32, state := 1 }
         (leNat (bs.take 8) = j → code ≠ [] → exec .packetStart s = .next t) ∧
         (leNat (bs.take 8) ≠ j ∨ code = [] → exec .packetStart s = .next (t.endPacket q 5))) ∧
       (∀ st, u.feRead q va 256 = .stop st → exec .packetStart s = .next (u.endPacket q st)) ∧
       (u.feRead q va 256 = .hold → exec .packetStart s = .next u) ∧
       (∀ v c k, u.feRead q va 256 = .fault v c k → exec .packetStart s = .next (faulting u q v c k)))) ∧
    (∀ p, hq.cur = some p → p.bytes = [] → p.ended = none → p.wait = none →
      let va := hq.ring + p.idx % hq.size * 256
      let u := s.feTouch q va 256
      ∀ bs, u.feRead q va 256 = .ok bs → leNat (bs.take 8) = p.idx → s.progs.get [] hq.prog ≠ [] →
        exec .packetStart s = .next (u.setHqueue q { hq with cur := some { p with bytes := bs, code := s.progs.get [] hq.prog } })) ∧
    (∀ p, hq.cur = some p → p.bytes ≠ [] → exec .packetStart s = .next s) ∧
    -- PACKET_BUDGET, at the queue whose turn it is
    (∀ r p, (s.cur = .queue r ∨ (∀ e, s.cur ≠ .queue e) ∧ r = q) → (s.hqueue r).cur = some p → p.ended = none → p.wait = none →
      (512 ≤ p.words → exec .packetBudget s = .next (s.endPacket r 9)) ∧
      (p.words < 512 → exec .packetBudget s = .next s)) ∧
    -- SIGWAIT_REREAD and EMLAUNCH_GROUPS_FREE: the word the packet waits at runs again
    (∀ p i, hq.cur = some p → frontDecode p.code p.prog.ctl.pc = some i →
      let turn : State := { s with cur := .queue q, fetched := (p.code.getD p.prog.ctl.pc 0, p.code.getD (p.prog.ctl.pc + 1) 0) }
      (∀ va, p.wait = some (.signal va) →
        ((∃ g d a, i = .sigwaitLe g d a) ∨ (∃ g d a, i = .sigwaitLt g d a) ∨ (∃ g d a, i = .sigwaitEq g d a) ∨
          (∃ g d a, i = .sigwaitNe g d a)) → ∃ t, exec .sigwaitReread s = .next t ∧ exec i turn = .next t) ∧
      (p.wait = some .groups → ((∃ g d a, i = .emlaunch g d a) ∨ (∃ g d a b, i = .emlaunchCfg g d a b)) →
        ∃ t, exec .emlaunchGroupsFree s = .next t ∧ exec i turn = .next t) ∧
      (p.wait = none → exec .sigwaitReread s = .next s ∧ exec .emlaunchGroupsFree s = .next s)) ∧
    -- CFG_TRAP_TIMEOUT
    (∀ p ps img T rest since, hq.cur = some p → p.wait = some (.delta ps img (T :: rest) (some since)) →
      (s.mtime.toNat < since + 100000 → exec .cfgTrapTimeout s = .next s) ∧
      (since + 100000 ≤ s.mtime.toNat → ∃ t, exec .cfgTrapTimeout s = .next t ∧
        (∀ g h, (s.tile T).halted = some [g] → ((s.tile T).segs.get {} g).trapped = some h → ((s.tile T).segs.get {} g).waiting = [] →
          ((t.tile T).segs.get {} g).trapped = none) ∧
        ∀ g ∈ (s.tile T).halted.getD [], ((s.tile T).segs.get {} g).trapped.isSome = true →
          (∀ k, 4 * T + g ∉ (t.slot k).collarTraps) ∧
          ∀ i < 8, let sl := s.slot (8 * T + i)
            ∀ h, ((s.tile T).segs.get {} g).trapped = some h → h.delivered = true → sl.phase = .running → sl.trap.inHandler = true →
              sl.trap.cause = 26 → sl.trap.aux.toNat = h.site + g * 2 ^ 8 + h.seq * 2 ^ 16 →
              (t.slot (8 * T + i)).phase = .ending ∧ (t.slot (8 * T + i)).ending = some .faulted))

/-- R83, R230, R359, R370, R385, R439, R440, R456: LAUNCH_RETIRE: a launch with no item left, whose packet's program has
ended, retires: its chart lines are removed and its group entries free. PACKET_RETIRE: the completion signal, at address
zero too, gets its addend, and the host its COMPLETION; retirements wait in their order while the host leaves 65,536
messages unacknowledged, and behind a launch whose signal the packet went on by (log entry 146). What a completion signal
in a hole or on a mark does is log entry 84. -/
def Obligations.RetirementEvents : Prop :=
  ∀ (s : State),
    (∀ L, s.launches.find? s.inp.id = some L →
      let ended := L.retired = false ∧ L.census = 0 ∧ ∃ p ∈ (s.hqueue L.queue).started, p.launch = some s.inp.id
      (ended → ∃ t, exec .launchRetire s = .next t ∧ t.launches.find? s.inp.id = some { L with retired := true } ∧
        (∀ g ∈ t.groups, g.2.launch ≠ s.inp.id) ∧ (∀ g ∈ s.groups, g.2.launch ≠ s.inp.id → g ∈ t.groups) ∧
        t.slots = s.slots ∧ (L.lines = [] → t.mem = s.mem ∧ t.asids = s.asids) ∧
        (L.lines ≠ [] → (t.asids.get {} L.asid).nchart = (L.lines.foldl List.erase (s.rawChart L.asid)).length)) ∧
      (¬ ended → exec .launchRetire s = .next s)) ∧
    (s.launches.find? s.inp.id = none → exec .launchRetire s = .next s) ∧
    (∀ q p, q = s.inp.unit → ((s.hqueue q).started.find? fun e => e.idx == s.inp.id) = some p →
      let st := packetStatus s p
      (¬ mayLeave s q p → exec .packetRetire s = .next s) ∧
      (mayLeave s q p → ¬ roomLeft s → exec .packetRetire s = .next { s with
        retiring := if (q, p.idx) ∈ s.retiring then s.retiring else s.retiring ++ [(q, p.idx)] }) ∧
      (mayLeave s q p → roomLeft s → (∃ e, s.firstRetiring = some e ∧ e ≠ (q, p.idx)) → exec .packetRetire s = .next s) ∧
      (mayLeave s q p → roomLeft s → (∀ e, s.firstRetiring = some e → e = (q, p.idx)) →
        (p.comp = none ∨ (∃ a w, p.comp = some (none, a, w)) →
          ∃ t, exec .packetRetire s = .next t ∧ Retired s t q p st false ∧ t.mem = s.mem) ∧
        (∀ va a w, p.comp = some (some va, a, w) → (p.noAdd = true ∨ p.added = true) →
          ∃ t, exec .packetRetire s = .next t ∧ Retired s t q p st p.added ∧ t.mem = s.mem) ∧
        (∀ va a w, p.comp = some (some va, a, w) → p.noAdd = false → p.added = false →
          let u := s.feTouch q va 8
          (∀ locs, u.feReach q .both va 8 = .ok locs → locs ≠ [] → (∀ l ∈ locs, isRemote l = false) →
            ((∃ l ∈ locs, u.marked l = true) → ∃ t, exec .packetRetire s = .next t ∧ Retired s t q p st false ∧ t.mem = s.mem) ∧
            ((∀ l ∈ locs, u.marked l = false) → u.cairnHolders = [] → ∃ t, exec .packetRetire s = .next t ∧ Retired s t q p st true ∧
              t.mem = stored s (locs.zip (leBytes 8 (leNat (locs.map (Memory.read s.mem)) + addendOf s p a))))) ∧
          (∀ e, u.feReach q .both va 8 = .stop e → ∃ t, exec .packetRetire s = .next t ∧
            Retired s t q p (if st = 0 then e else st) false ∧ t.mem = s.mem) ∧
          (∀ v c k, u.feReach q .both va 8 = .fault v c k → ∃ t, exec .packetRetire s = .next t ∧ t.mem = s.mem ∧
            (t.devOut.get {} 0).unacked = (s.devOut.get {} 0).unacked ∧
            ((t.hqueue q).started.find? fun e => e.idx == s.inp.id) = some { p with addFault := some v }))))

/-- R368, R437-R439, R441, R456: messages of the host: what is dropped, held or only acknowledged; a malformed one is
reported by an EVENT of class 6 (the form of the report is the model's, log entry 133); WRITE, READ and TAIL; ACK; FAULT
RETRY and ABORT; retransmission, and loss of link. The answer to a WRITE is log entry 92, one that must wait log entry
134, the TYPE of an acknowledgement log entry 147, and READY by a second HOST_LINK_UP log entry 138. -/
def Obligations.HostMessages : Prop :=
  ∀ (s : State),
    let d := s.inp.data
    let u := taken s
    (∀ e ∈ [(Instr.hostWrite, 1), (.hostRead, 2), (.hostTail, 3)],
      (s.host.up = false ∨ s.inp.ver ≠ 1 ∨ s.inp.c ≠ s.boot.count % 2 ^ 32 → exec e.1 s = .next s) ∧
      (s.host.up = true → s.inp.ver = 1 → s.inp.c = s.boot.count % 2 ^ 32 → 3 < s.inp.x ∨ 15 < s.inp.unit ∨ 8192 < s.inp.data.length →
        ∃ t, exec e.1 s = .next t ∧ recorded s t 6 ∧ t.mem = s.mem ∧ t.slots = s.slots ∧ t.host.next = s.host.next ∧
          t.host.held = s.host.held) ∧
      (Hears s → s.inp.x / 2 % 2 = 0 → 2 ^ 31 ≤ seqAhead s → exec e.1 s = .next (confirmed s e.2 (heard s))) ∧
      (Hears s → s.inp.x / 2 % 2 = 0 → 0 < seqAhead s → seqAhead s < 2 ^ 31 →
        (s.host.held.filter fun w => w.stream == s.inp.unit).length < 4096 →
        (∀ w ∈ s.host.held, w.stream = s.inp.unit → w.seq ≠ s.inp.id % 2 ^ 32) → exec e.1 s = .next (confirmed s e.2 { heard s with
          host := { s.host with held := s.host.held ++ [{ stream := s.inp.unit, seq := s.inp.id % 2 ^ 32, type := e.2, data := d }] } }))) ∧
    -- WRITE and READ
    (InTurn s → (d.length ≤ 16 ∨ 2 < bytesAt d 8 1) → exec .hostWrite s = .next (confirmed s 1 (answered u 1 d 5 []))) ∧
    (InTurn s → 16 < d.length → bytesAt d 8 1 ≤ 2 →
      let v := u.hostTouch d (d.length - 16)
      let r := v.hostReach d .write (d.length - 16)
      (∀ a, r = .hole a → exec .hostWrite s = .next (confirmed s 1 (answered v 1 d 2 []))) ∧
      (∀ a c, r = .fault a c → exec .hostWrite s = .next (confirmed s 1 (answered v 1 d 3 []))) ∧
      (∀ locs, r = .ok locs → (∀ p ∈ locs, isRemote p.1 = false) → v.cairnHolders = [] → ∃ t, exec .hostWrite s = .next (confirmed s 1 (answered t 1 d 0 [])) ∧
        t.mem = stored v ((locs.map Prod.fst).zip (d.drop 16)) ∧ t.slots = s.slots ∧ t.hqueues = s.hqueues)) ∧
    (let n := bytesAt d 10 2
     let wrong := d.length < 16 ∨ n = 0 ∨ 8176 < n ∨ 2 < bytesAt d 8 1
     let v := u.hostTouch d n
     let r := v.hostReach d .read n
     InTurn s → (wrong → exec .hostRead s = .next (confirmed s 2 (answered u 2 d 5 []))) ∧
       (¬ wrong → (∀ a, r = .hole a → exec .hostRead s = .next (confirmed s 2 (answered v 2 d 2 []))) ∧
        (∀ a c, r = .fault a c → exec .hostRead s = .next (confirmed s 2 (answered v 2 d 3 []))) ∧
        (∀ locs, r = .ok locs → (∀ p ∈ locs, isRemote p.1 = false) →
          ((∃ p ∈ locs, v.marked p.1 = true) → exec .hostRead s = .next (confirmed s 2 (answered v 2 d 1 []))) ∧
          ((∀ p ∈ locs, v.marked p.1 = false) →
            exec .hostRead s = .next (confirmed s 2 (answered v 2 d 0 (locs.map fun p => Memory.read s.mem p.1))))))) ∧
    -- TAIL
    (let q := bytesAt d 0 2
     let x := bytesAt d 4 4
     let hq := s.hqueue q
     let step := (x + 2 ^ 32 - hq.tail) % 2 ^ 32
     let room := hq.size - (hq.tail + 2 ^ 32 - hq.head) % 2 ^ 32
     InTurn s → q < 1024 → hq.state ≠ 3 →
       (step = 0 ∨ 2 ^ 31 ≤ step → exec .hostTail s = .next (confirmed s 3 u)) ∧
       (0 < step → step < 2 ^ 31 → step ≤ room → exec .hostTail s = .next (confirmed s 3 (u.setHqueue q { hq with tail := x }))) ∧
       (0 < step → step < 2 ^ 31 → room < step → ∃ t, exec .hostTail s = .next t ∧ t.hqueues = s.hqueues ∧
         ((t.devOut.get {} 2).unacked.drop (u.devOut.get {} 2).unacked.length).map Msg.type = [6])) ∧
    -- ACK
    (Hears s → s.inp.x / 2 % 2 = 1 → ∃ t, exec .hostAck s = .next t ∧ t.host = s.host ∧ t.mem = s.mem ∧
      (∀ m, m ∈ (t.devOut.get {} s.inp.unit).unacked ↔
        m ∈ (s.devOut.get {} s.inp.unit).unacked ∧ ¬ covers s.inp.a s.inp.b m.seq) ∧
      (∀ i, i ≠ s.inp.unit → t.devOut.get {} i = s.devOut.get {} i)) ∧
    -- FAULT RETRY and ABORT
    (let n := bytesAt d 0 4
     let asid := bytesAt d 5 1
     let va := bytesAt d 8 8
     (InTurn s → bytesAt d 4 1 = 1 → (∀ o ∈ s.owed, ¬ (named n asid o.launch o.asid ∧ onePage o.wait va)) →
       ∃ t, exec .hostFaultRetry s = .next t ∧ t.mem = s.mem ∧
       (∀ k x e w, n ≠ 0 → (s.slot k).task.launch = n → ((s.slot k).stream x).wait = some (.fault e w) → onePage e va →
         ((t.slot k).stream x).wait = none) ∧
       (∀ k, (s.slot k).task.launch ≠ n → t.slot k = s.slot k) ∧
       (∀ id e, named n asid (s.job id).launch (s.job id).asid → (s.job id).susp = some e → onePage e va → (t.job id).susp = none) ∧
       (∀ id e, (s.job id).susp = some e → ¬ onePage e va → (t.job id).susp = some e) ∧
       (∀ c, (s.chan c).spFault = true → named n asid (s.chan c).faultLaunch (s.chan c).asid → onePage (s.chan c).faultVa va →
         t.chan c = { s.chan c with spFault := false, refillStuck := false, faultLaunch := 0, frozen := (s.chan c).sumpFull }) ∧
       (∀ q p e, n = 0 → (s.hqueue q).asid = asid → (s.hqueue q).cur = some p → p.wait = some (.fault e) → onePage e va →
         (t.hqueue q).cur = some { p with wait := none })) ∧
     (InTurn s → bytesAt d 4 1 = 2 →
       (u.anyWaits n asid va = false → exec .hostFaultAbort s = .next (confirmed s 5 u)) ∧
       (n ≠ 0 → u.anyWaits n asid va = true → exec .hostFaultAbort s = .next (confirmed s 5 (u.tearLaunch n 3))) ∧
       (∀ q p e, n = 0 → (s.hqueue q).asid = asid → (s.hqueue q).cur = some p → p.wait = some (.fault e) → onePage e va →
         ∃ t, exec .hostFaultAbort s = .next t ∧ (t.hqueue q).cur = none))) ∧
    -- retransmission and the link
    (let o := s.devOut.get {} s.inp.unit
     let late := fun m : Msg => decide (m.sent + 50000 ≤ s.mtime.toNat)
     (s.host.up = true → ∃ t sack, exec .hostRetransmit s = .next t ∧ sackOf s s.inp.unit sack ∧
       t.devOut = s.devOut.set s.inp.unit { o with unacked := o.unacked.map fun m => { m with sent := if late m then s.mtime.toNat else m.sent } } ∧
       t.host.sends = s.host.sends ++ (o.unacked.filter late).map (fun m =>
         header s m.type (if s.inp.unit = 3 then 1 else 0) s.inp.unit m.seq sack m.data.length ++ m.data) ∧
       t.mem = s.mem ∧ t.slots = s.slots) ∧
     (s.host.up = false → exec .hostRetransmit s = .next s)) ∧
    exec .hostLinkLoss s = .next { s with host := { s.host with up := false, lost := true } } ∧
    -- the link comes up: in bring-up for MGMT alone, then for READY; after a loss with a record
    (s.boot.failed = true → exec .hostLinkUp s = .next s) ∧
    (s.host.up = true → s.power.recovery = true ∨ s.host.ready = true → exec .hostLinkUp s = .next s) ∧
    (s.boot.failed = false → s.host.up = true → s.power.recovery = false → s.host.ready = false → ∃ t, exec .hostLinkUp s = .next t ∧
      t.host.ready = true ∧ t.host.up = true ∧ t.mem = s.mem ∧ t.slots = s.slots ∧
      ∃ m, (t.devOut.get {} 2).unacked = (s.devOut.get {} 2).unacked ++ [m] ∧ m.type = 6 ∧ m.data = leBytes 8 s.boot.count) ∧
    (s.boot.failed = false → s.host.up = false → s.host.lost = false →
      exec .hostLinkUp s = .next { s with host := { s.host with up := true } }) ∧
    (s.boot.failed = false → s.host.up = false → s.host.lost = true → ∃ t, exec .hostLinkUp s = .next t ∧ t.host.up = true ∧
      t.host.lost = false ∧ t.host.ready = s.host.ready ∧ t.host.next = s.host.next ∧ t.host.held = s.host.held ∧ t.mem = s.mem ∧ t.slots = s.slots ∧ ∃ m, (t.devOut.get {} 2).unacked = (s.devOut.get {} 2).unacked ++ [m] ∧
        m.type = 6 ∧ m.data.getD 8 0 = 6) ∧
    -- R437: what a device message and an acknowledgement put onto the link
    (∀ stream type data, (s.send stream type data).mem = s.mem ∧
      (∃ m, ((s.send stream type data).devOut.get {} stream).unacked = (s.devOut.get {} stream).unacked ++ [m] ∧
        m.seq = (s.devOut.get {} stream).seq ∧ m.type = type ∧ m.data = data) ∧
      (s.host.up = true → onTheWire s (s.send stream type data) type (if stream = 3 then 1 else 0) stream (s.devOut.get {} stream).seq data) ∧
      (s.host.up = false → (s.send stream type data).host = s.host)) ∧
    (∀ type, s.host.up = true → onTheWire s (confirmed s type s) type 2 s.inp.unit 0 [])

/-- R1, R352, R367, R371, R390, R400, R411, R419, R423, R434, R435, R442-R447: the pilot's management operations;
LINKTRAIN names one of the six torus ports or a port of the die torus. The layout of the messages' bodies is the model's
own (log entry 91). QDESC's read is log entry 137, the item that BASEIMG measures log entry 93, SHA-256 log entry 95, the
routers' table of keys log entry 143, and POWER out of range log entry 149. -/
def Obligations.ManagementOperations : Prop :=
  Manages .mgmtStatus 1 (fun u d runs => ∃ t, runs t ∧ t.mem = u.mem ∧ t.slots = u.slots ∧ t.hqueues = u.hqueues ∧
    (∀ i m, i ≠ 3 → i < 16 → 72 ≤ d.length → (m ∈ (t.devOut.get {} i).unacked ↔ ∃ o ∈ (u.devOut.get {} i).unacked,
      ¬ covers (bytesAt d (8 + 4 * i) 4) 0 o.seq ∧ m = { o with sent := u.mtime.toNat })) ∧
    ∃ m ∈ (t.devOut.get {} 3).unacked, m.seq = (u.devOut.get {} 3).seq ∧ m.type = 7 ∧
      m.data.take 20 = d.take 1 ++ leBytes 7 0 ++ leBytes 4 u.boot.count ++ leBytes 8 u.mtime.toNat) ∧
  Manages .mgmtQdesc 2 (fun u d runs =>
    let q := bytesAt d 2 2
    let f := fun o n => bytesAt d (8 + o) n
    let wrong := 1024 ≤ q ∨ d.length < 32 ∨ f 0 8 % 256 ≠ 0 ∨ ¬ ringSize (f 8 4) ∨ 3 < f 21 1 ∨ 63 < f 22 2
    let reads := q < 1024 ∧ bytesAt d 1 1 % 2 = 1
    (reads → runs (replied u d 0 (descriptor (u.hqueue q)))) ∧
    (¬ reads → wrong → runs (replied u d 5 [])) ∧
    (¬ reads → ¬ wrong → runs (replied (u.setHqueue q { u.hqueue q with
      ring := f 0 8, size := f 8 4, tail := f 12 4, head := f 16 4, asid := f 20 1, state := f 21 1, prog := f 22 2, sh := [] }) d 0 []))) ∧
  Manages .mgmtQprog 3 (fun u d runs =>
    let n := bytesAt d 2 2
    let b := d.drop 8
    let code := (List.range (b.length / 4)).map fun i => bytesAt b (4 * i) 4
    (63 < n ∨ b.length % 4 ≠ 0 → runs (replied u d 5 [])) ∧
    (n ≤ 63 → b.length % 4 = 0 → (∀ i, loadCheck code = some i → runs (replied u d 5 (leBytes 4 i))) ∧
      (loadCheck code = none → 1 ≤ code.length ∧ code.length ≤ 1024 ∧
        runs (replied (measured { u with progs := u.progs.set n code } 1 (b ++ leBytes 2 n)) d 0 [])))) ∧
  Manages .mgmtQtear 4 (fun u d runs =>
    let q := bytesAt d 2 2
    (1024 ≤ q → runs (replied u d 5 [])) ∧
    (q < 1024 → runs (replied (u.tearQueue q) d 0 []) ∧ ((u.hqueue q).state ≠ 3 →
      ((u.tearQueue q).hqueue q).state = 3 ∧ ((u.tearQueue q).hqueue q).cur = none ∧
      ((u.tearQueue q).hqueue q).head = ((u.tearQueue q).hqueue q).tail))) ∧
  Manages .mgmtChopen 5 (fun u d runs =>
    let die := bytesAt d 4 1
    let c := die * 4096 + bytesAt d 2 2
    let b := d.drop 8
    let ch := chopenEntry b
    let n := bytesAt b 56 2
    let free := u.sumpFree.get [] (256 * die + ch.asid)
    let wrong := 7 < die ∨ 4095 < bytesAt d 2 2 ∨ b.length < 64 ∨ (u.chan c).isOpen = true ∨ chopenBad b = true ∨
      u.ringBad die ch = true ∨ free.length < n ∨ ∃ a ∈ free.take n, u.segOutside die ch.asid a = true
    (wrong → runs (replied u d 5 [])) ∧
    (¬ wrong → ∃ t, runs (replied t d 0 []) ∧ t.chan c = { ch with segs := free.take n } ∧
      t.sumpFree = u.sumpFree.set (256 * die + ch.asid) (free.drop n) ∧ ∀ e, e ≠ c → t.chan e = u.chan e)) ∧
  Manages .mgmtChclose 6 (fun u d runs =>
    let die := bytesAt d 4 1
    let c := die * 4096 + bytesAt d 2 2
    let ch := u.chan c
    let key := 256 * die + ch.asid
    let wrong := 7 < die ∨ 4095 < bytesAt d 2 2 ∨ ch.isOpen = false ∨ u.closeHeld c = true
    (wrong → runs (replied u d 5 [])) ∧
    (¬ wrong → ∃ t, runs (replied t d 0 []) ∧ t.sumpFree = u.sumpFree.set key (u.sumpFree.get [] key ++ ch.segs) ∧
      (t.chan c).isOpen = false ∧ (t.chan c).pushed = 0 ∧ (t.chan c).popped = 0 ∧ (t.chan c).rcnt = 0 ∧ (t.chan c).scnt = 0 ∧
      (t.chan c).segs = [] ∧ (∀ e, e ≠ c → t.chan e = u.chan e) ∧ t.mem = u.mem)) ∧
  Manages .mgmtNodemap 7 (fun u d runs =>
    let i := bytesAt d 2 2
    let w := bytesAt d 8 8
    let key := w / 2 ^ 32 % 2 ^ 16
    let ks := u.torus.keys
    (15 < i → runs (replied u d 5 [])) ∧
    (i ≤ 15 → runs (replied { u with
      nodemap := u.nodemap.set i { valid := w / 2 ^ 63 % 2 == 1, key := key, node := w % 2 ^ 16 }
      torus := { u.torus with keys := if w / 2 ^ 63 % 2 = 1 ∧ key ∉ ks ∧ ks.length < 64 then key :: ks else ks } } d 0 []))) ∧
  Manages .mgmtTxinv 8 (fun u d runs => runs (replied (((List.range 8).filter fun i => bytesAt d 4 1 / 2 ^ i % 2 = 1).foldl
    (fun t i => txinvWritten t i (bytesAt d 8 8)) u) d 0 [])) ∧
  Manages .mgmtPtpdom 9 (fun u d runs =>
    let selects := bytesAt d 1 1 % 2 = 1
    let n := bytesAt d 2 2
    let status := fun t : State => leBytes 1 t.clock.domain ++ leBytes 1 (t.clock.locked.toNat + 2 * t.clock.holdover.toNat)
    let t := { u with clock := { u.clock with domain := n } }
    (selects → 127 < n → runs (replied u d 5 [])) ∧ (selects → n ≤ 127 → runs (replied t d 0 (status t))) ∧
    (¬ selects → runs (replied u d 0 (status u)))) ∧
  Manages .mgmtCounters 10 (fun u d runs => ∃ body, body.take 48 = ((List.range 6).flatMap fun i => leBytes 8 (u.torus.counters.get 0 i)) ∧
    (bytesAt d 1 1 % 2 = 1 → runs (replied { u with torus := { u.torus with counters := [] }, errs := [] } d 0 body)) ∧
    (bytesAt d 1 1 % 2 = 0 → runs (replied u d 0 body))) ∧
  Manages .mgmtLinktrain 11 (fun u d runs =>
    let n := bytesAt d 2 2
    let l := u.torus.link n
    let wrong := ¬ portOf n ∨ l.up = true ∨ l.dying ≠ none
    (wrong → runs (replied u d 5 [])) ∧
    (¬ wrong → runs (replied { u with torus := { u.torus with links := u.torus.links.set n { l with training := some u.mtime.toNat } } } d 0 []))) ∧
  Manages .mgmtFence 12 (fun u d runs =>
    let key := bytesAt d 8 2
    ∃ t, runs (replied t d 0 []) ∧ key ∈ t.torus.revoked ∧ (∀ e, e ∈ t.torus.revoked → e = key ∨ e ∈ u.torus.revoked) ∧
      (∀ e ∈ u.torus.revoked, e ∈ t.torus.revoked) ∧
      (∀ w, (∃ k ∈ (u.torus.windows.get {} w).held, k.key = key) → t.torus.windows.get {} w = {}) ∧
      (∀ w, (∀ k ∈ (u.torus.windows.get {} w).held, k.key ≠ key) → t.torus.windows.get {} w = u.torus.windows.get {} w) ∧ t.mem = u.mem) ∧
  Manages .mgmtAttest 13 (fun u d runs =>
    let nonce := (d.drop 8).take 32
    let meas := (List.range 4).flatMap fun i => u.boot.meas.get (List.replicate 32 0) i
    let report := leBytes 4 1 ++ leBytes 4 u.boot.count ++ [0x54, 0x52, 0x54, 0x2D, 0x41, 0x35, 0x2D, 0x32, 0x33, 0x30, 0x34, 0x00, 0x00, 0x00, 0x00, 0x00] ++
      leBytes 8 u.boot.rollback ++
      nonce ++ meas ++ (List.range 8).flatMap fun i => leBytes 1 (u.boot.retired.get 255 i)
    (nonce.length < 32 → runs (replied u d 5 [])) ∧
    (nonce = List.replicate 32 0 → runs (replied u d 0 Config.identity)) ∧
    (nonce.length = 32 → nonce ≠ List.replicate 32 0 → runs (replied u d 0 (report ++ Config.sign report)))) ∧
  Manages .mgmtBaseimg 14 (fun u d runs =>
    let t := bytesAt d 2 2
    let img := bytesAt d 4 1
    (63 < t ∨ 15 < img → runs (replied u d 5 [])) ∧
    (t ≤ 63 → img ≤ 15 → runs (replied (measured u 2 (Memory.readBytes u.mem (imageAt t img 0) 65536)) d 0 []))) ∧
  Manages .mgmtPower 15 (fun u d runs =>
    let w := bytesAt d 8 8
    let wrong := w / 2 ^ 16 % 2 ^ 16 < 1000 ∨ 5400 < w / 2 ^ 16 % 2 ^ 16 ∨ w / 2 ^ 8 % 256 = 0
    (wrong → runs (replied u d 5 [])) ∧
    (¬ wrong → runs (replied { u with power := { u.power with cap := BitVec.ofNat 64 (w / 2 ^ 8 % 2 ^ 24 * 256 + w % 2) } } d 0 []))) ∧
  Manages .mgmtSensors 16 (fun u d runs => runs (replied u d 0 (leBytes 8 u.power.now.toNat ++
    (List.range 8).flatMap (fun i => leBytes 8 (u.power.temps.get 0 i).toNat) ++ leBytes 8 (u.power.clock * 256 + u.power.causes.toNat))))

/-- R7, R36, R248, R346, R351, R352, R398, R410, R411: TXINV and what its end removes; the pilot's register writes: a
reserved ASHARE value is refused, AGELIM keeps 16 bits, and a die's cairn reserve less what its cairns hold is free; the
meridian clock. The numbers of the registers and their reserved values are log entry 94, the cairn reserve log entry 139,
and the rate of a slew log entry 11. -/
def Obligations.InvalidationAndClock : Prop :=
  ∀ (s : State),
    let i := s.inp
    let dd := s.die i.unit
    (∀ e ∈ [(Instr.txinvPages, 0), (.txinvChart, 1), (.txinvAsid, 2), (.txinvAll, 3)],
      (i.a % 2 = 1 → i.a / 16 % 4 = e.2 → exec e.1 s = .next (txinvWritten s i.unit i.a))) ∧
    (let w := dd.txinv.toNat
     let asid := w / 2 ^ 56 % 256
     let span := 4096 * 2 ^ (w / 2 ^ 6 % 64)
     let base := w / 2 ^ 12 % 2 ^ 44 * 4096 / span * span
     let performed := ∀ p ∈ s.slots, dieOf p.1 = i.unit → (w / 16 % 4 = 3 ∨ p.2.task.asid = asid) →
       ∀ o ∈ p.2.ops, o.done = true ∨ o.kind.locs = []
     (w / 2 % 2 = 1 → exec .txinvDone s = .next s) ∧
     (w / 2 % 2 = 0 → ¬ performed → exec .txinvDone s = .next s) ∧
     (w / 2 % 2 = 0 → performed → ∃ t, exec .txinvDone s = .next t ∧ t.mem = s.mem ∧ t.slots = s.slots ∧
       (t.die i.unit).txinv.toNat / 2 % 2 = 1 ∧
       (w / 16 % 4 = 0 → (t.die i.unit).charts = dd.charts ∧ ∀ p, p ∈ (t.die i.unit).pages ↔ p ∈ dd.pages ∧
         ¬ (p.asid = asid ∧ p.base < base + span ∧ base < p.base + p.size)) ∧
       (w / 16 % 4 = 1 → (∀ p, p ∈ (t.die i.unit).charts ↔ p ∈ dd.charts ∧ p.1 ≠ asid) ∧ (t.die i.unit).pages = dd.pages) ∧
       (w / 16 % 4 = 2 → (∀ p, p ∈ (t.die i.unit).charts ↔ p ∈ dd.charts ∧ p.1 ≠ asid) ∧ ∀ p, p ∈ (t.die i.unit).pages ↔ p ∈ dd.pages ∧ p.asid ≠ asid) ∧
       (w / 16 % 4 = 3 → (t.die i.unit).charts = [] ∧ (t.die i.unit).pages = []))) ∧
    -- REGISTER_WRITE
    (let r : ChanRegion := { asid := i.a, base := i.b, limit := i.c }
     (i.x = 0 → i.a % 4 ≠ 3 → i.a / 4 % 16 ≤ 6 → exec .registerWrite s = .next (s.setTile i.unit { s.tile i.unit with
       ashare := BitVec.ofNat 64 (i.a % 64), window := s.cycle })) ∧
     (i.x = 0 → i.a % 4 = 3 ∨ 6 < i.a / 4 % 16 → exec .registerWrite s = .next s) ∧
     (i.x = 1 → exec .registerWrite s = .next { s with agelim := s.agelim.set i.unit (i.a % 65536) }) ∧
     (i.x = 2 → i.a % 32 = 0 → i.b ≤ 4096 → i.c % 4096 = 0 →
       exec .registerWrite s = .next { s with asids := s.asids.set i.unit { chart := i.a, nchart := i.b, root := i.c } }) ∧
     (i.x = 3 → i.a % 2 ^ 20 = 0 → i.a ≤ 2 ^ 25 → (∀ p ∈ s.chans, p.1 / 4096 = i.unit → p.2.isOpen = false) →
       exec .registerWrite s = .next (s.setDie i.unit { dd with rres := i.a })) ∧
     (i.x = 4 → dd.regions.length < 16 → i.b % 65536 = 0 → i.c % 65536 = 0 → i.b < i.c → ∃ t, exec .registerWrite s = .next t ∧
       (t.die i.unit).regions = dd.regions ++ [r] ∧ t.sumpFree = s.sumpFree.set (256 * i.unit + i.a)
         (s.sumpFree.get [] (256 * i.unit + i.a) ++ (((List.range ((i.c - i.b) / 65536)).map fun j => i.b + 65536 * j).filter fun a =>
           !(dd.regions.any fun q => q.asid == i.a && decide (q.base ≤ a) && decide ((a - q.base) % 65536 = 0) &&
             decide ((a - q.base) / 65536 < (q.limit - q.base) / 65536))))) ∧
     (i.x = 6 → i.a % 256 = 0 → i.a ≤ 2 ^ 24 → exec .registerWrite s = .next { s with cairnFree := s.cairnFree.set i.unit (i.a - s.cairnUsed i.unit) })) ∧
    -- the meridian clock: MTIME never falls, and a message of another domain is nothing
    (i.unit ≠ s.clock.domain → exec .ptpMessage s = .next s) ∧
    (i.unit = s.clock.domain → ∃ t, exec .ptpMessage s = .next t ∧ t.clock.locked = true ∧ t.clock.holdover = false ∧
      (i.x = 0 → 100000 < i.a → t.mtime = s.mtime + BitVec.ofNat 64 i.a ∧ t.clock.slew = 0) ∧
      (i.x = 0 → i.a ≤ 100000 → t.mtime = s.mtime ∧ t.clock.slew = i.a) ∧
      (i.x ≠ 0 → t.mtime = s.mtime ∧ t.clock.slew = -(i.a : Int)) ∧ t.mem = s.mem ∧ t.slots = s.slots) ∧
    (s.clock.locked = true → s.clock.lastSync + 2000000000 ≤ s.mtime.toNat →
      exec .ptpHoldover s = .next { s with clock := { s.clock with holdover := true } }) ∧
    (s.mtime.toNat < s.clock.lastSync + 2000000000 → exec .ptpHoldover s = .next s)

/-- R409, R419, R422, R435, R436: packets at their destination and at their source. The operation codes are log entry 98,
the window of held packets log entry 99, the extent of a fence log entry 100, and the routers' table of keys log entry
143. -/
def Obligations.TorusPackets : Prop :=
  ∀ (s : State),
    let i := s.inp
    let node := i.unit
    let w := s.torus.windows.get {} node
    let seq := i.id % 2 ^ 32
    let ahead := (seq + 2 ^ 32 - w.base) % 2 ^ 32
    let pair := s.torus.pairs.get {} node
    -- REMOTE_PACKET_ARRIVAL
    (¬ admitted s i.c → exec .remotePacketArrival s = .next { s with torus := sentBack s.torus 2 node seq 10 0 }) ∧
    (admitted s i.c → 2 ^ 31 ≤ ahead → ∃ t, exec .remotePacketArrival s = .next t ∧ torusOnly s t ∧
      t.torus.sending = (sentBack s.torus 1 node seq 0 0).sending ∧ t.torus.windows = s.torus.windows ∧
      t.torus.counters.get 0 3 = min (2 ^ 64 - 1) (s.torus.counters.get 0 3 + 1)) ∧
    (admitted s i.c → 0 < ahead → ahead < 1024 → (∀ p ∈ w.held, p.seq ≠ seq) → ∃ t, exec .remotePacketArrival s = .next t ∧ torusOnly s t ∧
      t.torus.sending = s.torus.sending ∧ (t.torus.windows.get {} node).base = w.base ∧
      (t.torus.windows.get {} node).held = w.held ++ [{ seq := seq, addr := i.a, op := i.x, size := max 1 i.b, data := i.data, key := i.c }]) ∧
    (let spots := (List.range i.data.length).map (i.a + ·)
     admitted s i.c → ahead = 0 → (∀ p ∈ w.held, p.seq ≠ seq ∧ p.seq ≠ (w.base + 1) % 2 ^ 32) → s.cairnHolders = [] →
     (∀ a ∈ spots, inHbm a = true) →
       (i.x % 64 = 0 → ∃ t, exec .remotePacketArrival s = .next t ∧ t.mem = stored s (run i.a i.data) ∧ t.slots = s.slots ∧
         (t.torus.windows.get {} node).base = (w.base + 1) % 2 ^ 32 ∧ t.torus.sending = (sentBack s.torus 1 node seq 0 0).sending ∧
         t.torus.counters.get 0 2 = min (2 ^ 64 - 1) (s.torus.counters.get 0 2 + 1)) ∧
       (i.x = 1 → i.data.length = 8 → (∀ a ∈ spots, s.marked a = false) →
         let old := Memory.readLe s.mem i.a 8
         ∃ t, exec .remotePacketArrival s = .next t ∧ t.mem = stored s (run i.a (leBytes 8 (old + leNat i.data))) ∧
         t.torus.sending = (sentBack s.torus 1 node seq 0 old).sending) ∧
       (i.x = 1 → i.data.length = 8 → (∃ a ∈ spots, s.marked a = true) → ∃ t, exec .remotePacketArrival s = .next t ∧ t.mem = s.mem ∧
         t.torus.sending = (sentBack s.torus 1 node seq 1 0).sending)) ∧
    -- REMOTE_ACK_ARRIVAL
    ((∀ p ∈ pair.unacked, p.seq ≠ i.id) → exec .remoteAckArrival s = .next s ∧ exec .remoteRefusal s = .next s) ∧
    (∀ p, (pair.unacked.find? fun p => p.seq == i.id) = some p → ∃ t, exec .remoteAckArrival s = .next t ∧ t.mem = s.mem ∧
      (pair.later = [] → (t.torus.pairs.get {} node).unacked = (pair.unacked.filter fun q => q.seq != i.id)) ∧
      (∀ first rest, pair.later = first :: rest → (pair.unacked.filter fun q => q.seq != i.id).length < 1024 →
        (t.torus.pairs.get {} node).later = rest ∧ ∃ path, (t.torus.pairs.get {} node).unacked = (pair.unacked.filter fun q => q.seq != i.id) ++
          [{ first with seq := pair.next, path := path, sent := s.mtime.toNat }]) ∧
      (∀ j f, p.job ≠ 0 → s.jobs.find? p.job = some j → j.flights[p.flight]? = some f →
        let mine := fun pc : Piece => pc.node == node && pc.seq == p.seq
        let own := j.recorded = true ∧ p.flight + 1 = j.flights.length
        (i.x = 0 ∨ ¬ own → ((t.job p.job).flights[p.flight]?.map fun f => f.packets) = some (f.packets.filter fun pc => !mine pc)) ∧
        (i.x = 0 → (t.job p.job).stop = j.stop) ∧
        (i.x ≠ 0 → own → t.job p.job = { j with flights := [] }) ∧
        (∀ pc, i.x ≠ 0 → ¬ own → j.failed = none → f.packets.find? mine = some pc →
          (t.job p.job).stop = some i.x ∧ (t.job p.job).badWord = f.word ∧ (t.job p.job).badOff = pc.off ∧
          ∀ (e : Nat) (g : Flight), p.flight ≤ e → (t.job p.job).flights[e]? = some g → g.closed = true)) ∧
      (∀ q e, p.job = 0 → e ∈ (s.hqueue q).started → e.addSent = some (node, p.seq) →
        { e with addSent := none, added := i.x == 0, noAdd := i.x != 0 } ∈ (t.hqueue q).started)) ∧
    -- REMOTE_REFUSAL
    (∀ p j f, (pair.unacked.find? fun p => p.seq == i.id) = some p → p.job ≠ 0 → s.jobs.find? p.job = some j →
      j.flights[p.flight]? = some f → ∃ t, exec .remoteRefusal s = .next t ∧ t.mem = s.mem ∧ (t.torus.pairs.get {} node).fenced = true ∧
        (t.torus.pairs.get {} node).later = [] ∧ EndsFenced j (t.job p.job) node ∧ (∀ q ∈ (t.torus.pairs.get {} node).unacked, q ∈ pair.unacked ∧ q.seq ≠ p.seq ∧ q.job ≠ p.job)) ∧
    -- REMOTE_RESEND_TIMEOUT and DESTINATION_UNREACHABLE
    (∃ t, exec .remoteResendTimeout s = .next t ∧ Resends s t node fun p => decide (p.sent + 20000 ≤ s.mtime.toNat)) ∧
    (let since := if i.x = 1 then some i.a else if s.torus.live = [] then pair.deadSince else none
     (∀ e, since = some e → e + 100000 ≤ s.mtime.toNat → ∃ t, exec .destinationUnreachable s = .next t ∧ t.mem = s.mem ∧
       (pair.later = [] → (t.torus.pairs.get {} node).unacked = []) ∧
       (∀ p ∈ pair.unacked, p.job ≠ 0 → ∀ j, s.jobs.find? p.job = some j → EndsFenced j (t.job p.job) node)) ∧
     (∀ e, since = some e → s.mtime.toNat < e + 100000 → exec .destinationUnreachable s = .next s) ∧
     (since = none → exec .destinationUnreachable s = .next s))

/-- R12, R422, R423, R433, R434: links: a dying link's packets are sent again at once, and of a link of the die torus both
ends die; the link record follows when every router has removed it; a link comes back only by training, a die link at both
ends. That packets go again as soon as a loss is detected, at both ends, is log entry 99. -/
def Obligations.LinkEvents : Prop :=
  ∀ (s : State),
    let n := s.inp.unit
    let l := (s.torus.links.find? n).getD { up := decide (16 ≤ n) }
    let lk := fun t : State => t.torus.links.find? n
    let dies := fun (t : State) (cause : Nat) => ∃ d, lk t = some { l with up := false, retries := 0, dying := some (s.mtime.toNat, cause, d) }
    let lately := (l.recent.filter fun t => decide (s.mtime.toNat < t + 1000000)).length
    let fails := fun t : State => lk t = some { l with training := none } ∧ linkRecorded s t l n s.mtime.toNat 1 0 ∧ t.mem = s.mem ∧ t.slots = s.slots
    (∀ e ∈ [(Instr.linkLossOfLock, 1, l.training = none), (.linkFlitErrorRate, 3, s.inp.a < 1000000 * lately)], e.2.2 →
      (l.up = false ∨ ¬ portOf n → exec e.1 s = .next s) ∧
      (l.up = true → portOf n → ∃ t, exec e.1 s = .next t ∧ dies t e.2.1 ∧ (∀ m, sameLink n m → ∃ k, t.torus.links.find? m = some k ∧ k.up = false) ∧ t.mem = s.mem ∧ t.slots = s.slots ∧
        (n < 16 → t.torus.counters.get 0 5 = min (2 ^ 64 - 1) (s.torus.counters.get 0 5 + 1)) ∧
        (∀ q p, p ∈ (s.torus.pairs.get {} q).unacked → n ∉ p.path → p ∈ (t.torus.pairs.get {} q).unacked))) ∧
    (1000000 * lately ≤ s.inp.a → exec .linkFlitErrorRate s = .next s) ∧
    (l.training ≠ none → ∃ t, exec .linkLossOfLock s = .next t ∧ fails t) ∧
    (l.training ≠ none → s.inp.x ≠ 1 → ∃ t, exec .flitCrcRetry s = .next t ∧ lk t = some { l with training := none } ∧ t.mem = s.mem ∧
      ∃ m, (t.devOut.get {} 2).unacked.getLast? = some m ∧ m.type = 6 ∧ m.data.getD 13 0 = 1) ∧
    (s.inp.x = 1 → ∃ t, exec .flitCrcRetry s = .next t ∧ lk t = some { l with retries := 0 } ∧ torusOnly s t) ∧
    (s.inp.x ≠ 1 → l.training = none → l.retries < 15 → ∃ t, exec .flitCrcRetry s = .next t ∧ t.mem = s.mem ∧ lk t = some { l with
      retries := l.retries + 1, recent := s.mtime.toNat :: l.recent.filter fun t => decide (s.mtime.toNat < t + 1000000) }) ∧
    (s.inp.x ≠ 1 → l.training = none → 15 ≤ l.retries → l.up = true → portOf n → ∃ t, exec .flitCrcRetry s = .next t ∧ dies t 2) ∧
    (s.inp.x ≠ 1 → l.training = none → 15 ≤ l.retries → l.up = false ∨ ¬ portOf n → ∃ t, exec .flitCrcRetry s = .next t ∧ t.torus.links = s.torus.links ∧ t.mem = s.mem) ∧
    (s.inp.x = 1 → ∃ t, exec .linkRemoved s = .next t ∧ Resends s t s.inp.a fun p => p.seq == s.inp.id) ∧
    (s.inp.x ≠ 1 → l.dying = none → exec .linkRemoved s = .next s) ∧
    (∀ e c d, s.inp.x ≠ 1 → l.dying = some (e, c, d) → ∃ t, exec .linkRemoved s = .next t ∧ lk t = some { l with dying := none } ∧ t.mem = s.mem ∧
      linkRecorded s t l n e c d) ∧
    (l.training = none → exec .linkTrained s = .next s) ∧
    (∀ e, l.training = some e →
      (s.inp.x ≠ 1 → e + 10000000 ≤ s.mtime.toNat → ∃ t, exec .linkTrained s = .next t ∧
        lk t = some { l with up := true, training := none, dying := none, peer := s.inp.a, retries := 0 } ∧ torusOnly s t ∧
        (∀ m, sameLink n m → ∃ k, t.torus.links.find? m = some k ∧ k.up = true)) ∧
      (s.inp.x ≠ 1 → s.mtime.toNat < e + 10000000 → exec .linkTrained s = .next s) ∧
      (s.inp.x = 1 → ∃ t, exec .linkTrained s = .next t ∧ fails t))

/-- R426, R428-R431, R453: errors and their containment. Which commands a retired tile ends, and how, is log entry 103,
and the UNIT codes log entry 102. -/
def Obligations.ErrorEvents : Prop :=
  ∀ (s : State),
    let i := s.inp
    let quiet := fun t : State => t.mem = s.mem ∧ t.slots = s.slots ∧ t.marks = s.marks ∧ t.jobs = s.jobs
    -- a corrected error changes nothing but the counts, and is recorded above 16 in one second
    (∀ e ∈ [Instr.correctedError, .backgroundScrub], (e = .backgroundScrub → i.x ≠ 1) →
      let key := (locError 1 i.a).key
      let c := s.errs.get {} key
      let sec := s.mtime.toNat / 1000000000
      ∃ t, exec e s = .next t ∧ quiet t ∧
        (c.second = sec ∧ 16 ≤ c.inSecond → recorded s t 1 ∧ (t.errs.get {} key).count = 0) ∧
        (¬ (c.second = sec ∧ 16 ≤ c.inSecond) → t.devOut = s.devOut ∧ (t.errs.get {} key).count = c.count + 1)) ∧
    -- an uncorrectable one marks its unit of memory, whose content stands
    (∀ e ∈ [Instr.uncorrectableError, .backgroundScrub], (e = .uncorrectableError → i.x = 0) → (e = .backgroundScrub → i.x = 1) →
      ∃ t, exec e s = .next t ∧ t.marked i.a = true ∧ t.mem = s.mem ∧ t.slots = s.slots ∧ (∀ a, s.marked a = true → t.marked a = true) ∧
        recorded s t (if unitOf i.a = 5 then 3 else 2)) ∧
    (i.x = 1 → (s.slot i.unit).phase ≠ .free → (s.slot i.unit).phase ≠ .ending → ∃ t, exec .uncorrectableError s = .next t ∧ (t.slot i.unit).phase = .ending ∧
      (t.slot i.unit).ending = some (.lost (8 + i.id % 4 * 256)) ∧ recorded s t 3 ∧ (∀ k, k ≠ i.unit → t.slot k = s.slot k) ∧ t.mem = s.mem) ∧
    (∀ p, i.x = 2 → (s.hqueue i.unit).cur = some p → p.still = false →
      ∃ t, exec .uncorrectableError s = .next t ∧ (t.hqueue i.unit).cur = none ∧
        ((t.hqueue i.unit).started.getLast?.bind fun p => p.ended) = some 1) ∧
    (∀ c, i.x = 3 → (s.slot i.unit).cairns.find? i.id = some c → (c.saved.find? i.b).isSome = true → i.b ∉ c.bad →
      ∃ t, exec .uncorrectableError s = .next t ∧ (t.slot i.unit).cairns.find? i.id = some { c with bad := c.bad ++ [i.b] } ∧
        recorded s t 2 ∧ (∀ k, k ≠ i.unit → t.slot k = s.slot k) ∧ t.mem = s.mem) ∧
    -- CHANNEL_REMAP
    (let st := s.hbm.get {} i.unit
     let due := (i.x = 1 ∨ 64 < (st.rows.filter fun r => r.1 == i.id && decide (s.mtime.toNat < r.2.2 + 86400000000000)).length) ∧
       i.id ∉ st.broken
     (¬ due → exec .channelRemap s = .next s) ∧
     (due → st.spares < 2 → ∃ t, exec .channelRemap s = .next t ∧ (t.hbm.get {} i.unit).spares = st.spares + 1 ∧ t.mem = s.mem ∧
       (t.hbm.get {} i.unit).broken = st.broken ∧ t.slots = s.slots ∧ t.devOut = s.devOut) ∧
     (due → 2 ≤ st.spares → ∃ t, exec .channelRemap s = .next t ∧ i.id ∈ (t.hbm.get {} i.unit).broken ∧ t.power.fenced = true ∧
       recorded s t 8 ∧ t.mem = s.mem)) ∧
    -- TILE_RETIRE and SPARE_TAKEOVER_DONE
    (let T := i.unit
     (T ∈ s.away → exec .tileRetire s = .next s) ∧
     (T ∉ s.away → ∃ t, exec .tileRetire s = .next t ∧ T ∈ t.away ∧ (∀ j < 8, (t.slot (8 * T + j)).phase = .free) ∧
       (t.tile T).steps = [] ∧ (t.tile T).scaccs = [] ∧
       (s.boot.retired.find? (T / 8) = none → t.boot.retired.find? (T / 8) = some (T % 8) ∧ t.boot.absent = s.boot.absent) ∧
       ((s.boot.retired.find? (T / 8)).isSome = true → t.boot.absent = T :: s.boot.absent)) ∧
     (∀ id j, T ∉ s.away → (∀ e < 8, (s.slot (8 * T + e)).phase = .free) → (s.tile T).steps = [] → s.jobs.find? id = some j → j.dead = none →
       j.susp = none → j.failed = none →
       let reads := fun f : Flight => f.closed = false ∧ s.readsTile f.work j T = true
       let hit := fun f : Flight => reads f ∨ f.closed = false ∧ s.writesTile f.work j T = true
       ∃ t, exec .tileRetire s = .next t ∧ ((∀ f ∈ j.flights, ¬ hit f) → t.job id = j) ∧
         ∀ (n : Nat) (f : Flight), j.flights[n]? = some f → hit f → (∀ e < n, ∀ g, j.flights[e]? = some g → ¬ hit g) →
           (t.job id).badWord = f.word ∧ (t.job id).badOff = f.done ∧
           ((∃ g ∈ j.flights, reads g) → (t.job id).stop = some 1) ∧ ((∀ g ∈ j.flights, ¬ reads g) → (t.job id).stop = some 2) ∧
           (t.job id).flights.length = j.flights.length ∧
           ∀ (e : Nat) (g : Flight), j.flights[e]? = some g →
             (t.job id).flights[e]? = some { g with closed := g.closed || decide (n ≤ e) }) ∧
     (T ∈ s.away → T ∉ s.boot.absent → ∃ t, exec .spareTakeoverDone s = .next t ∧ T ∉ t.away ∧
       t.tile T = { ashare := 0, window := s.cycle } ∧ (∀ a, inTile T a = true → Memory.read t.mem a = 0) ∧
       (∀ a, inTile T a = false → Memory.read t.mem a = Memory.read s.mem a)) ∧
     (T ∉ s.away ∨ T ∈ s.boot.absent → exec .spareTakeoverDone s = .next s))

/-- R426, R443-R445, R447, R450-R452: throttling, thermal trip, a rail out of range, and cold reset; of an image that the
die refuses, as of one it does not accept, recovery is left with the package fenced. SHA-256 is log entry 95, the layout
of an image log entry 96, that some image is accepted log entry 151, the steps of the clock log entry 105, and the steps
of bring-up log entry 138. -/
def Obligations.PowerAndReset : Prop :=
  ∀ (s : State),
    let i := s.inp
    let p := s.power.sensed i
    (∃ t, exec .throttleStep s = .next t ∧ (∀ n < 5, t.power.causes.getLsbD n = true ↔ causeOf p n) ∧ t.mem = s.mem ∧ t.slots = s.slots ∧
      (tooHot p → t.power.clock = 12) ∧
      (¬ tooHot p → s.mtime.toNat < s.power.lastStep + 10000 → t.power.clock = s.power.clock) ∧
      (¬ tooHot p → s.power.lastStep + 10000 ≤ s.mtime.toNat → (∀ n, ¬ causeOf p n) → t.power.clock = min 33 (s.power.clock + 1)) ∧
      (¬ tooHot p → s.power.lastStep + 10000 ≤ s.mtime.toNat → (∃ n, causeOf p n) → t.power.clock = max 12 (s.power.clock - 1)) ∧
      (s.power.causes = 0 → (∃ n, causeOf p n) → recorded s t 7) ∧ ((∀ n, ¬ causeOf p n) → t.devOut = s.devOut)) ∧
    (∃ t, exec .carrierThrottle s = .next t ∧ t.power.ext = (i.x == 1) ∧ (t.power.causes.getLsbD 3 = true ↔ i.x = 1) ∧ t.mem = s.mem) ∧
    (p.hottest 0 < 1920 ∧ p.hottest 16 < 1680 → exec .thermalTrip s = .next { s with power := p }) ∧
    (1920 ≤ p.hottest 0 ∨ 1680 ≤ p.hottest 16 → ∃ t, exec .thermalTrip s = .next t ∧ t.power.railsOff = true ∧ t.power.fenced = true ∧
      recorded s t 8 ∧ ∀ n e, s.nodemap.find? n = some e → e.valid = true → e.key ∈ t.torus.revoked) ∧
    (∃ t, exec .railOutOfRange s = .next t ∧ t.power.fenced = true ∧ recorded s t 8 ∧ t.mem = s.mem ∧
      ∀ n e, s.nodemap.find? n = some e → e.valid = true → e.key ∈ t.torus.revoked) ∧
    -- COLD_RESET
    (i.x = 1 → exec .coldReset s = .next { s with power := { s.power with railsOff := true } }) ∧
    (i.x ≠ 1 → ∃ t, exec .coldReset s = .next t ∧ t.boot.count = s.boot.count + 1 ∧ t.mem = [] ∧ t.mtime = 0 ∧ t.power.railsOff = false ∧
      (∀ k, (t.slot k).phase = .free) ∧ (∀ q, t.hqueue q = {}) ∧ t.chans = [] ∧ t.jobs = [] ∧
      (imageAccepted i.data i.c s.boot.rollback → i.x ≠ 2 → t.boot.meas.find? 0 = some (
        let zero := List.replicate 32 0
        sha256 (sha256 (zero ++ sha256 Config.romVersion) ++ sha256 i.data))) ∧
      (¬ imageAccepted i.data i.c s.boot.rollback → i.x ≠ 2 → t.boot.meas = []) ∧
      -- all steps but the link: the port is still down, and READY comes with HOST_LINK_UP
      (imageAccepted i.data i.c s.boot.rollback → imageAccepted i.received i.c s.boot.rollback → i.x ∉ [2, 4, 6, 7] →
        t.power.recovery = false ∧ t.power.fenced = false ∧ t.boot.failed = false ∧ t.host.ready = false ∧ t.host.up = false ∧
        t.boot.rollback = max s.boot.rollback (min i.a i.c) ∧ (∀ T < 64, i.b / 2 ^ T % 2 = 0 → T ∉ t.boot.absent) ∧
        (i.b = 0 → t.devOut = [])) ∧
      -- a die refuses the image that it receives: recovery, with the reason in the record
      (∀ die image, i.x ≠ 2 → (die = 0 ∧ image = i.data ∨ die = i.unit ∧ image = i.received ∧ imageAccepted i.data i.c s.boot.rollback) →
        ¬ imageAccepted image i.c s.boot.rollback →
        t.power.recovery = true ∧ t.host.up = true ∧ t.host.ready = false ∧ t.power.fenced = true ∧
        ∃ m, (t.devOut.get {} 2).unacked = [m] ∧ m.data.getD 8 0 = 8 ∧ m.data.getD 9 0 = 5 ∧ m.data.getD 10 0 = BitVec.ofNat 8 die ∧
          m.data.getD 28 0 = (if sha256 (image.take 48) ≠ vendorDigest then 1 else if i.c < s.boot.rollback then 2 else 3)) ∧
      -- another step fails: the module goes no further, fenced but for the link of the host port
      (i.x = 2 ∨ i.x ∈ [4, 6] ∧ imageAccepted i.data i.c s.boot.rollback → t.boot.failed = true ∧ t.power.fenced = true ∧
        t.host.up = false ∧ ∃ m, (t.devOut.get {} 2).unacked.getLast? = some m ∧ m.data.getD 8 0 = 8) ∧
      (i.x = 7 → imageAccepted i.data i.c s.boot.rollback → t.boot.failed = true ∧ t.host.up = false ∧
        ∃ m, (t.devOut.get {} 2).unacked.getLast? = some m ∧ m.data.getD 8 0 = 6))
end

