-- ==== Sys2Proof/Laws/Table.lean ====
section
/-! SUPPORT. Sys2Proof/Laws/Table.lean: a table gives back what was written, and nothing else changes. -/

namespace Sys2Proof.Machine

theorem Tab.find_set {α : Type} (t : Tab α) (k : Nat) (v : α) : (Tab.set t k v).find? k = some v := by
  induction t with
  | nil => simp [Tab.set, Tab.find?]
  | cons p t ih =>
    obtain ⟨j, u⟩ := p
    simp only [Tab.set]
    split
    · simp [Tab.find?]
    · split
      · simp [Tab.find?]
      · simp [Tab.find?, *]

theorem Tab.find_set_ne {α : Type} (t : Tab α) (k : Nat) (v : α) (j : Nat) (h : j ≠ k) :
    (Tab.set t k v).find? j = t.find? j := by
  have h' : ¬ k = j := fun e => h e.symm
  induction t with
  | nil => simp [Tab.set, Tab.find?, h']
  | cons p t ih =>
    obtain ⟨i, u⟩ := p
    simp only [Tab.set]
    split
    · simp [Tab.find?, h']
    · split
      · next e => subst e; simp [Tab.find?, h']
      · simp [Tab.find?, ih]

@[simp] theorem Tab.get_set {α : Type} (d : α) (t : Tab α) (k : Nat) (v : α) : (Tab.set t k v).get d k = v := by
  simp [Tab.get, Tab.find_set]

theorem Tab.get_set_ne {α : Type} (d : α) (t : Tab α) (k : Nat) (v : α) (j : Nat) (h : j ≠ k) :
    (Tab.set t k v).get d j = t.get d j := by
  simp [Tab.get, Tab.find_set_ne t k v j h]

theorem Tab.set_set {α : Type} (t : Tab α) (k : Nat) (u v : α) : (Tab.set t k u).set k v = Tab.set t k v := by
  induction t with
  | nil => simp [Tab.set]
  | cons p t ih =>
    obtain ⟨i, w⟩ := p
    simp only [Tab.set]
    split
    · simp [Tab.set]
    · split
      · next e => subst e; simp [Tab.set]
      · simp [Tab.set, *]

end Sys2Proof.Machine
end

