-- ==== Sys2Proof/Laws/State.lean ====
section
/-! SUPPORT. Sys2Proof/Laws/State.lean: what each update of a state and of a slot leaves, field by field, so that no proof
opens a record update. -/

namespace Sys2Proof.Machine

@[simp] theorem State.setSlot_agenda (s : State) (k : Nat) (v : Slot) : (s.setSlot k v).agenda = s.agenda := rfl
@[simp] theorem State.setSlot_cur (s : State) (k : Nat) (v : Slot) : (s.setSlot k v).cur = s.cur := rfl
@[simp] theorem State.setSlot_fetched (s : State) (k : Nat) (v : Slot) : (s.setSlot k v).fetched = s.fetched := rfl
@[simp] theorem State.setSlot_inp (s : State) (k : Nat) (v : Slot) : (s.setSlot k v).inp = s.inp := rfl
@[simp] theorem State.setSlot_bundle (s : State) (k : Nat) (v : Slot) : (s.setSlot k v).bundle = s.bundle := rfl
@[simp] theorem State.setSlot_issued (s : State) (k : Nat) (v : Slot) : (s.setSlot k v).issued = s.issued := rfl
@[simp] theorem State.setSlot_bundleTrap (s : State) (k : Nat) (v : Slot) : (s.setSlot k v).bundleTrap = s.bundleTrap := rfl
@[simp] theorem State.setSlot_nextId (s : State) (k : Nat) (v : Slot) : (s.setSlot k v).nextId = s.nextId := rfl
@[simp] theorem State.setSlot_cycle (s : State) (k : Nat) (v : Slot) : (s.setSlot k v).cycle = s.cycle := rfl
@[simp] theorem State.setSlot_mtime (s : State) (k : Nat) (v : Slot) : (s.setSlot k v).mtime = s.mtime := rfl
@[simp] theorem State.setSlot_mfrac (s : State) (k : Nat) (v : Slot) : (s.setSlot k v).mfrac = s.mfrac := rfl
@[simp] theorem State.setSlot_mem (s : State) (k : Nat) (v : Slot) : (s.setSlot k v).mem = s.mem := rfl
@[simp] theorem State.setSlot_marks (s : State) (k : Nat) (v : Slot) : (s.setSlot k v).marks = s.marks := rfl
@[simp] theorem State.setSlot_slots (s : State) (k : Nat) (v : Slot) : (s.setSlot k v).slots = s.slots.set k v := rfl
@[simp] theorem State.setSlot_binds (s : State) (k : Nat) (v : Slot) : (s.setSlot k v).binds = s.binds := rfl
@[simp] theorem State.setSlot_tiles (s : State) (k : Nat) (v : Slot) : (s.setSlot k v).tiles = s.tiles := rfl
@[simp] theorem State.setSlot_agelim (s : State) (k : Nat) (v : Slot) : (s.setSlot k v).agelim = s.agelim := rfl
@[simp] theorem State.setSlot_jobs (s : State) (k : Nat) (v : Slot) : (s.setSlot k v).jobs = s.jobs := rfl
@[simp] theorem State.setSlot_hqueues (s : State) (k : Nat) (v : Slot) : (s.setSlot k v).hqueues = s.hqueues := rfl
@[simp] theorem State.setSlot_dies (s : State) (k : Nat) (v : Slot) : (s.setSlot k v).dies = s.dies := rfl
@[simp] theorem State.setSlot_devOut (s : State) (k : Nat) (v : Slot) : (s.setSlot k v).devOut = s.devOut := rfl
@[simp] theorem State.setSlot_cairnFree (s : State) (k : Nat) (v : Slot) : (s.setSlot k v).cairnFree = s.cairnFree := rfl
@[simp] theorem State.setSlot_asids (s : State) (k : Nat) (v : Slot) : (s.setSlot k v).asids = s.asids := rfl
@[simp] theorem State.setSlot_nodemap (s : State) (k : Nat) (v : Slot) : (s.setSlot k v).nodemap = s.nodemap := rfl
@[simp] theorem State.setSlot_fresh (s : State) (k : Nat) (v : Slot) : (s.setSlot k v).fresh = s.fresh := rfl
@[simp] theorem State.setSlot_away (s : State) (k : Nat) (v : Slot) : (s.setSlot k v).away = s.away := rfl
@[simp] theorem State.setSlot_chains (s : State) (k : Nat) (v : Slot) : (s.setSlot k v).chains = s.chains := rfl
@[simp] theorem State.setSlot_progs (s : State) (k : Nat) (v : Slot) : (s.setSlot k v).progs = s.progs := rfl
@[simp] theorem State.setSlot_launches (s : State) (k : Nat) (v : Slot) : (s.setSlot k v).launches = s.launches := rfl
@[simp] theorem State.setSlot_nextLaunch (s : State) (k : Nat) (v : Slot) : (s.setSlot k v).nextLaunch = s.nextLaunch := rfl
@[simp] theorem State.setSlot_groups (s : State) (k : Nat) (v : Slot) : (s.setSlot k v).groups = s.groups := rfl
@[simp] theorem State.setSlot_ready (s : State) (k : Nat) (v : Slot) : (s.setSlot k v).ready = s.ready := rfl
@[simp] theorem State.setSlot_saved (s : State) (k : Nat) (v : Slot) : (s.setSlot k v).saved = s.saved := rfl
@[simp] theorem State.setSlot_chans (s : State) (k : Nat) (v : Slot) : (s.setSlot k v).chans = s.chans := rfl
@[simp] theorem State.setSlot_sumpFree (s : State) (k : Nat) (v : Slot) : (s.setSlot k v).sumpFree = s.sumpFree := rfl
@[simp] theorem State.setSlot_torus (s : State) (k : Nat) (v : Slot) : (s.setSlot k v).torus = s.torus := rfl
@[simp] theorem State.setSlot_host (s : State) (k : Nat) (v : Slot) : (s.setSlot k v).host = s.host := rfl
@[simp] theorem State.setSlot_clock (s : State) (k : Nat) (v : Slot) : (s.setSlot k v).clock = s.clock := rfl
@[simp] theorem State.setSlot_power (s : State) (k : Nat) (v : Slot) : (s.setSlot k v).power = s.power := rfl
@[simp] theorem State.setSlot_boot (s : State) (k : Nat) (v : Slot) : (s.setSlot k v).boot = s.boot := rfl
@[simp] theorem State.setSlot_errs (s : State) (k : Nat) (v : Slot) : (s.setSlot k v).errs = s.errs := rfl
@[simp] theorem State.setSlot_hbm (s : State) (k : Nat) (v : Slot) : (s.setSlot k v).hbm = s.hbm := rfl
@[simp] theorem State.setSlot_told (s : State) (k : Nat) (v : Slot) : (s.setSlot k v).told = s.told := rfl
@[simp] theorem State.setSlot_landed (s : State) (k : Nat) (v : Slot) : (s.setSlot k v).landed = s.landed := rfl
@[simp] theorem State.setSlot_refusals (s : State) (k : Nat) (v : Slot) : (s.setSlot k v).refusals = s.refusals := rfl
@[simp] theorem State.setSlot_tripped (s : State) (k : Nat) (v : Slot) : (s.setSlot k v).tripped = s.tripped := rfl
@[simp] theorem State.setSlot_crossings (s : State) (k : Nat) (v : Slot) : (s.setSlot k v).crossings = s.crossings := rfl
@[simp] theorem State.setSlot_owed (s : State) (k : Nat) (v : Slot) : (s.setSlot k v).owed = s.owed := rfl
@[simp] theorem State.setSlot_retiring (s : State) (k : Nat) (v : Slot) : (s.setSlot k v).retiring = s.retiring := rfl

@[simp] theorem State.setTile_agenda (s : State) (t : Nat) (v : Tile) : (s.setTile t v).agenda = s.agenda := rfl
@[simp] theorem State.setTile_cur (s : State) (t : Nat) (v : Tile) : (s.setTile t v).cur = s.cur := rfl
@[simp] theorem State.setTile_fetched (s : State) (t : Nat) (v : Tile) : (s.setTile t v).fetched = s.fetched := rfl
@[simp] theorem State.setTile_inp (s : State) (t : Nat) (v : Tile) : (s.setTile t v).inp = s.inp := rfl
@[simp] theorem State.setTile_bundle (s : State) (t : Nat) (v : Tile) : (s.setTile t v).bundle = s.bundle := rfl
@[simp] theorem State.setTile_issued (s : State) (t : Nat) (v : Tile) : (s.setTile t v).issued = s.issued := rfl
@[simp] theorem State.setTile_bundleTrap (s : State) (t : Nat) (v : Tile) : (s.setTile t v).bundleTrap = s.bundleTrap := rfl
@[simp] theorem State.setTile_nextId (s : State) (t : Nat) (v : Tile) : (s.setTile t v).nextId = s.nextId := rfl
@[simp] theorem State.setTile_cycle (s : State) (t : Nat) (v : Tile) : (s.setTile t v).cycle = s.cycle := rfl
@[simp] theorem State.setTile_mtime (s : State) (t : Nat) (v : Tile) : (s.setTile t v).mtime = s.mtime := rfl
@[simp] theorem State.setTile_mfrac (s : State) (t : Nat) (v : Tile) : (s.setTile t v).mfrac = s.mfrac := rfl
@[simp] theorem State.setTile_mem (s : State) (t : Nat) (v : Tile) : (s.setTile t v).mem = s.mem := rfl
@[simp] theorem State.setTile_marks (s : State) (t : Nat) (v : Tile) : (s.setTile t v).marks = s.marks := rfl
@[simp] theorem State.setTile_slots (s : State) (t : Nat) (v : Tile) : (s.setTile t v).slots = s.slots := rfl
@[simp] theorem State.setTile_binds (s : State) (t : Nat) (v : Tile) : (s.setTile t v).binds = s.binds := rfl
@[simp] theorem State.setTile_tiles (s : State) (t : Nat) (v : Tile) : (s.setTile t v).tiles = s.tiles.set t v := rfl
@[simp] theorem State.setTile_agelim (s : State) (t : Nat) (v : Tile) : (s.setTile t v).agelim = s.agelim := rfl
@[simp] theorem State.setTile_jobs (s : State) (t : Nat) (v : Tile) : (s.setTile t v).jobs = s.jobs := rfl
@[simp] theorem State.setTile_hqueues (s : State) (t : Nat) (v : Tile) : (s.setTile t v).hqueues = s.hqueues := rfl
@[simp] theorem State.setTile_dies (s : State) (t : Nat) (v : Tile) : (s.setTile t v).dies = s.dies := rfl
@[simp] theorem State.setTile_devOut (s : State) (t : Nat) (v : Tile) : (s.setTile t v).devOut = s.devOut := rfl
@[simp] theorem State.setTile_cairnFree (s : State) (t : Nat) (v : Tile) : (s.setTile t v).cairnFree = s.cairnFree := rfl
@[simp] theorem State.setTile_asids (s : State) (t : Nat) (v : Tile) : (s.setTile t v).asids = s.asids := rfl
@[simp] theorem State.setTile_nodemap (s : State) (t : Nat) (v : Tile) : (s.setTile t v).nodemap = s.nodemap := rfl
@[simp] theorem State.setTile_fresh (s : State) (t : Nat) (v : Tile) : (s.setTile t v).fresh = s.fresh := rfl
@[simp] theorem State.setTile_away (s : State) (t : Nat) (v : Tile) : (s.setTile t v).away = s.away := rfl
@[simp] theorem State.setTile_chains (s : State) (t : Nat) (v : Tile) : (s.setTile t v).chains = s.chains := rfl
@[simp] theorem State.setTile_progs (s : State) (t : Nat) (v : Tile) : (s.setTile t v).progs = s.progs := rfl
@[simp] theorem State.setTile_launches (s : State) (t : Nat) (v : Tile) : (s.setTile t v).launches = s.launches := rfl
@[simp] theorem State.setTile_nextLaunch (s : State) (t : Nat) (v : Tile) : (s.setTile t v).nextLaunch = s.nextLaunch := rfl
@[simp] theorem State.setTile_groups (s : State) (t : Nat) (v : Tile) : (s.setTile t v).groups = s.groups := rfl
@[simp] theorem State.setTile_ready (s : State) (t : Nat) (v : Tile) : (s.setTile t v).ready = s.ready := rfl
@[simp] theorem State.setTile_saved (s : State) (t : Nat) (v : Tile) : (s.setTile t v).saved = s.saved := rfl
@[simp] theorem State.setTile_chans (s : State) (t : Nat) (v : Tile) : (s.setTile t v).chans = s.chans := rfl
@[simp] theorem State.setTile_sumpFree (s : State) (t : Nat) (v : Tile) : (s.setTile t v).sumpFree = s.sumpFree := rfl
@[simp] theorem State.setTile_torus (s : State) (t : Nat) (v : Tile) : (s.setTile t v).torus = s.torus := rfl
@[simp] theorem State.setTile_host (s : State) (t : Nat) (v : Tile) : (s.setTile t v).host = s.host := rfl
@[simp] theorem State.setTile_clock (s : State) (t : Nat) (v : Tile) : (s.setTile t v).clock = s.clock := rfl
@[simp] theorem State.setTile_power (s : State) (t : Nat) (v : Tile) : (s.setTile t v).power = s.power := rfl
@[simp] theorem State.setTile_boot (s : State) (t : Nat) (v : Tile) : (s.setTile t v).boot = s.boot := rfl
@[simp] theorem State.setTile_errs (s : State) (t : Nat) (v : Tile) : (s.setTile t v).errs = s.errs := rfl
@[simp] theorem State.setTile_hbm (s : State) (t : Nat) (v : Tile) : (s.setTile t v).hbm = s.hbm := rfl
@[simp] theorem State.setTile_told (s : State) (t : Nat) (v : Tile) : (s.setTile t v).told = s.told := rfl
@[simp] theorem State.setTile_landed (s : State) (t : Nat) (v : Tile) : (s.setTile t v).landed = s.landed := rfl
@[simp] theorem State.setTile_refusals (s : State) (t : Nat) (v : Tile) : (s.setTile t v).refusals = s.refusals := rfl
@[simp] theorem State.setTile_tripped (s : State) (t : Nat) (v : Tile) : (s.setTile t v).tripped = s.tripped := rfl
@[simp] theorem State.setTile_crossings (s : State) (t : Nat) (v : Tile) : (s.setTile t v).crossings = s.crossings := rfl
@[simp] theorem State.setTile_owed (s : State) (t : Nat) (v : Tile) : (s.setTile t v).owed = s.owed := rfl
@[simp] theorem State.setTile_retiring (s : State) (t : Nat) (v : Tile) : (s.setTile t v).retiring = s.retiring := rfl

@[simp] theorem State.setJob_agenda (s : State) (i : Nat) (v : Job) : (s.setJob i v).agenda = s.agenda := rfl
@[simp] theorem State.setJob_cur (s : State) (i : Nat) (v : Job) : (s.setJob i v).cur = s.cur := rfl
@[simp] theorem State.setJob_fetched (s : State) (i : Nat) (v : Job) : (s.setJob i v).fetched = s.fetched := rfl
@[simp] theorem State.setJob_inp (s : State) (i : Nat) (v : Job) : (s.setJob i v).inp = s.inp := rfl
@[simp] theorem State.setJob_bundle (s : State) (i : Nat) (v : Job) : (s.setJob i v).bundle = s.bundle := rfl
@[simp] theorem State.setJob_issued (s : State) (i : Nat) (v : Job) : (s.setJob i v).issued = s.issued := rfl
@[simp] theorem State.setJob_bundleTrap (s : State) (i : Nat) (v : Job) : (s.setJob i v).bundleTrap = s.bundleTrap := rfl
@[simp] theorem State.setJob_nextId (s : State) (i : Nat) (v : Job) : (s.setJob i v).nextId = s.nextId := rfl
@[simp] theorem State.setJob_cycle (s : State) (i : Nat) (v : Job) : (s.setJob i v).cycle = s.cycle := rfl
@[simp] theorem State.setJob_mtime (s : State) (i : Nat) (v : Job) : (s.setJob i v).mtime = s.mtime := rfl
@[simp] theorem State.setJob_mfrac (s : State) (i : Nat) (v : Job) : (s.setJob i v).mfrac = s.mfrac := rfl
@[simp] theorem State.setJob_mem (s : State) (i : Nat) (v : Job) : (s.setJob i v).mem = s.mem := rfl
@[simp] theorem State.setJob_marks (s : State) (i : Nat) (v : Job) : (s.setJob i v).marks = s.marks := rfl
@[simp] theorem State.setJob_slots (s : State) (i : Nat) (v : Job) : (s.setJob i v).slots = s.slots := rfl
@[simp] theorem State.setJob_binds (s : State) (i : Nat) (v : Job) : (s.setJob i v).binds = s.binds := rfl
@[simp] theorem State.setJob_tiles (s : State) (i : Nat) (v : Job) : (s.setJob i v).tiles = s.tiles := rfl
@[simp] theorem State.setJob_agelim (s : State) (i : Nat) (v : Job) : (s.setJob i v).agelim = s.agelim := rfl
@[simp] theorem State.setJob_jobs (s : State) (i : Nat) (v : Job) : (s.setJob i v).jobs = s.jobs.set i v := rfl
@[simp] theorem State.setJob_hqueues (s : State) (i : Nat) (v : Job) : (s.setJob i v).hqueues = s.hqueues := rfl
@[simp] theorem State.setJob_dies (s : State) (i : Nat) (v : Job) : (s.setJob i v).dies = s.dies := rfl
@[simp] theorem State.setJob_devOut (s : State) (i : Nat) (v : Job) : (s.setJob i v).devOut = s.devOut := rfl
@[simp] theorem State.setJob_cairnFree (s : State) (i : Nat) (v : Job) : (s.setJob i v).cairnFree = s.cairnFree := rfl
@[simp] theorem State.setJob_asids (s : State) (i : Nat) (v : Job) : (s.setJob i v).asids = s.asids := rfl
@[simp] theorem State.setJob_nodemap (s : State) (i : Nat) (v : Job) : (s.setJob i v).nodemap = s.nodemap := rfl
@[simp] theorem State.setJob_fresh (s : State) (i : Nat) (v : Job) : (s.setJob i v).fresh = s.fresh := rfl
@[simp] theorem State.setJob_away (s : State) (i : Nat) (v : Job) : (s.setJob i v).away = s.away := rfl
@[simp] theorem State.setJob_chains (s : State) (i : Nat) (v : Job) : (s.setJob i v).chains = s.chains := rfl
@[simp] theorem State.setJob_progs (s : State) (i : Nat) (v : Job) : (s.setJob i v).progs = s.progs := rfl
@[simp] theorem State.setJob_launches (s : State) (i : Nat) (v : Job) : (s.setJob i v).launches = s.launches := rfl
@[simp] theorem State.setJob_nextLaunch (s : State) (i : Nat) (v : Job) : (s.setJob i v).nextLaunch = s.nextLaunch := rfl
@[simp] theorem State.setJob_groups (s : State) (i : Nat) (v : Job) : (s.setJob i v).groups = s.groups := rfl
@[simp] theorem State.setJob_ready (s : State) (i : Nat) (v : Job) : (s.setJob i v).ready = s.ready := rfl
@[simp] theorem State.setJob_saved (s : State) (i : Nat) (v : Job) : (s.setJob i v).saved = s.saved := rfl
@[simp] theorem State.setJob_chans (s : State) (i : Nat) (v : Job) : (s.setJob i v).chans = s.chans := rfl
@[simp] theorem State.setJob_sumpFree (s : State) (i : Nat) (v : Job) : (s.setJob i v).sumpFree = s.sumpFree := rfl
@[simp] theorem State.setJob_torus (s : State) (i : Nat) (v : Job) : (s.setJob i v).torus = s.torus := rfl
@[simp] theorem State.setJob_host (s : State) (i : Nat) (v : Job) : (s.setJob i v).host = s.host := rfl
@[simp] theorem State.setJob_clock (s : State) (i : Nat) (v : Job) : (s.setJob i v).clock = s.clock := rfl
@[simp] theorem State.setJob_power (s : State) (i : Nat) (v : Job) : (s.setJob i v).power = s.power := rfl
@[simp] theorem State.setJob_boot (s : State) (i : Nat) (v : Job) : (s.setJob i v).boot = s.boot := rfl
@[simp] theorem State.setJob_errs (s : State) (i : Nat) (v : Job) : (s.setJob i v).errs = s.errs := rfl
@[simp] theorem State.setJob_hbm (s : State) (i : Nat) (v : Job) : (s.setJob i v).hbm = s.hbm := rfl
@[simp] theorem State.setJob_told (s : State) (i : Nat) (v : Job) : (s.setJob i v).told = s.told := rfl
@[simp] theorem State.setJob_landed (s : State) (i : Nat) (v : Job) : (s.setJob i v).landed = s.landed := rfl
@[simp] theorem State.setJob_refusals (s : State) (i : Nat) (v : Job) : (s.setJob i v).refusals = s.refusals := rfl
@[simp] theorem State.setJob_tripped (s : State) (i : Nat) (v : Job) : (s.setJob i v).tripped = s.tripped := rfl
@[simp] theorem State.setJob_crossings (s : State) (i : Nat) (v : Job) : (s.setJob i v).crossings = s.crossings := rfl
@[simp] theorem State.setJob_owed (s : State) (i : Nat) (v : Job) : (s.setJob i v).owed = s.owed := rfl
@[simp] theorem State.setJob_retiring (s : State) (i : Nat) (v : Job) : (s.setJob i v).retiring = s.retiring := rfl

@[simp] theorem State.setHqueue_agenda (s : State) (q : Nat) (v : HQueue) : (s.setHqueue q v).agenda = s.agenda := rfl
@[simp] theorem State.setHqueue_cur (s : State) (q : Nat) (v : HQueue) : (s.setHqueue q v).cur = s.cur := rfl
@[simp] theorem State.setHqueue_fetched (s : State) (q : Nat) (v : HQueue) : (s.setHqueue q v).fetched = s.fetched := rfl
@[simp] theorem State.setHqueue_inp (s : State) (q : Nat) (v : HQueue) : (s.setHqueue q v).inp = s.inp := rfl
@[simp] theorem State.setHqueue_bundle (s : State) (q : Nat) (v : HQueue) : (s.setHqueue q v).bundle = s.bundle := rfl
@[simp] theorem State.setHqueue_issued (s : State) (q : Nat) (v : HQueue) : (s.setHqueue q v).issued = s.issued := rfl
@[simp] theorem State.setHqueue_bundleTrap (s : State) (q : Nat) (v : HQueue) : (s.setHqueue q v).bundleTrap = s.bundleTrap := rfl
@[simp] theorem State.setHqueue_nextId (s : State) (q : Nat) (v : HQueue) : (s.setHqueue q v).nextId = s.nextId := rfl
@[simp] theorem State.setHqueue_cycle (s : State) (q : Nat) (v : HQueue) : (s.setHqueue q v).cycle = s.cycle := rfl
@[simp] theorem State.setHqueue_mtime (s : State) (q : Nat) (v : HQueue) : (s.setHqueue q v).mtime = s.mtime := rfl
@[simp] theorem State.setHqueue_mfrac (s : State) (q : Nat) (v : HQueue) : (s.setHqueue q v).mfrac = s.mfrac := rfl
@[simp] theorem State.setHqueue_mem (s : State) (q : Nat) (v : HQueue) : (s.setHqueue q v).mem = s.mem := rfl
@[simp] theorem State.setHqueue_marks (s : State) (q : Nat) (v : HQueue) : (s.setHqueue q v).marks = s.marks := rfl
@[simp] theorem State.setHqueue_slots (s : State) (q : Nat) (v : HQueue) : (s.setHqueue q v).slots = s.slots := rfl
@[simp] theorem State.setHqueue_binds (s : State) (q : Nat) (v : HQueue) : (s.setHqueue q v).binds = s.binds := rfl
@[simp] theorem State.setHqueue_tiles (s : State) (q : Nat) (v : HQueue) : (s.setHqueue q v).tiles = s.tiles := rfl
@[simp] theorem State.setHqueue_agelim (s : State) (q : Nat) (v : HQueue) : (s.setHqueue q v).agelim = s.agelim := rfl
@[simp] theorem State.setHqueue_jobs (s : State) (q : Nat) (v : HQueue) : (s.setHqueue q v).jobs = s.jobs := rfl
@[simp] theorem State.setHqueue_hqueues (s : State) (q : Nat) (v : HQueue) : (s.setHqueue q v).hqueues = s.hqueues.set q v := rfl
@[simp] theorem State.setHqueue_dies (s : State) (q : Nat) (v : HQueue) : (s.setHqueue q v).dies = s.dies := rfl
@[simp] theorem State.setHqueue_devOut (s : State) (q : Nat) (v : HQueue) : (s.setHqueue q v).devOut = s.devOut := rfl
@[simp] theorem State.setHqueue_cairnFree (s : State) (q : Nat) (v : HQueue) : (s.setHqueue q v).cairnFree = s.cairnFree := rfl
@[simp] theorem State.setHqueue_asids (s : State) (q : Nat) (v : HQueue) : (s.setHqueue q v).asids = s.asids := rfl
@[simp] theorem State.setHqueue_nodemap (s : State) (q : Nat) (v : HQueue) : (s.setHqueue q v).nodemap = s.nodemap := rfl
@[simp] theorem State.setHqueue_fresh (s : State) (q : Nat) (v : HQueue) : (s.setHqueue q v).fresh = s.fresh := rfl
@[simp] theorem State.setHqueue_away (s : State) (q : Nat) (v : HQueue) : (s.setHqueue q v).away = s.away := rfl
@[simp] theorem State.setHqueue_chains (s : State) (q : Nat) (v : HQueue) : (s.setHqueue q v).chains = s.chains := rfl
@[simp] theorem State.setHqueue_progs (s : State) (q : Nat) (v : HQueue) : (s.setHqueue q v).progs = s.progs := rfl
@[simp] theorem State.setHqueue_launches (s : State) (q : Nat) (v : HQueue) : (s.setHqueue q v).launches = s.launches := rfl
@[simp] theorem State.setHqueue_nextLaunch (s : State) (q : Nat) (v : HQueue) : (s.setHqueue q v).nextLaunch = s.nextLaunch := rfl
@[simp] theorem State.setHqueue_groups (s : State) (q : Nat) (v : HQueue) : (s.setHqueue q v).groups = s.groups := rfl
@[simp] theorem State.setHqueue_ready (s : State) (q : Nat) (v : HQueue) : (s.setHqueue q v).ready = s.ready := rfl
@[simp] theorem State.setHqueue_saved (s : State) (q : Nat) (v : HQueue) : (s.setHqueue q v).saved = s.saved := rfl
@[simp] theorem State.setHqueue_chans (s : State) (q : Nat) (v : HQueue) : (s.setHqueue q v).chans = s.chans := rfl
@[simp] theorem State.setHqueue_sumpFree (s : State) (q : Nat) (v : HQueue) : (s.setHqueue q v).sumpFree = s.sumpFree := rfl
@[simp] theorem State.setHqueue_torus (s : State) (q : Nat) (v : HQueue) : (s.setHqueue q v).torus = s.torus := rfl
@[simp] theorem State.setHqueue_host (s : State) (q : Nat) (v : HQueue) : (s.setHqueue q v).host = s.host := rfl
@[simp] theorem State.setHqueue_clock (s : State) (q : Nat) (v : HQueue) : (s.setHqueue q v).clock = s.clock := rfl
@[simp] theorem State.setHqueue_power (s : State) (q : Nat) (v : HQueue) : (s.setHqueue q v).power = s.power := rfl
@[simp] theorem State.setHqueue_boot (s : State) (q : Nat) (v : HQueue) : (s.setHqueue q v).boot = s.boot := rfl
@[simp] theorem State.setHqueue_errs (s : State) (q : Nat) (v : HQueue) : (s.setHqueue q v).errs = s.errs := rfl
@[simp] theorem State.setHqueue_hbm (s : State) (q : Nat) (v : HQueue) : (s.setHqueue q v).hbm = s.hbm := rfl
@[simp] theorem State.setHqueue_told (s : State) (q : Nat) (v : HQueue) : (s.setHqueue q v).told = s.told := rfl
@[simp] theorem State.setHqueue_landed (s : State) (q : Nat) (v : HQueue) : (s.setHqueue q v).landed = s.landed := rfl
@[simp] theorem State.setHqueue_refusals (s : State) (q : Nat) (v : HQueue) : (s.setHqueue q v).refusals = s.refusals := rfl
@[simp] theorem State.setHqueue_tripped (s : State) (q : Nat) (v : HQueue) : (s.setHqueue q v).tripped = s.tripped := rfl
@[simp] theorem State.setHqueue_crossings (s : State) (q : Nat) (v : HQueue) : (s.setHqueue q v).crossings = s.crossings := rfl
@[simp] theorem State.setHqueue_owed (s : State) (q : Nat) (v : HQueue) : (s.setHqueue q v).owed = s.owed := rfl
@[simp] theorem State.setHqueue_retiring (s : State) (q : Nat) (v : HQueue) : (s.setHqueue q v).retiring = s.retiring := rfl

@[simp] theorem State.setDie_agenda (s : State) (d : Nat) (v : Die) : (s.setDie d v).agenda = s.agenda := rfl
@[simp] theorem State.setDie_cur (s : State) (d : Nat) (v : Die) : (s.setDie d v).cur = s.cur := rfl
@[simp] theorem State.setDie_fetched (s : State) (d : Nat) (v : Die) : (s.setDie d v).fetched = s.fetched := rfl
@[simp] theorem State.setDie_inp (s : State) (d : Nat) (v : Die) : (s.setDie d v).inp = s.inp := rfl
@[simp] theorem State.setDie_bundle (s : State) (d : Nat) (v : Die) : (s.setDie d v).bundle = s.bundle := rfl
@[simp] theorem State.setDie_issued (s : State) (d : Nat) (v : Die) : (s.setDie d v).issued = s.issued := rfl
@[simp] theorem State.setDie_bundleTrap (s : State) (d : Nat) (v : Die) : (s.setDie d v).bundleTrap = s.bundleTrap := rfl
@[simp] theorem State.setDie_nextId (s : State) (d : Nat) (v : Die) : (s.setDie d v).nextId = s.nextId := rfl
@[simp] theorem State.setDie_cycle (s : State) (d : Nat) (v : Die) : (s.setDie d v).cycle = s.cycle := rfl
@[simp] theorem State.setDie_mtime (s : State) (d : Nat) (v : Die) : (s.setDie d v).mtime = s.mtime := rfl
@[simp] theorem State.setDie_mfrac (s : State) (d : Nat) (v : Die) : (s.setDie d v).mfrac = s.mfrac := rfl
@[simp] theorem State.setDie_mem (s : State) (d : Nat) (v : Die) : (s.setDie d v).mem = s.mem := rfl
@[simp] theorem State.setDie_marks (s : State) (d : Nat) (v : Die) : (s.setDie d v).marks = s.marks := rfl
@[simp] theorem State.setDie_slots (s : State) (d : Nat) (v : Die) : (s.setDie d v).slots = s.slots := rfl
@[simp] theorem State.setDie_binds (s : State) (d : Nat) (v : Die) : (s.setDie d v).binds = s.binds := rfl
@[simp] theorem State.setDie_tiles (s : State) (d : Nat) (v : Die) : (s.setDie d v).tiles = s.tiles := rfl
@[simp] theorem State.setDie_agelim (s : State) (d : Nat) (v : Die) : (s.setDie d v).agelim = s.agelim := rfl
@[simp] theorem State.setDie_jobs (s : State) (d : Nat) (v : Die) : (s.setDie d v).jobs = s.jobs := rfl
@[simp] theorem State.setDie_hqueues (s : State) (d : Nat) (v : Die) : (s.setDie d v).hqueues = s.hqueues := rfl
@[simp] theorem State.setDie_dies (s : State) (d : Nat) (v : Die) : (s.setDie d v).dies = s.dies.set d v := rfl
@[simp] theorem State.setDie_devOut (s : State) (d : Nat) (v : Die) : (s.setDie d v).devOut = s.devOut := rfl
@[simp] theorem State.setDie_cairnFree (s : State) (d : Nat) (v : Die) : (s.setDie d v).cairnFree = s.cairnFree := rfl
@[simp] theorem State.setDie_asids (s : State) (d : Nat) (v : Die) : (s.setDie d v).asids = s.asids := rfl
@[simp] theorem State.setDie_nodemap (s : State) (d : Nat) (v : Die) : (s.setDie d v).nodemap = s.nodemap := rfl
@[simp] theorem State.setDie_fresh (s : State) (d : Nat) (v : Die) : (s.setDie d v).fresh = s.fresh := rfl
@[simp] theorem State.setDie_away (s : State) (d : Nat) (v : Die) : (s.setDie d v).away = s.away := rfl
@[simp] theorem State.setDie_chains (s : State) (d : Nat) (v : Die) : (s.setDie d v).chains = s.chains := rfl
@[simp] theorem State.setDie_progs (s : State) (d : Nat) (v : Die) : (s.setDie d v).progs = s.progs := rfl
@[simp] theorem State.setDie_launches (s : State) (d : Nat) (v : Die) : (s.setDie d v).launches = s.launches := rfl
@[simp] theorem State.setDie_nextLaunch (s : State) (d : Nat) (v : Die) : (s.setDie d v).nextLaunch = s.nextLaunch := rfl
@[simp] theorem State.setDie_groups (s : State) (d : Nat) (v : Die) : (s.setDie d v).groups = s.groups := rfl
@[simp] theorem State.setDie_ready (s : State) (d : Nat) (v : Die) : (s.setDie d v).ready = s.ready := rfl
@[simp] theorem State.setDie_saved (s : State) (d : Nat) (v : Die) : (s.setDie d v).saved = s.saved := rfl
@[simp] theorem State.setDie_chans (s : State) (d : Nat) (v : Die) : (s.setDie d v).chans = s.chans := rfl
@[simp] theorem State.setDie_sumpFree (s : State) (d : Nat) (v : Die) : (s.setDie d v).sumpFree = s.sumpFree := rfl
@[simp] theorem State.setDie_torus (s : State) (d : Nat) (v : Die) : (s.setDie d v).torus = s.torus := rfl
@[simp] theorem State.setDie_host (s : State) (d : Nat) (v : Die) : (s.setDie d v).host = s.host := rfl
@[simp] theorem State.setDie_clock (s : State) (d : Nat) (v : Die) : (s.setDie d v).clock = s.clock := rfl
@[simp] theorem State.setDie_power (s : State) (d : Nat) (v : Die) : (s.setDie d v).power = s.power := rfl
@[simp] theorem State.setDie_boot (s : State) (d : Nat) (v : Die) : (s.setDie d v).boot = s.boot := rfl
@[simp] theorem State.setDie_errs (s : State) (d : Nat) (v : Die) : (s.setDie d v).errs = s.errs := rfl
@[simp] theorem State.setDie_hbm (s : State) (d : Nat) (v : Die) : (s.setDie d v).hbm = s.hbm := rfl
@[simp] theorem State.setDie_told (s : State) (d : Nat) (v : Die) : (s.setDie d v).told = s.told := rfl
@[simp] theorem State.setDie_landed (s : State) (d : Nat) (v : Die) : (s.setDie d v).landed = s.landed := rfl
@[simp] theorem State.setDie_refusals (s : State) (d : Nat) (v : Die) : (s.setDie d v).refusals = s.refusals := rfl
@[simp] theorem State.setDie_tripped (s : State) (d : Nat) (v : Die) : (s.setDie d v).tripped = s.tripped := rfl
@[simp] theorem State.setDie_crossings (s : State) (d : Nat) (v : Die) : (s.setDie d v).crossings = s.crossings := rfl
@[simp] theorem State.setDie_owed (s : State) (d : Nat) (v : Die) : (s.setDie d v).owed = s.owed := rfl
@[simp] theorem State.setDie_retiring (s : State) (d : Nat) (v : Die) : (s.setDie d v).retiring = s.retiring := rfl

@[simp] theorem State.slot_setSlot (s : State) (k : Nat) (v : Slot) : (s.setSlot k v).slot k = v := Tab.get_set _ _ _ _
theorem State.slot_setSlot_ne (s : State) (k : Nat) (v : Slot) (j : Nat) (h : j ≠ k) : (s.setSlot k v).slot j = s.slot j :=
  Tab.get_set_ne _ _ _ _ _ h
@[simp] theorem State.setSlot_setSlot (s : State) (k : Nat) (v : Slot) (u) : (s.setSlot k u).setSlot k v = s.setSlot k v := by
  simp [State.setSlot, Tab.set_set]
@[simp] theorem State.tile_setSlot (s : State) (k : Nat) (v : Slot) (j : Nat) : (s.setSlot k v).tile j = s.tile j := rfl
@[simp] theorem State.job_setSlot (s : State) (k : Nat) (v : Slot) (j : Nat) : (s.setSlot k v).job j = s.job j := rfl
@[simp] theorem State.hqueue_setSlot (s : State) (k : Nat) (v : Slot) (j : Nat) : (s.setSlot k v).hqueue j = s.hqueue j := rfl
@[simp] theorem State.die_setSlot (s : State) (k : Nat) (v : Slot) (j : Nat) : (s.setSlot k v).die j = s.die j := rfl
@[simp] theorem State.bind_setSlot (s : State) (k : Nat) (v : Slot) (j : Nat) : (s.setSlot k v).bind j = s.bind j := rfl
@[simp] theorem State.chan_setSlot (s : State) (k : Nat) (v : Slot) (j : Nat) : (s.setSlot k v).chan j = s.chan j := rfl

@[simp] theorem State.tile_setTile (s : State) (t : Nat) (v : Tile) : (s.setTile t v).tile t = v := Tab.get_set _ _ _ _
theorem State.tile_setTile_ne (s : State) (t : Nat) (v : Tile) (j : Nat) (h : j ≠ t) : (s.setTile t v).tile j = s.tile j :=
  Tab.get_set_ne _ _ _ _ _ h
@[simp] theorem State.setTile_setTile (s : State) (t : Nat) (v : Tile) (u) : (s.setTile t u).setTile t v = s.setTile t v := by
  simp [State.setTile, Tab.set_set]
@[simp] theorem State.slot_setTile (s : State) (t : Nat) (v : Tile) (j : Nat) : (s.setTile t v).slot j = s.slot j := rfl
@[simp] theorem State.job_setTile (s : State) (t : Nat) (v : Tile) (j : Nat) : (s.setTile t v).job j = s.job j := rfl
@[simp] theorem State.hqueue_setTile (s : State) (t : Nat) (v : Tile) (j : Nat) : (s.setTile t v).hqueue j = s.hqueue j := rfl
@[simp] theorem State.die_setTile (s : State) (t : Nat) (v : Tile) (j : Nat) : (s.setTile t v).die j = s.die j := rfl
@[simp] theorem State.bind_setTile (s : State) (t : Nat) (v : Tile) (j : Nat) : (s.setTile t v).bind j = s.bind j := rfl
@[simp] theorem State.chan_setTile (s : State) (t : Nat) (v : Tile) (j : Nat) : (s.setTile t v).chan j = s.chan j := rfl

@[simp] theorem State.job_setJob (s : State) (i : Nat) (v : Job) : (s.setJob i v).job i = v := Tab.get_set _ _ _ _
theorem State.job_setJob_ne (s : State) (i : Nat) (v : Job) (j : Nat) (h : j ≠ i) : (s.setJob i v).job j = s.job j :=
  Tab.get_set_ne _ _ _ _ _ h
@[simp] theorem State.setJob_setJob (s : State) (i : Nat) (v : Job) (u) : (s.setJob i u).setJob i v = s.setJob i v := by
  simp [State.setJob, Tab.set_set]
@[simp] theorem State.slot_setJob (s : State) (i : Nat) (v : Job) (j : Nat) : (s.setJob i v).slot j = s.slot j := rfl
@[simp] theorem State.tile_setJob (s : State) (i : Nat) (v : Job) (j : Nat) : (s.setJob i v).tile j = s.tile j := rfl
@[simp] theorem State.hqueue_setJob (s : State) (i : Nat) (v : Job) (j : Nat) : (s.setJob i v).hqueue j = s.hqueue j := rfl
@[simp] theorem State.die_setJob (s : State) (i : Nat) (v : Job) (j : Nat) : (s.setJob i v).die j = s.die j := rfl
@[simp] theorem State.bind_setJob (s : State) (i : Nat) (v : Job) (j : Nat) : (s.setJob i v).bind j = s.bind j := rfl
@[simp] theorem State.chan_setJob (s : State) (i : Nat) (v : Job) (j : Nat) : (s.setJob i v).chan j = s.chan j := rfl

@[simp] theorem State.hqueue_setHqueue (s : State) (q : Nat) (v : HQueue) : (s.setHqueue q v).hqueue q = v := Tab.get_set _ _ _ _
theorem State.hqueue_setHqueue_ne (s : State) (q : Nat) (v : HQueue) (j : Nat) (h : j ≠ q) : (s.setHqueue q v).hqueue j = s.hqueue j :=
  Tab.get_set_ne _ _ _ _ _ h
@[simp] theorem State.setHqueue_setHqueue (s : State) (q : Nat) (v : HQueue) (u) : (s.setHqueue q u).setHqueue q v = s.setHqueue q v := by
  simp [State.setHqueue, Tab.set_set]
@[simp] theorem State.slot_setHqueue (s : State) (q : Nat) (v : HQueue) (j : Nat) : (s.setHqueue q v).slot j = s.slot j := rfl
@[simp] theorem State.tile_setHqueue (s : State) (q : Nat) (v : HQueue) (j : Nat) : (s.setHqueue q v).tile j = s.tile j := rfl
@[simp] theorem State.job_setHqueue (s : State) (q : Nat) (v : HQueue) (j : Nat) : (s.setHqueue q v).job j = s.job j := rfl
@[simp] theorem State.die_setHqueue (s : State) (q : Nat) (v : HQueue) (j : Nat) : (s.setHqueue q v).die j = s.die j := rfl
@[simp] theorem State.bind_setHqueue (s : State) (q : Nat) (v : HQueue) (j : Nat) : (s.setHqueue q v).bind j = s.bind j := rfl
@[simp] theorem State.chan_setHqueue (s : State) (q : Nat) (v : HQueue) (j : Nat) : (s.setHqueue q v).chan j = s.chan j := rfl

@[simp] theorem State.die_setDie (s : State) (d : Nat) (v : Die) : (s.setDie d v).die d = v := Tab.get_set _ _ _ _
theorem State.die_setDie_ne (s : State) (d : Nat) (v : Die) (j : Nat) (h : j ≠ d) : (s.setDie d v).die j = s.die j :=
  Tab.get_set_ne _ _ _ _ _ h
@[simp] theorem State.setDie_setDie (s : State) (d : Nat) (v : Die) (u) : (s.setDie d u).setDie d v = s.setDie d v := by
  simp [State.setDie, Tab.set_set]
@[simp] theorem State.slot_setDie (s : State) (d : Nat) (v : Die) (j : Nat) : (s.setDie d v).slot j = s.slot j := rfl
@[simp] theorem State.tile_setDie (s : State) (d : Nat) (v : Die) (j : Nat) : (s.setDie d v).tile j = s.tile j := rfl
@[simp] theorem State.job_setDie (s : State) (d : Nat) (v : Die) (j : Nat) : (s.setDie d v).job j = s.job j := rfl
@[simp] theorem State.hqueue_setDie (s : State) (d : Nat) (v : Die) (j : Nat) : (s.setDie d v).hqueue j = s.hqueue j := rfl
@[simp] theorem State.bind_setDie (s : State) (d : Nat) (v : Die) (j : Nat) : (s.setDie d v).bind j = s.bind j := rfl
@[simp] theorem State.chan_setDie (s : State) (d : Nat) (v : Die) (j : Nat) : (s.setDie d v).chan j = s.chan j := rfl

@[simp] theorem State.modSlot_eq (s : State) (k : Nat) (f : Slot → Slot) : s.modSlot k f = s.setSlot k (f (s.slot k)) := rfl
@[simp] theorem State.modTile_eq (s : State) (k : Nat) (f : Tile → Tile) : s.modTile k f = s.setTile k (f (s.tile k)) := rfl
@[simp] theorem State.modDie_eq (s : State) (k : Nat) (f : Die → Die) : s.modDie k f = s.setDie k (f (s.die k)) := rfl

@[simp] theorem State.withIssued_agenda (s : State) (l : List (Nat × Nat)) : { s with issued := l }.agenda = s.agenda := rfl
@[simp] theorem State.withIssued_cur (s : State) (l : List (Nat × Nat)) : { s with issued := l }.cur = s.cur := rfl
@[simp] theorem State.withIssued_fetched (s : State) (l : List (Nat × Nat)) : { s with issued := l }.fetched = s.fetched := rfl
@[simp] theorem State.withIssued_inp (s : State) (l : List (Nat × Nat)) : { s with issued := l }.inp = s.inp := rfl
@[simp] theorem State.withIssued_bundle (s : State) (l : List (Nat × Nat)) : { s with issued := l }.bundle = s.bundle := rfl
@[simp] theorem State.withIssued_bundleTrap (s : State) (l : List (Nat × Nat)) : { s with issued := l }.bundleTrap = s.bundleTrap := rfl
@[simp] theorem State.withIssued_nextId (s : State) (l : List (Nat × Nat)) : { s with issued := l }.nextId = s.nextId := rfl
@[simp] theorem State.withIssued_cycle (s : State) (l : List (Nat × Nat)) : { s with issued := l }.cycle = s.cycle := rfl
@[simp] theorem State.withIssued_mtime (s : State) (l : List (Nat × Nat)) : { s with issued := l }.mtime = s.mtime := rfl
@[simp] theorem State.withIssued_mfrac (s : State) (l : List (Nat × Nat)) : { s with issued := l }.mfrac = s.mfrac := rfl
@[simp] theorem State.withIssued_mem (s : State) (l : List (Nat × Nat)) : { s with issued := l }.mem = s.mem := rfl
@[simp] theorem State.withIssued_marks (s : State) (l : List (Nat × Nat)) : { s with issued := l }.marks = s.marks := rfl
@[simp] theorem State.withIssued_slots (s : State) (l : List (Nat × Nat)) : { s with issued := l }.slots = s.slots := rfl
@[simp] theorem State.withIssued_binds (s : State) (l : List (Nat × Nat)) : { s with issued := l }.binds = s.binds := rfl
@[simp] theorem State.withIssued_tiles (s : State) (l : List (Nat × Nat)) : { s with issued := l }.tiles = s.tiles := rfl
@[simp] theorem State.withIssued_agelim (s : State) (l : List (Nat × Nat)) : { s with issued := l }.agelim = s.agelim := rfl
@[simp] theorem State.withIssued_jobs (s : State) (l : List (Nat × Nat)) : { s with issued := l }.jobs = s.jobs := rfl
@[simp] theorem State.withIssued_hqueues (s : State) (l : List (Nat × Nat)) : { s with issued := l }.hqueues = s.hqueues := rfl
@[simp] theorem State.withIssued_dies (s : State) (l : List (Nat × Nat)) : { s with issued := l }.dies = s.dies := rfl
@[simp] theorem State.withIssued_devOut (s : State) (l : List (Nat × Nat)) : { s with issued := l }.devOut = s.devOut := rfl
@[simp] theorem State.withIssued_cairnFree (s : State) (l : List (Nat × Nat)) : { s with issued := l }.cairnFree = s.cairnFree := rfl
@[simp] theorem State.withIssued_asids (s : State) (l : List (Nat × Nat)) : { s with issued := l }.asids = s.asids := rfl
@[simp] theorem State.withIssued_nodemap (s : State) (l : List (Nat × Nat)) : { s with issued := l }.nodemap = s.nodemap := rfl
@[simp] theorem State.withIssued_fresh (s : State) (l : List (Nat × Nat)) : { s with issued := l }.fresh = s.fresh := rfl
@[simp] theorem State.withIssued_away (s : State) (l : List (Nat × Nat)) : { s with issued := l }.away = s.away := rfl
@[simp] theorem State.withIssued_chains (s : State) (l : List (Nat × Nat)) : { s with issued := l }.chains = s.chains := rfl
@[simp] theorem State.withIssued_progs (s : State) (l : List (Nat × Nat)) : { s with issued := l }.progs = s.progs := rfl
@[simp] theorem State.withIssued_launches (s : State) (l : List (Nat × Nat)) : { s with issued := l }.launches = s.launches := rfl
@[simp] theorem State.withIssued_nextLaunch (s : State) (l : List (Nat × Nat)) : { s with issued := l }.nextLaunch = s.nextLaunch := rfl
@[simp] theorem State.withIssued_groups (s : State) (l : List (Nat × Nat)) : { s with issued := l }.groups = s.groups := rfl
@[simp] theorem State.withIssued_ready (s : State) (l : List (Nat × Nat)) : { s with issued := l }.ready = s.ready := rfl
@[simp] theorem State.withIssued_saved (s : State) (l : List (Nat × Nat)) : { s with issued := l }.saved = s.saved := rfl
@[simp] theorem State.withIssued_chans (s : State) (l : List (Nat × Nat)) : { s with issued := l }.chans = s.chans := rfl
@[simp] theorem State.withIssued_sumpFree (s : State) (l : List (Nat × Nat)) : { s with issued := l }.sumpFree = s.sumpFree := rfl
@[simp] theorem State.withIssued_torus (s : State) (l : List (Nat × Nat)) : { s with issued := l }.torus = s.torus := rfl
@[simp] theorem State.withIssued_host (s : State) (l : List (Nat × Nat)) : { s with issued := l }.host = s.host := rfl
@[simp] theorem State.withIssued_clock (s : State) (l : List (Nat × Nat)) : { s with issued := l }.clock = s.clock := rfl
@[simp] theorem State.withIssued_power (s : State) (l : List (Nat × Nat)) : { s with issued := l }.power = s.power := rfl
@[simp] theorem State.withIssued_boot (s : State) (l : List (Nat × Nat)) : { s with issued := l }.boot = s.boot := rfl
@[simp] theorem State.withIssued_errs (s : State) (l : List (Nat × Nat)) : { s with issued := l }.errs = s.errs := rfl
@[simp] theorem State.withIssued_hbm (s : State) (l : List (Nat × Nat)) : { s with issued := l }.hbm = s.hbm := rfl
@[simp] theorem State.withIssued_told (s : State) (l : List (Nat × Nat)) : { s with issued := l }.told = s.told := rfl
@[simp] theorem State.withIssued_landed (s : State) (l : List (Nat × Nat)) : { s with issued := l }.landed = s.landed := rfl
@[simp] theorem State.withIssued_refusals (s : State) (l : List (Nat × Nat)) : { s with issued := l }.refusals = s.refusals := rfl
@[simp] theorem State.withIssued_tripped (s : State) (l : List (Nat × Nat)) : { s with issued := l }.tripped = s.tripped := rfl
@[simp] theorem State.withIssued_crossings (s : State) (l : List (Nat × Nat)) : { s with issued := l }.crossings = s.crossings := rfl
@[simp] theorem State.withIssued_owed (s : State) (l : List (Nat × Nat)) : { s with issued := l }.owed = s.owed := rfl
@[simp] theorem State.withIssued_retiring (s : State) (l : List (Nat × Nat)) : { s with issued := l }.retiring = s.retiring := rfl
@[simp] theorem State.withIssued_slot (s : State) (l : List (Nat × Nat)) (k : Nat) : { s with issued := l }.slot k = s.slot k := rfl

@[simp] theorem Slot.setStream_phase (sl : Slot) (x : Nat) (v : Stream) : (sl.setStream x v).phase = sl.phase := rfl
@[simp] theorem Slot.setStream_task (sl : Slot) (x : Nat) (v : Stream) : (sl.setStream x v).task = sl.task := rfl
@[simp] theorem Slot.setStream_regs (sl : Slot) (x : Nat) (v : Stream) : (sl.setStream x v).regs = sl.regs := rfl
@[simp] theorem Slot.setStream_preds (sl : Slot) (x : Nat) (v : Stream) : (sl.setStream x v).preds = sl.preds := rfl
@[simp] theorem Slot.setStream_queues (sl : Slot) (x : Nat) (v : Stream) : (sl.setStream x v).queues = sl.queues := rfl
@[simp] theorem Slot.setStream_chans (sl : Slot) (x : Nat) (v : Stream) : (sl.setStream x v).chans = sl.chans := rfl
@[simp] theorem Slot.setStream_fpcsr (sl : Slot) (x : Nat) (v : Stream) : (sl.setStream x v).fpcsr = sl.fpcsr := rfl
@[simp] theorem Slot.setStream_trap (sl : Slot) (x : Nat) (v : Stream) : (sl.setStream x v).trap = sl.trap := rfl
@[simp] theorem Slot.setStream_exposed (sl : Slot) (x : Nat) (v : Stream) : (sl.setStream x v).exposed = sl.exposed := rfl
@[simp] theorem Slot.setStream_resumed (sl : Slot) (x : Nat) (v : Stream) : (sl.setStream x v).resumed = sl.resumed := rfl
@[simp] theorem Slot.setStream_lfpend (sl : Slot) (x : Nat) (v : Stream) : (sl.setStream x v).lfpend = sl.lfpend := rfl
@[simp] theorem Slot.setStream_lfrun (sl : Slot) (x : Nat) (v : Stream) : (sl.setStream x v).lfrun = sl.lfrun := rfl
@[simp] theorem Slot.setStream_streams (sl : Slot) (x : Nat) (v : Stream) : (sl.setStream x v).streams = sl.streams.set x v := rfl
@[simp] theorem Slot.setStream_ops (sl : Slot) (x : Nat) (v : Stream) : (sl.setStream x v).ops = sl.ops := rfl
@[simp] theorem Slot.setStream_pend (sl : Slot) (x : Nat) (v : Stream) : (sl.setStream x v).pend = sl.pend := rfl
@[simp] theorem Slot.setStream_late (sl : Slot) (x : Nat) (v : Stream) : (sl.setStream x v).late = sl.late := rfl
@[simp] theorem Slot.setStream_cycle (sl : Slot) (x : Nat) (v : Stream) : (sl.setStream x v).cycle = sl.cycle := rfl
@[simp] theorem Slot.setStream_resp (sl : Slot) (x : Nat) (v : Stream) : (sl.setStream x v).resp = sl.resp := rfl
@[simp] theorem Slot.setStream_copyStatus (sl : Slot) (x : Nat) (v : Stream) : (sl.setStream x v).copyStatus = sl.copyStatus := rfl
@[simp] theorem Slot.setStream_validity (sl : Slot) (x : Nat) (v : Stream) : (sl.setStream x v).validity = sl.validity := rfl
@[simp] theorem Slot.setStream_parking (sl : Slot) (x : Nat) (v : Stream) : (sl.setStream x v).parking = sl.parking := rfl
@[simp] theorem Slot.setStream_bound (sl : Slot) (x : Nat) (v : Stream) : (sl.setStream x v).bound = sl.bound := rfl
@[simp] theorem Slot.setStream_cairns (sl : Slot) (x : Nat) (v : Stream) : (sl.setStream x v).cairns = sl.cairns := rfl
@[simp] theorem Slot.setStream_ending (sl : Slot) (x : Nat) (v : Stream) : (sl.setStream x v).ending = sl.ending := rfl
@[simp] theorem Slot.setStream_debug (sl : Slot) (x : Nat) (v : Stream) : (sl.setStream x v).debug = sl.debug := rfl
@[simp] theorem Slot.setStream_broke (sl : Slot) (x : Nat) (v : Stream) : (sl.setStream x v).broke = sl.broke := rfl
@[simp] theorem Slot.setStream_diverting (sl : Slot) (x : Nat) (v : Stream) : (sl.setStream x v).diverting = sl.diverting := rfl
@[simp] theorem Slot.setStream_reenter (sl : Slot) (x : Nat) (v : Stream) : (sl.setStream x v).reenter = sl.reenter := rfl
@[simp] theorem Slot.setStream_collarTraps (sl : Slot) (x : Nat) (v : Stream) : (sl.setStream x v).collarTraps = sl.collarTraps := rfl
@[simp] theorem Slot.setStream_rvSince (sl : Slot) (x : Nat) (v : Stream) : (sl.setStream x v).rvSince = sl.rvSince := rfl
@[simp] theorem Slot.setStream_fenced (sl : Slot) (x : Nat) (v : Stream) : (sl.setStream x v).fenced = sl.fenced := rfl
@[simp] theorem Slot.setStream_rels (sl : Slot) (x : Nat) (v : Stream) : (sl.setStream x v).rels = sl.rels := rfl
@[simp] theorem Slot.setStream_raised (sl : Slot) (x : Nat) (v : Stream) : (sl.setStream x v).raised = sl.raised := rfl
@[simp] theorem Slot.setStream_last (sl : Slot) (x : Nat) (v : Stream) : (sl.setStream x v).last = sl.last := rfl
@[simp] theorem Slot.setStream_asked (sl : Slot) (x : Nat) (v : Stream) : (sl.setStream x v).asked = sl.asked := rfl
@[simp] theorem Slot.setStream_wrote (sl : Slot) (x : Nat) (v : Stream) : (sl.setStream x v).wrote = sl.wrote := rfl
@[simp] theorem Slot.setStream_seen (sl : Slot) (x : Nat) (v : Stream) : (sl.setStream x v).seen = sl.seen := rfl

@[simp] theorem Slot.setQueue_phase (sl : Slot) (q : Nat) (l : List QPlace) : (sl.setQueue q l).phase = sl.phase := rfl
@[simp] theorem Slot.setQueue_task (sl : Slot) (q : Nat) (l : List QPlace) : (sl.setQueue q l).task = sl.task := rfl
@[simp] theorem Slot.setQueue_regs (sl : Slot) (q : Nat) (l : List QPlace) : (sl.setQueue q l).regs = sl.regs := rfl
@[simp] theorem Slot.setQueue_preds (sl : Slot) (q : Nat) (l : List QPlace) : (sl.setQueue q l).preds = sl.preds := rfl
@[simp] theorem Slot.setQueue_queues (sl : Slot) (q : Nat) (l : List QPlace) : (sl.setQueue q l).queues = sl.queues.set q l := rfl
@[simp] theorem Slot.setQueue_chans (sl : Slot) (q : Nat) (l : List QPlace) : (sl.setQueue q l).chans = sl.chans := rfl
@[simp] theorem Slot.setQueue_fpcsr (sl : Slot) (q : Nat) (l : List QPlace) : (sl.setQueue q l).fpcsr = sl.fpcsr := rfl
@[simp] theorem Slot.setQueue_trap (sl : Slot) (q : Nat) (l : List QPlace) : (sl.setQueue q l).trap = sl.trap := rfl
@[simp] theorem Slot.setQueue_exposed (sl : Slot) (q : Nat) (l : List QPlace) : (sl.setQueue q l).exposed = sl.exposed := rfl
@[simp] theorem Slot.setQueue_resumed (sl : Slot) (q : Nat) (l : List QPlace) : (sl.setQueue q l).resumed = sl.resumed := rfl
@[simp] theorem Slot.setQueue_lfpend (sl : Slot) (q : Nat) (l : List QPlace) : (sl.setQueue q l).lfpend = sl.lfpend := rfl
@[simp] theorem Slot.setQueue_lfrun (sl : Slot) (q : Nat) (l : List QPlace) : (sl.setQueue q l).lfrun = sl.lfrun := rfl
@[simp] theorem Slot.setQueue_streams (sl : Slot) (q : Nat) (l : List QPlace) : (sl.setQueue q l).streams = sl.streams := rfl
@[simp] theorem Slot.setQueue_ops (sl : Slot) (q : Nat) (l : List QPlace) : (sl.setQueue q l).ops = sl.ops := rfl
@[simp] theorem Slot.setQueue_pend (sl : Slot) (q : Nat) (l : List QPlace) : (sl.setQueue q l).pend = sl.pend := rfl
@[simp] theorem Slot.setQueue_late (sl : Slot) (q : Nat) (l : List QPlace) : (sl.setQueue q l).late = sl.late := rfl
@[simp] theorem Slot.setQueue_cycle (sl : Slot) (q : Nat) (l : List QPlace) : (sl.setQueue q l).cycle = sl.cycle := rfl
@[simp] theorem Slot.setQueue_resp (sl : Slot) (q : Nat) (l : List QPlace) : (sl.setQueue q l).resp = sl.resp := rfl
@[simp] theorem Slot.setQueue_copyStatus (sl : Slot) (q : Nat) (l : List QPlace) : (sl.setQueue q l).copyStatus = sl.copyStatus := rfl
@[simp] theorem Slot.setQueue_validity (sl : Slot) (q : Nat) (l : List QPlace) : (sl.setQueue q l).validity = sl.validity := rfl
@[simp] theorem Slot.setQueue_parking (sl : Slot) (q : Nat) (l : List QPlace) : (sl.setQueue q l).parking = sl.parking := rfl
@[simp] theorem Slot.setQueue_bound (sl : Slot) (q : Nat) (l : List QPlace) : (sl.setQueue q l).bound = sl.bound := rfl
@[simp] theorem Slot.setQueue_cairns (sl : Slot) (q : Nat) (l : List QPlace) : (sl.setQueue q l).cairns = sl.cairns := rfl
@[simp] theorem Slot.setQueue_ending (sl : Slot) (q : Nat) (l : List QPlace) : (sl.setQueue q l).ending = sl.ending := rfl
@[simp] theorem Slot.setQueue_debug (sl : Slot) (q : Nat) (l : List QPlace) : (sl.setQueue q l).debug = sl.debug := rfl
@[simp] theorem Slot.setQueue_broke (sl : Slot) (q : Nat) (l : List QPlace) : (sl.setQueue q l).broke = sl.broke := rfl
@[simp] theorem Slot.setQueue_diverting (sl : Slot) (q : Nat) (l : List QPlace) : (sl.setQueue q l).diverting = sl.diverting := rfl
@[simp] theorem Slot.setQueue_reenter (sl : Slot) (q : Nat) (l : List QPlace) : (sl.setQueue q l).reenter = sl.reenter := rfl
@[simp] theorem Slot.setQueue_collarTraps (sl : Slot) (q : Nat) (l : List QPlace) : (sl.setQueue q l).collarTraps = sl.collarTraps := rfl
@[simp] theorem Slot.setQueue_rvSince (sl : Slot) (q : Nat) (l : List QPlace) : (sl.setQueue q l).rvSince = sl.rvSince := rfl
@[simp] theorem Slot.setQueue_fenced (sl : Slot) (q : Nat) (l : List QPlace) : (sl.setQueue q l).fenced = sl.fenced := rfl
@[simp] theorem Slot.setQueue_rels (sl : Slot) (q : Nat) (l : List QPlace) : (sl.setQueue q l).rels = sl.rels := rfl
@[simp] theorem Slot.setQueue_raised (sl : Slot) (q : Nat) (l : List QPlace) : (sl.setQueue q l).raised = sl.raised := rfl
@[simp] theorem Slot.setQueue_last (sl : Slot) (q : Nat) (l : List QPlace) : (sl.setQueue q l).last = sl.last := rfl
@[simp] theorem Slot.setQueue_asked (sl : Slot) (q : Nat) (l : List QPlace) : (sl.setQueue q l).asked = sl.asked := rfl
@[simp] theorem Slot.setQueue_wrote (sl : Slot) (q : Nat) (l : List QPlace) : (sl.setQueue q l).wrote = sl.wrote := rfl
@[simp] theorem Slot.setQueue_seen (sl : Slot) (q : Nat) (l : List QPlace) : (sl.setQueue q l).seen = sl.seen := rfl

@[simp] theorem Slot.raise_phase (sl : Slot) (f : BitVec 5) : (sl.raise f).phase = sl.phase := rfl
@[simp] theorem Slot.raise_task (sl : Slot) (f : BitVec 5) : (sl.raise f).task = sl.task := rfl
@[simp] theorem Slot.raise_regs (sl : Slot) (f : BitVec 5) : (sl.raise f).regs = sl.regs := rfl
@[simp] theorem Slot.raise_preds (sl : Slot) (f : BitVec 5) : (sl.raise f).preds = sl.preds := rfl
@[simp] theorem Slot.raise_queues (sl : Slot) (f : BitVec 5) : (sl.raise f).queues = sl.queues := rfl
@[simp] theorem Slot.raise_chans (sl : Slot) (f : BitVec 5) : (sl.raise f).chans = sl.chans := rfl
@[simp] theorem Slot.raise_trap (sl : Slot) (f : BitVec 5) : (sl.raise f).trap = sl.trap := rfl
@[simp] theorem Slot.raise_exposed (sl : Slot) (f : BitVec 5) : (sl.raise f).exposed = sl.exposed := rfl
@[simp] theorem Slot.raise_resumed (sl : Slot) (f : BitVec 5) : (sl.raise f).resumed = sl.resumed := rfl
@[simp] theorem Slot.raise_lfpend (sl : Slot) (f : BitVec 5) : (sl.raise f).lfpend = sl.lfpend := rfl
@[simp] theorem Slot.raise_lfrun (sl : Slot) (f : BitVec 5) : (sl.raise f).lfrun = sl.lfrun := rfl
@[simp] theorem Slot.raise_streams (sl : Slot) (f : BitVec 5) : (sl.raise f).streams = sl.streams := rfl
@[simp] theorem Slot.raise_ops (sl : Slot) (f : BitVec 5) : (sl.raise f).ops = sl.ops := rfl
@[simp] theorem Slot.raise_pend (sl : Slot) (f : BitVec 5) : (sl.raise f).pend = sl.pend := rfl
@[simp] theorem Slot.raise_late (sl : Slot) (f : BitVec 5) : (sl.raise f).late = sl.late := rfl
@[simp] theorem Slot.raise_cycle (sl : Slot) (f : BitVec 5) : (sl.raise f).cycle = sl.cycle := rfl
@[simp] theorem Slot.raise_resp (sl : Slot) (f : BitVec 5) : (sl.raise f).resp = sl.resp := rfl
@[simp] theorem Slot.raise_copyStatus (sl : Slot) (f : BitVec 5) : (sl.raise f).copyStatus = sl.copyStatus := rfl
@[simp] theorem Slot.raise_validity (sl : Slot) (f : BitVec 5) : (sl.raise f).validity = sl.validity := rfl
@[simp] theorem Slot.raise_parking (sl : Slot) (f : BitVec 5) : (sl.raise f).parking = sl.parking := rfl
@[simp] theorem Slot.raise_bound (sl : Slot) (f : BitVec 5) : (sl.raise f).bound = sl.bound := rfl
@[simp] theorem Slot.raise_cairns (sl : Slot) (f : BitVec 5) : (sl.raise f).cairns = sl.cairns := rfl
@[simp] theorem Slot.raise_ending (sl : Slot) (f : BitVec 5) : (sl.raise f).ending = sl.ending := rfl
@[simp] theorem Slot.raise_debug (sl : Slot) (f : BitVec 5) : (sl.raise f).debug = sl.debug := rfl
@[simp] theorem Slot.raise_broke (sl : Slot) (f : BitVec 5) : (sl.raise f).broke = sl.broke := rfl
@[simp] theorem Slot.raise_diverting (sl : Slot) (f : BitVec 5) : (sl.raise f).diverting = sl.diverting := rfl
@[simp] theorem Slot.raise_reenter (sl : Slot) (f : BitVec 5) : (sl.raise f).reenter = sl.reenter := rfl
@[simp] theorem Slot.raise_collarTraps (sl : Slot) (f : BitVec 5) : (sl.raise f).collarTraps = sl.collarTraps := rfl
@[simp] theorem Slot.raise_rvSince (sl : Slot) (f : BitVec 5) : (sl.raise f).rvSince = sl.rvSince := rfl
@[simp] theorem Slot.raise_fenced (sl : Slot) (f : BitVec 5) : (sl.raise f).fenced = sl.fenced := rfl
@[simp] theorem Slot.raise_rels (sl : Slot) (f : BitVec 5) : (sl.raise f).rels = sl.rels := rfl
@[simp] theorem Slot.raise_last (sl : Slot) (f : BitVec 5) : (sl.raise f).last = sl.last := rfl
@[simp] theorem Slot.raise_asked (sl : Slot) (f : BitVec 5) : (sl.raise f).asked = sl.asked := rfl
@[simp] theorem Slot.raise_wrote (sl : Slot) (f : BitVec 5) : (sl.raise f).wrote = sl.wrote := rfl
@[simp] theorem Slot.raise_seen (sl : Slot) (f : BitVec 5) : (sl.raise f).seen = sl.seen := rfl
@[simp] theorem Slot.raise_raised (sl : Slot) (f : BitVec 5) : (sl.raise f).raised = sl.raised ||| f := rfl
@[simp] theorem Slot.raise_fpcsr (sl : Slot) (f : BitVec 5) : (sl.raise f).fpcsr = sl.fpcsr ||| f.setWidth 64 := rfl

@[simp] theorem Slot.stream_setStream (sl : Slot) (x : Nat) (v : Stream) : (sl.setStream x v).stream x = v := Tab.get_set _ _ _ _
theorem Slot.stream_setStream_ne (sl : Slot) (x : Nat) (v : Stream) (y : Nat) (h : y ≠ x) :
    (sl.setStream x v).stream y = sl.stream y := Tab.get_set_ne _ _ _ _ _ h
@[simp] theorem Slot.setStream_setStream (sl : Slot) (x : Nat) (u v : Stream) :
    (sl.setStream x u).setStream x v = sl.setStream x v := by simp [Slot.setStream, Tab.set_set]
@[simp] theorem Slot.queue_setStream (sl : Slot) (x : Nat) (v : Stream) (q : Nat) : (sl.setStream x v).queue q = sl.queue q := rfl
@[simp] theorem Slot.stream_setQueue (sl : Slot) (q : Nat) (l : List QPlace) (x : Nat) : (sl.setQueue q l).stream x = sl.stream x := rfl
@[simp] theorem Slot.queue_setQueue (sl : Slot) (q : Nat) (l : List QPlace) : (sl.setQueue q l).queue q = l := Tab.get_set _ _ _ _
theorem Slot.queue_setQueue_ne (sl : Slot) (q : Nat) (l : List QPlace) (r : Nat) (h : r ≠ q) :
    (sl.setQueue q l).queue r = sl.queue r := Tab.get_set_ne _ _ _ _ _ h
@[simp] theorem Slot.modStream_eq (sl : Slot) (x : Nat) (f : Stream → Stream) :
    sl.modStream x f = sl.setStream x (f (sl.stream x)) := rfl

end Sys2Proof.Machine
end

