-- ==== Sys2Proof/Laws/Access.lean ====
section
/-! SUPPORT. Sys2Proof/Laws/Access.lean: what the pieces of an access are (R114, R343), what crossing a boundary asks for (R333),
and what a late trap leaves (R257). -/

namespace Sys2Proof.Machine

/-! ## Pieces -/

/-- A piece holds bytes of the access that its byte goes with, once that byte is still to be done. -/
theorem Op.mem_piece (o : Op) (i j : Nat) :
    j ∈ o.piece i ↔ (i < o.kind.locs.length ∧ (o.got.find? i).isNone = true) ∧ j < o.kind.locs.length ∧ o.joined i j = true := by
  unfold Op.piece
  split <;> simp_all

/-- A byte already done is in no piece of its own. -/
theorem Op.piece_of_done (o : Op) (i : Nat) (h : (o.got.find? i).isSome = true) : o.piece i = [] := by
  unfold Op.piece
  split
  · next c => simp [Option.isNone_iff_eq_none.1 c.2] at h
  · rfl

theorem Op.locsAt_length (o : Op) (is : List Nat) : (o.locsAt is).length = is.length := by simp [Op.locsAt]

@[simp] theorem Op.advance_kind (o : Op) (is : List Nat) (bs : List Byte) : (o.advance is bs).kind = o.kind := rfl
@[simp] theorem Op.advance_id (o : Op) (is : List Nat) (bs : List Byte) : (o.advance is bs).id = o.id := rfl
@[simp] theorem Op.advance_cls (o : Op) (is : List Nat) (bs : List Byte) : (o.advance is bs).cls = o.cls := rfl
@[simp] theorem Op.advance_x (o : Op) (is : List Nat) (bs : List Byte) : (o.advance is bs).x = o.x := rfl
@[simp] theorem Op.advance_due (o : Op) (is : List Nat) (bs : List Byte) : (o.advance is bs).due = o.due := rfl
@[simp] theorem Op.advance_done (o : Op) (is : List Nat) (bs : List Byte) : (o.advance is bs).done = o.done := rfl

/-- Replacing an operation changes no other slot and no other field of the slot. -/
theorem State.setOp_eq (s : State) (k : Nat) (o : Op) :
    s.setOp k o = s.setSlot k { s.slot k with ops := updateWhere (fun p => p.id == o.id) (fun _ => o) (s.slot k).ops } := rfl

@[simp] theorem State.setOp_mem (s : State) (k : Nat) (o : Op) : (s.setOp k o).mem = s.mem := rfl
@[simp] theorem State.setOp_marks (s : State) (k : Nat) (o : Op) : (s.setOp k o).marks = s.marks := rfl
@[simp] theorem State.setOp_landed (s : State) (k : Nat) (o : Op) : (s.setOp k o).landed = s.landed := rfl

/-! ## Boundaries -/

/-- Where nothing has crossed a boundary, no access is ahead of another. -/
theorem State.ahead_eq_false (s : State) (a : Op) (scope : Nat) (at_ : Option Nat) (locs : List Nat) (h : s.crossings = []) :
    s.ahead a scope at_ locs = false := by
  simp [State.ahead, State.crossedAt, h]

/-- Nor does an engine wait behind one. -/
theorem State.crossedBefore_eq_false (s : State) (scope : Nat → Nat) (locs : List Nat) (h : s.crossings = []) :
    s.crossedBefore scope locs = false := by
  simp [State.crossedBefore, State.ahead_eq_false s _ _ _ locs h]

/-- Nor does a request of a slot. -/
theorem State.crossedAhead_eq_false (s : State) (k : Nat) (b : Op) (is : List Nat) (h : s.crossings = []) :
    s.crossedAhead k b is = false := by
  simp [State.crossedAhead, State.opAhead, State.ahead_eq_false s _ _ _ _ h]

/-- Crossing a boundary changes nothing but which boundaries are crossed. -/
theorem State.crossOut_eq (s : State) (k kind scope : Nat) :
    ∃ cr, s.crossOut k kind scope = { s with crossings := cr } := ⟨_, rfl⟩

/-- In guarded mode a load that has come back lands at once. -/
theorem State.landAccess_guarded (s : State) (k : Nat) (b : Op) (e : PendEff) (h : (s.slot k).exposed = false) :
    s.landAccess k b e =
      { (s.land k e).modSlot k fun sl => { sl with wrote := sl.wrote ++ b.kind.writes } with landed := s.landed ++ [(k, b.x)] } := by
  simp [State.landAccess, h]

/-! ## Late traps -/

/-- The trap taken of several is one of them. -/
theorem LateTrap.first_mem : ∀ (l : List LateTrap) (t : LateTrap), LateTrap.first l = some t → t ∈ l
  | [], t, h => by simp [LateTrap.first] at h
  | a :: l, t, h => by
    unfold LateTrap.first at h
    split at h
    · simp_all
    · next u hu =>
      have hm := LateTrap.first_mem l u hu
      simp only [Option.some.injEq] at h
      split at h <;> simp_all

/-- None of several late traps is due before the one taken. -/
theorem LateTrap.first_due : ∀ (l : List LateTrap) (t : LateTrap), LateTrap.first l = some t → ∀ u ∈ l, t.due ≤ u.due
  | [], t, h => by simp [LateTrap.first] at h
  | a :: l, t, h => by
    unfold LateTrap.first at h
    intro u hu
    split at h
    · next he =>
      cases l with
      | nil => simp_all
      | cons b l =>
        exfalso
        unfold LateTrap.first at he
        split at he <;> simp at he
    · next v hv =>
      have hd := LateTrap.first_due l v hv
      simp only [Option.some.injEq] at h
      rcases List.mem_cons.1 hu with rfl | hu
      · split at h <;> subst h <;> omega
      · have := hd u hu
        split at h <;> subst h <;> omega

/-- What no trap of a slot changes. -/
def Slot.kept (sl : Slot) : Tab Word × Tab Lanes × Word × Tab (List QPlace) × List Op := (sl.regs, sl.preds, sl.fpcsr, sl.queues, sl.ops)

@[simp] theorem Slot.modStream_kept (sl : Slot) (x : Nat) (f : Stream → Stream) : (sl.modStream x f).kept = sl.kept := rfl

/-- Setting back the words that were to trap late moves streams only. -/
theorem Slot.setBack_kept (sl : Slot) : sl.setBack.kept = sl.kept := by
  suffices h : ∀ (l : List LateTrap) (a : Slot), (l.foldl (fun sl u => sl.modStream u.x fun st => { st with ctl := u.ctl, rvCount := u.rv }) a).kept = a.kept from
    h sl.late { sl with late := [] }
  intro l
  induction l with
  | nil => intro a; rfl
  | cons u l ih => intro a; rw [List.foldl_cons, ih, Slot.modStream_kept]

/-- A trap writes no register, predicate or flag. -/
theorem Slot.takeTrap_kept (sl : Slot) (x pc cause : Nat) (aux : Word) (late : Bool) : (sl.takeTrap x pc cause aux late).kept = sl.kept := by
  unfold Slot.takeTrap
  dsimp only
  split
  · exact sl.setBack_kept
  · split <;> exact sl.setBack_kept

/-- Nor does a late one. -/
theorem Slot.trapBack_kept (sl : Slot) (x : Nat) (c : Ctl) (rv cause : Nat) (aux : Word) (late : Bool) :
    (sl.trapBack x c rv cause aux late).kept = sl.kept := Slot.takeTrap_kept ..

end Sys2Proof.Machine
end

