-- ==== Sys2Proof/Laws/Arbiter.lean ====
section
/-! SUPPORT. Sys2Proof/Laws/Arbiter.lean: everything that becomes of a turn by the choice of the clusters (R247). -/

namespace Sys2Proof.Machine

/-- A turn in which nothing has issued is judged by its traps, a word or bundle takes its clusters, or the state before it stands, in which
a later stream's word may have begun to wait (R255) or a push may trap (R251). -/
theorem State.arbitrate_cases (s t : State) :
    s.arbitrate t = s.unissued t ∧ t.issued.drop s.issued.length = [] ∨
    s.arbitrate t = s ∨
    (∃ k x u, s.frozen k x = some u ∧ s.arbitrate t = u) ∨
    (∃ k x q, s.frozen k x = none ∧ s.overfull t k x = some q ∧ 
      s.arbitrate t = { s.trapAt k x 12 (BitVec.ofNat 64 q) with tripped := s.tripped ++ [(k, x)] }) ∨
    (∃ k x, t.issued.drop s.issued.length = [(k, x)] ∧ s.inTurn k x = true ∧ s.unheld k [x] = true ∧ s.wordTakes k x = true ∧
      s.frozen k x = none ∧ s.overfull t k x = none ∧
      s.arbitrate t = { s.noted t k [x] with issued := s.issued ++ ([0, 1, 2, 3].filter fun y =>
        y == x || ((s.slot k).exposed && !(t.slot k).exposed && s.clusterFree k y)).map fun y => (k, y) }) ∨
    (∃ k y e l, t.issued.drop s.issued.length = (k, y) :: e :: l ∧
      let xs := ((k, y) :: e :: l).map Prod.snd
      s.inOrder k 3 = true ∧ s.unheld k xs = true ∧ s.rvTakes k = true ∧
      s.arbitrate t = { s.noted t k xs with issued := s.issued ++ [(k, 0), (k, 1), (k, 2), (k, 3)] }) := by
  unfold State.arbitrate
  split
  · next h => exact .inl ⟨rfl, h⟩
  · next k x h =>
    split
    · exact .inr (.inl rfl)
    · next c =>
      simp only [Bool.not_eq_true, Bool.not_eq_false', Bool.and_eq_true] at c
      split
      · next u hu => exact .inr (.inr (.inl ⟨k, x, u, hu, rfl⟩))
      · next hu =>
        split
        · next q hq => exact .inr (.inr (.inr (.inl ⟨k, x, q, hu, hq, rfl⟩)))
        · next hq => exact .inr (.inr (.inr (.inr (.inl ⟨k, x, h, c.1.1, c.1.2, c.2, hu, hq, rfl⟩))))
  · next k y l hne h =>
    dsimp only
    split
    · next c =>
      simp only [Bool.and_eq_true] at c
      cases l with
      | nil => exact absurd rfl hne
      | cons e l => exact .inr (.inr (.inr (.inr (.inr ⟨k, y, e, l, h, c.1.1, c.1.2, c.2, rfl⟩))))
    · exact .inr (.inl rfl)

/-- A turn in which no word has issued stands, or the state before it does, and a word that traps in it is noted (R22, R233). -/
theorem State.unissued_cases (s t : State) :
    s.unissued t = t ∧ s.tripOf t = none ∨
    (∃ e, s.tripOf t = some e ∧ s.inOrder e.1 e.2 = true ∧ s.suspect e.1 = false ∧ s.unissued t = { t with tripped := s.tripped ++ [e] }) ∨
    s.unissued t = s := by
  unfold State.unissued
  split
  · next h => exact .inl ⟨rfl, h⟩
  · next k x h =>
    split
    · next c =>
      simp only [Bool.and_eq_true, Bool.not_eq_true'] at c
      exact .inr (.inl ⟨(k, x), h, c.1, c.2, rfl⟩)
    · exact .inr (.inr rfl)

end Sys2Proof.Machine
end

