-- ==== Sys2Proof/Laws/Collar.lean ====
section
/-! SUPPORT. Sys2Proof/Laws/Collar.lean: what the switches of a tile leave as it is (R196). -/

namespace Sys2Proof.Machine

/-- What a switch of tile `t` leaves: memory and its marks, the other tiles, the copy commands, and time. -/
def switchKeeps (t : Nat) (a b : State) : Prop :=
  b.mem = a.mem ∧ b.marks = a.marks ∧ b.jobs = a.jobs ∧ b.cycle = a.cycle ∧ b.issued = a.issued ∧ ∀ j, j ≠ t → b.tile j = a.tile j

theorem switchKeeps.refl (t : Nat) (a : State) : switchKeeps t a a := ⟨rfl, rfl, rfl, rfl, rfl, fun _ _ => rfl⟩

theorem switchKeeps.trans {t : Nat} {a b c : State} (h : switchKeeps t a b) (h' : switchKeeps t b c) : switchKeeps t a c := by
  obtain ⟨h1, h2, h3, h4, h5, h6⟩ := h
  obtain ⟨k1, k2, k3, k4, k5, k6⟩ := h'
  exact ⟨k1.trans h1, k2.trans h2, k3.trans h3, k4.trans h4, k5.trans h5, fun j e => (k6 j e).trans (h6 j e)⟩

theorem State.modSeg_keeps (s : State) (t g : Nat) (f : Seg → Seg) : switchKeeps t s (s.modSeg t g f) :=
  ⟨rfl, rfl, rfl, rfl, rfl, fun _ e => by simp [State.modSeg, State.tile_setTile_ne _ _ _ _ e]⟩

/-- A plane word of the tile is done or not: only the counters of slots change. -/
theorem State.planeDone_keeps (s : State) (t op : Nat) : switchKeeps t s (s.planeDone t op) := by
  unfold State.planeDone
  split
  · exact switchKeeps.refl t s
  · exact ⟨rfl, rfl, rfl, rfl, rfl, fun _ _ => rfl⟩

theorem State.switchSeg_keeps (s : State) (t g : Nat) : switchKeeps t s (s.switchSeg t g) := by
  unfold State.switchSeg
  split
  · split
    · exact (s.modSeg_keeps t g _).trans (State.planeDone_keeps _ t _)
    · exact switchKeeps.refl t s
  · exact switchKeeps.refl t s

/-- Every switch that can happen at once: nothing but the tile's segments and the counters of slots changes. -/
theorem State.switchAll_keeps (s : State) (t : Nat) : switchKeeps t s (s.switchAll t) := by
  have fold : ∀ (l : List Nat) (a : State), switchKeeps t a (l.foldl (fun s g => s.switchSeg t g) a) := by
    intro l
    induction l with
    | nil => exact switchKeeps.refl t
    | cons g l ih => exact fun a => (a.switchSeg_keeps t g).trans (ih _)
  exact fold _ s

end Sys2Proof.Machine
end

