-- ==== Sys2Proof/Laws/Issue.lean ====
section
/-! SUPPORT. Sys2Proof/Laws/Issue.lean: what the turn of a stream does with its word, by what the word's meaning answers. -/

namespace Sys2Proof.Claims

open Sys2Proof.Machine

variable {s : State} {k x : Nat} {i : Instr} {h : Hdr}

theorem FreeSlot.held (g : FreeSlot s k) : s.held k = false := by
  simpa [State.held] using g.late

theorem AtTurn.slotIssues (a : AtTurn s k x h) : s.slotIssues k = true := by
  have hp : ((s.slot k).exposed || (s.slot k).pend.all fun p => p.eff.isSys) = true := by
    rcases a.mode with ⟨e, hp⟩ | ⟨e, -⟩
    · simpa [e] using hp
    · simp [e]
  simp [State.slotIssues, a.slot.held, a.slot.running, a.slot.broke, a.slot.moves, a.slot.diverting, a.slot.reenter, hp, a.slot.alone]

theorem AtTurn.mayIssue (a : AtTurn s k x h) : s.mayIssue k x = true := by
  have hm : (!(s.slot k).exposed || (decide (((s.slot k).stream x).next ≤ (s.slot k).cycle) &&
      [0, 1, 2, 3].all fun y => !decide (y < x) || (s.slot k).cycleSpent y)) = true := by
    rcases a.mode with ⟨e, -⟩ | ⟨-, hn, hy⟩
    · simp [e]
    · have : ∀ y < 4, y < x → (s.slot k).cycleSpent y = true := by
        intro y h4 hx
        rcases hy y h4 hx with h | h | h <;> simp [Slot.cycleSpent, h]
      have hall : ([0, 1, 2, 3].all fun y => !decide (y < x) || (s.slot k).cycleSpent y) = true := by
        rw [List.all_eq_true]
        intro y hy
        by_cases h : y < x
        · simp [h, this y (by simp only [List.mem_cons, List.not_mem_nil, or_false] at hy; omega) h]
        · simp [h]
      simp [hn, hall]
  simp only [State.mayIssue, a.live, a.single, a.slotIssues, a.served, a.unstalled, a.uncollared, hm]
  rfl

/-- A word that meets no other stream does not present. -/
theorem AtTurn.alone (a : AtTurn s k x h) : (h.s && !s.bundle && (s.slot k).exposed && (s.slot k).mustPresent x) = false ∧
    (h.s && !s.bundle && (s.slot k).mustPresent x) = false := by
  cases e : h.s
  · simp
  · simp [a.meets e]

theorem passWord_eq (s t : State) (k x : Nat) (len skip : Nat) :
    t.passWord k x ((s.slot k).view x) len skip =
      { t with issued := t.issued ++ [(k, x)] }.setSlot k ((t.slot k).setStream x
        { (t.slot k).stream x with
          ctl := passed s k ((t.slot k).stream x).ctl len skip
          presented := false, qsince := none, wait := none, next := (t.slot k).cycle + 1 + 0, readySince := none }) := rfl

theorem countRv_passWord (s t : State) (k x len skip : Nat) (h : Hdr) :
    (if (h.s && !(s.slot k).trap.inHandler) = true then (t.passWord k x ((s.slot k).view x) len skip).countRv k x
      else t.passWord k x ((s.slot k).view x) len skip) =
      after s t k x h (passed s k ((t.slot k).stream x).ctl len skip) 0 := by
  rw [passWord_eq s]
  split
  · next e => simp [State.countRv, after, issuedStream, e]
  · next e => simp [after, issuedStream, e]

theorem countRv_moved (s t : State) (k x b : Nat) (h : Hdr) :
    (if (h.s && !(s.slot k).trap.inHandler) = true then (t.wordDone k x ((s.slot k).view x) 0 0 b true).countRv k x
      else t.wordDone k x ((s.slot k).view x) 0 0 b true) = after s t k x h ((t.slot k).stream x).ctl b := by
  split
  · next e => simp [State.countRv, State.wordDone, after, issuedStream, e]
  · next e => simp [State.wordDone, after, issuedStream, e]

/-- A word that issues: its meaning's answer decides. -/
theorem Issues.issueStream (a : Issues s k x i h) (len skip : Nat) (body : State → View → WRes) :
    s.issueStream k x i h.g h.n h.s len skip body =
      match body s ((s.slot k).view x) with
      | .done t => done s t k x h len
      | .jump t => after s t k x h ((t.slot k).stream x).ctl 1
      | .stay t => after s t k x h ((t.slot k).stream x).ctl 0
      | .trap c u => s.trapAt k x c u
      | .trapIn t c u => t.trapAt k x c u
      | .wait t => t := by
  unfold State.issueStream
  simp only [a.mayIssue, a.alone.1, a.alone.2, a.counter, a.guard, if_true, a.ready, Bool.not_true, Bool.false_eq_true, if_false]
  cases body s ((s.slot k).view x) with
  | done t => exact countRv_passWord s t k x len 0 h
  | jump t => exact countRv_moved s t k x 1 h
  | stay t => exact countRv_moved s t k x 0 h
  | trap c u => rfl
  | trapIn t c u => rfl
  | wait t => rfl

/-- A false guard: the word does nothing and its stream passes it, and `skip` more words (R54, R94, R115). -/
theorem AtWord.falseGuard (a : AtWord s k x i h) (hg : wordActive (usesOf i) ((s.slot k).view x) h.g h.n = false)
    (len skip : Nat) (body : State → View → WRes) :
    s.issueStream k x i h.g h.n h.s len skip body =
      after s (s.nullOp k x (usesOf i)) k x h (passed s k (((s.nullOp k x (usesOf i)).slot k).stream x).ctl len skip) 0 := by
  unfold State.issueStream
  simp only [a.mayIssue, a.alone.1, a.alone.2, a.counter, hg, Bool.not_true, Bool.false_eq_true, if_false, Bool.not_false, if_true]
  exact countRv_passWord s _ k x len skip h

/-- A shared word on a stream of a guarded slot (R80). -/
theorem IssuesGuarded.runShared (a : IssuesGuarded s k x i h) (len skip : Nat) (f : View → SRes) :
    s.runShared i h len skip f =
      match f ((s.slot k).view x) with
      | .ok es => done s (es.foldl (fun s e => s.land k e) s) k x h len
      | .jump c es =>
        let t := s.setSlot k ((s.slot k).setStream x { (s.slot k).stream x with ctl := c })
        let t := es.foldl (fun s e => s.land k e) t
        after s t k x h ((t.slot k).stream x).ctl 1
      | .goto c => after s (s.setSlot k ((s.slot k).setStream x { (s.slot k).stream x with ctl := c })) k x h c 0
      | .trap c u => s.trapAt k x c u := by
  unfold State.runShared
  rw [a.cur]
  simp only [a.issueStream]
  cases e : f ((s.slot k).view x) <;> simp [State.commit, a.guarded, a.single]

/-- A private word of a control core. -/
theorem Issues.issueCore (a : Issues s k x i h) (len : Nat) (body : Nat → Nat → State → View → WRes) :
    s.issueCore i h len body =
      match body k x s ((s.slot k).view x) with
      | .done t => done s t k x h len
      | .jump t => after s t k x h ((t.slot k).stream x).ctl 1
      | .stay t => after s t k x h ((t.slot k).stream x).ctl 0
      | .trap c u => s.trapAt k x c u
      | .trapIn t c u => t.trapAt k x c u
      | .wait t => t := by
  unfold State.issueCore
  rw [a.cur]
  exact a.issueStream len 0 (body k x)

end Sys2Proof.Claims
end

