-- ==== Sys2Proof/Laws/Exposed.lean ====
section
/-! SUPPORT. Sys2Proof/Laws/Exposed.lean: what the turn of an exposed stream does with its word. -/

namespace Sys2Proof.Claims

open Sys2Proof.Machine

/-- A shared word that writes one scalar at its frozen latency. -/
theorem writesExposed_of {i : Instr} {h : Hdr} {len : Nat} {d : BitVec 5} {f : View → Word} (g : View → Word)
    (hl : latencyOf i = frozenLatency i)
    (hx : ∀ s, exec i s = .next (s.runShared i h len 0 fun v => .ok [.scalar d (g v)])) (hv : ∀ v, g v = f v) :
    WritesExposed i h len d f := by
  intro s k x a
  rw [hx]
  unfold State.runShared
  rw [a.cur]
  simp only []
  rw [a.issueStream]
  simp only [State.commit, a.exposed, Bool.true_or, if_true, hv, landing, hl]

end Sys2Proof.Claims
end

