-- ==== Sys2Proof/Laws/Memory.lean ====
section
/-! SUPPORT. Sys2Proof/Laws/Memory.lean: what a read gives after a write, and that every memory operation keeps the canonical
form. -/

namespace Sys2Proof.Machine

/-- Every listed address is above `a`. -/
def Memory.above (a : Nat) (m : Memory) : Prop := ∀ c ∈ m, a < c.1

theorem Memory.wf_cons (c : Host.Cell) (m : Memory) :
    Memory.wf (c :: m) = true ↔ c.2 ≠ Memory.blank ∧ Memory.above c.1 m ∧ Memory.wf m = true := by
  induction m generalizing c with
  | nil => obtain ⟨a, v⟩ := c; simp [Memory.wf, Memory.above]
  | cons d m ih =>
    obtain ⟨a, v⟩ := c
    obtain ⟨b, u⟩ := d
    have h := ih (b, u)
    simp only [Memory.wf, Bool.and_eq_true, decide_eq_true_eq, bne_iff_ne]
    constructor
    · rintro ⟨⟨hab, hv⟩, hw⟩
      refine ⟨hv, ?_, hw⟩
      intro c hc
      rcases List.mem_cons.1 hc with e | e
      · subst e; exact hab
      · exact Nat.lt_trans hab ((h.1 hw).2.1 c e)
    · rintro ⟨hv, ha, hw⟩
      exact ⟨⟨ha _ (List.mem_cons_self ..), hv⟩, hw⟩

theorem Memory.read_above (a : Nat) (m : Memory) (h : Memory.above a m) : Memory.read m a = Memory.blank := by
  induction m with
  | nil => rfl
  | cons c m ih =>
    obtain ⟨b, v⟩ := c
    have hb : a < b := h _ (List.mem_cons_self ..)
    have : ¬ b = a := by omega
    simp [Memory.read, this, ih fun d hd => h d (List.mem_cons_of_mem _ hd)]

theorem Memory.insert_above (x a : Nat) (v : Byte) (m : Memory) (hx : x < a) (h : Memory.above x m) :
    Memory.above x (Memory.insert m a v) := by
  induction m with
  | nil => intro c hc; simp [Memory.insert] at hc; subst hc; exact hx
  | cons d m ih =>
    obtain ⟨b, u⟩ := d
    have hb := h _ (List.mem_cons_self ..)
    have ht : Memory.above x m := fun c hc => h c (List.mem_cons_of_mem _ hc)
    simp only [Memory.insert]
    split
    · intro c hc
      rcases List.mem_cons.1 hc with e | e
      · subst e; exact hx
      · exact h c e
    · split
      · intro c hc
        rcases List.mem_cons.1 hc with e | e
        · subst e; exact hx
        · exact ht c e
      · intro c hc
        rcases List.mem_cons.1 hc with e | e
        · subst e; exact hb
        · exact ih ht c e

theorem Memory.insert_wf (a : Nat) (v : Byte) (m : Memory) (hv : v ≠ Memory.blank) (h : Memory.wf m = true) :
    Memory.wf (Memory.insert m a v) = true := by
  induction m with
  | nil => simp [Memory.insert, Memory.wf, hv]
  | cons d m ih =>
    obtain ⟨b, u⟩ := d
    obtain ⟨hu, hab, hw⟩ := (Memory.wf_cons _ _).1 h
    simp only [Memory.insert]
    split
    · refine (Memory.wf_cons _ _).2 ⟨hv, ?_, h⟩
      intro c hc
      rcases List.mem_cons.1 hc with e | e
      · subst e; assumption
      · have := hab c e; simp at this ⊢; omega
    · split
      · next e => subst e; exact (Memory.wf_cons _ _).2 ⟨hv, hab, hw⟩
      · exact (Memory.wf_cons _ _).2 ⟨hu, Memory.insert_above _ _ _ _ (by simp; omega) hab, ih hw⟩

theorem Memory.filter_wf (p : Host.Cell → Bool) (m : Memory) (h : Memory.wf m = true) : Memory.wf (m.filter p) = true := by
  induction m with
  | nil => rfl
  | cons c m ih =>
    obtain ⟨hu, hab, hw⟩ := (Memory.wf_cons _ _).1 h
    by_cases hp : p c = true
    · rw [List.filter_cons_of_pos hp]
      exact (Memory.wf_cons _ _).2 ⟨hu, fun d hd => hab d (List.mem_filter.1 hd).1, ih hw⟩
    · rw [List.filter_cons_of_neg hp]; exact ih hw

/-- A write keeps the canonical form. -/
theorem Memory.write_wf (m : Memory) (a : Nat) (v : Byte) (h : Memory.wf m = true) : Memory.wf (Memory.write m a v) = true := by
  unfold Memory.write
  split
  · exact Memory.filter_wf _ m h
  · next hv => exact Memory.insert_wf a v m hv h

theorem Memory.writeBytes_wf (m : Memory) (a : Nat) (bs : List Byte) (h : Memory.wf m = true) :
    Memory.wf (Memory.writeBytes m a bs) = true := by
  induction bs generalizing m a with
  | nil => exact h
  | cons b bs ih => exact ih _ _ (Memory.write_wf m a b h)

theorem Memory.writeLe_wf (m : Memory) (a n v : Nat) (h : Memory.wf m = true) : Memory.wf (Memory.writeLe m a n v) = true :=
  Memory.writeBytes_wf _ _ _ h

theorem Memory.read_insert (m : Memory) (a : Nat) (v : Byte) : Memory.read (Memory.insert m a v) a = v := by
  induction m with
  | nil => simp [Memory.insert, Memory.read]
  | cons d m ih =>
    obtain ⟨b, u⟩ := d
    simp only [Memory.insert]
    split
    · simp [Memory.read]
    · split
      · simp [Memory.read]
      · simp [Memory.read, *]

theorem Memory.read_insert_ne (m : Memory) (a : Nat) (v : Byte) (x : Nat) (h : x ≠ a) :
    Memory.read (Memory.insert m a v) x = Memory.read m x := by
  have h' : ¬ a = x := fun e => h e.symm
  induction m with
  | nil => simp [Memory.insert, Memory.read, h']
  | cons d m ih =>
    obtain ⟨b, u⟩ := d
    simp only [Memory.insert]
    split
    · simp [Memory.read, h']
    · split
      · next e => subst e; simp [Memory.read, h']
      · simp [Memory.read, ih]

theorem Memory.read_remove (m : Memory) (a : Nat) : Memory.read (m.filter fun c => c.1 != a) a = Memory.blank := by
  induction m with
  | nil => rfl
  | cons d m ih =>
    obtain ⟨b, u⟩ := d
    by_cases e : b = a
    · rw [List.filter_cons_of_neg (by simp [e])]; exact ih
    · rw [List.filter_cons_of_pos (by simpa using e)]; simp [Memory.read, e, ih]

theorem Memory.read_remove_ne (m : Memory) (a x : Nat) (h : x ≠ a) :
    Memory.read (m.filter fun c => c.1 != a) x = Memory.read m x := by
  induction m with
  | nil => rfl
  | cons d m ih =>
    obtain ⟨b, u⟩ := d
    by_cases e : b = a
    · have : ¬ b = x := fun e' => h (e'.symm.trans e)
      rw [List.filter_cons_of_neg (by simp [e])]; simp [Memory.read, this, ih]
    · rw [List.filter_cons_of_pos (by simpa using e)]; simp [Memory.read, ih]

/-- A read after a write of the same address gives the byte written. -/
theorem Memory.read_write (m : Memory) (a : Nat) (v : Byte) : Memory.read (Memory.write m a v) a = v := by
  unfold Memory.write
  split
  · next h => rw [h]; exact Memory.read_remove m a
  · exact Memory.read_insert m a v

/-- A write leaves every other address alone. -/
theorem Memory.read_write_ne (m : Memory) (a : Nat) (v : Byte) (x : Nat) (h : x ≠ a) :
    Memory.read (Memory.write m a v) x = Memory.read m x := by
  unfold Memory.write
  split
  · exact Memory.read_remove_ne m a x h
  · exact Memory.read_insert_ne m a v x h

/-- A run of bytes leaves every address outside it alone. -/
theorem Memory.read_writeBytes_out (m : Memory) (a : Nat) (bs : List Byte) (x : Nat) (h : x < a ∨ a + bs.length ≤ x) :
    Memory.read (Memory.writeBytes m a bs) x = Memory.read m x := by
  induction bs generalizing m a with
  | nil => rfl
  | cons b bs ih =>
    simp only [List.length_cons] at h
    simp only [Memory.writeBytes]
    rw [ih _ _ (by omega), Memory.read_write_ne _ _ _ _ (by omega)]

/-- A run of bytes is read back. -/
theorem Memory.readBytes_writeBytes (m : Memory) (a : Nat) (bs : List Byte) :
    Memory.readBytes (Memory.writeBytes m a bs) a bs.length = bs := by
  induction bs generalizing m a with
  | nil => rfl
  | cons b bs ih =>
    simp only [Memory.writeBytes, List.length_cons, Memory.readBytes]
    rw [Memory.read_writeBytes_out _ _ _ _ (by omega), Memory.read_write, ih]

theorem leNat_leBytes (n v : Nat) : leNat (leBytes n v) = v % 256 ^ n := by
  induction n generalizing v with
  | zero => simp [leBytes, leNat, Nat.mod_one]
  | succ n ih =>
    simp only [leBytes, leNat, BitVec.toNat_ofNat, ih]
    have h : (256 : Nat) ^ (n + 1) = 256 * 256 ^ n := by rw [Nat.pow_succ, Nat.mul_comm]
    rw [h, Nat.mod_mul]

theorem leBytes_length (n v : Nat) : (leBytes n v).length = n := by
  induction n generalizing v with
  | zero => rfl
  | succ n ih => simp [leBytes, ih]

/-- A little-endian number is read back, cut to its bytes. -/
theorem Memory.readLe_writeLe (m : Memory) (a n v : Nat) : Memory.readLe (Memory.writeLe m a n v) a n = v % 256 ^ n := by
  have h := Memory.readBytes_writeBytes m a (leBytes n v)
  rw [leBytes_length] at h
  rw [Memory.readLe, Memory.writeLe, h, leNat_leBytes]

/-- Reset's memory has the canonical form. -/
theorem State.reset_wf : Memory.wf State.reset.mem = true := rfl

end Sys2Proof.Machine
end

