-- ==== Sys2Proof/Laws/Scalar.lean ====
section
/-! SUPPORT. Sys2Proof/Laws/Scalar.lean: what a shared word that issues writes, from the results its meaning names. -/

namespace Sys2Proof.Claims
open Sys2Proof.Machine

theorem setSlot_same (s : State) (k x : Nat) (h : Hdr) (len : Nat) : done s (s.setSlot k (s.slot k)) k x h len = done s s k x h len := by
  have e : ∀ l u, ({ s.setSlot k (s.slot k) with issued := l } : State).setSlot k u = { s with issued := l }.setSlot k u := by
    intro l u
    exact State.setSlot_setSlot { s with issued := l } k u (s.slot k)
  simp only [done, after, State.slot_setSlot, State.setSlot_issued, e]

/-- A shared word that writes one scalar. -/
theorem writes_of {i : Instr} {h : Hdr} {len : Nat} {d : BitVec 5} {f : View → Word} (g : View → Word)
    (hx : ∀ s, exec i s = .next (s.runShared i h len 0 fun v => .ok [.scalar d (g v)])) (hv : ∀ v, g v = f v) :
    Writes i h len d f := by
  intro s k x a
  rw [hx, a.runShared]
  simp only [List.foldl, State.land, hv]
  congr 1
  by_cases e : d = 0
  · simp only [e, writeScalar, if_true]
    exact setSlot_same s k x h len
  · simp only [writeScalar, received, if_neg e, State.modSlot_eq]

theorem writesPair_of {i : Instr} {h : Hdr} {p q : BitVec 3} {f g : View → Lanes} (f' g' : View → Lanes)
    (hx : ∀ s, exec i s = .next (s.runShared i h 1 0 fun v => .ok [.pred p (f' v) (BitVec.allOnes 128), .pred q (g' v) (BitVec.allOnes 128)]))
    (hf : ∀ v, f' v = f v) (hg : ∀ v, g' v = g v) : WritesPair i h p q f g := by
  intro s k x a
  rw [hx, a.runShared]
  simp only [List.foldl, State.land, hf, hg, State.modSlot_eq, State.setSlot_setSlot, State.slot_setSlot, BitVec.and_allOnes,
    BitVec.not_allOnes, BitVec.and_zero, BitVec.zero_or]
  rfl

theorem writesPred_of {i : Instr} {h : Hdr} {p : BitVec 3} {f : View → Lanes} 
    (hx : ∀ s, exec i s = .next (s.runShared i h 1 0 fun v => .ok [.pred p (f v) (BitVec.allOnes 128)])) : WritesPred i h p f := by
  intro s k x a
  rw [hx, a.runShared]
  simp only [List.foldl, State.land, State.modSlot_eq, BitVec.and_allOnes,
    BitVec.not_allOnes, BitVec.and_zero, BitVec.zero_or]
  congr 1
  by_cases e : p = 0
  · simp only [e, writePred, if_true]
    exact setSlot_same s k x h 1
  · simp only [writePred, if_neg e]

theorem passes_of {i : Instr} {h : Hdr} (hx : ∀ s, exec i s = .next (s.runShared i h 1 0 fun _ => .ok [])) : Passes i h := by
  intro s k x a
  rw [hx]
  unfold State.runShared
  rw [a.cur]
  simp only [a.issueStream]
  have e : s.commit k x (latencyOf i) [] = if (s.slot k).exposed = true then s.setSlot k (s.slot k) else s := by
    simp [State.commit, a.single]
  rw [e]
  split
  · rw [setSlot_same]
  · rfl

theorem divides_of {i : Instr} {h : Hdr} {d : BitVec 5} {b : View → Int} {dv q : View → Word} (z : View → Bool) (e' g : View → Word)
    (hx : ∀ s, exec i s = .next (s.runShared i h 1 0 fun v => divide (z v) (e' v) d (g v)))
    (hz : ∀ v, z v = true ↔ b v = 0) (hd : ∀ v, e' v = dv v) (hq : ∀ v, g v = q v) : Divides i h d b dv q := by
  intro s k x a
  refine ⟨fun h0 => ?_, fun h0 => ?_⟩
  · have := (hz ((s.slot k).view x)).2 h0
    unfold Traps
    rw [hx, a.runShared]
    simp only [divide, this, if_true, hd]
    simp [State.trapAt, a.single]
  · have : z ((s.slot k).view x) = false := by
      cases e : z ((s.slot k).view x)
      · rfl
      · exact absurd ((hz _).1 e) h0
    rw [hx, a.runShared]
    simp only [divide, this, Bool.false_eq_true, if_false, List.foldl, State.land, hq]
    congr 1
    by_cases e : d = 0
    · simp only [e, writeScalar, if_true]
      exact setSlot_same s k x h 1
    · simp only [writeScalar, received, if_neg e, State.modSlot_eq]
end Sys2Proof.Claims
end

