-- ==== Sys2Proof/Laws/Numbers.lean ====
section
/-! SUPPORT. Sys2Proof/Laws/Numbers.lean: the words and 32-bit results of the statements, and the operations of the scalar words on them. -/

namespace Sys2Proof.Claims
open Sys2Proof.Machine

theorem lo_toInt (v : Word) : lo v = BitVec.ofInt 32 v.toInt := by
  apply BitVec.eq_of_toNat_eq
  have := v.isLt
  simp only [lo, BitVec.toNat_setWidth, BitVec.toNat_ofInt, BitVec.toInt_eq_toNat_cond]
  split <;> omega

theorem lo_toNat (v : Word) : lo v = BitVec.ofInt 32 v.toNat := by
  apply BitVec.eq_of_toNat_eq
  simp only [lo, BitVec.toNat_setWidth, BitVec.toNat_ofInt]
  omega

theorem wr_ofInt (n : Int) : wr (BitVec.ofInt 32 n) = word32 n := by
  simp [wr, word32, BitVec.signExtend]

theorem wr_of (v : BitVec 32) (n : Int) (h : v = BitVec.ofInt 32 n) : wr v = word32 n := by rw [h, wr_ofInt]

theorem sext9 (i : BitVec 9) : imm9 i = word i.toInt := rfl

theorem ofNat_word (n : Nat) : BitVec.ofNat 64 n = word n := by simp [word]

theorem low32_lo (v : Word) : low32 v = (lo v).toInt := by rw [low32, lo_toNat]

theorem lo_toNat' (v : Word) : (lo v).toNat = v.toNat % 2 ^ 32 := by simp [lo]

theorem wr_toInt (v : BitVec 32) : wr v = word v.toInt := rfl

theorem shl_word {w : Nat} (v : BitVec w) (n : Nat) : v <<< n = BitVec.ofInt w (v.toNat * 2 ^ n) := by
  apply BitVec.eq_of_toNat_eq
  simp only [BitVec.toNat_shiftLeft, BitVec.toNat_ofInt, Nat.shiftLeft_eq]
  have : ((v.toNat : Int) * 2 ^ n) % ((2 ^ w : Nat) : Int) = ((v.toNat * 2 ^ n % 2 ^ w : Nat) : Int) := by push_cast; rfl
  rw [this]; rfl

theorem shr_word {w : Nat} (v : BitVec w) (n : Nat) : v >>> n = BitVec.ofInt w (v.toNat / 2 ^ n) := by
  apply BitVec.eq_of_toNat_eq
  simp only [BitVec.toNat_ushiftRight, BitVec.toNat_ofInt, Nat.shiftRight_eq_div_pow]
  have h : v.toNat / 2 ^ n < 2 ^ w := Nat.lt_of_le_of_lt (Nat.div_le_self _ _) v.isLt
  have : ((v.toNat : Int) / 2 ^ n) % ((2 ^ w : Nat) : Int) = ((v.toNat / 2 ^ n : Nat) : Int) := by
    have h2 : ((v.toNat / 2 ^ n : Nat) : Int) % ((2 ^ w : Nat) : Int) = ((v.toNat / 2 ^ n : Nat) : Int) := by
      rw [← Int.natCast_mod, Nat.mod_eq_of_lt h]
    rw [← h2]; push_cast; rfl
  rw [this]; rfl

theorem sra_word {w : Nat} (v : BitVec w) (n : Nat) : v.sshiftRight n = BitVec.ofInt w (v.toInt / 2 ^ n) := by
  simp [BitVec.sshiftRight, Int.shiftRight_eq_div_pow]

theorem minS_word {w : Nat} (a b : BitVec w) : (minS a b).toInt = min a.toInt b.toInt := by
  simp only [minS, BitVec.slt]; split <;> simp_all <;> omega

theorem maxS_word {w : Nat} (a b : BitVec w) : (maxS a b).toInt = max a.toInt b.toInt := by
  simp only [maxS, BitVec.slt]; split <;> simp_all <;> omega

theorem minU_word {w : Nat} (a b : BitVec w) : (minU a b).toNat = min a.toNat b.toNat := by
  simp only [minU, BitVec.ult]; split <;> simp_all <;> omega

theorem maxU_word {w : Nat} (a b : BitVec w) : (maxU a b).toNat = max a.toNat b.toNat := by
  simp only [maxU, BitVec.ult]; split <;> simp_all <;> omega

theorem word_toInt (v : Word) : word v.toInt = v := by simp [word]

theorem word_toNat (v : Word) : word v.toNat = v := by simp [word]

theorem eq_word_toInt {v : Word} {n : Int} (h : v.toInt = n) : v = word n := by rw [← h, word_toInt]

theorem eq_word_toNat {v : Word} {n : Int} (h : (v.toNat : Int) = n) : v = word n := by rw [← h, word_toNat]

theorem clzFrom_eq {w : Nat} (a : BitVec w) (n : Nat) :
    clzFrom a n = if a.toNat % 2 ^ n = 0 then n else n - 1 - Nat.log2 (a.toNat % 2 ^ n) := by
  induction n with
  | zero => simp [clzFrom, Nat.mod_one]
  | succ n ih =>
    simp only [clzFrom, ih, BitVec.getLsbD]
    have hm : a.toNat % 2 ^ (n + 1) = a.toNat % 2 ^ n + 2 ^ n * (a.toNat.testBit n).toNat := by
      rw [Nat.pow_succ, Nat.mod_mul, Nat.testBit_eq_decide_div_mod_eq]
      congr 2
      rcases Nat.mod_two_eq_zero_or_one (a.toNat / 2 ^ n) with h | h <;> simp [h]
    have hlt : a.toNat % 2 ^ n < 2 ^ n := Nat.mod_lt _ (by positivity)
    cases e : a.toNat.testBit n with
    | false =>
      rw [e] at hm
      simp only [Bool.toNat_false, Nat.mul_zero, Nat.add_zero] at hm
      rw [hm]
      simp only [Bool.false_eq_true, if_false]
      split
      · omega
      · next h0 =>
        have : Nat.log2 (a.toNat % 2 ^ n) < n := (Nat.log2_lt h0).2 hlt
        omega
    | true =>
      rw [e] at hm
      simp only [Bool.toNat_true, Nat.mul_one] at hm
      rw [if_pos rfl, hm, if_neg (by have : 0 < 2 ^ n := by positivity
                                     omega)]
      have : Nat.log2 (a.toNat % 2 ^ n + 2 ^ n) = n := by
        have hp : 0 < 2 ^ n := by positivity
        have h1 := (Nat.log2_lt (n := a.toNat % 2 ^ n + 2 ^ n) (k := n + 1) (by omega)).2 (by rw [Nat.pow_succ]; omega)
        have h2 := (Nat.le_log2 (n := a.toNat % 2 ^ n + 2 ^ n) (k := n) (by omega)).2 (by omega)
        omega
      omega

theorem popcTo_eq {w : Nat} (a : BitVec w) (n : Nat) : popcTo a n = ((List.range n).filter fun j => a.getLsbD j).length := by
  induction n with
  | zero => rfl
  | succ n ih =>
    rw [List.range_succ, List.filter_append, List.length_append, ← ih, popcTo]
    cases e : a.getLsbD n <;> simp [e]
    omega
end Sys2Proof.Claims
end

