-- ==== Sys2Proof/Laws/PerInstr.lean ====
section
/-! SUPPORT. Sys2Proof/Laws/PerInstr.lean: laws that hold of each instruction as syntax, one lemma per constructor. -/

namespace Sys2Proof.Laws.WordOrEvent

open Sys2Proof.Machine Sys2Proof.Claims

/-- An instruction has words exactly if some engine fetches it (R65-R69): at most two, the first naming the pair where there are two. An
event of the table has none and is well-formed. -/
def Statement (i : Instr) : Prop :=
  (encode i).isEmpty = (readBy i).isEmpty ∧ (encode i).length ≤ 2 ∧ ((readBy i) = [] → i.wf = true)

theorem nop (v0 : Hdr) : Statement (.nop v0) := ⟨rfl, Nat.le_of_ble_eq_true rfl, fun h => nomatch h⟩
theorem endStream (v0 : Hdr) : Statement (.endStream v0) := ⟨rfl, Nat.le_of_ble_eq_true rfl, fun h => nomatch h⟩
theorem br (v0 : Hdr) (v1 : BitVec 19) : Statement (.br v0 v1) := ⟨rfl, Nat.le_of_ble_eq_true rfl, fun h => nomatch h⟩
theorem call (v0 : Hdr) (v1 : BitVec 19) : Statement (.call v0 v1) := ⟨rfl, Nat.le_of_ble_eq_true rfl, fun h => nomatch h⟩
theorem ret (v0 : Hdr) : Statement (.ret v0) := ⟨rfl, Nat.le_of_ble_eq_true rfl, fun h => nomatch h⟩
theorem jmpr (v0 : Hdr) (v1 : BitVec 5) (v2 : BitVec 5) : Statement (.jmpr v0 v1 v2) := ⟨rfl, Nat.le_of_ble_eq_true rfl, fun h => nomatch h⟩
theorem loop (v0 : Hdr) (v1 : BitVec 2) (v2 : BitVec 9) (v3 : BitVec 8) : Statement (.loop v0 v1 v2 v3) := ⟨rfl, Nat.le_of_ble_eq_true rfl, fun h => nomatch h⟩
theorem loopx (v0 : Hdr) (v1 : BitVec 2) (v2 : BitVec 9) (v3 : BitVec 8) : Statement (.loopx v0 v1 v2 v3) := ⟨rfl, Nat.le_of_ble_eq_true rfl, fun h => nomatch h⟩
theorem add (v0 : Hdr) (v1 : BitVec 5) (v2 : BitVec 5) (v3 : BitVec 5) : Statement (.add v0 v1 v2 v3) := ⟨rfl, Nat.le_of_ble_eq_true rfl, fun h => nomatch h⟩
theorem addW (v0 : Hdr) (v1 : BitVec 5) (v2 : BitVec 5) (v3 : BitVec 5) : Statement (.addW v0 v1 v2 v3) := ⟨rfl, Nat.le_of_ble_eq_true rfl, fun h => nomatch h⟩
theorem sub (v0 : Hdr) (v1 : BitVec 5) (v2 : BitVec 5) (v3 : BitVec 5) : Statement (.sub v0 v1 v2 v3) := ⟨rfl, Nat.le_of_ble_eq_true rfl, fun h => nomatch h⟩
theorem subW (v0 : Hdr) (v1 : BitVec 5) (v2 : BitVec 5) (v3 : BitVec 5) : Statement (.subW v0 v1 v2 v3) := ⟨rfl, Nat.le_of_ble_eq_true rfl, fun h => nomatch h⟩
theorem addi (v0 : Hdr) (v1 : BitVec 5) (v2 : BitVec 5) (v3 : BitVec 9) : Statement (.addi v0 v1 v2 v3) := ⟨rfl, Nat.le_of_ble_eq_true rfl, fun h => nomatch h⟩
theorem lui (v0 : Hdr) (v1 : BitVec 5) (v2 : BitVec 14) : Statement (.lui v0 v1 v2) := ⟨rfl, Nat.le_of_ble_eq_true rfl, fun h => nomatch h⟩
theorem li32 (v0 : Hdr) (v1 : BitVec 5) (v2 : BitVec 32) : Statement (.li32 v0 v1 v2) := ⟨rfl, Nat.le_of_ble_eq_true rfl, fun h => nomatch h⟩
theorem and (v0 : Hdr) (v1 : BitVec 5) (v2 : BitVec 5) (v3 : BitVec 5) : Statement (.and v0 v1 v2 v3) := ⟨rfl, Nat.le_of_ble_eq_true rfl, fun h => nomatch h⟩
theorem or (v0 : Hdr) (v1 : BitVec 5) (v2 : BitVec 5) (v3 : BitVec 5) : Statement (.or v0 v1 v2 v3) := ⟨rfl, Nat.le_of_ble_eq_true rfl, fun h => nomatch h⟩
theorem xor (v0 : Hdr) (v1 : BitVec 5) (v2 : BitVec 5) (v3 : BitVec 5) : Statement (.xor v0 v1 v2 v3) := ⟨rfl, Nat.le_of_ble_eq_true rfl, fun h => nomatch h⟩
theorem andi (v0 : Hdr) (v1 : BitVec 5) (v2 : BitVec 5) (v3 : BitVec 9) : Statement (.andi v0 v1 v2 v3) := ⟨rfl, Nat.le_of_ble_eq_true rfl, fun h => nomatch h⟩
theorem ori (v0 : Hdr) (v1 : BitVec 5) (v2 : BitVec 5) (v3 : BitVec 9) : Statement (.ori v0 v1 v2 v3) := ⟨rfl, Nat.le_of_ble_eq_true rfl, fun h => nomatch h⟩
theorem xori (v0 : Hdr) (v1 : BitVec 5) (v2 : BitVec 5) (v3 : BitVec 9) : Statement (.xori v0 v1 v2 v3) := ⟨rfl, Nat.le_of_ble_eq_true rfl, fun h => nomatch h⟩
theorem shl (v0 : Hdr) (v1 : BitVec 5) (v2 : BitVec 5) (v3 : BitVec 5) : Statement (.shl v0 v1 v2 v3) := ⟨rfl, Nat.le_of_ble_eq_true rfl, fun h => nomatch h⟩
theorem shlW (v0 : Hdr) (v1 : BitVec 5) (v2 : BitVec 5) (v3 : BitVec 5) : Statement (.shlW v0 v1 v2 v3) := ⟨rfl, Nat.le_of_ble_eq_true rfl, fun h => nomatch h⟩
theorem shr (v0 : Hdr) (v1 : BitVec 5) (v2 : BitVec 5) (v3 : BitVec 5) : Statement (.shr v0 v1 v2 v3) := ⟨rfl, Nat.le_of_ble_eq_true rfl, fun h => nomatch h⟩
theorem shrW (v0 : Hdr) (v1 : BitVec 5) (v2 : BitVec 5) (v3 : BitVec 5) : Statement (.shrW v0 v1 v2 v3) := ⟨rfl, Nat.le_of_ble_eq_true rfl, fun h => nomatch h⟩
theorem sra (v0 : Hdr) (v1 : BitVec 5) (v2 : BitVec 5) (v3 : BitVec 5) : Statement (.sra v0 v1 v2 v3) := ⟨rfl, Nat.le_of_ble_eq_true rfl, fun h => nomatch h⟩
theorem sraW (v0 : Hdr) (v1 : BitVec 5) (v2 : BitVec 5) (v3 : BitVec 5) : Statement (.sraW v0 v1 v2 v3) := ⟨rfl, Nat.le_of_ble_eq_true rfl, fun h => nomatch h⟩
theorem shli (v0 : Hdr) (v1 : BitVec 5) (v2 : BitVec 5) (v3 : BitVec 6) : Statement (.shli v0 v1 v2 v3) := ⟨rfl, Nat.le_of_ble_eq_true rfl, fun h => nomatch h⟩
theorem shri (v0 : Hdr) (v1 : BitVec 5) (v2 : BitVec 5) (v3 : BitVec 6) : Statement (.shri v0 v1 v2 v3) := ⟨rfl, Nat.le_of_ble_eq_true rfl, fun h => nomatch h⟩
theorem srai (v0 : Hdr) (v1 : BitVec 5) (v2 : BitVec 5) (v3 : BitVec 6) : Statement (.srai v0 v1 v2 v3) := ⟨rfl, Nat.le_of_ble_eq_true rfl, fun h => nomatch h⟩
theorem min (v0 : Hdr) (v1 : BitVec 5) (v2 : BitVec 5) (v3 : BitVec 5) : Statement (.min v0 v1 v2 v3) := ⟨rfl, Nat.le_of_ble_eq_true rfl, fun h => nomatch h⟩
theorem minW (v0 : Hdr) (v1 : BitVec 5) (v2 : BitVec 5) (v3 : BitVec 5) : Statement (.minW v0 v1 v2 v3) := ⟨rfl, Nat.le_of_ble_eq_true rfl, fun h => nomatch h⟩
theorem max (v0 : Hdr) (v1 : BitVec 5) (v2 : BitVec 5) (v3 : BitVec 5) : Statement (.max v0 v1 v2 v3) := ⟨rfl, Nat.le_of_ble_eq_true rfl, fun h => nomatch h⟩
theorem maxW (v0 : Hdr) (v1 : BitVec 5) (v2 : BitVec 5) (v3 : BitVec 5) : Statement (.maxW v0 v1 v2 v3) := ⟨rfl, Nat.le_of_ble_eq_true rfl, fun h => nomatch h⟩
theorem minn (v0 : Hdr) (v1 : BitVec 5) (v2 : BitVec 5) (v3 : BitVec 5) : Statement (.minn v0 v1 v2 v3) := ⟨rfl, Nat.le_of_ble_eq_true rfl, fun h => nomatch h⟩
theorem minnW (v0 : Hdr) (v1 : BitVec 5) (v2 : BitVec 5) (v3 : BitVec 5) : Statement (.minnW v0 v1 v2 v3) := ⟨rfl, Nat.le_of_ble_eq_true rfl, fun h => nomatch h⟩
theorem maxn (v0 : Hdr) (v1 : BitVec 5) (v2 : BitVec 5) (v3 : BitVec 5) : Statement (.maxn v0 v1 v2 v3) := ⟨rfl, Nat.le_of_ble_eq_true rfl, fun h => nomatch h⟩
theorem maxnW (v0 : Hdr) (v1 : BitVec 5) (v2 : BitVec 5) (v3 : BitVec 5) : Statement (.maxnW v0 v1 v2 v3) := ⟨rfl, Nat.le_of_ble_eq_true rfl, fun h => nomatch h⟩
theorem sel (v0 : Hdr) (v1 : BitVec 5) (v2 : BitVec 5) (v3 : BitVec 5) (v4 : BitVec 3) : Statement (.sel v0 v1 v2 v3 v4) := ⟨rfl, Nat.le_of_ble_eq_true rfl, fun h => nomatch h⟩
theorem mov (v0 : Hdr) (v1 : BitVec 5) (v2 : BitVec 5) : Statement (.mov v0 v1 v2) := ⟨rfl, Nat.le_of_ble_eq_true rfl, fun h => nomatch h⟩
theorem addsh (v0 : Hdr) (v1 : BitVec 5) (v2 : BitVec 5) (v3 : BitVec 5) (v4 : BitVec 4) : Statement (.addsh v0 v1 v2 v3 v4) := ⟨rfl, Nat.le_of_ble_eq_true rfl, fun h => nomatch h⟩
theorem agen2 (v0 : Hdr) (v1 : BitVec 5) (v2 : BitVec 5) (v3 : BitVec 5) : Statement (.agen2 v0 v1 v2 v3) := ⟨rfl, Nat.le_of_ble_eq_true rfl, fun h => nomatch h⟩
theorem clz (v0 : Hdr) (v1 : BitVec 5) (v2 : BitVec 5) : Statement (.clz v0 v1 v2) := ⟨rfl, Nat.le_of_ble_eq_true rfl, fun h => nomatch h⟩
theorem clzW (v0 : Hdr) (v1 : BitVec 5) (v2 : BitVec 5) : Statement (.clzW v0 v1 v2) := ⟨rfl, Nat.le_of_ble_eq_true rfl, fun h => nomatch h⟩
theorem popc (v0 : Hdr) (v1 : BitVec 5) (v2 : BitVec 5) : Statement (.popc v0 v1 v2) := ⟨rfl, Nat.le_of_ble_eq_true rfl, fun h => nomatch h⟩
theorem popcW (v0 : Hdr) (v1 : BitVec 5) (v2 : BitVec 5) : Statement (.popcW v0 v1 v2) := ⟨rfl, Nat.le_of_ble_eq_true rfl, fun h => nomatch h⟩
theorem cmpEq (v0 : Hdr) (v1 : BitVec 2) (v2 : BitVec 3) (v3 : BitVec 5) (v4 : BitVec 5) (v5 : BitVec 3) : Statement (.cmpEq v0 v1 v2 v3 v4 v5) := ⟨rfl, Nat.le_of_ble_eq_true rfl, fun h => nomatch h⟩
theorem cmpNe (v0 : Hdr) (v1 : BitVec 2) (v2 : BitVec 3) (v3 : BitVec 5) (v4 : BitVec 5) (v5 : BitVec 3) : Statement (.cmpNe v0 v1 v2 v3 v4 v5) := ⟨rfl, Nat.le_of_ble_eq_true rfl, fun h => nomatch h⟩
theorem cmpLt (v0 : Hdr) (v1 : BitVec 2) (v2 : BitVec 3) (v3 : BitVec 5) (v4 : BitVec 5) (v5 : BitVec 3) : Statement (.cmpLt v0 v1 v2 v3 v4 v5) := ⟨rfl, Nat.le_of_ble_eq_true rfl, fun h => nomatch h⟩
theorem cmpGe (v0 : Hdr) (v1 : BitVec 2) (v2 : BitVec 3) (v3 : BitVec 5) (v4 : BitVec 5) (v5 : BitVec 3) : Statement (.cmpGe v0 v1 v2 v3 v4 v5) := ⟨rfl, Nat.le_of_ble_eq_true rfl, fun h => nomatch h⟩
theorem cmpLtn (v0 : Hdr) (v1 : BitVec 2) (v2 : BitVec 3) (v3 : BitVec 5) (v4 : BitVec 5) (v5 : BitVec 3) : Statement (.cmpLtn v0 v1 v2 v3 v4 v5) := ⟨rfl, Nat.le_of_ble_eq_true rfl, fun h => nomatch h⟩
theorem cmpGen (v0 : Hdr) (v1 : BitVec 2) (v2 : BitVec 3) (v3 : BitVec 5) (v4 : BitVec 5) (v5 : BitVec 3) : Statement (.cmpGen v0 v1 v2 v3 v4 v5) := ⟨rfl, Nat.le_of_ble_eq_true rfl, fun h => nomatch h⟩
theorem cmpTst (v0 : Hdr) (v1 : BitVec 2) (v2 : BitVec 3) (v3 : BitVec 5) (v4 : BitVec 5) (v5 : BitVec 3) : Statement (.cmpTst v0 v1 v2 v3 v4 v5) := ⟨rfl, Nat.le_of_ble_eq_true rfl, fun h => nomatch h⟩
theorem cmpNtst (v0 : Hdr) (v1 : BitVec 2) (v2 : BitVec 3) (v3 : BitVec 5) (v4 : BitVec 5) (v5 : BitVec 3) : Statement (.cmpNtst v0 v1 v2 v3 v4 v5) := ⟨rfl, Nat.le_of_ble_eq_true rfl, fun h => nomatch h⟩
theorem cmpiEq (v0 : Hdr) (v1 : BitVec 2) (v2 : BitVec 3) (v3 : BitVec 5) (v4 : BitVec 6) (v5 : BitVec 3) : Statement (.cmpiEq v0 v1 v2 v3 v4 v5) := ⟨rfl, Nat.le_of_ble_eq_true rfl, fun h => nomatch h⟩
theorem cmpiNe (v0 : Hdr) (v1 : BitVec 2) (v2 : BitVec 3) (v3 : BitVec 5) (v4 : BitVec 6) (v5 : BitVec 3) : Statement (.cmpiNe v0 v1 v2 v3 v4 v5) := ⟨rfl, Nat.le_of_ble_eq_true rfl, fun h => nomatch h⟩
theorem cmpiLt (v0 : Hdr) (v1 : BitVec 2) (v2 : BitVec 3) (v3 : BitVec 5) (v4 : BitVec 6) (v5 : BitVec 3) : Statement (.cmpiLt v0 v1 v2 v3 v4 v5) := ⟨rfl, Nat.le_of_ble_eq_true rfl, fun h => nomatch h⟩
theorem cmpiGe (v0 : Hdr) (v1 : BitVec 2) (v2 : BitVec 3) (v3 : BitVec 5) (v4 : BitVec 6) (v5 : BitVec 3) : Statement (.cmpiGe v0 v1 v2 v3 v4 v5) := ⟨rfl, Nat.le_of_ble_eq_true rfl, fun h => nomatch h⟩
theorem cmpiLtn (v0 : Hdr) (v1 : BitVec 2) (v2 : BitVec 3) (v3 : BitVec 5) (v4 : BitVec 6) (v5 : BitVec 3) : Statement (.cmpiLtn v0 v1 v2 v3 v4 v5) := ⟨rfl, Nat.le_of_ble_eq_true rfl, fun h => nomatch h⟩
theorem cmpiGen (v0 : Hdr) (v1 : BitVec 2) (v2 : BitVec 3) (v3 : BitVec 5) (v4 : BitVec 6) (v5 : BitVec 3) : Statement (.cmpiGen v0 v1 v2 v3 v4 v5) := ⟨rfl, Nat.le_of_ble_eq_true rfl, fun h => nomatch h⟩
theorem cmpiTst (v0 : Hdr) (v1 : BitVec 2) (v2 : BitVec 3) (v3 : BitVec 5) (v4 : BitVec 6) (v5 : BitVec 3) : Statement (.cmpiTst v0 v1 v2 v3 v4 v5) := ⟨rfl, Nat.le_of_ble_eq_true rfl, fun h => nomatch h⟩
theorem pand (v0 : Hdr) (v1 : BitVec 3) (v2 : BitVec 3) (v3 : BitVec 3) : Statement (.pand v0 v1 v2 v3) := ⟨rfl, Nat.le_of_ble_eq_true rfl, fun h => nomatch h⟩
theorem por (v0 : Hdr) (v1 : BitVec 3) (v2 : BitVec 3) (v3 : BitVec 3) : Statement (.por v0 v1 v2 v3) := ⟨rfl, Nat.le_of_ble_eq_true rfl, fun h => nomatch h⟩
theorem pxor (v0 : Hdr) (v1 : BitVec 3) (v2 : BitVec 3) (v3 : BitVec 3) : Statement (.pxor v0 v1 v2 v3) := ⟨rfl, Nat.le_of_ble_eq_true rfl, fun h => nomatch h⟩
theorem pnot (v0 : Hdr) (v1 : BitVec 3) (v2 : BitVec 3) : Statement (.pnot v0 v1 v2) := ⟨rfl, Nat.le_of_ble_eq_true rfl, fun h => nomatch h⟩
theorem pmov (v0 : Hdr) (v1 : BitVec 3) (v2 : BitVec 3) : Statement (.pmov v0 v1 v2) := ⟨rfl, Nat.le_of_ble_eq_true rfl, fun h => nomatch h⟩
theorem pandn (v0 : Hdr) (v1 : BitVec 3) (v2 : BitVec 3) (v3 : BitVec 3) : Statement (.pandn v0 v1 v2 v3) := ⟨rfl, Nat.le_of_ble_eq_true rfl, fun h => nomatch h⟩
theorem bfx (v0 : Hdr) (v1 : BitVec 5) (v2 : BitVec 5) (v3 : BitVec 5) : Statement (.bfx v0 v1 v2 v3) := ⟨rfl, Nat.le_of_ble_eq_true rfl, fun h => nomatch h⟩
theorem bfxn (v0 : Hdr) (v1 : BitVec 5) (v2 : BitVec 5) (v3 : BitVec 5) : Statement (.bfxn v0 v1 v2 v3) := ⟨rfl, Nat.le_of_ble_eq_true rfl, fun h => nomatch h⟩
theorem bfi (v0 : Hdr) (v1 : BitVec 5) (v2 : BitVec 5) (v3 : BitVec 5) : Statement (.bfi v0 v1 v2 v3) := ⟨rfl, Nat.le_of_ble_eq_true rfl, fun h => nomatch h⟩
theorem fshr (v0 : Hdr) (v1 : BitVec 5) (v2 : BitVec 5) (v3 : BitVec 5) (v4 : Bool) (v5 : BitVec 6) : Statement (.fshr v0 v1 v2 v3 v4 v5) := ⟨rfl, Nat.le_of_ble_eq_true rfl, fun h => nomatch h⟩
theorem mul (v0 : Hdr) (v1 : BitVec 5) (v2 : BitVec 5) (v3 : BitVec 5) : Statement (.mul v0 v1 v2 v3) := ⟨rfl, Nat.le_of_ble_eq_true rfl, fun h => nomatch h⟩
theorem mulW (v0 : Hdr) (v1 : BitVec 5) (v2 : BitVec 5) (v3 : BitVec 5) : Statement (.mulW v0 v1 v2 v3) := ⟨rfl, Nat.le_of_ble_eq_true rfl, fun h => nomatch h⟩
theorem mulh (v0 : Hdr) (v1 : BitVec 5) (v2 : BitVec 5) (v3 : BitVec 5) : Statement (.mulh v0 v1 v2 v3) := ⟨rfl, Nat.le_of_ble_eq_true rfl, fun h => nomatch h⟩
theorem mulhn (v0 : Hdr) (v1 : BitVec 5) (v2 : BitVec 5) (v3 : BitVec 5) : Statement (.mulhn v0 v1 v2 v3) := ⟨rfl, Nat.le_of_ble_eq_true rfl, fun h => nomatch h⟩
theorem div (v0 : Hdr) (v1 : BitVec 5) (v2 : BitVec 5) (v3 : BitVec 5) : Statement (.div v0 v1 v2 v3) := ⟨rfl, Nat.le_of_ble_eq_true rfl, fun h => nomatch h⟩
theorem divW (v0 : Hdr) (v1 : BitVec 5) (v2 : BitVec 5) (v3 : BitVec 5) : Statement (.divW v0 v1 v2 v3) := ⟨rfl, Nat.le_of_ble_eq_true rfl, fun h => nomatch h⟩
theorem divn (v0 : Hdr) (v1 : BitVec 5) (v2 : BitVec 5) (v3 : BitVec 5) : Statement (.divn v0 v1 v2 v3) := ⟨rfl, Nat.le_of_ble_eq_true rfl, fun h => nomatch h⟩
theorem divnW (v0 : Hdr) (v1 : BitVec 5) (v2 : BitVec 5) (v3 : BitVec 5) : Statement (.divnW v0 v1 v2 v3) := ⟨rfl, Nat.le_of_ble_eq_true rfl, fun h => nomatch h⟩
theorem rem (v0 : Hdr) (v1 : BitVec 5) (v2 : BitVec 5) (v3 : BitVec 5) : Statement (.rem v0 v1 v2 v3) := ⟨rfl, Nat.le_of_ble_eq_true rfl, fun h => nomatch h⟩
theorem remW (v0 : Hdr) (v1 : BitVec 5) (v2 : BitVec 5) (v3 : BitVec 5) : Statement (.remW v0 v1 v2 v3) := ⟨rfl, Nat.le_of_ble_eq_true rfl, fun h => nomatch h⟩
theorem remn (v0 : Hdr) (v1 : BitVec 5) (v2 : BitVec 5) (v3 : BitVec 5) : Statement (.remn v0 v1 v2 v3) := ⟨rfl, Nat.le_of_ble_eq_true rfl, fun h => nomatch h⟩
theorem remnW (v0 : Hdr) (v1 : BitVec 5) (v2 : BitVec 5) (v3 : BitVec 5) : Statement (.remnW v0 v1 v2 v3) := ⟨rfl, Nat.le_of_ble_eq_true rfl, fun h => nomatch h⟩
theorem pfd (v0 : Hdr) (v1 : BitVec 5) (v2 : BitVec 5) (v3 : BitVec 9) : Statement (.pfd v0 v1 v2 v3) := ⟨rfl, Nat.le_of_ble_eq_true rfl, fun h => nomatch h⟩
theorem pfi (v0 : Hdr) (v1 : BitVec 5) (v2 : BitVec 5) (v3 : BitVec 9) : Statement (.pfi v0 v1 v2 v3) := ⟨rfl, Nat.le_of_ble_eq_true rfl, fun h => nomatch h⟩
theorem hint2 (v0 : Hdr) (v1 : BitVec 5) (v2 : BitVec 5) (v3 : BitVec 5) (v4 : BitVec 4) : Statement (.hint2 v0 v1 v2 v3 v4) := ⟨rfl, Nat.le_of_ble_eq_true rfl, fun h => nomatch h⟩
theorem hint3 (v0 : Hdr) (v1 : BitVec 5) (v2 : BitVec 5) (v3 : BitVec 5) (v4 : BitVec 4) : Statement (.hint3 v0 v1 v2 v3 v4) := ⟨rfl, Nat.le_of_ble_eq_true rfl, fun h => nomatch h⟩
theorem hint4 (v0 : Hdr) (v1 : BitVec 5) (v2 : BitVec 5) (v3 : BitVec 5) (v4 : BitVec 4) : Statement (.hint4 v0 v1 v2 v3 v4) := ⟨rfl, Nat.le_of_ble_eq_true rfl, fun h => nomatch h⟩
theorem hint5 (v0 : Hdr) (v1 : BitVec 5) (v2 : BitVec 5) (v3 : BitVec 5) (v4 : BitVec 4) : Statement (.hint5 v0 v1 v2 v3 v4) := ⟨rfl, Nat.le_of_ble_eq_true rfl, fun h => nomatch h⟩
theorem hint6 (v0 : Hdr) (v1 : BitVec 5) (v2 : BitVec 5) (v3 : BitVec 5) (v4 : BitVec 4) : Statement (.hint6 v0 v1 v2 v3 v4) := ⟨rfl, Nat.le_of_ble_eq_true rfl, fun h => nomatch h⟩
theorem hint7 (v0 : Hdr) (v1 : BitVec 5) (v2 : BitVec 5) (v3 : BitVec 5) (v4 : BitVec 4) : Statement (.hint7 v0 v1 v2 v3 v4) := ⟨rfl, Nat.le_of_ble_eq_true rfl, fun h => nomatch h⟩
theorem ldB (v0 : Hdr) (v1 : BitVec 5) (v2 : BitVec 5) (v3 : BitVec 9) : Statement (.ldB v0 v1 v2 v3) := ⟨rfl, Nat.le_of_ble_eq_true rfl, fun h => nomatch h⟩
theorem ldBn (v0 : Hdr) (v1 : BitVec 5) (v2 : BitVec 5) (v3 : BitVec 9) : Statement (.ldBn v0 v1 v2 v3) := ⟨rfl, Nat.le_of_ble_eq_true rfl, fun h => nomatch h⟩
theorem ldH (v0 : Hdr) (v1 : BitVec 5) (v2 : BitVec 5) (v3 : BitVec 9) : Statement (.ldH v0 v1 v2 v3) := ⟨rfl, Nat.le_of_ble_eq_true rfl, fun h => nomatch h⟩
theorem ldHn (v0 : Hdr) (v1 : BitVec 5) (v2 : BitVec 5) (v3 : BitVec 9) : Statement (.ldHn v0 v1 v2 v3) := ⟨rfl, Nat.le_of_ble_eq_true rfl, fun h => nomatch h⟩
theorem ldW (v0 : Hdr) (v1 : BitVec 5) (v2 : BitVec 5) (v3 : BitVec 9) : Statement (.ldW v0 v1 v2 v3) := ⟨rfl, Nat.le_of_ble_eq_true rfl, fun h => nomatch h⟩
theorem ldWn (v0 : Hdr) (v1 : BitVec 5) (v2 : BitVec 5) (v3 : BitVec 9) : Statement (.ldWn v0 v1 v2 v3) := ⟨rfl, Nat.le_of_ble_eq_true rfl, fun h => nomatch h⟩
theorem ldD (v0 : Hdr) (v1 : BitVec 5) (v2 : BitVec 5) (v3 : BitVec 9) : Statement (.ldD v0 v1 v2 v3) := ⟨rfl, Nat.le_of_ble_eq_true rfl, fun h => nomatch h⟩
theorem stB (v0 : Hdr) (v1 : BitVec 5) (v2 : BitVec 5) (v3 : BitVec 9) : Statement (.stB v0 v1 v2 v3) := ⟨rfl, Nat.le_of_ble_eq_true rfl, fun h => nomatch h⟩
theorem stH (v0 : Hdr) (v1 : BitVec 5) (v2 : BitVec 5) (v3 : BitVec 9) : Statement (.stH v0 v1 v2 v3) := ⟨rfl, Nat.le_of_ble_eq_true rfl, fun h => nomatch h⟩
theorem stW (v0 : Hdr) (v1 : BitVec 5) (v2 : BitVec 5) (v3 : BitVec 9) : Statement (.stW v0 v1 v2 v3) := ⟨rfl, Nat.le_of_ble_eq_true rfl, fun h => nomatch h⟩
theorem stD (v0 : Hdr) (v1 : BitVec 5) (v2 : BitVec 5) (v3 : BitVec 9) : Statement (.stD v0 v1 v2 v3) := ⟨rfl, Nat.le_of_ble_eq_true rfl, fun h => nomatch h⟩
theorem ldaD (v0 : Hdr) (v1 : BitVec 5) (v2 : BitVec 5) (v3 : BitVec 9) : Statement (.ldaD v0 v1 v2 v3) := ⟨rfl, Nat.le_of_ble_eq_true rfl, fun h => nomatch h⟩
theorem stlD (v0 : Hdr) (v1 : BitVec 5) (v2 : BitVec 5) (v3 : BitVec 9) : Statement (.stlD v0 v1 v2 v3) := ⟨rfl, Nat.le_of_ble_eq_true rfl, fun h => nomatch h⟩
theorem getx (v0 : Hdr) (v1 : BitVec 5) (v2 : BitVec 14) : Statement (.getx v0 v1 v2) := ⟨rfl, Nat.le_of_ble_eq_true rfl, fun h => nomatch h⟩
theorem setx (v0 : Hdr) (v1 : BitVec 5) (v2 : BitVec 14) : Statement (.setx v0 v1 v2) := ⟨rfl, Nat.le_of_ble_eq_true rfl, fun h => nomatch h⟩
theorem vadd (v0 : Hdr) (v1 : BitVec 4) (v2 : BitVec 4) (v3 : BitVec 4) (v4 : BitVec 4) (v5 : Bool) (v6 : Bool) : Statement (.vadd v0 v1 v2 v3 v4 v5 v6) := ⟨rfl, Nat.le_of_ble_eq_true rfl, fun h => nomatch h⟩
theorem vaddSat (v0 : Hdr) (v1 : BitVec 4) (v2 : BitVec 4) (v3 : BitVec 4) (v4 : BitVec 4) (v5 : Bool) (v6 : Bool) : Statement (.vaddSat v0 v1 v2 v3 v4 v5 v6) := ⟨rfl, Nat.le_of_ble_eq_true rfl, fun h => nomatch h⟩
theorem vsub (v0 : Hdr) (v1 : BitVec 4) (v2 : BitVec 4) (v3 : BitVec 4) (v4 : BitVec 4) (v5 : Bool) (v6 : Bool) : Statement (.vsub v0 v1 v2 v3 v4 v5 v6) := ⟨rfl, Nat.le_of_ble_eq_true rfl, fun h => nomatch h⟩
theorem vsubSat (v0 : Hdr) (v1 : BitVec 4) (v2 : BitVec 4) (v3 : BitVec 4) (v4 : BitVec 4) (v5 : Bool) (v6 : Bool) : Statement (.vsubSat v0 v1 v2 v3 v4 v5 v6) := ⟨rfl, Nat.le_of_ble_eq_true rfl, fun h => nomatch h⟩
theorem vmul (v0 : Hdr) (v1 : BitVec 4) (v2 : BitVec 4) (v3 : BitVec 4) (v4 : BitVec 4) (v5 : Bool) (v6 : Bool) : Statement (.vmul v0 v1 v2 v3 v4 v5 v6) := ⟨rfl, Nat.le_of_ble_eq_true rfl, fun h => nomatch h⟩
theorem vmulHi (v0 : Hdr) (v1 : BitVec 4) (v2 : BitVec 4) (v3 : BitVec 4) (v4 : BitVec 4) (v5 : Bool) (v6 : Bool) : Statement (.vmulHi v0 v1 v2 v3 v4 v5 v6) := ⟨rfl, Nat.le_of_ble_eq_true rfl, fun h => nomatch h⟩
theorem vfma (v0 : Hdr) (v1 : BitVec 4) (v2 : BitVec 4) (v3 : BitVec 4) (v4 : BitVec 4) (v5 : Bool) (v6 : Bool) : Statement (.vfma v0 v1 v2 v3 v4 v5 v6) := ⟨rfl, Nat.le_of_ble_eq_true rfl, fun h => nomatch h⟩
theorem vfms (v0 : Hdr) (v1 : BitVec 4) (v2 : BitVec 4) (v3 : BitVec 4) (v4 : BitVec 4) (v5 : Bool) (v6 : Bool) : Statement (.vfms v0 v1 v2 v3 v4 v5 v6) := ⟨rfl, Nat.le_of_ble_eq_true rfl, fun h => nomatch h⟩
theorem vfnma (v0 : Hdr) (v1 : BitVec 4) (v2 : BitVec 4) (v3 : BitVec 4) (v4 : BitVec 4) (v5 : Bool) (v6 : Bool) : Statement (.vfnma v0 v1 v2 v3 v4 v5 v6) := ⟨rfl, Nat.le_of_ble_eq_true rfl, fun h => nomatch h⟩
theorem vmin (v0 : Hdr) (v1 : BitVec 4) (v2 : BitVec 4) (v3 : BitVec 4) (v4 : BitVec 4) (v5 : Bool) (v6 : Bool) : Statement (.vmin v0 v1 v2 v3 v4 v5 v6) := ⟨rfl, Nat.le_of_ble_eq_true rfl, fun h => nomatch h⟩
theorem vmax (v0 : Hdr) (v1 : BitVec 4) (v2 : BitVec 4) (v3 : BitVec 4) (v4 : BitVec 4) (v5 : Bool) (v6 : Bool) : Statement (.vmax v0 v1 v2 v3 v4 v5 v6) := ⟨rfl, Nat.le_of_ble_eq_true rfl, fun h => nomatch h⟩
theorem vabs (v0 : Hdr) (v1 : BitVec 4) (v2 : BitVec 4) (v3 : BitVec 4) (v4 : Bool) : Statement (.vabs v0 v1 v2 v3 v4) := ⟨rfl, Nat.le_of_ble_eq_true rfl, fun h => nomatch h⟩
theorem vneg (v0 : Hdr) (v1 : BitVec 4) (v2 : BitVec 4) (v3 : BitVec 4) (v4 : Bool) : Statement (.vneg v0 v1 v2 v3 v4) := ⟨rfl, Nat.le_of_ble_eq_true rfl, fun h => nomatch h⟩
theorem vcmpEq (v0 : Hdr) (v1 : BitVec 2) (v2 : BitVec 2) (v3 : BitVec 4) (v4 : BitVec 4) (v5 : BitVec 4) (v6 : Bool) (v7 : Bool) : Statement (.vcmpEq v0 v1 v2 v3 v4 v5 v6 v7) := ⟨rfl, Nat.le_of_ble_eq_true rfl, fun h => nomatch h⟩
theorem vcmpNe (v0 : Hdr) (v1 : BitVec 2) (v2 : BitVec 2) (v3 : BitVec 4) (v4 : BitVec 4) (v5 : BitVec 4) (v6 : Bool) (v7 : Bool) : Statement (.vcmpNe v0 v1 v2 v3 v4 v5 v6 v7) := ⟨rfl, Nat.le_of_ble_eq_true rfl, fun h => nomatch h⟩
theorem vcmpLt (v0 : Hdr) (v1 : BitVec 2) (v2 : BitVec 2) (v3 : BitVec 4) (v4 : BitVec 4) (v5 : BitVec 4) (v6 : Bool) (v7 : Bool) : Statement (.vcmpLt v0 v1 v2 v3 v4 v5 v6 v7) := ⟨rfl, Nat.le_of_ble_eq_true rfl, fun h => nomatch h⟩
theorem vcmpLe (v0 : Hdr) (v1 : BitVec 2) (v2 : BitVec 2) (v3 : BitVec 4) (v4 : BitVec 4) (v5 : BitVec 4) (v6 : Bool) (v7 : Bool) : Statement (.vcmpLe v0 v1 v2 v3 v4 v5 v6 v7) := ⟨rfl, Nat.le_of_ble_eq_true rfl, fun h => nomatch h⟩
theorem vcmpGt (v0 : Hdr) (v1 : BitVec 2) (v2 : BitVec 2) (v3 : BitVec 4) (v4 : BitVec 4) (v5 : BitVec 4) (v6 : Bool) (v7 : Bool) : Statement (.vcmpGt v0 v1 v2 v3 v4 v5 v6 v7) := ⟨rfl, Nat.le_of_ble_eq_true rfl, fun h => nomatch h⟩
theorem vcmpGe (v0 : Hdr) (v1 : BitVec 2) (v2 : BitVec 2) (v3 : BitVec 4) (v4 : BitVec 4) (v5 : BitVec 4) (v6 : Bool) (v7 : Bool) : Statement (.vcmpGe v0 v1 v2 v3 v4 v5 v6 v7) := ⟨rfl, Nat.le_of_ble_eq_true rfl, fun h => nomatch h⟩
theorem vcmpUn (v0 : Hdr) (v1 : BitVec 2) (v2 : BitVec 2) (v3 : BitVec 4) (v4 : BitVec 4) (v5 : BitVec 4) (v6 : Bool) (v7 : Bool) : Statement (.vcmpUn v0 v1 v2 v3 v4 v5 v6 v7) := ⟨rfl, Nat.le_of_ble_eq_true rfl, fun h => nomatch h⟩
theorem vcmpOrd (v0 : Hdr) (v1 : BitVec 2) (v2 : BitVec 2) (v3 : BitVec 4) (v4 : BitVec 4) (v5 : BitVec 4) (v6 : Bool) (v7 : Bool) : Statement (.vcmpOrd v0 v1 v2 v3 v4 v5 v6 v7) := ⟨rfl, Nat.le_of_ble_eq_true rfl, fun h => nomatch h⟩
theorem vsel (v0 : Hdr) (v1 : BitVec 4) (v2 : BitVec 4) (v3 : BitVec 4) (v4 : BitVec 4) (v5 : Bool) (v6 : Bool) : Statement (.vsel v0 v1 v2 v3 v4 v5 v6) := ⟨rfl, Nat.le_of_ble_eq_true rfl, fun h => nomatch h⟩
theorem vcvt (v0 : Hdr) (v1 : BitVec 4) (v2 : BitVec 4) (v3 : BitVec 4) (v4 : BitVec 4) (v5 : Bool) (v6 : BitVec 4) : Statement (.vcvt v0 v1 v2 v3 v4 v5 v6) := ⟨rfl, Nat.le_of_ble_eq_true rfl, fun h => nomatch h⟩
theorem vscl (v0 : Hdr) (v1 : BitVec 4) (v2 : BitVec 4) (v3 : BitVec 4) (v4 : BitVec 4) (v5 : Bool) (v6 : Bool) : Statement (.vscl v0 v1 v2 v3 v4 v5 v6) := ⟨rfl, Nat.le_of_ble_eq_true rfl, fun h => nomatch h⟩
theorem vsclS (v0 : Hdr) (v1 : BitVec 4) (v2 : BitVec 4) (v3 : BitVec 4) (v4 : BitVec 4) (v5 : Bool) : Statement (.vsclS v0 v1 v2 v3 v4 v5) := ⟨rfl, Nat.le_of_ble_eq_true rfl, fun h => nomatch h⟩
theorem vrcp (v0 : Hdr) (v1 : BitVec 4) (v2 : BitVec 4) (v3 : BitVec 4) (v4 : Bool) : Statement (.vrcp v0 v1 v2 v3 v4) := ⟨rfl, Nat.le_of_ble_eq_true rfl, fun h => nomatch h⟩
theorem vrsq (v0 : Hdr) (v1 : BitVec 4) (v2 : BitVec 4) (v3 : BitVec 4) (v4 : Bool) : Statement (.vrsq v0 v1 v2 v3 v4) := ⟨rfl, Nat.le_of_ble_eq_true rfl, fun h => nomatch h⟩
theorem vredAdd (v0 : Hdr) (v1 : BitVec 4) (v2 : BitVec 4) (v3 : BitVec 4) (v4 : Bool) : Statement (.vredAdd v0 v1 v2 v3 v4) := ⟨rfl, Nat.le_of_ble_eq_true rfl, fun h => nomatch h⟩
theorem vredMin (v0 : Hdr) (v1 : BitVec 4) (v2 : BitVec 4) (v3 : BitVec 4) (v4 : Bool) : Statement (.vredMin v0 v1 v2 v3 v4) := ⟨rfl, Nat.le_of_ble_eq_true rfl, fun h => nomatch h⟩
theorem vredMax (v0 : Hdr) (v1 : BitVec 4) (v2 : BitVec 4) (v3 : BitVec 4) (v4 : Bool) : Statement (.vredMax v0 v1 v2 v3 v4) := ⟨rfl, Nat.le_of_ble_eq_true rfl, fun h => nomatch h⟩
theorem vredAnd (v0 : Hdr) (v1 : BitVec 4) (v2 : BitVec 4) (v3 : BitVec 4) (v4 : Bool) : Statement (.vredAnd v0 v1 v2 v3 v4) := ⟨rfl, Nat.le_of_ble_eq_true rfl, fun h => nomatch h⟩
theorem vredOr (v0 : Hdr) (v1 : BitVec 4) (v2 : BitVec 4) (v3 : BitVec 4) (v4 : Bool) : Statement (.vredOr v0 v1 v2 v3 v4) := ⟨rfl, Nat.le_of_ble_eq_true rfl, fun h => nomatch h⟩
theorem vredXor (v0 : Hdr) (v1 : BitVec 4) (v2 : BitVec 4) (v3 : BitVec 4) (v4 : Bool) : Statement (.vredXor v0 v1 v2 v3 v4) := ⟨rfl, Nat.le_of_ble_eq_true rfl, fun h => nomatch h⟩
theorem vpermIdx (v0 : Hdr) (v1 : BitVec 4) (v2 : BitVec 4) (v3 : BitVec 4) (v4 : BitVec 4) (v5 : Bool) (v6 : Bool) : Statement (.vpermIdx v0 v1 v2 v3 v4 v5 v6) := ⟨rfl, Nat.le_of_ble_eq_true rfl, fun h => nomatch h⟩
theorem vpermRot (v0 : Hdr) (v1 : BitVec 4) (v2 : BitVec 4) (v3 : BitVec 4) (v4 : BitVec 4) (v5 : Bool) (v6 : Bool) : Statement (.vpermRot v0 v1 v2 v3 v4 v5 v6) := ⟨rfl, Nat.le_of_ble_eq_true rfl, fun h => nomatch h⟩
theorem vpermRev (v0 : Hdr) (v1 : BitVec 4) (v2 : BitVec 4) (v3 : BitVec 4) (v4 : Bool) : Statement (.vpermRev v0 v1 v2 v3 v4) := ⟨rfl, Nat.le_of_ble_eq_true rfl, fun h => nomatch h⟩
theorem vpermZip (v0 : Hdr) (v1 : BitVec 4) (v2 : BitVec 4) (v3 : BitVec 4) (v4 : BitVec 4) (v5 : Bool) (v6 : Bool) : Statement (.vpermZip v0 v1 v2 v3 v4 v5 v6) := ⟨rfl, Nat.le_of_ble_eq_true rfl, fun h => nomatch h⟩
theorem vpermUnzip (v0 : Hdr) (v1 : BitVec 4) (v2 : BitVec 4) (v3 : BitVec 4) (v4 : BitVec 4) (v5 : Bool) (v6 : Bool) : Statement (.vpermUnzip v0 v1 v2 v3 v4 v5 v6) := ⟨rfl, Nat.le_of_ble_eq_true rfl, fun h => nomatch h⟩
theorem vbcast (v0 : Hdr) (v1 : BitVec 4) (v2 : BitVec 4) (v3 : BitVec 4) (v4 : BitVec 4) (v5 : Bool) (v6 : Bool) : Statement (.vbcast v0 v1 v2 v3 v4 v5 v6) := ⟨rfl, Nat.le_of_ble_eq_true rfl, fun h => nomatch h⟩
theorem vbcastS (v0 : Hdr) (v1 : BitVec 4) (v2 : BitVec 4) (v3 : BitVec 4) : Statement (.vbcastS v0 v1 v2 v3) := ⟨rfl, Nat.le_of_ble_eq_true rfl, fun h => nomatch h⟩
theorem vlut (v0 : Hdr) (v1 : BitVec 4) (v2 : BitVec 4) (v3 : BitVec 4) (v4 : BitVec 4) (v5 : Bool) (v6 : Bool) : Statement (.vlut v0 v1 v2 v3 v4 v5 v6) := ⟨rfl, Nat.le_of_ble_eq_true rfl, fun h => nomatch h⟩
theorem vand (v0 : Hdr) (v1 : BitVec 4) (v2 : BitVec 4) (v3 : BitVec 4) (v4 : BitVec 4) (v5 : Bool) (v6 : Bool) : Statement (.vand v0 v1 v2 v3 v4 v5 v6) := ⟨rfl, Nat.le_of_ble_eq_true rfl, fun h => nomatch h⟩
theorem vor (v0 : Hdr) (v1 : BitVec 4) (v2 : BitVec 4) (v3 : BitVec 4) (v4 : BitVec 4) (v5 : Bool) (v6 : Bool) : Statement (.vor v0 v1 v2 v3 v4 v5 v6) := ⟨rfl, Nat.le_of_ble_eq_true rfl, fun h => nomatch h⟩
theorem vxor (v0 : Hdr) (v1 : BitVec 4) (v2 : BitVec 4) (v3 : BitVec 4) (v4 : BitVec 4) (v5 : Bool) (v6 : Bool) : Statement (.vxor v0 v1 v2 v3 v4 v5 v6) := ⟨rfl, Nat.le_of_ble_eq_true rfl, fun h => nomatch h⟩
theorem vshl (v0 : Hdr) (v1 : BitVec 4) (v2 : BitVec 4) (v3 : BitVec 4) (v4 : BitVec 4) (v5 : Bool) (v6 : Bool) : Statement (.vshl v0 v1 v2 v3 v4 v5 v6) := ⟨rfl, Nat.le_of_ble_eq_true rfl, fun h => nomatch h⟩
theorem vshr (v0 : Hdr) (v1 : BitVec 4) (v2 : BitVec 4) (v3 : BitVec 4) (v4 : BitVec 4) (v5 : Bool) (v6 : Bool) : Statement (.vshr v0 v1 v2 v3 v4 v5 v6) := ⟨rfl, Nat.le_of_ble_eq_true rfl, fun h => nomatch h⟩
theorem vshrA (v0 : Hdr) (v1 : BitVec 4) (v2 : BitVec 4) (v3 : BitVec 4) (v4 : BitVec 4) (v5 : Bool) (v6 : Bool) : Statement (.vshrA v0 v1 v2 v3 v4 v5 v6) := ⟨rfl, Nat.le_of_ble_eq_true rfl, fun h => nomatch h⟩
theorem vmad (v0 : Hdr) (v1 : BitVec 4) (v2 : BitVec 4) (v3 : BitVec 4) (v4 : BitVec 4) (v5 : Bool) (v6 : Bool) : Statement (.vmad v0 v1 v2 v3 v4 v5 v6) := ⟨rfl, Nat.le_of_ble_eq_true rfl, fun h => nomatch h⟩
theorem vpopc (v0 : Hdr) (v1 : BitVec 4) (v2 : BitVec 4) (v3 : BitVec 4) (v4 : Bool) : Statement (.vpopc v0 v1 v2 v3 v4) := ⟨rfl, Nat.le_of_ble_eq_true rfl, fun h => nomatch h⟩
theorem vmovq (v0 : Hdr) (v1 : BitVec 4) (v2 : BitVec 4) (v3 : BitVec 4) (v4 : Bool) : Statement (.vmovq v0 v1 v2 v3 v4) := ⟨rfl, Nat.le_of_ble_eq_true rfl, fun h => nomatch h⟩
theorem qrd (v0 : Hdr) (v1 : BitVec 4) (v2 : BitVec 5) (v3 : BitVec 9) : Statement (.qrd v0 v1 v2 v3) := ⟨rfl, Nat.le_of_ble_eq_true rfl, fun h => nomatch h⟩
theorem qrdS (v0 : Hdr) (v1 : BitVec 4) (v2 : BitVec 5) (v3 : BitVec 5) : Statement (.qrdS v0 v1 v2 v3) := ⟨rfl, Nat.le_of_ble_eq_true rfl, fun h => nomatch h⟩
theorem qwr (v0 : Hdr) (v1 : Bool) (v2 : BitVec 4) (v3 : BitVec 5) (v4 : BitVec 9) : Statement (.qwr v0 v1 v2 v3 v4) := ⟨rfl, Nat.le_of_ble_eq_true rfl, fun h => nomatch h⟩
theorem qwrS (v0 : Hdr) (v1 : Bool) (v2 : BitVec 4) (v3 : BitVec 5) (v4 : BitVec 5) : Statement (.qwrS v0 v1 v2 v3 v4) := ⟨rfl, Nat.le_of_ble_eq_true rfl, fun h => nomatch h⟩
theorem tdef (v0 : Hdr) (v1 : BitVec 6) (v2 : BitVec 5) (v3 : BitVec 2) (v4 : BitVec 5) (v5 : BitVec 16) : Statement (.tdef v0 v1 v2 v3 v4 v5) := ⟨rfl, Nat.le_of_ble_eq_true rfl, fun h => nomatch h⟩
theorem tfree (v0 : Hdr) (v1 : BitVec 6) : Statement (.tfree v0 v1) := ⟨rfl, Nat.le_of_ble_eq_true rfl, fun h => nomatch h⟩
theorem tmov (v0 : Hdr) (v1 : BitVec 6) (v2 : BitVec 5) (v3 : BitVec 2) (v4 : BitVec 5) : Statement (.tmov v0 v1 v2 v3 v4) := ⟨rfl, Nat.le_of_ble_eq_true rfl, fun h => nomatch h⟩
theorem tmovK (v0 : Hdr) (v1 : BitVec 6) (v2 : BitVec 5) (v3 : BitVec 2) (v4 : BitVec 5) : Statement (.tmovK v0 v1 v2 v3 v4) := ⟨rfl, Nat.le_of_ble_eq_true rfl, fun h => nomatch h⟩
theorem tqryW0 (v0 : Hdr) (v1 : BitVec 6) (v2 : BitVec 5) : Statement (.tqryW0 v0 v1 v2) := ⟨rfl, Nat.le_of_ble_eq_true rfl, fun h => nomatch h⟩
theorem tqryW1 (v0 : Hdr) (v1 : BitVec 6) (v2 : BitVec 5) : Statement (.tqryW1 v0 v1 v2) := ⟨rfl, Nat.le_of_ble_eq_true rfl, fun h => nomatch h⟩
theorem cpl (v0 : Hdr) (v1 : BitVec 6) (v2 : BitVec 5) (v3 : Bool) (v4 : BitVec 2) : Statement (.cpl v0 v1 v2 v3 v4) := ⟨rfl, Nat.le_of_ble_eq_true rfl, fun h => nomatch h⟩
theorem cps (v0 : Hdr) (v1 : BitVec 6) (v2 : BitVec 5) (v3 : Bool) (v4 : BitVec 2) : Statement (.cps v0 v1 v2 v3 v4) := ⟨rfl, Nat.le_of_ble_eq_true rfl, fun h => nomatch h⟩
theorem cpacc (v0 : Hdr) (v1 : BitVec 5) (v2 : BitVec 5) (v3 : BitVec 5) (v4 : BitVec 4) : Statement (.cpacc v0 v1 v2 v3 v4) := ⟨rfl, Nat.le_of_ble_eq_true rfl, fun h => nomatch h⟩
theorem cpaccr (v0 : Hdr) (v1 : BitVec 5) (v2 : BitVec 5) (v3 : BitVec 4) : Statement (.cpaccr v0 v1 v2 v3) := ⟨rfl, Nat.le_of_ble_eq_true rfl, fun h => nomatch h⟩
theorem cpcasW (v0 : Hdr) (v1 : BitVec 5) (v2 : BitVec 5) (v3 : BitVec 5) : Statement (.cpcasW v0 v1 v2 v3) := ⟨rfl, Nat.le_of_ble_eq_true rfl, fun h => nomatch h⟩
theorem cpcasD (v0 : Hdr) (v1 : BitVec 5) (v2 : BitVec 5) (v3 : BitVec 5) : Statement (.cpcasD v0 v1 v2 v3) := ⟨rfl, Nat.le_of_ble_eq_true rfl, fun h => nomatch h⟩
theorem cpmeta (v0 : Hdr) (v1 : BitVec 6) (v2 : BitVec 5) (v3 : BitVec 8) : Statement (.cpmeta v0 v1 v2 v3) := ⟨rfl, Nat.le_of_ble_eq_true rfl, fun h => nomatch h⟩
theorem cpmc (v0 : Hdr) (v1 : BitVec 6) (v2 : BitVec 5) (v3 : BitVec 8) : Statement (.cpmc v0 v1 v2 v3) := ⟨rfl, Nat.le_of_ble_eq_true rfl, fun h => nomatch h⟩
theorem resp (v0 : Hdr) (v1 : BitVec 5) : Statement (.resp v0 v1) := ⟨rfl, Nat.le_of_ble_eq_true rfl, fun h => nomatch h⟩
theorem respPk (v0 : Hdr) (v1 : BitVec 5) : Statement (.respPk v0 v1) := ⟨rfl, Nat.le_of_ble_eq_true rfl, fun h => nomatch h⟩
theorem chpush (v0 : Hdr) (v1 : BitVec 6) (v2 : BitVec 5) (v3 : Bool) (v4 : Bool) : Statement (.chpush v0 v1 v2 v3 v4) := ⟨rfl, Nat.le_of_ble_eq_true rfl, fun h => nomatch h⟩
theorem chpop (v0 : Hdr) (v1 : BitVec 6) (v2 : BitVec 5) (v3 : Bool) : Statement (.chpop v0 v1 v2 v3) := ⟨rfl, Nat.le_of_ble_eq_true rfl, fun h => nomatch h⟩
theorem chpopPk (v0 : Hdr) (v1 : BitVec 6) (v2 : BitVec 5) (v3 : Bool) : Statement (.chpopPk v0 v1 v2 v3) := ⟨rfl, Nat.le_of_ble_eq_true rfl, fun h => nomatch h⟩
theorem chqry (v0 : Hdr) (v1 : BitVec 6) (v2 : BitVec 5) : Statement (.chqry v0 v1 v2) := ⟨rfl, Nat.le_of_ble_eq_true rfl, fun h => nomatch h⟩
theorem tstep (v0 : Hdr) (v1 : BitVec 6) (v2 : BitVec 5) (v3 : Bool) (v4 : Bool) : Statement (.tstep v0 v1 v2 v3 v4) := ⟨rfl, Nat.le_of_ble_eq_true rfl, fun h => nomatch h⟩
theorem tstepSp (v0 : Hdr) (v1 : BitVec 6) (v2 : BitVec 5) (v3 : Bool) (v4 : Bool) : Statement (.tstepSp v0 v1 v2 v3 v4) := ⟨rfl, Nat.le_of_ble_eq_true rfl, fun h => nomatch h⟩
theorem tcfg (v0 : Hdr) (v1 : BitVec 4) (v2 : BitVec 4) : Statement (.tcfg v0 v1 v2) := ⟨rfl, Nat.le_of_ble_eq_true rfl, fun h => nomatch h⟩
theorem tswap (v0 : Hdr) (v1 : BitVec 4) : Statement (.tswap v0 v1) := ⟨rfl, Nat.le_of_ble_eq_true rfl, fun h => nomatch h⟩
theorem tdrain (v0 : Hdr) (v1 : Bool) (v2 : BitVec 4) : Statement (.tdrain v0 v1 v2) := ⟨rfl, Nat.le_of_ble_eq_true rfl, fun h => nomatch h⟩
theorem tresumeRepl (v0 : Hdr) (v1 : BitVec 5) (v2 : BitVec 5) : Statement (.tresumeRepl v0 v1 v2) := ⟨rfl, Nat.le_of_ble_eq_true rfl, fun h => nomatch h⟩
theorem tresumeDisc (v0 : Hdr) (v1 : BitVec 5) : Statement (.tresumeDisc v0 v1) := ⟨rfl, Nat.le_of_ble_eq_true rfl, fun h => nomatch h⟩
theorem tresumeAbort (v0 : Hdr) (v1 : BitVec 5) : Statement (.tresumeAbort v0 v1) := ⟨rfl, Nat.le_of_ble_eq_true rfl, fun h => nomatch h⟩
theorem tcbk (v0 : Hdr) (v1 : BitVec 6) (v2 : BitVec 5) (v3 : BitVec 5) : Statement (.tcbk v0 v1 v2 v3) := ⟨rfl, Nat.le_of_ble_eq_true rfl, fun h => nomatch h⟩
theorem scaccRow (v0 : Hdr) (v1 : BitVec 6) (v2 : BitVec 5) (v3 : Bool) : Statement (.scaccRow v0 v1 v2 v3) := ⟨rfl, Nat.le_of_ble_eq_true rfl, fun h => nomatch h⟩
theorem scaccCol (v0 : Hdr) (v1 : BitVec 6) (v2 : BitVec 5) (v3 : Bool) : Statement (.scaccCol v0 v1 v2 v3) := ⟨rfl, Nat.le_of_ble_eq_true rfl, fun h => nomatch h⟩
theorem scaccBlk (v0 : Hdr) (v1 : BitVec 6) (v2 : BitVec 5) (v3 : Bool) : Statement (.scaccBlk v0 v1 v2 v3) := ⟨rfl, Nat.le_of_ble_eq_true rfl, fun h => nomatch h⟩
theorem tsoundOn (v0 : Hdr) : Statement (.tsoundOn v0) := ⟨rfl, Nat.le_of_ble_eq_true rfl, fun h => nomatch h⟩
theorem tsoundOff (v0 : Hdr) : Statement (.tsoundOff v0) := ⟨rfl, Nat.le_of_ble_eq_true rfl, fun h => nomatch h⟩
theorem tsoundNow (v0 : Hdr) : Statement (.tsoundNow v0) := ⟨rfl, Nat.le_of_ble_eq_true rfl, fun h => nomatch h⟩
theorem fenceAcq (v0 : Hdr) (v1 : BitVec 3) : Statement (.fenceAcq v0 v1) := ⟨rfl, Nat.le_of_ble_eq_true rfl, fun h => nomatch h⟩
theorem fenceRel (v0 : Hdr) (v1 : BitVec 3) : Statement (.fenceRel v0 v1) := ⟨rfl, Nat.le_of_ble_eq_true rfl, fun h => nomatch h⟩
theorem fenceSc (v0 : Hdr) (v1 : BitVec 3) : Statement (.fenceSc v0 v1) := ⟨rfl, Nat.le_of_ble_eq_true rfl, fun h => nomatch h⟩
theorem waitc (v0 : Hdr) (v1 : BitVec 4) (v2 : BitVec 4) (v3 : BitVec 4) (v4 : BitVec 4) (v5 : BitVec 3) : Statement (.waitc v0 v1 v2 v3 v4 v5) := ⟨rfl, Nat.le_of_ble_eq_true rfl, fun h => nomatch h⟩
theorem gbar (v0 : Hdr) (v1 : BitVec 8) : Statement (.gbar v0 v1) := ⟨rfl, Nat.le_of_ble_eq_true rfl, fun h => nomatch h⟩
theorem gbarArr (v0 : Hdr) (v1 : BitVec 8) : Statement (.gbarArr v0 v1) := ⟨rfl, Nat.le_of_ble_eq_true rfl, fun h => nomatch h⟩
theorem signal (v0 : Hdr) (v1 : BitVec 5) (v2 : BitVec 5) : Statement (.signal v0 v1 v2) := ⟨rfl, Nat.le_of_ble_eq_true rfl, fun h => nomatch h⟩
theorem signalW (v0 : Hdr) (v1 : BitVec 5) (v2 : BitVec 5) : Statement (.signalW v0 v1 v2) := ⟨rfl, Nat.le_of_ble_eq_true rfl, fun h => nomatch h⟩
theorem spawn (v0 : Hdr) (v1 : BitVec 5) (v2 : BitVec 5) : Statement (.spawn v0 v1 v2) := ⟨rfl, Nat.le_of_ble_eq_true rfl, fun h => nomatch h⟩
theorem modeGuarded (v0 : Grd) : Statement (.modeGuarded v0) := ⟨rfl, Nat.le_of_ble_eq_true rfl, fun h => nomatch h⟩
theorem modeExposed (v0 : Grd) : Statement (.modeExposed v0) := ⟨rfl, Nat.le_of_ble_eq_true rfl, fun h => nomatch h⟩
theorem cairnSet (v0 : Hdr) (v1 : BitVec 5) (v2 : BitVec 5) (v3 : BitVec 5) : Statement (.cairnSet v0 v1 v2 v3) := ⟨rfl, Nat.le_of_ble_eq_true rfl, fun h => nomatch h⟩
theorem cairnRoll (v0 : Hdr) (v1 : BitVec 5) : Statement (.cairnRoll v0 v1) := ⟨rfl, Nat.le_of_ble_eq_true rfl, fun h => nomatch h⟩
theorem cairnDrop (v0 : Hdr) (v1 : BitVec 5) : Statement (.cairnDrop v0 v1) := ⟨rfl, Nat.le_of_ble_eq_true rfl, fun h => nomatch h⟩
theorem lfdone (v0 : Hdr) (v1 : BitVec 5) : Statement (.lfdone v0 v1) := ⟨rfl, Nat.le_of_ble_eq_true rfl, fun h => nomatch h⟩
theorem trap (v0 : Hdr) (v1 : BitVec 14) : Statement (.trap v0 v1) := ⟨rfl, Nat.le_of_ble_eq_true rfl, fun h => nomatch h⟩
theorem eret (v0 : Hdr) (v1 : Bool) : Statement (.eret v0 v1) := ⟨rfl, Nat.le_of_ble_eq_true rfl, fun h => nomatch h⟩
theorem bkpt (v0 : Hdr) (v1 : BitVec 14) : Statement (.bkpt v0 v1) := ⟨rfl, Nat.le_of_ble_eq_true rfl, fun h => nomatch h⟩
theorem haltx (v0 : Hdr) (v1 : BitVec 5) : Statement (.haltx v0 v1) := ⟨rfl, Nat.le_of_ble_eq_true rfl, fun h => nomatch h⟩
theorem cpy1d (v0 : Grd) (v1 : BitVec 5) (v2 : BitVec 5) (v3 : BitVec 5) : Statement (.cpy1d v0 v1 v2 v3) := ⟨rfl, Nat.le_of_ble_eq_true rfl, fun h => nomatch h⟩
theorem cpy2d (v0 : Grd) (v1 : BitVec 5) (v2 : BitVec 5) (v3 : BitVec 5) (v4 : BitVec 5) (v5 : BitVec 5) : Statement (.cpy2d v0 v1 v2 v3 v4 v5) := ⟨rfl, Nat.le_of_ble_eq_true rfl, fun h => nomatch h⟩
theorem cpy3d (v0 : Grd) (v1 : BitVec 5) (v2 : BitVec 5) (v3 : BitVec 5) (v4 : BitVec 5) (v5 : BitVec 5) : Statement (.cpy3d v0 v1 v2 v3 v4 v5) := ⟨rfl, Nat.le_of_ble_eq_true rfl, fun h => nomatch h⟩
theorem zero (v0 : Grd) (v1 : BitVec 5) (v2 : BitVec 5) (v3 : BitVec 5) (v4 : BitVec 5) : Statement (.zero v0 v1 v2 v3 v4) := ⟨rfl, Nat.le_of_ble_eq_true rfl, fun h => nomatch h⟩
theorem fill (v0 : Grd) (v1 : BitVec 5) (v2 : BitVec 5) (v3 : BitVec 5) (v4 : BitVec 2) (v5 : BitVec 5) (v6 : BitVec 5) : Statement (.fill v0 v1 v2 v3 v4 v5 v6) := ⟨rfl, Nat.le_of_ble_eq_true rfl, fun h => nomatch h⟩
theorem acc (v0 : Grd) (v1 : BitVec 5) (v2 : BitVec 5) (v3 : BitVec 5) (v4 : BitVec 4) : Statement (.acc v0 v1 v2 v3 v4) := ⟨rfl, Nat.le_of_ble_eq_true rfl, fun h => nomatch h⟩
theorem accr (v0 : Grd) (v1 : BitVec 5) (v2 : BitVec 5) (v3 : BitVec 5) (v4 : BitVec 4) : Statement (.accr v0 v1 v2 v3 v4) := ⟨rfl, Nat.le_of_ble_eq_true rfl, fun h => nomatch h⟩
theorem casW (v0 : Grd) (v1 : BitVec 5) (v2 : BitVec 5) (v3 : BitVec 5) : Statement (.casW v0 v1 v2 v3) := ⟨rfl, Nat.le_of_ble_eq_true rfl, fun h => nomatch h⟩
theorem casD (v0 : Grd) (v1 : BitVec 5) (v2 : BitVec 5) (v3 : BitVec 5) : Statement (.casD v0 v1 v2 v3) := ⟨rfl, Nat.le_of_ble_eq_true rfl, fun h => nomatch h⟩
theorem gather (v0 : Grd) (v1 : BitVec 5) (v2 : BitVec 5) (v3 : BitVec 5) (v4 : BitVec 2) (v5 : Bool) (v6 : BitVec 5) : Statement (.gather v0 v1 v2 v3 v4 v5 v6) := ⟨rfl, Nat.le_of_ble_eq_true rfl, fun h => nomatch h⟩
theorem scatter (v0 : Grd) (v1 : BitVec 5) (v2 : BitVec 5) (v3 : BitVec 5) (v4 : BitVec 2) (v5 : Bool) (v6 : BitVec 5) : Statement (.scatter v0 v1 v2 v3 v4 v5 v6) := ⟨rfl, Nat.le_of_ble_eq_true rfl, fun h => nomatch h⟩
theorem mcast (v0 : Grd) (v1 : BitVec 5) (v2 : BitVec 5) (v3 : BitVec 5) (v4 : BitVec 8) : Statement (.mcast v0 v1 v2 v3 v4) := ⟨rfl, Nat.le_of_ble_eq_true rfl, fun h => nomatch h⟩
theorem wake (v0 : Grd) (v1 : BitVec 5) (v2 : BitVec 5) : Statement (.wake v0 v1 v2) := ⟨rfl, Nat.le_of_ble_eq_true rfl, fun h => nomatch h⟩
theorem seq (v0 : Grd) (v1 : BitVec 5) : Statement (.seq v0 v1) := ⟨rfl, Nat.le_of_ble_eq_true rfl, fun h => nomatch h⟩
theorem link (v0 : Grd) (v1 : BitVec 5) (v2 : BitVec 17) : Statement (.link v0 v1 v2) := ⟨rfl, Nat.le_of_ble_eq_true rfl, fun h => nomatch h⟩
theorem pkgetW (v0 : Grd) (v1 : BitVec 5) (v2 : BitVec 14) : Statement (.pkgetW v0 v1 v2) := ⟨rfl, Nat.le_of_ble_eq_true rfl, fun h => nomatch h⟩
theorem pkgetD (v0 : Grd) (v1 : BitVec 5) (v2 : BitVec 14) : Statement (.pkgetD v0 v1 v2) := ⟨rfl, Nat.le_of_ble_eq_true rfl, fun h => nomatch h⟩
theorem shdr (v0 : Grd) (v1 : BitVec 5) (v2 : BitVec 14) : Statement (.shdr v0 v1 v2) := ⟨rfl, Nat.le_of_ble_eq_true rfl, fun h => nomatch h⟩
theorem shdw (v0 : Grd) (v1 : BitVec 5) (v2 : BitVec 14) : Statement (.shdw v0 v1 v2) := ⟨rfl, Nat.le_of_ble_eq_true rfl, fun h => nomatch h⟩
theorem emtask (v0 : Grd) (v1 : BitVec 5) (v2 : BitVec 5) (v3 : BitVec 5) : Statement (.emtask v0 v1 v2 v3) := ⟨rfl, Nat.le_of_ble_eq_true rfl, fun h => nomatch h⟩
theorem emlaunch (v0 : Grd) (v1 : BitVec 5) (v2 : BitVec 5) : Statement (.emlaunch v0 v1 v2) := ⟨rfl, Nat.le_of_ble_eq_true rfl, fun h => nomatch h⟩
theorem emlaunchCfg (v0 : Grd) (v1 : BitVec 5) (v2 : BitVec 5) (v3 : BitVec 5) : Statement (.emlaunchCfg v0 v1 v2 v3) := ⟨rfl, Nat.le_of_ble_eq_true rfl, fun h => nomatch h⟩
theorem sigwaitLe (v0 : Grd) (v1 : BitVec 5) (v2 : BitVec 5) : Statement (.sigwaitLe v0 v1 v2) := ⟨rfl, Nat.le_of_ble_eq_true rfl, fun h => nomatch h⟩
theorem sigwaitLt (v0 : Grd) (v1 : BitVec 5) (v2 : BitVec 5) : Statement (.sigwaitLt v0 v1 v2) := ⟨rfl, Nat.le_of_ble_eq_true rfl, fun h => nomatch h⟩
theorem sigwaitEq (v0 : Grd) (v1 : BitVec 5) (v2 : BitVec 5) : Statement (.sigwaitEq v0 v1 v2) := ⟨rfl, Nat.le_of_ble_eq_true rfl, fun h => nomatch h⟩
theorem sigwaitNe (v0 : Grd) (v1 : BitVec 5) (v2 : BitVec 5) : Statement (.sigwaitNe v0 v1 v2) := ⟨rfl, Nat.le_of_ble_eq_true rfl, fun h => nomatch h⟩
theorem delta (v0 : Grd) (v1 : BitVec 5) (v2 : BitVec 5) (v3 : BitVec 5) : Statement (.delta v0 v1 v2 v3) := ⟨rfl, Nat.le_of_ble_eq_true rfl, fun h => nomatch h⟩
theorem abortPkt (v0 : Grd) : Statement (.abortPkt v0) := ⟨rfl, Nat.le_of_ble_eq_true rfl, fun h => nomatch h⟩
theorem abortQueue (v0 : Grd) : Statement (.abortQueue v0) := ⟨rfl, Nat.le_of_ble_eq_true rfl, fun h => nomatch h⟩
theorem complete (v0 : Grd) (v1 : BitVec 5) (v2 : BitVec 5) (v3 : BitVec 5) : Statement (.complete v0 v1 v2 v3) := ⟨rfl, Nat.le_of_ble_eq_true rfl, fun h => nomatch h⟩
theorem barrier : Statement .barrier := ⟨rfl, Nat.le_of_ble_eq_true rfl, fun h => nomatch h⟩
theorem bundleIssue : Statement .bundleIssue := ⟨rfl, Nat.le_of_ble_eq_true rfl, fun _ => rfl⟩
theorem queueWaitTimeout : Statement .queueWaitTimeout := ⟨rfl, Nat.le_of_ble_eq_true rfl, fun _ => rfl⟩
theorem loadDataReturn : Statement .loadDataReturn := ⟨rfl, Nat.le_of_ble_eq_true rfl, fun _ => rfl⟩
theorem storePerformed : Statement .storePerformed := ⟨rfl, Nat.le_of_ble_eq_true rfl, fun _ => rfl⟩
theorem qrdLanding : Statement .qrdLanding := ⟨rfl, Nat.le_of_ble_eq_true rfl, fun _ => rfl⟩
theorem lateAccessRefusal : Statement .lateAccessRefusal := ⟨rfl, Nat.le_of_ble_eq_true rfl, fun _ => rfl⟩
theorem waitcComplete : Statement .waitcComplete := ⟨rfl, Nat.le_of_ble_eq_true rfl, fun _ => rfl⟩
theorem fenceComplete : Statement .fenceComplete := ⟨rfl, Nat.le_of_ble_eq_true rfl, fun _ => rfl⟩
theorem modeDrainDone : Statement .modeDrainDone := ⟨rfl, Nat.le_of_ble_eq_true rfl, fun _ => rfl⟩
theorem gbarPhaseComplete : Statement .gbarPhaseComplete := ⟨rfl, Nat.le_of_ble_eq_true rfl, fun _ => rfl⟩
theorem taskEndDrained : Statement .taskEndDrained := ⟨rfl, Nat.le_of_ble_eq_true rfl, fun _ => rfl⟩
theorem copyStart : Statement .copyStart := ⟨rfl, Nat.le_of_ble_eq_true rfl, fun _ => rfl⟩
theorem copyGranule : Statement .copyGranule := ⟨rfl, Nat.le_of_ble_eq_true rfl, fun _ => rfl⟩
theorem copyComplete : Statement .copyComplete := ⟨rfl, Nat.le_of_ble_eq_true rfl, fun _ => rfl⟩
theorem copyTranslationFault : Statement .copyTranslationFault := ⟨rfl, Nat.le_of_ble_eq_true rfl, fun _ => rfl⟩
theorem slotTranslationFault : Statement .slotTranslationFault := ⟨rfl, Nat.le_of_ble_eq_true rfl, fun _ => rfl⟩
theorem chainRegister : Statement .chainRegister := ⟨rfl, Nat.le_of_ble_eq_true rfl, fun _ => rfl⟩
theorem chainEntryRead : Statement .chainEntryRead := ⟨rfl, Nat.le_of_ble_eq_true rfl, fun _ => rfl⟩
theorem chainCommandComplete : Statement .chainCommandComplete := ⟨rfl, Nat.le_of_ble_eq_true rfl, fun _ => rfl⟩
theorem taskCancelAtHead : Statement .taskCancelAtHead := ⟨rfl, Nat.le_of_ble_eq_true rfl, fun _ => rfl⟩
theorem bindFresh : Statement .bindFresh := ⟨rfl, Nat.le_of_ble_eq_true rfl, fun _ => rfl⟩
theorem bindRestore : Statement .bindRestore := ⟨rfl, Nat.le_of_ble_eq_true rfl, fun _ => rfl⟩
theorem bindPreempt : Statement .bindPreempt := ⟨rfl, Nat.le_of_ble_eq_true rfl, fun _ => rfl⟩
theorem slotStopped : Statement .slotStopped := ⟨rfl, Nat.le_of_ble_eq_true rfl, fun _ => rfl⟩
theorem slotSaveDone : Statement .slotSaveDone := ⟨rfl, Nat.le_of_ble_eq_true rfl, fun _ => rfl⟩
theorem tenantScrub : Statement .tenantScrub := ⟨rfl, Nat.le_of_ble_eq_true rfl, fun _ => rfl⟩
theorem stepArm : Statement .stepArm := ⟨rfl, Nat.le_of_ble_eq_true rfl, fun _ => rfl⟩
theorem stepRowWritten : Statement .stepRowWritten := ⟨rfl, Nat.le_of_ble_eq_true rfl, fun _ => rfl⟩
theorem stepComplete : Statement .stepComplete := ⟨rfl, Nat.le_of_ble_eq_true rfl, fun _ => rfl⟩
theorem scaccDone : Statement .scaccDone := ⟨rfl, Nat.le_of_ble_eq_true rfl, fun _ => rfl⟩
theorem tcfgLoadDone : Statement .tcfgLoadDone := ⟨rfl, Nat.le_of_ble_eq_true rfl, fun _ => rfl⟩
theorem segmentSwitch : Statement .segmentSwitch := ⟨rfl, Nat.le_of_ble_eq_true rfl, fun _ => rfl⟩
theorem drainEmpty : Statement .drainEmpty := ⟨rfl, Nat.le_of_ble_eq_true rfl, fun _ => rfl⟩
theorem siteFire : Statement .siteFire := ⟨rfl, Nat.le_of_ble_eq_true rfl, fun _ => rfl⟩
theorem collarTrapDelivery : Statement .collarTrapDelivery := ⟨rfl, Nat.le_of_ble_eq_true rfl, fun _ => rfl⟩
theorem hardwareRollback : Statement .hardwareRollback := ⟨rfl, Nat.le_of_ble_eq_true rfl, fun _ => rfl⟩
theorem channelPark : Statement .channelPark := ⟨rfl, Nat.le_of_ble_eq_true rfl, fun _ => rfl⟩
theorem channelWake : Statement .channelWake := ⟨rfl, Nat.le_of_ble_eq_true rfl, fun _ => rfl⟩
theorem sumpRefill : Statement .sumpRefill := ⟨rfl, Nat.le_of_ble_eq_true rfl, fun _ => rfl⟩
theorem sumpGrant : Statement .sumpGrant := ⟨rfl, Nat.le_of_ble_eq_true rfl, fun _ => rfl⟩
theorem sumpDecline : Statement .sumpDecline := ⟨rfl, Nat.le_of_ble_eq_true rfl, fun _ => rfl⟩
theorem sumpSpillFault : Statement .sumpSpillFault := ⟨rfl, Nat.le_of_ble_eq_true rfl, fun _ => rfl⟩
theorem deadlockScan : Statement .deadlockScan := ⟨rfl, Nat.le_of_ble_eq_true rfl, fun _ => rfl⟩
theorem landfall : Statement .landfall := ⟨rfl, Nat.le_of_ble_eq_true rfl, fun _ => rfl⟩
theorem deadlineHardStop : Statement .deadlineHardStop := ⟨rfl, Nat.le_of_ble_eq_true rfl, fun _ => rfl⟩
theorem packetStart : Statement .packetStart := ⟨rfl, Nat.le_of_ble_eq_true rfl, fun _ => rfl⟩
theorem packetBudget : Statement .packetBudget := ⟨rfl, Nat.le_of_ble_eq_true rfl, fun _ => rfl⟩
theorem sigwaitReread : Statement .sigwaitReread := ⟨rfl, Nat.le_of_ble_eq_true rfl, fun _ => rfl⟩
theorem emlaunchGroupsFree : Statement .emlaunchGroupsFree := ⟨rfl, Nat.le_of_ble_eq_true rfl, fun _ => rfl⟩
theorem cfgTrapTimeout : Statement .cfgTrapTimeout := ⟨rfl, Nat.le_of_ble_eq_true rfl, fun _ => rfl⟩
theorem launchRetire : Statement .launchRetire := ⟨rfl, Nat.le_of_ble_eq_true rfl, fun _ => rfl⟩
theorem packetRetire : Statement .packetRetire := ⟨rfl, Nat.le_of_ble_eq_true rfl, fun _ => rfl⟩
theorem hostWrite : Statement .hostWrite := ⟨rfl, Nat.le_of_ble_eq_true rfl, fun _ => rfl⟩
theorem hostRead : Statement .hostRead := ⟨rfl, Nat.le_of_ble_eq_true rfl, fun _ => rfl⟩
theorem hostTail : Statement .hostTail := ⟨rfl, Nat.le_of_ble_eq_true rfl, fun _ => rfl⟩
theorem hostAck : Statement .hostAck := ⟨rfl, Nat.le_of_ble_eq_true rfl, fun _ => rfl⟩
theorem hostFaultRetry : Statement .hostFaultRetry := ⟨rfl, Nat.le_of_ble_eq_true rfl, fun _ => rfl⟩
theorem hostFaultAbort : Statement .hostFaultAbort := ⟨rfl, Nat.le_of_ble_eq_true rfl, fun _ => rfl⟩
theorem hostRetransmit : Statement .hostRetransmit := ⟨rfl, Nat.le_of_ble_eq_true rfl, fun _ => rfl⟩
theorem hostLinkLoss : Statement .hostLinkLoss := ⟨rfl, Nat.le_of_ble_eq_true rfl, fun _ => rfl⟩
theorem hostLinkUp : Statement .hostLinkUp := ⟨rfl, Nat.le_of_ble_eq_true rfl, fun _ => rfl⟩
theorem mgmtStatus : Statement .mgmtStatus := ⟨rfl, Nat.le_of_ble_eq_true rfl, fun _ => rfl⟩
theorem mgmtQdesc : Statement .mgmtQdesc := ⟨rfl, Nat.le_of_ble_eq_true rfl, fun _ => rfl⟩
theorem mgmtQprog : Statement .mgmtQprog := ⟨rfl, Nat.le_of_ble_eq_true rfl, fun _ => rfl⟩
theorem mgmtQtear : Statement .mgmtQtear := ⟨rfl, Nat.le_of_ble_eq_true rfl, fun _ => rfl⟩
theorem mgmtChopen : Statement .mgmtChopen := ⟨rfl, Nat.le_of_ble_eq_true rfl, fun _ => rfl⟩
theorem mgmtChclose : Statement .mgmtChclose := ⟨rfl, Nat.le_of_ble_eq_true rfl, fun _ => rfl⟩
theorem mgmtNodemap : Statement .mgmtNodemap := ⟨rfl, Nat.le_of_ble_eq_true rfl, fun _ => rfl⟩
theorem mgmtTxinv : Statement .mgmtTxinv := ⟨rfl, Nat.le_of_ble_eq_true rfl, fun _ => rfl⟩
theorem mgmtPtpdom : Statement .mgmtPtpdom := ⟨rfl, Nat.le_of_ble_eq_true rfl, fun _ => rfl⟩
theorem mgmtCounters : Statement .mgmtCounters := ⟨rfl, Nat.le_of_ble_eq_true rfl, fun _ => rfl⟩
theorem mgmtLinktrain : Statement .mgmtLinktrain := ⟨rfl, Nat.le_of_ble_eq_true rfl, fun _ => rfl⟩
theorem mgmtFence : Statement .mgmtFence := ⟨rfl, Nat.le_of_ble_eq_true rfl, fun _ => rfl⟩
theorem mgmtAttest : Statement .mgmtAttest := ⟨rfl, Nat.le_of_ble_eq_true rfl, fun _ => rfl⟩
theorem mgmtBaseimg : Statement .mgmtBaseimg := ⟨rfl, Nat.le_of_ble_eq_true rfl, fun _ => rfl⟩
theorem mgmtPower : Statement .mgmtPower := ⟨rfl, Nat.le_of_ble_eq_true rfl, fun _ => rfl⟩
theorem mgmtSensors : Statement .mgmtSensors := ⟨rfl, Nat.le_of_ble_eq_true rfl, fun _ => rfl⟩
theorem txinvPages : Statement .txinvPages := ⟨rfl, Nat.le_of_ble_eq_true rfl, fun _ => rfl⟩
theorem txinvChart : Statement .txinvChart := ⟨rfl, Nat.le_of_ble_eq_true rfl, fun _ => rfl⟩
theorem txinvAsid : Statement .txinvAsid := ⟨rfl, Nat.le_of_ble_eq_true rfl, fun _ => rfl⟩
theorem txinvAll : Statement .txinvAll := ⟨rfl, Nat.le_of_ble_eq_true rfl, fun _ => rfl⟩
theorem txinvDone : Statement .txinvDone := ⟨rfl, Nat.le_of_ble_eq_true rfl, fun _ => rfl⟩
theorem registerWrite : Statement .registerWrite := ⟨rfl, Nat.le_of_ble_eq_true rfl, fun _ => rfl⟩
theorem ptpMessage : Statement .ptpMessage := ⟨rfl, Nat.le_of_ble_eq_true rfl, fun _ => rfl⟩
theorem ptpHoldover : Statement .ptpHoldover := ⟨rfl, Nat.le_of_ble_eq_true rfl, fun _ => rfl⟩
theorem remotePacketArrival : Statement .remotePacketArrival := ⟨rfl, Nat.le_of_ble_eq_true rfl, fun _ => rfl⟩
theorem remoteAckArrival : Statement .remoteAckArrival := ⟨rfl, Nat.le_of_ble_eq_true rfl, fun _ => rfl⟩
theorem remoteResendTimeout : Statement .remoteResendTimeout := ⟨rfl, Nat.le_of_ble_eq_true rfl, fun _ => rfl⟩
theorem remoteRefusal : Statement .remoteRefusal := ⟨rfl, Nat.le_of_ble_eq_true rfl, fun _ => rfl⟩
theorem destinationUnreachable : Statement .destinationUnreachable := ⟨rfl, Nat.le_of_ble_eq_true rfl, fun _ => rfl⟩
theorem flitCrcRetry : Statement .flitCrcRetry := ⟨rfl, Nat.le_of_ble_eq_true rfl, fun _ => rfl⟩
theorem linkLossOfLock : Statement .linkLossOfLock := ⟨rfl, Nat.le_of_ble_eq_true rfl, fun _ => rfl⟩
theorem linkFlitErrorRate : Statement .linkFlitErrorRate := ⟨rfl, Nat.le_of_ble_eq_true rfl, fun _ => rfl⟩
theorem linkRemoved : Statement .linkRemoved := ⟨rfl, Nat.le_of_ble_eq_true rfl, fun _ => rfl⟩
theorem correctedError : Statement .correctedError := ⟨rfl, Nat.le_of_ble_eq_true rfl, fun _ => rfl⟩
theorem uncorrectableError : Statement .uncorrectableError := ⟨rfl, Nat.le_of_ble_eq_true rfl, fun _ => rfl⟩
theorem backgroundScrub : Statement .backgroundScrub := ⟨rfl, Nat.le_of_ble_eq_true rfl, fun _ => rfl⟩
theorem channelRemap : Statement .channelRemap := ⟨rfl, Nat.le_of_ble_eq_true rfl, fun _ => rfl⟩
theorem tileRetire : Statement .tileRetire := ⟨rfl, Nat.le_of_ble_eq_true rfl, fun _ => rfl⟩
theorem throttleStep : Statement .throttleStep := ⟨rfl, Nat.le_of_ble_eq_true rfl, fun _ => rfl⟩
theorem carrierThrottle : Statement .carrierThrottle := ⟨rfl, Nat.le_of_ble_eq_true rfl, fun _ => rfl⟩
theorem thermalTrip : Statement .thermalTrip := ⟨rfl, Nat.le_of_ble_eq_true rfl, fun _ => rfl⟩
theorem coldReset : Statement .coldReset := ⟨rfl, Nat.le_of_ble_eq_true rfl, fun _ => rfl⟩
theorem illegalWord : Statement .illegalWord := ⟨rfl, Nat.le_of_ble_eq_true rfl, fun _ => rfl⟩
theorem resultLands : Statement .resultLands := ⟨rfl, Nat.le_of_ble_eq_true rfl, fun _ => rfl⟩
theorem stepPreloadDone : Statement .stepPreloadDone := ⟨rfl, Nat.le_of_ble_eq_true rfl, fun _ => rfl⟩
theorem stepRowEnters : Statement .stepRowEnters := ⟨rfl, Nat.le_of_ble_eq_true rfl, fun _ => rfl⟩
theorem spareTakeoverDone : Statement .spareTakeoverDone := ⟨rfl, Nat.le_of_ble_eq_true rfl, fun _ => rfl⟩
theorem linkTrained : Statement .linkTrained := ⟨rfl, Nat.le_of_ble_eq_true rfl, fun _ => rfl⟩
theorem railOutOfRange : Statement .railOutOfRange := ⟨rfl, Nat.le_of_ble_eq_true rfl, fun _ => rfl⟩

end Sys2Proof.Laws.WordOrEvent
end

