-- ==== Sys2Proof/Laws/Vector.lean ====
section
/-! SUPPORT. Sys2Proof/Laws/Vector.lean: what a vector word that issues pushes, from the entry its meaning computes. -/

namespace Sys2Proof.Claims
open Sys2Proof.Machine

theorem popAll_queues (sl : Slot) (l : List (BitVec 4 × Nat × Bool)) :
    sl.popAll (l.map fun o => (o.1.toNat, o.2.1, o.2.2)) = { sl with queues := leave sl.queues l } := by
  induction l generalizing sl with
  | nil => rfl
  | cons o l ih =>
    obtain ⟨q, i, p⟩ := o
    cases p
    · have : sl.popAll (((q, i, false) :: l).map fun o => (o.1.toNat, o.2.1, o.2.2)) =
          sl.popAll (l.map fun o => (o.1.toNat, o.2.1, o.2.2)) := by simp [Slot.popAll]
      rw [this, ih]; rfl
    · have : sl.popAll (((q, i, true) :: l).map fun o => (o.1.toNat, o.2.1, o.2.2)) =
          (sl.setQueue q.toNat ((sl.queue q.toNat).drop 1)).popAll (l.map fun o => (o.1.toNat, o.2.1, o.2.2)) := by
        simp [Slot.popAll]
      rw [this, ih]; rfl

theorem sources_eq (sl : Slot) (u : Uses) (l : List (BitVec 4 × Nat × Bool))
    (hu : u.q = l.map fun o => (o.1.toNat, o.2.1, o.2.2)) : sl.sources u = l.map fun q => entryAt sl q.1 q.2.1 := by
  rw [Slot.sources, hu, List.map_map]; rfl

/-- What a word that is to trap late leaves. -/
theorem lateTrap_eq (s : State) (k x lat cause : Nat) (aux : Word) :
    s.lateTrap k x lat cause aux = s.setSlot k (trapsLater s k x lat cause aux) := by
  simp only [State.lateTrap, State.modSlot_eq, State.slotClock, trapsLater]
  cases (s.slot k).exposed <;> rfl

theorem fpTrap_eq (s : State) (k x : Nat) (i : Instr) (l : List (Nat × BitVec 5)) :
    fpTrap k x s i l =
      .done (s.setSlot k (trapsLater s k x (latencyOf i) 10 (flagTrapAux ((s.slot k).fpcsr.extractLsb' 10 5) l))) := by
  simp only [fpTrap, lateTrap_eq]
  rfl

/-- What a vector word that raises no enabled flag pushes. -/
theorem pushed_eq (s : State) (k x lat q : Nat) (qs : Tab (List QPlace)) (e : Entry) (fl : BitVec 5) (hb : s.bundle = false) :
    ((({ s with nextId := s.nextId + 1 } : State).setSlot k (({ s.slot k with queues := qs } : Slot).setQueue q
      (({ s.slot k with queues := qs } : Slot).queue q ++ [{ op := s.nextId, val := none, due := s.queueDue k lat }]))).commit k x lat
        [.entry q s.nextId e fl]) = pushed s k x lat q qs e fl := by
  have hb' : ∀ v w, (({ s with nextId := v } : State).setSlot k w).bundle = false := fun _ _ => hb
  cases he : (s.slot k).exposed
  · simp only [State.commit, State.slot_setSlot, hb', Slot.setQueue_exposed, he, Bool.or_false, Bool.false_eq_true, if_false,
      List.foldl, State.land, State.modSlot_eq, State.setSlot_setSlot, State.queueDue, Slot.queue_setQueue, pushed]
    simp only [Slot.setQueue, Tab.set_set, Slot.queue, Slot.raise]
  · simp only [State.commit, State.slot_setSlot, Slot.setQueue_exposed, he, Bool.true_or, if_true, State.setSlot_setSlot,
      State.queueDue, pushed, List.map]
    rfl

/-- A word that pushes. -/
theorem pushes_of {i : Instr} {h : Hdr} {len : Nat} {d : BitVec 4} {srcs : List (BitVec 4 × Nat × Bool)}
    {r : View → Rnd → List Entry → VRes}
    (hx : ∀ s, exec i s = .next (s.issueCore i h len fun k x s v => vecPush k x s i d.toNat (r v)))
    (hl : latencyOf i = frozenLatency i) (hu : (usesOf i).q = srcs.map fun o => (o.1.toNat, o.2.1, o.2.2)) : Pushes i h len d srcs r := by
  intro s k x a
  have hs := sources_eq (s.slot k) _ _ hu
  refine ⟨fun h0 => ?_, fun h0 => ?_⟩
  · rw [hx, a.issueCore]
    have : (orFlags (r ((s.slot k).view x) (rmode (s.slot k).fpcsr) ((s.slot k).sources (usesOf i))).flags &&&
        trapEnables (s.slot k).fpcsr != 0) = false := by
      rw [hs]; exact bne_eq_false_iff_eq.2 h0
    simp only [vecPush, this, Bool.false_eq_true, if_false, hu, popAll_queues]
    rw [hs, pushed_eq s k x _ _ _ _ _ a.single, hl]
    rfl
  · rw [hx, a.issueCore]
    have : (orFlags (r ((s.slot k).view x) (rmode (s.slot k).fpcsr) ((s.slot k).sources (usesOf i))).flags &&&
        trapEnables (s.slot k).fpcsr != 0) = true := by
      rw [hs]; exact bne_iff_ne.2 h0
    simp only [vecPush, this, if_true, fpTrap_eq]
    rw [hs, hl]; rfl
end Sys2Proof.Claims
end

