-- ==== Sys2Proof/Tests/Slice0.lean ====
section
/-! SUPPORT. Sys2Proof/Tests/Slice0.lean: words the checks refuse, words of the spec's encodings, one step each, and states that
meet the premises of the statements. -/

namespace Sys2Proof.Tests

open Sys2Proof.Machine Sys2Proof.Claims

/-! ## Small states -/

/-- A header with S = 0 and guard p0. -/
def h0 : Hdr := ⟨false, 0, false⟩
def g0 : Grd := ⟨0, false⟩

/-- Slot 0 as given, running, and the turn of its stream `x`. -/
def onStream (x : Nat) (sl : Slot) : State :=
  { State.reset with cur := .stream 0 x }.setSlot 0 { sl with phase := .running }

/-- Command 0 as given, started, and its turn. -/
def onCommand (j : Job) : State := { State.reset with cur := .command 0 }.setJob 0 { j with started := true }

/-- The packet of queue 0 as given, read, and its turn. -/
def onQueue (p : Packet) : State :=
  { State.reset with cur := .queue 0 }.setHqueue 0 { cur := some { p with bytes := List.replicate 256 0 } }

/-- `AtTurn` as a test. -/
def turnB (s : State) (k x : Nat) (h : Hdr) : Bool :=
  let sl := s.slot k
  s.cur == .stream k x && !s.bundle &&
    (sl.phase == .running && sl.late.all (fun t => decide (s.slotClock k ≤ t.at_)) && !sl.broke && !sl.diverting && !sl.reenter &&
      !s.haltsSlot k && !s.otherExposed k) &&
    ((!sl.exposed && sl.pend.all fun p => p.eff.isSys) ||
      (sl.exposed && decide ((sl.stream x).next ≤ sl.cycle) &&
        (List.range 4).all fun y => !decide (y < x) || !sl.live y || decide (sl.cycle < (sl.stream y).next) || (sl.stream y).presented)) &&
    sl.live x && !(sl.stream x).serviced && !sl.stalled x && !s.collarHolds k x && (!h.s || !sl.mustPresent x)

/-- `AtWord` as a test. -/
def atWordB (s : State) (k x : Nat) (i : Instr) (h : Hdr) : Bool := turnB s k x h && (s.slot k).counterBlock (usesOf i) == .go

/-- `Issues` as a test. -/
def oneB (s : State) (k x : Nat) (i : Instr) (h : Hdr) : Bool :=
  atWordB s k x i h && wordActive (usesOf i) ((s.slot k).view x) h.g h.n &&
    s.interlock k x (usesOf i) (h.s && !(s.slot k).trap.inHandler) == .go

theorem turn_of {s : State} {k x : Nat} {h : Hdr} (e : turnB s k x h = true) : AtTurn s k x h := by
  simp only [turnB, Bool.and_eq_true, beq_iff_eq, Bool.not_eq_true', List.all_eq_true, decide_eq_true_eq, Bool.or_eq_true,
    decide_eq_false_iff_not, List.mem_range] at e
  obtain ⟨⟨⟨⟨⟨⟨⟨⟨h1, h2⟩, ⟨⟨⟨⟨⟨⟨a, b⟩, c⟩, d⟩, f⟩, g⟩, i⟩⟩, m⟩, h4⟩, h5⟩, h6⟩, h7⟩, h8⟩ := e
  refine ⟨h1, h2, ⟨a, b, c, d, f, g, i⟩, m.imp (fun m => m) fun m => ⟨m.1.1, m.1.2, fun y hy hx => ?_⟩, h4, h5, h6, h7,
    fun hs => h8.resolve_left (by simp [hs])⟩
  obtain ((n | n) | n) | n := m.2 y hy
  · exact absurd hx n
  · exact .inl n
  · exact .inr (.inl n)
  · exact .inr (.inr n)

theorem atWord_of {s : State} {k x : Nat} {i : Instr} {h : Hdr} (e : atWordB s k x i h = true) : AtWord s k x i h := by
  simp only [atWordB, Bool.and_eq_true, beq_iff_eq] at e
  exact ⟨turn_of e.1, e.2⟩

theorem issues_of {s : State} {k x : Nat} {i : Instr} {h : Hdr} (e : oneB s k x i h = true) : Issues s k x i h := by
  simp only [oneB, Bool.and_eq_true, beq_iff_eq] at e
  exact ⟨atWord_of e.1.1, e.1.2, e.2⟩

/-- `IssuesExposed` as a test, and `IssuesGuarded`. -/
def exposedB (s : State) (k x : Nat) (i : Instr) (h : Hdr) : Bool := oneB s k x i h && (s.slot k).exposed
def guardedB (s : State) (k x : Nat) (i : Instr) (h : Hdr) : Bool := oneB s k x i h && !(s.slot k).exposed

theorem exposed_of {s : State} {k x : Nat} {i : Instr} {h : Hdr} (e : exposedB s k x i h = true) : IssuesExposed s k x i h := by
  simp only [exposedB, Bool.and_eq_true] at e
  exact ⟨issues_of e.1, e.2⟩

theorem guarded_of {s : State} {k x : Nat} {i : Instr} {h : Hdr} (e : guardedB s k x i h = true) : IssuesGuarded s k x i h := by
  simp only [guardedB, Bool.and_eq_true, Bool.not_eq_true'] at e
  exact ⟨issues_of e.1, e.2⟩

/-- The same state in exposed mode at slot cycle 0, every stream before `x` past it. -/
def exposedNow (s : State) (k x : Nat) : State :=
  s.setSlot k ((List.range x).foldl (fun sl y => sl.setStream y { sl.stream y with next := 1 }) { s.slot k with exposed := true })

/-- The word issues, in guarded mode as in exposed mode. -/
def issuesB (s : State) (k x : Nat) (i : Instr) (h : Hdr) : Bool := oneB s k x i h && oneB (exposedNow s k x) k x i h

/-! ## States that meet the premises: scalar words, guards, transfers and loops -/

/-- A slot with s1 = 2^63, s2 = 2^64 - 1, s3 = 1. -/
def edgeRegs : Tab Word := [(1, 0x8000000000000000), (2, 0xFFFFFFFFFFFFFFFF), (3, 1)]

/-- The words of `l` issue in slot 0, with registers at the edges of their range. -/
def allIssue (l : List Instr) : Bool := l.all fun i => issuesB (onStream 0 { regs := edgeRegs }) 0 0 i h0

theorem witness_ScalarValueWords : allIssue [.add h0 0 1 2, .addW h0 31 2 3, .sub h0 1 1 3, .subW h0 1 0 3, .addi h0 1 1 0x100,
    .lui h0 1 0x2000, .li32 h0 1 0xFFFFFFFF, .and h0 1 2 1, .or h0 1 2 1, .xor h0 1 2 1, .andi h0 1 2 0x1FF, .ori h0 1 2 0x100,
    .xori h0 1 2 0xFF, .sel h0 1 2 3 7, .mov h0 0 2, .addsh h0 1 2 3 15, .shl h0 1 2 2, .shlW h0 1 2 2, .shr h0 1 1 2,
    .shrW h0 1 2 2, .sra h0 1 1 2, .sraW h0 1 1 2, .shli h0 1 2 63, .shri h0 1 2 63, .srai h0 1 1 63, .min h0 1 1 3, .minW h0 1 1 3,
    .max h0 1 1 3, .maxW h0 1 1 3, .minn h0 1 1 3, .minnW h0 1 2 3, .maxn h0 1 1 3, .maxnW h0 1 2 3, .clz h0 1 0, .clzW h0 1 1,
    .popc h0 1 2, .popcW h0 1 2, .bfx h0 1 2 2, .bfxn h0 1 2 0, .bfi h0 1 2 3, .fshr h0 1 2 3 true 31, .mul h0 1 1 2,
    .mulW h0 1 2 2, .mulh h0 1 1 1, .mulhn h0 1 2 2, .agen2 h0 1 2 3, .nop h0, .pfd h0 31 1 0x1FF, .pfi h0 0 1 0, .hint2 h0 1 2 3 0,
    .hint3 h0 1 2 3 1, .hint4 h0 1 2 3 2, .hint5 h0 1 2 3 3, .hint6 h0 1 2 3 4, .hint7 h0 1 2 3 15] = true := by decide

theorem witness_CompareAndPredicateWords : allIssue [.cmpEq h0 0 1 1 2 2, .cmpNe h0 1 1 1 2 2, .cmpLt h0 2 1 1 2 2,
    .cmpGe h0 3 1 1 2 2, .cmpLtn h0 0 0 1 2 7, .cmpGen h0 0 1 1 2 1, .cmpTst h0 0 1 1 2 2, .cmpNtst h0 0 1 1 2 2,
    .cmpiEq h0 0 1 2 0x3F 2, .cmpiNe h0 0 1 2 0x20 2, .cmpiLt h0 0 1 1 0x20 2, .cmpiGe h0 0 1 1 0x1F 2, .cmpiLtn h0 0 1 2 0x3F 2,
    .cmpiGen h0 0 1 2 0x3F 2, .cmpiTst h0 3 7 2 0 0, .pand h0 1 2 0, .por h0 0 1 2, .pxor h0 2 2 2, .pnot h0 7 0, .pmov h0 7 6,
    .pandn h0 3 1 2] = true := by decide

/-- Both clauses of a divide, at a zero divisor and at the quotient that wraps, on a core in both modes and on an engine. -/
theorem witness_DivideWords :
    allIssue [.div h0 1 1 2, .div h0 1 1 0, .divW h0 1 1 2, .divW h0 1 1 1, .divn h0 1 2 3, .divn h0 1 2 0, .divnW h0 1 2 3,
      .divnW h0 1 2 1, .rem h0 1 1 2, .rem h0 1 1 0, .remW h0 1 1 2, .remW h0 1 1 1, .remn h0 1 2 3, .remn h0 1 2 0, .remnW h0 1 2 3,
      .remnW h0 1 2 1] = true ∧
    exposedB (onStream 0 { exposed := true, regs := edgeRegs }) 0 0 (.div h0 1 1 0) h0 = true ∧
    readScalar edgeRegs 2 = BitVec.ofInt 64 (-1) ∧ low32 (readScalar edgeRegs 1) = 0 ∧ readScalar edgeRegs 0 = 0 ∧
    ((onCommand { prog := { regs := edgeRegs } }).job 0).busy = false ∧
    (({ bytes := List.replicate 256 0, prog := { regs := edgeRegs } } : Packet)).still = false ∧
    (readBit ([] : Tab Bool) 0 != false) = true ∧ (readBit ([] : Tab Bool) 7 != false) = false ∧
    atWordB (onStream 0 {}) 0 0 (.div ⟨false, 7, false⟩ 1 2 0) ⟨false, 7, false⟩ = true ∧
    wordActive (usesOf (.div ⟨false, 7, false⟩ 1 2 0)) (({} : Slot).view 0) 7 false = false := by decide

theorem witness_ExposedResults :
    ([.add h0 1 1 2, .shl h0 1 2 2, .min h0 1 1 3, .fshr h0 1 2 3 true 31, .mul h0 1 1 2, .mulh h0 1 1 2, .bfx h0 1 2 2,
      .cmpGen h0 0 1 1 2 1, .cmpiTst h0 3 7 2 0 0, .pandn h0 3 1 2].all fun i =>
        exposedB (onStream 0 { exposed := true, cycle := 9, regs := edgeRegs }) 0 0 i h0) = true ∧
    ((onStream 0 { exposed := true, cycle := 9, pend := [{ due := 9, x := 0, eff := .scalar 31 5 }] }).slot 0).pend =
      [{ due := 9, x := 0, eff := .scalar 31 5 }] := by decide

theorem witness_HardwiredRegisters : allIssue [.sel h0 0 2 3 0, .sel h0 31 2 3 7] = true ∧
    (usesOf (.add h0 1 2 3)).always = false ∧ (usesOf (.add h0 1 2 3)).stride = 0 ∧ (31 : BitVec 5) ≠ 0 ∧
    (BitVec.allOnes 128 : Lanes).getLsbD 0 = (1 : Lanes).getLsbD 0 := by decide

theorem witness_FalseGuardedWords :
    ([.nop ⟨false, 1, false⟩, .endStream ⟨false, 1, false⟩, .br ⟨false, 1, false⟩ 0x40000, .loop ⟨false, 1, false⟩ 3 511 255,
      .add ⟨false, 1, false⟩ 1 2 3, .li32 ⟨false, 1, false⟩ 1 0, .ldD ⟨false, 1, false⟩ 1 2 0x1FF, .qrd ⟨false, 1, false⟩ 15 1 0,
      .tstep ⟨false, 1, false⟩ 1 2 false false].all fun i =>
        atWordB (onStream (if i.streamOk 0 then 0 else if i.streamOk 2 then 2 else 3) {}) 0
          (if i.streamOk 0 then 0 else if i.streamOk 2 then 2 else 3) i ⟨false, 1, false⟩ &&
        !wordActive (usesOf i) (({} : Slot).view 0) 1 false) = true := by decide

/-- A loop of counter 2 that ends at PC 7, entered at depth 0. -/
def loopTo7 : Loop := { lc := 2, count := 3, start := 5, last := 7, depth := 0, x := false, g := 0, n := false }

/-- Slot 0 with stream A at PC 7. -/
def at7 (depth : Nat) (loops : List Loop) : State :=
  onStream 0 { streams := [(0, { ctl := { pc := 7, depth := depth, loops := loops } })] }

theorem witness_TransferWords :
    ([at7 0 [], at7 0 [loopTo7], at7 4 [], at7 4 [{ loopTo7 with depth := 4 }], at7 1 []].all fun s =>
      [.br h0 0x40000, .call h0 0x3FFFF, .ret h0, .jmpr h0 0 31].all fun i => issuesB s 0 0 i h0) = true ∧
    endingHere (((at7 0 []).slot 0).stream 0).ctl = none ∧ endingHere (((at7 0 [loopTo7]).slot 0).stream 0).ctl = some 2 := by decide

theorem witness_LoopWords :
    ([at7 0 [], at7 0 [loopTo7], at7 0 [{ loopTo7 with lc := 1 }]].all fun s =>
      [.loop h0 2 511 0, .loop h0 2 511 127, .loopx h0 2 1 159].all fun i => issuesB s 0 0 i h0) = true ∧
    loopTo7.holds 7 = true ∧ loopTo7.lc = (2 : BitVec 2).toNat := by decide

theorem witness_EndOfAStream : issuesB (onStream 0 {}) 0 0 (.endStream h0) h0 = true ∧
    issuesB (onStream 3 { streams := [(0, { ended := true }), (1, { ended := true }), (2, { ended := true })] }) 0 3
      (.endStream h0) h0 = true := by decide

theorem witness_SharedWordsOnEngines : (onCommand {}).cur = .command 0 ∧ ((onCommand {}).job 0).busy = false ∧
    (onQueue {}).cur = .queue 0 ∧ ((onQueue {}).hqueue 0).cur = some { bytes := List.replicate 256 0 } ∧
    ({ bytes := List.replicate 256 0 } : Packet).still = false ∧ (readBit ([] : Tab Bool) 0 != false) = true :=
  ⟨rfl, rfl, rfl, rfl, rfl, rfl⟩
/-! ## States that meet the premises: memory, queues, vector words -/

/-- The tile scratchpad under its own alias (R40): s1 its first byte, s2 its last eight, s3 past its end, s4 one byte off. -/
def tileRegs : Tab Word := [(1, 0xFFFFFF80000000), (2, 0xFFFFFF803FFFF8), (3, 0xFFFFFF80600000), (4, 0xFFFFFF80000001)]

/-- Stream `x` of slot 0 with the addresses of `tileRegs`, and the tile's first granule marked or not. -/
def onTile (x : Nat) (bad : Bool) : State :=
  { onStream x { regs := tileRegs } with marks := if bad then [0xFFFE0000000000] else [] }

/-- What an access of `n` bytes at `va` meets in slot 0. -/
def meets (s : State) (acc : Acc) (va n : Nat) : Reach :=
  let bytes := (List.range n).map fun j => (va + j) % 2 ^ 56
  (s.touchAll 0 0 bytes).reach (s.slotWho 0) coreParts acc bytes

def okB : Reach → Bool
  | .ok _ => true
  | _ => false

def holeB : Reach → Bool
  | .hole _ => true
  | _ => false

/-- A byte at address 0 of an empty address space: its unit's own choices do not matter (R351). -/
theorem meets_unmapped : meets (onTile 0 false) .read 0 1 = .fault 0 fUnmapped := by
  show (State.touch (onTile 0 false) 0 0 0).reach _ _ _ _ = _
  unfold State.touch
  rw [if_neg (by decide)]
  generalize Config.stillCached _ = b
  cases b <;> decide

theorem witness_ScalarMemoryWords :
    ([.ldB h0 5 1 0, .ldBn h0 0 1 0x1FF, .ldH h0 5 1 0, .ldHn h0 5 1 0, .ldW h0 5 1 0, .ldWn h0 5 1 0, .ldD h0 31 2 0, .ldaD h0 5 2 0,
      .ldaD h0 5 4 0, .ldB h0 5 3 0, .ldB h0 5 0 0, .stB h0 5 1 0, .stH h0 5 1 0, .stW h0 5 1 0, .stD h0 5 2 0, .stlD h0 5 2 0,
      .stlD h0 5 4 0, .stB h0 5 0 0].all fun i => issuesB (onTile 0 false) 0 0 i h0 && issuesB (onTile 0 true) 0 0 i h0) = true ∧
    effective (onTile 0 false) 0 4 0 % 8 ≠ 0 ∧ effective (onTile 0 false) 0 2 0 % 8 = 0 ∧
    okB (meets (onTile 0 false) .read 0xFFFFFF803FFFF8 8) = true ∧ okB (meets (onTile 0 false) .write 0xFFFFFF803FFFFF 1) = true ∧
    holeB (meets (onTile 0 false) .read 0xFFFFFF803FFFFC 8) = true ∧
    meets (onTile 0 false) .read 0 1 = .fault 0 fUnmapped ∧
    (onTile 0 true).firstMarked 0 [0xFFFFFF80000000] [(0xFFFE0000000000, 1)] = some 0xFFFFFF80000000 :=
  ⟨by decide, by decide, by decide, by decide, by decide, by decide, meets_unmapped, by decide⟩

/-- An entry whose element `j` of four bytes holds `j`-th of `l`. -/
def entryOf (l : List Nat) : Entry := BitVec.ofNat 1024 (l.reverse.foldl (fun a w => a * 2 ^ 32 + w) 0)

/-- Queues 0 and 1 with two entries each: one whose element 0 is +∞ and one whose element 0 is -∞ in FP32. -/
def twoQueues : Tab (List QPlace) :=
  let p := fun n e => ({ op := n, val := some e, due := 0 } : QPlace)
  [(0, [p 1 (entryOf [0x7F800000, 1]), p 2 (entryOf [3])]), (1, [p 3 (entryOf [0xFF800000, 1]), p 4 (entryOf [5])])]

/-- Stream `x` of slot 0 with these queues, `tileRegs`, and FPCSR as given. -/
def onQueues (x : Nat) (f : Word) : State := onStream x { queues := twoQueues, regs := tileRegs, fpcsr := f }

theorem witness_DecoupledWords :
    ([.qrd h0 15 1 0, .qrdS h0 0 4 1, .qrd h0 2 3 0, .qrd h0 2 0 0, .qwr h0 false 0 1 0x100, .qwr h0 true 1 1 0, .qwrS h0 false 1 4 0,
      .qwr h0 false 0 3 0].all fun i => issuesB (onQueues 3 0) 0 3 i h0) = true ∧
    effective (onQueues 3 0) 0 4 0 % 64 ≠ 0 ∧ effective (onQueues 3 0) 0 1 ((0x100 : BitVec 9).toInt * 128) % 64 = 0 ∧
    activeLanes (onQueues 3 0) 0 ⟨false, 0, false⟩ = List.range 128 ∧ activeLanes (onQueues 3 0) 0 ⟨false, 0, true⟩ = [] ∧
    okB (meets (onQueues 3 0) .read 0xFFFFFF80000000 4) = true ∧ holeB (meets (onQueues 3 0) .read 0xFFFFFF80600000 1) = true ∧
    ((twoQueues.get [] 1).map fun p => p.val.isSome) = [true, true] := by decide

/-- An outstanding load of 8 bytes at the start of the tile scratchpad. -/
def aLoad : Op := { id := 7, cls := 0, x := 0, kind := .load 5 true 0xFFFFFF80000000 [(0xFFFE0000000000, 1)] false, due := 12,
                    vas := [0xFFFFFF80000000] }
def aStore : Op := { id := 7, cls := 1, x := 0, kind := .store 0xFFFFFF80000000 [0xAB] [(0xFFFE0000000000, 1)] false, due := 0,
                     vas := [0xFFFFFF80000000] }
def aQrd : Op := { id := 7, cls := 0, x := 3, kind := .qrd 2 1 0xFFFFFF80000000 [(0xFFFE0000000000, 1)], due := 12,
                   vas := [0xFFFFFF80000000] }

/-- A 2-byte load at an odd address, whose bytes are satisfied one by one. -/
def oddLoad : Op := { aLoad with kind := .load 5 true 0xFFFFFF80000001 [(0xFFFE0000000001, 1), (0xFFFE0000000002, 1)] false,
                                 vas := [0xFFFFFF80000001, 0xFFFFFF80000002] }

/-- A piece that `Op.piece` finds is one that the rules name. -/
theorem piece_alone (o : Op) (h : o.got = []) (h1 : o.kind.locs.length = 1) : isPiece o 0 [0] := by
  refine ⟨by omega, by rw [h]; rfl, by simp, fun j => ?_⟩
  rw [h1]
  exact ⟨fun hj => by simp only [List.mem_singleton] at hj; exact ⟨by omega, Or.inl hj.symm⟩,
    fun hj => by simp only [List.mem_singleton]; omega⟩

/-- Slot 0 with one operation, which the event at hand names. -/
def withOp (o : Op) (sl : Slot) : State := { onStream 0 { sl with ops := [o] } with inp := { unit := 0, id := 7 } }

theorem witness_MemoryOperationsEnd :
    (withOp aLoad {}).mayPerform 0 aLoad [0] = true ∧ ((withOp aLoad {}).slot 0).ops.find? (fun p => p.id == 7) = some aLoad ∧
    aLoad.remote = false ∧ ((withOp aLoad { exposed := true, cycle := 11 }).slot 0).cycle < aLoad.due ∧
    (withOp aLoad { exposed := true, cycle := 11 }).mayPerform 0 aLoad [0] = true ∧ ((withOp oddLoad {}).mayPerform 0 oddLoad [1] = true) ∧
    oddLoad.piece 1 = [1] ∧ ({ oddLoad with got := [(1, 0x80)] } : Op).piece 1 = [] ∧ aLoad.piece 0 = [0] ∧ aLoad.due ≤ 12 ∧
    (withOp aStore {}).mayPerform 0 aStore [0] = true ∧ (withOp aStore {}).cairnHolders = [] ∧
    (withOp aStore {}).cairnFault [0xFFFE0000000000] = none ∧ [(0xFFFE0000000000 : Nat)].Nodup ∧
    (withOp aStore {}).brokenAt 0xFFFE0000000000 = false ∧
    (withOp aQrd {}).mayPerform 0 aQrd [0] = true ∧ ((withOp aQrd {}).slot 0).late = [] ∧
    ({ due := 3, x := 1, cause := 10, aux := 0, at_ := 3, ctl := {}, rv := 0 } : LateTrap).due ≤ ({ cycle := 3 } : Slot).cycle ∧
    ({ aQrd with remote := true } : Op).done = false ∧ aQrd.kind ≠ .null ∧ aQrd.kind ≠ .unit := by decide

/-- The vector words of `l`, with all their sources at hand. -/
def allVector (l : List Instr) : Bool := l.all fun i => issuesB (onQueues 1 0) 0 1 i h0 && issuesB (onQueues 1 0x4000) 0 1 i h0

theorem witness_VectorPushWords : allVector [.vadd h0 2 0 1 0 false false, .vaddSat h0 2 0 0 4 false false,
    .vsub h0 2 0 1 0 true true, .vsubSat h0 2 0 1 9 false false, .vmul h0 2 0 1 2 false false, .vmulHi h0 2 0 1 4 false false,
    .vmin h0 2 0 1 0 false false, .vmax h0 2 0 1 0 false false, .vfma h0 1 0 0 0 false false, .vfms h0 1 0 0 0 true false,
    .vfnma h0 0 1 1 0 false true, .vmad h0 1 0 0 7 false false, .vabs h0 2 0 0 false, .vneg h0 2 0 4 true, .vrcp h0 2 0 0 false,
    .vrsq h0 2 0 1 false, .vpopc h0 2 0 9 false, .vmovq h0 0 0 10 false, .vsel h0 2 0 1 10 false false, .vscl h0 2 0 1 0 false false,
    .vsclS h0 2 0 0 15 false, .vredAdd h0 2 0 0 false, .vredMin h0 2 0 4 false, .vredMax h0 2 0 9 false, .vredAnd h0 2 0 4 false,
    .vredOr h0 2 0 5 false, .vredXor h0 2 0 6 false, .vpermIdx h0 2 0 1 0 false false, .vpermRot h0 2 0 1 4 false false,
    .vpermRev h0 2 0 9 false, .vpermZip h0 2 0 1 0 false false, .vpermUnzip h0 2 0 1 0 false false, .vbcast h0 2 0 1 0 false false,
    .vbcastS h0 2 15 0, .vlut h0 2 0 1 0 false false, .vand h0 2 0 1 10 false false, .vor h0 2 0 1 0 false false,
    .vxor h0 2 0 1 0 false false, .vshl h0 2 0 1 4 false false, .vshr h0 2 0 1 4 false false, .vshrA h0 2 0 1 4 false false] = true := by
  decide

/-- The sum of +∞ and -∞ raises the invalid flag, and nothing else does in its word; with FPCSR 0x4000 that flag traps. -/
theorem witness_flags : (addElem 0 0 0x7F800000 0xFF800000).2 = 0x10 ∧ (addElem 0 0 1 1).2 = 0 ∧
    (0x10 : BitVec 5) &&& (0x4000 : Word).extractLsb' 10 5 ≠ 0 := by decide

theorem witness_VectorElements : (10 : BitVec 4).toNat ≤ 10 ∧ 127 < 128 / strideOf 10 ∧ 31 < 128 / strideOf 0 ∧
    vecI 4 = true ∧ 2 ^ width 4 - 1 < 2 ^ width 4 ∧ vecI 9 = true ∧ 0 < 2 ^ width 9 := by decide

theorem witness_HeldNumbersRoundToThemselves : 0xFF7FFFFF < 2 ^ fp32.width ∧ fp32.read 0xFF7FFFFF = .num true 0xFFFFFF 104 ∧
    fp16.read 1 = .num false 1 (-24) ∧ bf16.read 0 = .num false 0 (-133) := by decide

theorem witness_VectorCompareWords : allVector [.vcmpEq h0 0 0 0 1 0 false false, .vcmpNe h0 1 1 0 0 4 false false,
    .vcmpLt h0 2 2 0 1 9 true false, .vcmpLe h0 3 3 0 1 0 false true, .vcmpGt h0 0 0 0 1 0 false false,
    .vcmpGe h0 0 0 0 1 0 false false, .vcmpUn h0 0 0 0 1 0 false false, .vcmpOrd h0 0 0 0 1 2 false false] = true ∧
    (VCc.lt.holds 0 0x7FC00000 0).2 = 0x10 := by decide

theorem witness_ConversionWord : allVector [.vcvt h0 2 0 0 3 false 15, .vcvt h0 2 0 0 4 false 0, .vcvt h0 2 0 4 0 true 0] = true ∧
    fmtOk 0 = false ∧ fmtOk 0x43 = true ∧ (convElem 0 (NFmt.of 0) 0 4 0x7FC00000).2 = 0x10 := by decide
/-! ## States that meet the premises: system words -/

theorem witness_SystemRegisterWords :
    ([.getx h0 0 0, .getx h0 31 0x7F, .getx h0 1 0x22].all fun i => issuesB (onStream 0 {}) 0 0 i h0) = true ∧
    sysReadable 0x7F = true ∧ sysReadable 0x22 = true ∧ sysWritable 0x1F = true ∧ sysWritable 1 = true ∧ sysWritable 0x40 = true ∧
    ([.setx h0 0 1, .setx h0 1 0x10, .setx h0 2 0x1F, .setx h0 3 0x7F, .setx h0 2 0x40].all fun i =>
      issuesB (onStream 0 { regs := [(1, 0x43), (2, 0xFFFFFFFFFFFFFFFF), (3, 0x80000000)] }) 0 0 i h0) = true := by decide

theorem refused_all_ones (r : Nat) : valueRefused r 0xFFFFFFFFFFFFFFFF := by
  unfold valueRefused
  split
  · exact Or.inl (by decide)
  · split
    · exact Or.inl (by decide)
    · exact Or.inl (by decide)

theorem accepted_values : ¬ valueRefused 1 0 ∧ ¬ valueRefused 0x10 0x43 ∧ ¬ valueRefused 0x7F 0x80000000 := by
  simp [valueRefused]

/-- An operation that a fence awaits: a store of the own tile that is not performed. -/
def ownStore : Op := { id := 3, cls := 1, x := 0, kind := .store 0xFFFFFF80000000 [1] [(0xFFFE0000000000, 1)] false, due := 0 }

/-- A group of launch 0 of tiles 0 and 1, in phase 2. -/
def aGroup : Group := { launch := 0, members := [0, 1], count := 1, phase := 2 }

/-- Stream M of slot 0 in group 255's launch, having arrived in phase `n` or not. -/
def atBarrier (n : Option Nat) (ops : List Op) : State :=
  { onStream 3 { ops := ops, task := { groups := [0, 255] }, streams := [(3, { arrived := n.map fun m => (0, 255, m) })] } with groups := [(255, aGroup)] }

theorem witness_WaitingWords :
    ([.fenceAcq h0 0, .fenceRel h0 6, .fenceSc h0 2, .waitc h0 15 0 15 15 6, .waitc h0 15 1 15 15 0].all fun i =>
      issuesB (onStream 3 { ops := [ownStore] }) 0 3 i h0 && issuesB (onStream 3 { copyStatus := some (1, 5) }) 0 3 i h0) = true ∧
    ownStore.awaited 0 2 6 = true ∧ ownStore.awaited 0 1 6 = true ∧ countOf { ops := [ownStore] } 1 = 1 ∧ countOf {} 0 = 0 ∧
    ([.gbar h0 255, .gbarArr h0 255, .gbar h0 0].all fun i =>
      issuesB (atBarrier none []) 0 3 i h0 && issuesB (atBarrier (some 1) []) 0 3 i h0 && issuesB (atBarrier (some 2) []) 0 3 i h0 &&
        issuesB (atBarrier none [ownStore]) 0 3 i h0) = true ∧
    Claims.groupOf (atBarrier none []) 0 255 = some aGroup ∧ Claims.groupOf (atBarrier none []) 0 0 = none ∧
    (((atBarrier (some 2) []).slot 0).stream 3).arrived = some (0, 255, 2) ∧ aGroup.phase ≤ 2 ∧ 1 < aGroup.phase := by decide

theorem witness_free_fence : fenceFree (onStream 3 {}) 0 2 6 ∧ fenceFree (onStream 3 { ops := [ownStore] }) 0 0 6 ∧
    ¬ fenceFree (onStream 3 { ops := [ownStore] }) 0 2 6 ∧
    ¬ fenceFree { onStream 3 {} with jobs := [(1, { mac := some .cpacc })], nextId := 2 } 0 2 6 :=
  ⟨⟨by decide, Or.inr (by decide), by decide⟩, ⟨by decide, Or.inl rfl, by decide⟩, fun h => absurd (h.1 ownStore (by decide)) (by decide),
    fun h => (h.2.1.resolve_left (by decide) (1, { mac := some .cpacc }) (by decide) (by decide) (by decide) (by decide)).1 rfl⟩

/-- The header of a MODE word. -/
def hs : Hdr := ⟨true, 0, false⟩

/-- Stream A of slot 0 alone. -/
def alone (sl : Slot) : State :=
  onStream 0 { sl with streams := [(0, { rvCount := 3 }), (1, { ended := true }), (2, { ended := true }), (3, { ended := true })] }

theorem witness_ModeWords :
    ([.modeGuarded g0, .modeExposed g0].all fun i => issuesB (alone {}) 0 0 i hs && issuesB (alone { ops := [ownStore] }) 0 0 i hs) = true ∧
    ((alone {}).slot 0).ops = [] ∧ ((alone { ops := [ownStore] }).slot 0).ops ≠ [] := by decide

theorem witness_TrapEntry : (3 < 4) ∧ (28 < 256) ∧ ({} : Slot).trap.inHandler = false ∧
    ({ task := { trapEntry := [(3, 0x100)] } } : Slot).task.trapEntry.find? 3 = some 0x100 ∧
    ({} : Slot).task.trapEntry.find? 0 = none ∧ ({ trap := { inHandler := true } } : Slot).trap.inHandler = true := by decide

/-- Stream A of slot 0 in a handler. -/
def inHandler (x : Bool) (cause : BitVec 8) (ops : List Op) : State :=
  onStream 0 { trap := { inHandler := true, cause := cause, xsave := x, pc := 32767 }, ops := ops }

theorem witness_TrapAndEndWords :
    ([.trap h0 0x3FFF, .bkpt h0 0, .haltx h0 31, .lfdone h0 0].all fun i => issuesB (onStream 0 {}) 0 0 i h0 &&
      issuesB (onStream 0 { debug := true, lfrun := true }) 0 0 i h0) = true ∧
    ([.eret h0 true, .eret h0 false].all fun i => issuesB (onStream 0 {}) 0 0 i h0 && issuesB (inHandler true 4 [ownStore]) 0 0 i h0 &&
      issuesB (inHandler true 26 []) 0 0 i h0 && issuesB (inHandler false 4 [ownStore]) 0 0 i h0) = true ∧
    ((inHandler true 26 []).slot 0).collarTraps = [] := by decide

theorem witness_ResponseWords :
    ([[], [⟨4, none⟩], [⟨4, some (0, 9, 0)⟩, ⟨5, none⟩], [⟨4, some (7, 9, 0xFFFFFFFFFFFFFF)⟩]].all fun r =>
      [.resp h0 31, .respPk h0 0].all fun i => issuesB (onStream 3 { resp := r }) 0 3 i h0) = true := by decide

theorem witness_CairnWords :
    ([[], [(0, { base := 0, len := 256 }), (1, { base := 0, len := 256 }), (2, { base := 0, len := 256 }), (3, { base := 0, len := 256 })]].all
      fun cs => [.cairnSet h0 0 1 2, .cairnSet h0 31 2 2, .cairnSet h0 1 1 3, .cairnSet h0 1 4 2, .cairnDrop h0 5].all fun i =>
        issuesB (onStream 3 { cairns := cs, regs := [(1, 0xFFFFFF63FFFF00), (2, 256), (3, 255), (4, 0xFFFFFF80000000), (5, 3)] })
          0 3 i h0) = true ∧
    cairnWindow 0 0xFFFFFF63FFFF00 256 = true ∧ cairnWindow 0 0xFFFFFF80000000 256 = false ∧ 256 + 256 ≤ 0xFF000000000000 := by decide
/-! ## States that meet the premises: the tile table, commands, the array -/

/-- A whole entry of slot 0: 4 rows of 16 FP32 elements from the scratchpad's first byte. -/
def anEntry : TileEntry := { cols := 16, rows := 4, type := 16, state := 2, pitch := 1 }

/-- A step that reads entry `h`. -/
def aStep (h : Nat) : Step :=
  { id := 9, k := 0, owner := 77, seq := 3, ta := h, cnt := 0, bh := 62, oh := none, aty := 19, bty := 19, accbase := 0, acclen := 4,
    moff := 0, sp := false, acc := false, fmt := [], aEnts := [anEntry], bEnt := anEntry, ohEnt := none }

/-- Registers of tile words: a shape of 4 by 16, none, 64-byte aligned addresses and pitches and others, small numbers. -/
def entryRegs : Tab Word :=
  [(1, 0x0010000400000000), (2, 0), (3, 0xFFFFFF80000040), (4, 128), (5, 0xFFFFFF80000041), (6, 4), (7, 3), (8, 0x0010000400000001)]

/-- Slot 0 on a tile whose entry 63 is `e`, its steps `ps`, and its slot `sl`. -/
def withTileEntry (e : TileEntry) (ps : List Step) (sl : Slot) : State :=
  (onStream 3 { sl with regs := entryRegs }).setTile 0 { table := [(63, e)], steps := ps }

/-- The entry's cases: empty, another slot's, held by a step, filling, draining, the slot's own, and with FAULT. -/
def entryCases : List State :=
  [withTileEntry {} [] {}, withTileEntry { anEntry with owner := 7 } [] {}, withTileEntry anEntry [aStep 63] {},
   withTileEntry { anEntry with state := 1 } [] {}, withTileEntry { anEntry with state := 3 } [] {}, withTileEntry anEntry [] {},
   withTileEntry { anEntry with fault := true } [] {}]

theorem witness_TileTableWords :
    (entryCases.all fun s => [.tdef h0 63 1 0 16 1, .tdef h0 63 2 0 16 1, .tdef h0 63 8 0 16 1, .tfree h0 63, .tqryW0 h0 63 31,
      .tqryW1 h0 63 0].all fun i => issuesB s 0 3 i h0) = true ∧
    (entryCases.map fun s => (Claims.entryOf s 0 63).state) = [0, 2, 2, 1, 3, 2, 2] ∧
    (entryCases.map fun s => (Claims.entryOf s 0 63).owner) = [0, 7, 0, 0, 0, 0, 0] ∧
    (entryCases.map fun s => s.heldByStep 0 63) = [false, false, true, false, false, false, false] ∧
    Owns (withTileEntry anEntry [] {}) 0 63 ∧
    ¬ entryRefused (withTileEntry {} [] {}) 0 0x0010000400000000 (described [] 0 0x0010000400000000 16 0 1) ∧
    entryRefused (withTileEntry {} [] {}) 0 0x0010000400000001 (described [] 0 0x0010000400000001 16 0 1) ∧
    entryRefused (withTileEntry {} [] {}) 0 0 (described [] 0 0 16 0 1) :=
  ⟨by decide, by decide, by decide, by decide, by unfold Owns; decide, by unfold entryRefused; decide, by unfold entryRefused; decide,
    by unfold entryRefused; decide⟩

/-- A job that waits in queue `q` of engine 0. -/
def waitingJob (q : Nat) : Job := { engine := 0, queue := q, mac := some .cpacc }

/-- `s` with 32 commands in each queue of engine 0, and with 16 responses outstanding. -/
def fullQueues (s : State) : State :=
  { s with jobs := (List.range 64).map fun n => (n + 1, waitingJob (n % 2)) }
def fullResponses (s : State) : State :=
  s.setSlot 0 { s.slot 0 with resp := (List.range 16).map fun n => ⟨n, none⟩ }

theorem witness_full : 32 ≤ (fullQueues (onStream 3 {})).queued 0 0 ∧ 32 ≤ (fullQueues (onStream 3 {})).queued 0 1 ∧
    16 ≤ ((fullResponses (onStream 3 {})).slot 0).resp.length ∧ (onStream 3 {}).queued 0 0 = 0 ∧
    (([.cpl h0 63 3 false 0, .cps h0 63 3 true 1, .tmov h0 63 3 0 16, .cpacc h0 3 3 2 0, .signal h0 3 1, .spawn h0 4 4].all
      fun i => issuesB (fullQueues (withTileEntry anEntry [] {})) 0 3 i h0) = true) ∧
    (([.cpaccr h0 6 1 0, .cpcasW h0 6 1 2, .cpcasD h0 4 1 2].all
      fun i => issuesB (fullResponses (withTileEntry anEntry [] {})) 0 3 i h0) = true) := by decide

theorem witness_TileCopyWords :
    (entryCases.all fun s => [.cpl h0 63 3 false 0, .cpl h0 63 3 false 1, .cpl h0 63 5 true 3, .cpl h0 63 4 false 0,
      .cps h0 63 3 false 0, .cps h0 63 1 true 2, .tmov h0 63 3 0 17, .tmov h0 63 3 0 19, .tmovK h0 63 5 0 16].all fun i =>
        issuesB s 0 3 i h0) = true ∧
    PairFits (readScalar entryRegs 3) (readScalar entryRegs 4) ∧ (readScalar entryRegs 5).toNat % 64 ≠ 0 ∧
    ((readScalar entryRegs 4).toNat % 64 = 0 ∧ (readScalar entryRegs 5).toNat % 64 ≠ 0) ∧
    anEntry.base + unitsOf 0 0 anEntry.rows anEntry.cols * anEntry.pitch ≤ 65536 ∧
    ¬ ({ anEntry with base := 65533 }.base + unitsOf 0 0 anEntry.rows anEntry.cols * anEntry.pitch ≤ 65536) :=
  ⟨by decide, by unfold PairFits; decide, by decide, by decide, by decide, by decide⟩

theorem witness_TileCommandWords :
    (entryCases.all fun s => [.cpmeta h0 63 3 0, .cpmeta h0 63 5 0, .cpmeta h0 63 3 255, .cpmc h0 63 3 255, .cpmc h0 63 5 0,
      .cpmc h0 63 4 0].all fun i => issuesB s 0 3 i h0) = true ∧
    262144 < 256 * 1024 + (4 * 16 + 511) / 512 * 64 ∧ 255 * 1024 + (4 * 16 + 511) / 512 * 64 ≤ 262144 ∧
    ([.cpacc h0 3 3 4 0, .cpacc h0 5 3 4 0, .cpacc h0 3 5 4 0, .cpacc h0 3 3 7 12, .cpacc h0 3 3 1 3, .cpacc h0 3 3 0 3,
      .cpaccr h0 6 1 3, .cpaccr h0 7 1 0, .cpcasW h0 6 1 2, .cpcasW h0 7 1 2, .cpcasD h0 4 1 2, .cpcasD h0 6 1 2, .signal h0 4 1,
      .signal h0 6 1, .signalW h0 6 1, .signalW h0 7 1, .spawn h0 4 4, .spawn h0 3 4, .spawn h0 4 3, .cairnRoll h0 6, .cairnRoll h0 7,
      .cairnRoll h0 0].all fun i => issuesB (onStream 3 { regs := entryRegs, cairns := [(4, { base := 0, len := 256 }),
        (3, { base := 0, len := 256, lost := true })] }) 0 3 i h0) = true ∧
    (readScalar entryRegs 1).toNat % 4 = 0 ∧ 2 ^ 24 < (readScalar entryRegs 1).toNat ∧ elementBytes 3 = 2 ∧ elementBytes 12 = 4 := by
  decide

/-- The word of a step with B in 62, output in 61, INT8 operands, 4 accumulator rows from 0; and the same with a reserved bit. -/
def stepWord : Word := BitVec.ofNat 64 (62 * 2 ^ 58 + 61 * 2 ^ 52 + 19 * 2 ^ 47 + 19 * 2 ^ 42 + 4 * 2 ^ 15)

/-- A tile ready for that step: A of 4 by 2 in entry 5, B of 2 by 16, output of 4 by 16 FP32. -/
def readyTile : Tile :=
  { table := [(5, { anEntry with cols := 2, type := 19 }), (61, anEntry), (62, { anEntry with rows := 2, type := 19 })],
    segs := [(0, { active := { valid := true, inType := 19, outType := 19 } }),
             (1, { active := { valid := true, inType := 19, outType := 19 } }),
             (2, { active := { valid := true, inType := 16, outType := 16, soundRec := 64 } })] }

def onReady (w : Word) (ti : Tile) : State := (onStream 1 { regs := [(1, w), (2, w)] }).setTile 0 ti

/-- The checks of a step, in their order, and whether it waits. -/
def stepChecks (s : State) : List Bool × Bool :=
  let w := readScalar (s.slot 0).regs 1
  let ti := s.tile 0
  let d := stepFields w
  let a := Claims.entryOf s 0 5
  let b := Claims.entryOf s 0 d.bh
  let o := Claims.entryOf s 0 d.oh
  ([ti.ashare.toNat % 4 == 2, d.formed 5 false true ti.fmt == false, a.state == 0 || b.state == 0 || o.state == 0, o.owner != 0,
    d.fits 5 false true ti.fmt [a] b o == false, (ti.planBit d true [a] b o).isSome, a.fault || b.fault],
   a.moving || b.moving || o.moving || decide (2 ≤ ti.steps.length))

/-- A state for each check that fails first, one that waits, and one that arms. -/
theorem witness_StepAndScaleWords_step :
    ([onReady stepWord { readyTile with ashare := 2 }, onReady (stepWord + 1) readyTile,
      onReady stepWord { readyTile with table := readyTile.table.set 62 {} },
      onReady stepWord { readyTile with table := readyTile.table.set 61 { anEntry with owner := 1 } },
      onReady stepWord { readyTile with table := readyTile.table.set 61 { anEntry with rows := 5 } },
      onReady stepWord { readyTile with segs := [] },
      onReady stepWord { readyTile with table := readyTile.table.set 5 { anEntry with cols := 2, type := 19, fault := true } },
      onReady stepWord { readyTile with steps := [aStep 8, aStep 9] }, onReady stepWord readyTile].map fun s =>
        ((stepChecks s).1.findIdx id, (stepChecks s).2)) =
      [(0, false), (1, false), (2, false), (3, false), (4, false), (5, false), (6, false), (7, true), (7, false)] ∧
    ([.tstep h0 5 1 true false, .tstep h0 5 1 true true, .tstep h0 5 1 false false, .tstepSp h0 5 1 true false].all fun i =>
      issuesB (onReady stepWord readyTile) 0 1 i h0 && issuesB (onReady stepWord { readyTile with steps := [aStep 8, aStep 9] }) 0 1 i h0)
      = true := by decide

/-- A scale word: 4 rows of 16 columns; its entry's cases, each check failing first, waiting, and whole. -/
def scaleWord : Word := BitVec.ofNat 64 (4 * 2 ^ 30 + 16 * 2 ^ 22)
theorem witness_StepAndScaleWords_scale :
    ([(scaleWord + 1, anEntry), (scaleWord, {}), (scaleWord, { anEntry with type := 17 }), (scaleWord, { anEntry with fault := true }),
      (scaleWord, { anEntry with state := 1 }), (scaleWord, anEntry)].map fun p =>
        let d := scaleFields p.1
        ([d.formed 0 == false, p.2.state == 0, d.fits 0 [] p.2 == false, p.2.fault].findIdx id, p.2.moving)) =
      [(0, false), (1, false), (2, false), (3, false), (4, true), (4, false)] ∧
    ([.scaccRow h0 63 2 true, .scaccCol h0 63 2 false, .scaccBlk h0 63 2 true].all fun i =>
      issuesB (onReady scaleWord { table := [(63, anEntry)] }) 0 1 i h0) = true := by decide


/-- Segments 0 and 3 as given. -/
def withSegs (g : Seg) : State := (onStream 2 {}).setTile 0 { segs := [(0, g), (3, g)] }

theorem witness_PlaneWords :
    ([withSegs {}, withSegs { swaps := [⟨0, 3, false⟩] }, withSegs { swaps := [⟨0, 3, true⟩, ⟨1, 4, true⟩] }, withSegs { loads := [(3, 0, 16)] },
      withSegs { loads := [(3, 0, 16), (4, 1, 32)] }, withSegs { shadow := { valid := true } }, withSegs { mode := 1 },
      withSegs { drains := [⟨false, 3⟩, ⟨true, 4⟩] }].all fun s =>
      [.tcfg h0 9 0, .tcfg h0 15 15, .tswap h0 9, .tswap h0 1, .tdrain h0 false 9, .tdrain h0 true 8].all fun i => issuesB s 0 2 i h0)
      = true ∧
    (∀ g < 4, names 9 g ↔ g = 0 ∨ g = 3) ∧ crowded (withSegs { swaps := [⟨0, 3, false⟩, ⟨1, 4, false⟩] }) 0 9 ∧ ¬ crowded (withSegs {}) 0 9 ∧
    ((withSegs {}).tile 0).segs.get {} 3 = {} :=
  ⟨by decide, by unfold names; decide, ⟨3, by decide, by unfold names; decide, by decide⟩,
    by rintro ⟨g, hg, -, h⟩; revert h; revert g; decide, by decide⟩

/-- West segment of tile 0 with a trapped site of sequence 3, and the step of that sequence. -/
def trappedSeg (v : Word) : State :=
  (onStream 3 { regs := [(1, v), (2, 5)], task := { loc := 77 } }).setTile 0
    { segs := [(0, { trapped := some { site := 0, seq := 3 } })], steps := [aStep 5] }

theorem witness_CollarWords_resume :
    ([0, 3, 4, 0xFFFFFFFFFFFFFFFF].all fun v => [.tresumeRepl h0 1 2, .tresumeDisc h0 1, .tresumeAbort h0 1].all fun i =>
      issuesB (trappedSeg v) 0 3 i h0) = true ∧
    (∃ h p, (segOf (trappedSeg 0) 0 0).trapped = some h ∧ ((trappedSeg 0).tile 0).stepOf h.seq = some p ∧
      p.owner = ((trappedSeg 0).slot 0).task.loc) ∧
    ¬ (∃ h p, (segOf (trappedSeg 0) 0 3).trapped = some h ∧ ((trappedSeg 0).tile 0).stepOf h.seq = some p ∧
      p.owner = ((trappedSeg 0).slot 0).task.loc) :=
  ⟨by decide, ⟨{ site := 0, seq := 3 }, aStep 5, by decide, by decide, by decide⟩, by rintro ⟨h, p, e, -⟩; revert e; exact nofun⟩

/-- A tile with a codebook unit at site 24, a row of 16 FP32 in entry 63, and south sounding. -/
def bookTile (e : TileEntry) (n : Nat) : State :=
  (onStream 2 { regs := [(1, 1), (2, 65535), (3, 65536), (4, 0)] }).setTile 0
    { table := [(63, e)], codebooks := [(24, List.replicate n { vals := [0], type := 16, blocks := 1 })],
      segs := [(1, { active := { valid := true, sites := [(24, { kind := 2 })] } }), (2, { active := { valid := true, soundRec := 64 } })] }

theorem witness_CollarWords_codebook :
    ([bookTile { anEntry with rows := 1 } 0, bookTile { anEntry with rows := 1 } 4, bookTile {} 0, bookTile anEntry 0,
      bookTile { anEntry with rows := 1, fault := true } 0, bookTile { anEntry with rows := 1, state := 1 } 0, onStream 2 {}].all fun s =>
      [.tcbk h0 63 1 0, .tcbk h0 63 2 7, .tcbk h0 63 3 0, .tcbk h0 63 4 0, .tsoundOn h0, .tsoundOff h0, .tsoundNow h0].all fun i =>
        issuesB s 0 2 i h0) = true ∧
    (segOf (bookTile anEntry 0) 0 1).active.valid = true ∧ ((segOf (bookTile anEntry 0) 0 1).active.site 24).kind = 2 ∧
    ((segOf (bookTile anEntry 0) 0 1).active.site 31).kind ≠ 2 ∧ (segOf (onStream 2 {}) 0 2).active.valid = false ∧
    (bookTile anEntry 0).slotStored 0 (bookTile anEntry 0).nextId = true ∧
    (segOf (bookTile anEntry 0) 0 2).active.valid = true := by decide

/-! ## States that meet the premises: channels, command programs, queue programs -/

/-- The writer's handle, a valid one of slot 0's channel 2, and the reader's. -/
def writerHandle : BitVec 32 := 0x80000002#32
def readerHandle : BitVec 32 := 0xC0000002#32

/-- An open channel of slot 0 with elements of 8 bytes and a ring of two places. -/
def aChan : Chan := { isOpen := true, rplaces := 2, wmark := 1, wend := 0x80000000#32, rend := 0x80000000#32, seglist := 0xFFFFFF80000000 }

/-- Slot 0 with channel 2 as given; entry 0 of the slot's channel table is the writer's handle, 1 the reader's, 2 none. -/
def withChan (ch : Chan) (ops : List Op) : State :=
  { onStream 3 { queues := twoQueues, chans := [(0, writerHandle), (1, readerHandle)], ops := ops } with chans := [(2, ch)] }

/-- Channels whose ring has a place; whose ring is full, with no sump, and with a segment that is not mapped; which is frozen; of
128 bytes; and closed. -/
def chanCases : List State :=
  [withChan aChan [], withChan { aChan with rcnt := 2 } [], withChan { aChan with rcnt := 2, maxseg := 1, segs := [0] } [],
   withChan { aChan with frozen := true } [], withChan { aChan with big := true } [], withChan { aChan with isOpen := false } [],
   withChan { aChan with rcnt := 1, scnt := 3 } [], withChan aChan [ownStore]]

theorem witness_ChannelWords :
    (chanCases.all fun s => [.chpush h0 0 31 false false, .chpush h0 0 0 false true, .chpush h0 1 1 true false, .chpop h0 1 31 false,
      .chpop h0 1 1 true, .chpopPk h0 1 0 false, .chpop h0 0 1 false, .chqry h0 0 31, .chqry h0 1 0, .chqry h0 2 1].all fun i =>
        issuesB s 0 3 i h0) = true ∧
    mayUse (withChan aChan []) 0 writerHandle.toNat ∧ mayUse (withChan aChan []) 0 readerHandle.toNat ∧
    ¬ mayUse (withChan aChan []) 0 0 ∧ channelOf writerHandle.toNat = 2 ∧
    (chanCases.map fun s => decide ((s.chan 2).rcnt < (s.chan 2).rplaces)) = [true, false, false, true, true, true, true, true] ∧
    (∃ j < 8 / 8, (onTile 0 true).marked (0xFFFE0000000000 + 8 * j) = true) :=
  ⟨by decide, by unfold mayUse; decide, by unfold mayUse; decide, by unfold mayUse; decide, by decide, by decide, by decide⟩

theorem witness_fence_of_a_push : fenceFree (withChan aChan []) 0 1 5 ∧ ¬ fenceFree (withChan aChan [ownStore]) 0 1 5 :=
  ⟨⟨by decide, Or.inr (by decide), by decide⟩, fun h => absurd (h.1 ownStore (by decide)) (by decide)⟩

/-- A guard that is false at reset. -/
def never : Grd := ⟨1, false⟩

theorem witness_CopyProgramWords :
    (onCommand {}).cur = .command 0 ∧ ((onCommand {}).job 0).busy = false ∧ (readBit ((onCommand {}).job 0).prog.preds g0.g != g0.n) = true ∧
    (readBit ((onCommand {}).job 0).prog.preds never.g != never.n) = false ∧
    2 ^ 32 ≤ (0x100000000 : Word).toNat ∧ (7 : Word).toNat % 2 ^ 2 ≠ 0 ∧ 2 ^ 24 < (0x1000001 : Word).toNat % 2 ^ 32 ∧
    castFits 0 0 64 ∧ ¬ castFits 0 0 0x1000040 ∧ ¬ castFits 32 0 64 ∧ membersOf (atBarrier none []) 255 = [0, 1] ∧
    membersOf (atBarrier none []) 0 = [] ∧ ringSize 16 ∧ ringSize 65536 ∧ ¬ ringSize 17 ∧ ¬ ringSize 131071 := by decide

/-- Queue 0 at the packet as given. -/
def atPacket (p : Packet) : State := onQueue p
def aPacket (p : Packet) : Packet := { p with bytes := List.replicate 256 0 }

theorem at_front (p : Packet) (h : (aPacket p).still = false) : AtFront (atPacket p) 0 (aPacket p) := ⟨rfl, rfl, h⟩

/-- A misaligned address, the tile scratchpad, and an address of no page. -/
def frontRegs : Tab Word := [(1, 0xFFFFFF80000001), (2, 0xFFFFFF80000000), (3, 0x1FFFFFFFF), (4, 31), (5, 0xFFFFFFFF), (6, 32)]

theorem witness_QueueProgramWords :
    AtFront (atPacket {}) 0 (aPacket {}) ∧ AtFront (atPacket { prog := { regs := frontRegs } }) 0 (aPacket { prog := { regs := frontRegs } }) ∧
    AtFront (atPacket { comp := some (some 0, 0, 0) }) 0 (aPacket { comp := some (some 0, 0, 0) }) ∧
    active (aPacket {}) 0 false ∧ ¬ active (aPacket {}) 7 false ∧
    (63 < 64 ∧ 31 < 32) ∧ 2 ^ 32 ≤ (readScalar frontRegs 3).toNat ∧ (readScalar frontRegs 5).toNat < 2 ^ 32 ∧
    ((List.range 32).filter fun j => (readScalar frontRegs 5).toNat / 2 ^ j % 2 = 1).length = 32 ∧
    32 < (readScalar frontRegs 4).toNat + 32 ∧ va56 (readScalar frontRegs 1) % 8 ≠ 0 ∧ va56 (readScalar frontRegs 2) % 8 = 0 :=
  ⟨at_front _ rfl, at_front _ rfl, at_front _ rfl, by unfold active; decide, by unfold active; decide, by decide, by decide, by decide,
    by decide, by decide, by decide, by decide⟩

/-- What queue 0 meets when it reads `n` bytes at `va`: 0 it reads them, 1 it stops, 2 it faults. -/
def frontReads (s : State) (va n : Nat) : Nat :=
  match (s.feTouch 0 va n).feRead 0 va n with
  | .ok _ => 0
  | .stop _ => 1
  | .fault _ _ _ => 2
  | .hold => 3

/-- A byte at address 0 of an empty address space: its unit's own choices do not matter (R351). -/
theorem front_unmapped : frontReads (atPacket {}) 0 1 = 2 := by
  show (match (({ State.touch (atPacket {}) 0 0 0 with fresh := (atPacket {}).fresh + 2 } : State)).feRead 0 0 1 with
    | .ok _ => 0
    | .stop _ => 1
    | .fault _ _ _ => 2
    | .hold => 3) = 2
  unfold State.touch
  rw [if_neg (by decide)]
  generalize Config.stillCached _ = b
  cases b <;> decide

/-- A store of slot 0 has crossed the boundary of the scope that holds the slot and the front end, which stays behind it (R333). -/
def behindStore (s : State) : State :=
  { s.setSlot 0 { ops := [ownStore] } with crossings := [{ op := 3, place := 0, scope := 5, stamp := 0 }] }

theorem witness_hold : frontReads (behindStore (atPacket {})) 0xFFFE0000000000 8 = 3 := by decide

theorem witness_QueueProgramWords_signal :
    frontReads (atPacket {}) 0xFFFE0000000000 8 = 0 ∧ frontReads (atPacket {}) 0xFF000000000000 8 = 1 ∧
    frontReads (atPacket {}) 0 1 = 2 ∧ (BitVec.ofNat 64 (2 ^ 64 - 2 ^ 30)).toInt ≤ -2 ^ 30 ∧ -2 ^ 30 < (BitVec.ofNat 64 (2 ^ 64 - 2 ^ 30 + 1)).toInt :=
  ⟨by decide, by decide, front_unmapped, by decide, by decide⟩

/-- Memory of tile 0: at byte 64 a delta of one patch of 4 bytes, from the scratchpad's first byte. -/
def deltaMem : Memory := [(0xFFFE0000000040, 1), (0xFFFE0000000068, 4), (0xFFFE0000000075, 0xFE), (0xFFFE0000000076, 0xFF)]

def plans (s : State) (va : Nat) : Nat :=
  match s.planLaunch 0 va with
  | .ok _ => 0
  | .stop _ => 1
  | .fault _ _ _ => 2
  | .hold => 3
def deltas (s : State) (va : Nat) : Nat :=
  match s.planDelta 0 va with
  | .ok _ => 0
  | .stop _ => 1
  | .fault _ _ _ => 2
  | .hold => 3

/-- The packet of a queue program that opens a launch: without one, with one, and in each of EMLAUNCH.CFG's waits. -/
theorem witness_LaunchWords :
    AtFront (atPacket {}) 0 (aPacket {}) ∧ AtFront (atPacket { launch := some 1 }) 0 (aPacket { launch := some 1 }) ∧
    AtFront (atPacket { wait := some .groups }) 0 (aPacket { wait := some .groups }) ∧
    AtFront (atPacket { wait := some (.delta [] 0 [] none) }) 0 (aPacket { wait := some (.delta [] 0 [] none) }) ∧
    AtFront (atPacket { wait := some (.delta [] 0 [3] none) }) 0 (aPacket { wait := some (.delta [] 0 [3] none) }) ∧
    (State.reset.deltaTurn [] 0 [] none).2 = none ∧ ((State.reset.deltaTurn [] 0 [3] none).2).isSome = true ∧
    plans ((atPacket {}).touchLaunch 0 0xFFFE0000000000) 0xFFFE0000000000 = 0 ∧
    plans ((atPacket {}).touchLaunch 0 0xFFFE0000000001) 0xFFFE0000000001 = 1 ∧
    deltas { atPacket {} with mem := deltaMem } 0xFFFE0000000040 = 0 ∧ deltas { atPacket {} with mem := deltaMem } 0xFFFE0000000000 = 1 ∧
    plans { atPacket {} with mem := deltaMem } 0xFFFE0000000000 = 0 ∧
    plans ((behindStore (atPacket {})).touchLaunch 0 0xFFFE0000000000) 0xFFFE0000000000 = 3 ∧
    (4097 > 4096) ∧ ({ atPacket { launch := some 1 } with launches := [(1, { ranges := [(0, 0, 1)] })] }.launch 1).ranges.length < 4096 :=
  ⟨at_front _ rfl, at_front _ rfl, at_front _ rfl, at_front _ rfl, at_front _ rfl, by decide, by decide, by decide, by decide, by decide, by decide,
    by decide, by decide, by decide, by decide⟩

set_option maxRecDepth 20000 in
/-- EMTASK's two reaches, at an image and records in tile 0's scratchpad. -/
theorem witness_LaunchWords_records :
    let u := ((atPacket { launch := some 1 }).feTouch 0 0xFFFE0000000000 128).feTouch 0 0xFFFE0000000080 256
    (match u.feRead 0 0xFFFE0000000000 128, u.feReach 0 .write 0xFFFE0000000080 256 with
      | .ok img, .ok locs => img.length == 128 && locs.length == 256 && locs.all (fun x => !isRemote x) && (u.cairnFault locs).isNone
      | _, _ => false) = true := by decide
/-! ## States that meet the premises: waits, events of slots, tasks -/

/-- Memory that holds words from `a` on. -/
def codeAt (a : Nat) (ws : List Nat) : Memory :=
  (run a (ws.flatMap (leBytes 4))).filter fun c => c.2 != 0

/-- Slot 0's streams at the words of tile 0, core 0; the event at hand is of slot 0, stream `x`. -/
def eventAt (x : Nat) (ws : List Nat) (sl : Slot) : State :=
  { State.reset with mem := codeAt 0xFFFE0000800000 ws, inp := { unit := 0, x := x } }.setSlot 0 { sl with phase := .running }

/-- Stream 3 of slot 0 in a wait; the words are WAITC.A 15 and FENCE.REL as R168 and R169 encode them. -/
def inWait (w : Wait) (sl : Slot) : Slot := { sl with streams := [(3, { wait := some w, qsince := some 0 })] }

theorem witness_WaitsEnd :
    let q (c : Nat) : State := { eventAt 3 [0xF107F87A] (inWait (.waitc 15 15 15 6) {}) with cycle := c }
    let m (w : Wait) (sl : Slot) : State := eventAt 3 [0xF5800001] (inWait w sl)
    ((q 4096).streamNext 0 3).isSome = true ∧ ¬ atRendezvous (q 4096) 0 3 ∧ (((q 4096).slot 0).stream 3).qsince = some 0 ∧
    4096 ≤ (q 4096).cycle - 0 ∧ (q 4095).cycle - 0 < 4096 ∧ (((q 4095).slot 0).stream 3).qsince = some 0 ∧
    ((m (.mode true) {}).streamNext 0 3).isSome = true ∧ ((m (.mode true) {}).slot 0).ops = [] ∧ (m (.mode true) {}).otherExposed 0 = false ∧
    ((m (.eret false) { reenter := true }).slot 0).reenter = true ∧ (((m (.eret false) {}).slot 0).stream 3).wait = some (.eret false) ∧
    (((q 4095).slot 0).stream 3).wait = some (.waitc 15 15 15 6) ∧ (∃ h a b c d e, (q 4095).streamNext 0 3 = some (.waitc h a b c d e)) ∧
    (eventAt 3 [0xF000000A] (inWait (.fence 1 2 0) {})).streamNext 0 3 = some (.fenceRel h0 2) :=
  ⟨by decide, by unfold atRendezvous; decide, by decide, by decide, by decide, by decide, by decide, by decide, by decide, by decide,
    by decide, by decide, ⟨_, _, _, _, _, _, rfl⟩, by decide⟩

/-- A stream whose word, a load at address 0, meets a translation fault that the launch services. -/
theorem witness_WaitsEnd_fault :
    let s : State := eventAt 0 [0x86020000] { task := { fsvc := true } }
    (((s.slot 0).trap.inHandler = false ∧ (s.slot 0).late = [] ∧ ((s.slot 0).stream 0).serviced = false) ∧
    (s.setSlot 0 ((s.slot 0).setStream 0 { ((s.slot 0).stream 0) with wait := some (.fault 0 false) })).slot 0 ≠ s.slot 0) ∧
    (({ wait := some (.fault 0 false) } : Stream).serviced = true) := by decide

/-- The turn of that stream; and what its load meets. -/
theorem witness_WaitsEnd_load : let s : State := eventAt 0 (encode (.ldD h0 5 1 0)) { task := { fsvc := true } }
    s.streamNext 0 0 = some (.ldD h0 5 1 0) ∧ issuesB (turnOf s 0 0) 0 0 (.ldD h0 5 1 0) h0 = true ∧ ¬ atRendezvous s 0 0 ∧
    (s.slot 0).trap.inHandler = false ∧ (∀ o ∈ (s.slot 0).ops, o.fault = none) ∧ effective (turnOf s 0 0) 0 1 0 = 0 :=
  ⟨by decide, by decide, by unfold atRendezvous; decide, by decide, by decide, by decide⟩

theorem witness_WaitsEnd_meets : (match meets (turnOf (eventAt 0 (encode (.ldD h0 5 1 0)) {}) 0 0) .read 0 1 with
    | .fault va c => (va, c)
    | _ => (1, 0)) = (0, fUnmapped) := by
  show (match (State.touch (turnOf (eventAt 0 (encode (.ldD h0 5 1 0)) {}) 0 0) 0 0 0).reach _ _ _ _ with
    | .fault va c => (va, c)
    | _ => (1, 0)) = (0, fUnmapped)
  unfold State.touch
  rw [if_neg (by decide)]
  generalize Config.stillCached _ = b
  cases b <;> decide

/-- A group of tiles 0 and 1 with two arrivals each a phase, and arrivals as given. -/
def countsGroup (a b : Nat) : State :=
  { State.reset with inp := { unit := 255 }, groups := [(255, { launch := 1, members := [0, 1], count := 2, arrived := [(0, a), (1, b)] })] }

theorem witness_SlotEvents :
    (({ late := [{ due := 3, x := 1, cause := 10, aux := 0, at_ := 3, ctl := {}, rv := 0 }], cycle := 3 } : Slot).late.map LateTrap.due = [3]) ∧
    (({ pend := [{ due := 4, x := 0, eff := .scalar 31 5 }], cycle := 4 } : Slot).pend = [{ due := 4, x := 0, eff := .scalar 31 5 }]) ∧
    (∀ p ∈ ({ pend := [{ due := 4, x := 0, eff := .scalar 31 5 }], cycle := 3 } : Slot).pend, 3 < p.due) ∧
    (∀ t ∈ [0, 1], (0 + 1) * 2 ≤ Tab.get 0 [(0, 2), (1, 2)] t) ∧ (∃ t ∈ [0, 1], Tab.get 0 [(0, 2), (1, 1)] t < (0 + 1) * 2) ∧
    ((countsGroup 2 1).groups.find? 255).isSome = true ∧
    ((({ segs := [(3, { trapped := some { site := 95, seq := 65535 } })] } : Tile)).segs.get {} 3).trapped = some { site := 95, seq := 65535 } ∧
    (eventAt 0 [0xFFFFFFFF] {}).mayIssue 0 0 = true ∧ (eventAt 0 [0xFFFFFFFF] {}).fetchMark 0 0 = none ∧
    ({ eventAt 0 [] {} with marks := [0xFFFE0000800000] } : State).fetchMark 0 0 = some 0 ∧ ((onCommand {}).job 0).busy = false ∧
    ((onCommand {}).job 0).len ≤ ((onCommand {}).job 0).prog.ctl.pc ∧ ((onCommand { len := 1 }).job 0).prog.ctl.pc < 1 := by
  decide

/-- Slot 0 at a complete rendezvous of streams 0 and 1, both at the same word; streams 2 and 3 have ended. -/
def rendezvousAt (ws : List Nat) (x1 : Nat) : State :=
  eventAt 0 ws { streams := [(0, { presented := true }), (1, { presented := true, ctl := { pc := x1 } }), (2, { ended := true }),
    (3, { ended := true })], regs := [(4, 1)] }

/-- What becomes of a bundle of two words: write conflicts, traps, and words that still wait. -/
def bundleOf (a b : Instr) : Option (List Nat) :=
  let s := rendezvousAt (encode a ++ encode b) 1
  (s.streamNext 0 0).bind fun i => (s.streamNext 0 1).map fun j =>
    let t := s.runBundle 0 [(0, i), (1, j)]
    [(s.writeConflict 0 [(0, i), (1, j)]).toList.length, t.bundleTrap.toList.length,
      ((t.slot 0).stream 0).presented.toNat + ((t.slot 0).stream 1).presented.toNat]

/-- Two adds; two of one destination; a divide by zero beside an add; an add beside a vector word whose queues are empty. -/
theorem witness_SlotEvents_bundle :
    let add : Instr := .add hs 3 4 5
    let s := rendezvousAt (encode add) 0
    (s.slot 0).gathered = true ∧ s.slotIssues 0 = true ∧ (s.slot 0).rvStreams = [0, 1] ∧
    (∀ x ∈ (s.slot 0).rvStreams, ((s.slot 0).stream x).serviced = false) ∧ (s.streamNext 0 0) = some add ∧
    bundleOf add (.add hs 4 4 5) = some [0, 0, 0] ∧ bundleOf add add = some [1, 0, 0] ∧
    bundleOf add (.div hs 4 4 0) = some [0, 1, 1] ∧ bundleOf add (.vadd hs 2 0 1 0 false false) = some [0, 0, 1] := by decide
/-! ## States that meet the premises: tasks, copies, chains, the array's events -/

/-- A task record at the start of tile 0's scratchpad: TYPE words of R377 for slot 0 of tile 0, context tag FF, with a deadline of
`dl` nanoseconds. -/
def recordMem (dl : Nat) : Memory :=
  (run 0xFFFE0000000000 (List.replicate 32 0 ++ leBytes 8 dl ++ List.replicate 8 0 ++ leBytes 1 5 ++ leBytes 1 0 ++ leBytes 2 0 ++
    List.replicate 6 0 ++ [0xFF])).filter fun c => c.2 != 0

/-- A ready record of that task. -/
def aReady : ReadyRec := { loc := 0xFFFE0000000000, va := 0xFFFE0000000000, asid := 5 }

/-- Die 0's ready queue holds `r`; slot 0 is free. -/
def readyState (r : ReadyRec) (dl now : Nat) (v : List Saved) : State :=
  { State.reset with inp := { unit := 0, a := 0xFFFE0000000000 }, mem := recordMem dl, ready := [(0, [r])], saved := v, mtime := BitVec.ofNat 64 now }

/-- The task's context in the pilot's pool at 0. -/
def aSaved : Saved := { k := 0, ctx := 0, pool := true, slot := { task := { loc := 0xFFFE0000000000, asid := 5 } } }

theorem witness_TasksBind :
    let s := readyState aReady (2 ^ 64 - 1) 0 []
    let loc := 0xFFFE0000000000
    ((s.ready.get [] 0).find? fun r => r.loc == loc && !r.restore && !r.cancel) = some aReady ∧
    slotTakes s 0 loc (recordField s loc 48 1) ∧ recordField s loc 58 1 = 0xFF ∧ s.recordOpen 0 aReady = some loc ∧ aSaved.stale = false ∧
    ((readyState { aReady with restore := true } 0 0 [aSaved]).saved.find? fun v => v.slot.task.loc == loc) = some aSaved ∧
    slotTakes (readyState { aReady with restore := true } 0 0 [aSaved]) 0 loc 5 ∧
    (∃ locs, s.areaLocs 0 5 0 true .read = .ok locs ∧ locs.length = 16384 ∧ ∀ l ∈ locs, s.marked l = false) ∧
    come (readyState aReady 7 7 []) 7 (landfallPoint (readyState aReady 7 7 []) loc) ∧
    ¬ come s (BitVec.ofNat 64 (recordField s loc 32 8)) 0 :=
  ⟨by decide, by unfold slotTakes placeAllows; decide, by decide, by decide, by decide, by decide, by unfold slotTakes placeAllows; decide,
    ⟨(List.range 16384).map (0 + ·), rfl, by rw [List.length_map, List.length_range], fun _ _ => rfl⟩, by unfold come landfallPoint; decide, by unfold come; decide⟩

theorem no_window_away (s : State) (h : s.away = []) (a : Nat) : s.windowAway a = false := by
  unfold State.windowAway
  rw [h]
  generalize globalTile a = o
  cases o <;> rfl

/-- A byte of tile 0's scratchpad has one name for every agent. -/
theorem place_scratch (s : State) (haway : s.away = []) (who : Who) (acc : Acc) (a : Nat) (h : 0xFFFE0000000000 ≤ a)
    (h' : a < 0xFFFE0000400000) : s.place who copyParts acc false a = .at a 1 := by
  have hb : ¬ a < windowBase := Nat.not_lt.2 (Nat.le_trans (by decide) h)
  have hg : globalName who.die who.tile a = some a := by
    unfold globalName; rw [if_pos]; exact ⟨h, Nat.lt_trans h' (by decide)⟩
  have hp : globalPart a = some .scratch := by
    have he : a % 0x40000000 = a - 0xFFFE0000000000 := by omega
    unfold globalPart
    rw [if_pos ⟨h, Nat.lt_trans h' (by decide)⟩, he]
    unfold diePart tilePart
    rw [if_pos (by omega), if_pos (by omega)]
  have hr : s.inRing a = false := by unfold State.inRing; rw [hp]; rfl
  have hw : s.windowAway a = false := no_window_away s haway a
  unfold State.place
  rw [if_neg hb, hg, Option.elim_some, hp, Option.elim_some, hr, hw]
  rfl

/-- Bytes that each have a place are reached. -/
theorem reach_of_places (f : Nat → Place) (n : Nat) : ∀ l : List Nat, (∀ a ∈ l, f a = .at a n) → reachBy f l = .ok (l.map fun a => (a, n)) := by
  intro l h
  have hf : (l.map fun a => (a, f a)).find? (fun p => p.2 == .hole) = none := by
    rw [List.find?_eq_none]; intro p hp; obtain ⟨a, ha, rfl⟩ := List.mem_map.1 hp; simp [h a ha]
  unfold reachBy
  simp only [hf]
  split
  · rename_i va c e
    obtain ⟨p, hp, e⟩ := List.exists_of_findSome?_eq_some e
    obtain ⟨a, ha, rfl⟩ := List.mem_map.1 hp
    simp [h a ha] at e
  · congr 1
    rename_i e
    clear hf e
    induction l with
    | nil => rfl
    | cons a l ih => simp [h a (List.mem_cons_self ..), ih fun b hb => h b (List.mem_cons_of_mem _ hb)]

/-- A running task of slot 0 whose context area is tile 0's scratchpad from byte 0x10000 on, with a deadline and a landfall entry. -/
def aTask : Task := { loc := 77, asid := 5, launch := 1, ctx := 0xFFFE0000010000, deadline := 9, landfall := 7, landEntry := [(0, 16)] }

/-- Slot 0 in a phase, at `now` nanoseconds, with launch 1 open. -/
def taskAt (p : Phase) (now : Nat) (sl : Slot) : State :=
  { State.reset with mtime := BitVec.ofNat 64 now, launches := [(1, { census := 3 })] }.setSlot 0 { sl with phase := p, task := aTask }

theorem area_reached (s : State) (h : s.away = []) : ∃ locs, s.areaLocs 0 5 0xFFFE0000010000 false .write = .ok locs := by
  have hr : s.reach { die := some 0, tile := none, unit := 0, asid := 5 } copyParts .write (spanOf 0xFFFE0000010000 16384) =
      .ok ((spanOf 0xFFFE0000010000 16384).map fun a => (a, 1)) := by
    refine reach_of_places _ 1 _ fun a ha => ?_
    obtain ⟨i, hi, rfl⟩ := List.mem_map.1 ha
    rw [List.mem_range] at hi
    rw [Nat.mod_eq_of_lt (by omega)]
    exact place_scratch s h _ _ _ (by omega) (by omega)
  have hm : ((spanOf 0xFFFE0000010000 16384).map fun a => (a, 1)).any (fun p : Nat × Nat => isRemote p.1) = false := by
    rw [List.any_eq_false]
    intro p hp
    obtain ⟨a, ha, rfl⟩ := List.mem_map.1 hp
    obtain ⟨i, hi, rfl⟩ := List.mem_map.1 ha
    rw [List.mem_range] at hi
    rw [Nat.mod_eq_of_lt (by omega)]
    simp only [isRemote, Bool.and_eq_true, decide_eq_true_eq, not_and]
    omega
  unfold State.areaLocs
  rw [if_neg (by decide)]
  simp only [hr, hm]
  exact ⟨_, rfl⟩

theorem witness_TasksStopAndEnd_stop :
    ((taskAt .running 0 {}).slot 0).phase = .running ∧ ((taskAt .running 0 { diverting := true }).slot 0).diverting = true ∧
    ((taskAt .stopping 0 {}).slot 0).wordsOut = false ∧ quietTask (taskAt .stopping 0 {}) 0 ∧
    (∃ locs, (taskAt .saving 0 {}).areaLocs (0 / 64) 5 0xFFFE0000010000 false .write = .ok locs) ∧
    ({ eventAt 3 (encode (.chpush h0 0 1 false false)) { chans := [(0, writerHandle)], streams := [(3, { wait := some (.channel (some 0)) })] } with
      cycle := 2048 } : State).parkable 0 = some (2, false) ∧
    come (taskAt .running 7 {}) 9 7 ∧ ¬ come (taskAt .running 8 {}) 9 9 ∧ come (taskAt .running 9 {}) 9 9 ∧
    ((taskAt .running 7 { diverting := true }).bind 0).preempt = false ∧ aTask.landEntry ≠ [] ∧ aTask.landEntry.find? 1 = none ∧
    quietTask (taskAt .running 9 { diverting := true }) 0 ∧ ((taskAt .running 9 {}).slot 0).ending = none :=
  ⟨by decide, by decide, by decide, by unfold quietTask; decide, area_reached _ rfl, by decide, by unfold come; decide,
    by unfold come; decide, by unfold come; decide, by decide, by decide, by decide, by unfold quietTask; decide, by decide⟩

theorem witness_TasksStopAndEnd_end :
    let s (e : Ending) (ops : List Op) := taskAt .ending 0 { ending := some e, ops := ops }
    (s (.landed 5) []).trapsOf 77 = [] ∧ ((s .endOk []).slot 0).ops = [] ∧ ((s .endOk [ownStore]).slot 0).ops ≠ [] ∧ (∀ o ∈ ((s .endOk [ownStore]).slot 0).ops, o.fault = none) ∧
    (s .endOk []).launches.find? 1 = some { census := 3 } ∧
    ((readyState aReady 0 0 [{ aSaved with parked := some (2, true) }]).saved.find? fun v => v.slot.task.loc == 0xFFFE0000000000) =
      some { aSaved with parked := some (2, true) } ∧
    (withChan { aChan with rcnt := 1 } []).wakes 2 true = true ∧ (withChan { aChan with rcnt := 2 } []).wakes 2 false = false ∧
    State.reset.tileFree 63 = true ∧ State.reset.inp.b % 4 ≠ 3 ∧ State.reset.inp.b / 4 % 16 ≤ 6 ∧ (taskAt .running 0 {}).tileFree 0 = false := by decide
/-! ## States that meet the premises: copies, chains, the array's events -/

/-- Command 4, in flight `f`, for the event at hand; a macro of slot 0 unless `m` is none. -/
def inFlight (m : Option Macro) (f : List Flight) (started : Bool) : State :=
  { State.reset with inp := { unit := 0, id := 4 }, jobs := [(4, { mac := m, started := started, flights := f, launch := 1 })],
                     launches := [(1, { census := 3 })] }

/-- A copy of 64 bytes of tile 0's scratchpad; a fill; an add to one element; one of an unaligned element outside every part. -/
def aCopy : Flight := { word := 2, work := .copy 0xFFFE0000000040 0xFFFE0000000000 64 1 1 0 0 0 0 }
def anAdd : Flight := { word := 2, work := .rmw 0xFFFE0000000000 (.add64 5) false }
def inHole : Flight := { word := 2, work := .copy 0xFF000000000000 0xFFFE0000000000 64 1 1 0 0 0 0 }

/-- What a flight's next granule meets: 0 it moves, 1 it fails, 2 it faults. -/
def granuleOf (f : Flight) : Nat :=
  let s := inFlight (some (.cpmeta 63)) [f] true
  match (s.flightTouch (s.job 4) f).granule 4 0 (s.job 4) f with
  | .ok _ _ => 0
  | .fail _ => 1
  | .fault _ _ _ _ => 2
  | .wait => 3

theorem witness_CopyEvents :
    (waitsFirst (inFlight (some (.cpmeta 63)) [aCopy] false) 0 0).isSome = true ∧ (waitsFirst (inFlight (some .signal) [] false) 0 0).isSome = true ∧
    (waitsFirst (inFlight (some (.cpmc 63 255)) [aCopy] false) 0 0).isSome = true ∧ waitsFirst (inFlight none [aCopy] false) 0 0 = none ∧
    (inFlight none [] false).membersAgree 63 [] = false ∧ (inFlight none [] false).membersAgree 63 [0, 63] = true ∧
    ((inFlight (some (.cpmeta 63)) [aCopy] true).job 4).flights[0]? = some aCopy ∧
    (inFlight (some (.cpmeta 63)) [aCopy] true).mayMove 4 0 ((inFlight (some (.cpmeta 63)) [aCopy] true).job 4) aCopy = true ∧
    [aCopy, anAdd, inHole].map granuleOf = [0, 0, 1] ∧
    (inFlight (some (.cpmeta 63)) [] true).finished ((inFlight (some (.cpmeta 63)) [] true).job 4) = true ∧
    (inFlight (some (.cpmeta 63)) [aCopy] true).finished ((inFlight (some (.cpmeta 63)) [aCopy] true).job 4) = false ∧
    ((inFlight (some (.cpmeta 63)) [] true).job 4).status = 0 ∧
    (∀ e ∈ (inFlight (some (.cpmeta 63)) [] true).issued, e.1 / 8 ≠ 0) ∧
    ¬ (∀ e ∈ ({ inFlight (some (.cpmeta 63)) [] true with issued := [(0, 3)] } : State).issued, e.1 / 8 ≠ 0) := by decide

/-- An element's operation reaches its eight bytes; one at address 0, which no page maps, faults. -/
theorem witness_CopyEvents_element :
    (match ((inFlight (some .signal) [anAdd] true).flightTouch ((inFlight (some .signal) [anAdd] true).job 4) anAdd).jobReach ((inFlight (some .signal) [anAdd] true).job 4) .both
        ((List.range 8).map fun n => (0xFFFE0000000000 + n) % 2 ^ 56) with
      | .ok locs => locs.length == 8 && (inFlight (some .signal) [anAdd] true).jobWaits {} locs == false &&
          (inFlight (some .signal) [anAdd] true).cairnFault (locs.map Prod.fst) == none &&
          locs.all fun p => !isRemote p.1 && !(inFlight (some .signal) [anAdd] true).marked p.1
      | _ => false) = true ∧
    granuleOf { word := 2, work := .rmw 0 (.add64 5) false } = 2 := by
  refine ⟨by decide, ?_⟩
  show (match (State.touch (inFlight (some (.cpmeta 63)) [{ word := 2, work := .rmw 0 (.add64 5) false }] true) 0 0 0).granule 4 0
      { mac := some (.cpmeta 63), started := true, flights := [{ word := 2, work := .rmw 0 (.add64 5) false }], launch := 1 }
      { word := 2, work := .rmw 0 (.add64 5) false } with
    | .ok _ _ => 0
    | .fail _ => 1
    | .fault _ _ _ _ => 2
    | .wait => 3) = 2
  unfold State.touch
  rw [if_neg (by decide)]
  generalize Config.stillCached _ = b
  cases b <;> decide

/-- A chain whose ring of 16 entries stands in tile 0's scratchpad: one entry kicked; command 4 is its first. -/
def aChain : Chain := { base := 0xFFFE0000000000, size := 16, tail := 0, head := 0, loc := 0xFFFE0000001000 }
def chainAt (tail : Nat) (js : Tab Job) : State :=
  { State.reset with inp := { unit := 0, id := 1, a := 0xFFFE0000001000 }, mem := (run 0xFFFE000000100C (leBytes 4 tail)).filter fun c => c.2 != 0,
                     chains := [(1, aChain)], jobs := js }

def readsEntry (s : State) (c : Chain) : Bool :=
  match s.jobReach (c.job 1) .read (spanOf 0xFFFE0000000000 72), s.jobRead (c.job 1) (spanOf 0xFFFE0000000000 72) with
  | .ok locs, .ok e => e.length == 72 && locs.all fun p => !isRemote p.1
  | _, _ => false

/-- What the header of an entry leads to: 0 a program, 1 an ending, 2 a fault. -/
def codeOf (h : Nat) : Nat :=
  match (chainAt 1 []).chainCode (aChain.job 1) 0xFFFE0000000000 (leBytes 72 h) [] with
  | .ok _ => 0
  | .other (.fail _) => 1
  | .other (.fault _ _ _ _) => 2
  | .other _ => 3

/-- The control block is where the chain was registered. -/
def blockOk (s : State) (c : Chain) : Bool :=
  match s.blockAt 1 c with
  | .ok _ => true
  | _ => false

set_option maxRecDepth 20000 in
theorem witness_ChainEvents_code : [1, 0, 1 + 1024 * 1024].map codeOf = [0, 1, 2] ∧
    blockOk ((chainAt 1 []).jobTouch (aChain.job 1) [0xFFFE0000001000, 0xFFFE0000000000]) { aChain with ccb := 0xFFFE0000001000 } = true ∧
    ccbRefused 1 16 0 0 = true ∧ ccbRefused 0 16 0 1 = true := by decide

theorem witness_ChainEvents :
    ((chainAt 1 []).chains.find? 1 = some aChain) ∧ aChain.wait = none ∧ (chainAt 1 []).linking 1 = false ∧
    (aChain.keep (Memory.readLe (chainAt 1 []).mem (aChain.loc + 12) 4)).tail = 1 ∧
    (aChain.keep 1).entryAt (aChain.keep 1).head = 0xFFFE0000000000 ∧ ccbRefused 0xFFFE0000000000 16 0 0 = false ∧
    ({ chainAt 1 [] with chains := [] } : State).chains.find? 1 = none ∧
    (let j : Job := { queue := 2, chain := 1, seq := 1, started := true, stop := some 0, recorded := true, link := some (128, 65536) }
     ((chainAt 1 [(4, j)]).chainJobs 1).find? (fun p => p.2.seq == aChain.done + 1) = some (4, j) ∧ (chainAt 1 [(4, j)]).finished j = true ∧
     (chainAt 1 []).finished { j with stop := none } = false) := by decide

set_option maxRecDepth 20000 in
theorem witness_ChainEvents_entry : readsEntry (chainAt 1 []) aChain = true ∧
    (match ({ chainAt 1 [] with chains := [] } : State).jobReach (({ ccb := 0xFFFE0000001000 } : Chain).job 1) .both
        ((List.range 64).map fun n => (0xFFFE0000001000 + n) % 2 ^ 56) with
      | .ok l => l.map Prod.fst == (List.range 64).map (0xFFFE0000001000 + ·) && !isRemote 0xFFFE0000001000
      | _ => false) = true := by decide
/-! ## States that meet the premises: the array's events -/

/-- A loaded step of one row, with its first row at the edge. -/
def loadedStep : Step := { aStep 5 with aEnts := [{ anEntry with rows := 1, cols := 1, type := 19 }],
                                        bEnt := { anEntry with rows := 1, cols := 1, type := 19 }, acclen := 1,
                                        loaded := true, edge := [(3, none)], edgeFull := true, aSent := 1, bSent := 1, weights := [(2, none)] }

/-- Tile 0 with that step in `ps`, and segments `g` in place 0; the event at hand is of step 9 and segment 0. -/
def arrayAt (ps : List Step) (g : Seg) (inp : Inp) (now : Nat) : State :=
  { State.reset with inp := { inp with id := 9 }, cycle := now, tiles := [(0, { steps := ps, segs := [(0, g)] })] }

/-- The plane of a west segment whose site 0 turns FP32 into FP16 and whose exit is 97, in an exception mode. -/
def convPlane (mode : Nat) : Plane :=
  { valid := true, inType := 16, outType := 18, sites := [(0, { kind := 1, tin := 16, tout := 18, mode := mode })],
    routes := [{ src := 96, oidx := 0, dst := 0, iidx := 0 }, { src := 0, oidx := 0, dst := 97, iidx := 0 }] }

/-- That segment with a token of code `v` at site 0, and `n` tokens at its output. -/
def convSeg (mode v n : Nat) : Seg :=
  { active := convPlane mode, inq := [(0, [{ val := v }])], outq := if n = 0 then [] else [(0, List.replicate n {})] }

/-- What site 0 would do: whether it fires, its cause, and whether there is room. -/
def siteDoes (mode v n : Nat) : Option (Nat × Bool) :=
  let s := arrayAt [] (convSeg mode v n) {} 0
  (s.firing 0 0 0).map fun f => (f.cause, (convSeg mode v n).room 0 f)

theorem witness_ArrayEvents_sites : siteDoes 0 0x3F800000 0 = some (0, true) ∧ siteDoes 0 0x3F800000 2 = some (0, false) ∧
    ([0, 1, 2].map fun m => (siteDoes m 0x7F7FFFFF 0).map fun r => (decide (r.1 = 0), r.2)) =
      [some (false, true), some (false, true), some (false, true)] ∧
    isSite 0 0 = true ∧ 97 ∈ segExits 0 ∧ (convSeg 0 0 0).waiting = [] ∧ (convSeg 0 0 0).trapped = none := by decide

theorem witness_ArrayEvents :
    ((arrayAt [loadedStep] {} {} 4).tile 0).steps.find? (fun q => q.id == 9) = some loadedStep ∧
    (arrayAt [loadedStep] {} {} 4).rowReady 0 loadedStep = true ∧
    (arrayAt [loadedStep] {} {} 4).rowReady 0 { loadedStep with edgeFull := false } = false ∧
    (let p := { loadedStep with loaded := false, preload := some 4 }
     (arrayAt [p] {} {} 8).preloadOver 0 p = true ∧ (arrayAt [p] {} {} 4).preloadOver 0 p = false) ∧
    (let p := { loadedStep with transit := [{ row := 0, due := 136, sums := [(6, none)] }], rowsIn := 1 }
     (arrayAt [p] {} {} 136).rowFree 0 p.id (p.accRow 0) = true) ∧
    (let p := { loadedStep with rowsIn := 1, rowsOut := 1 }
     (arrayAt [p] {} {} 8).stepOver 0 p = true ∧ (arrayAt [loadedStep] {} {} 8).stepOver 0 loadedStep = false) ∧
    (arrayAt [] { swaps := [⟨0, 3, false⟩], mode := 1 } {} 0).switchReady 0 0 = true ∧
    (arrayAt [] { swaps := [⟨0, 3, true⟩], mode := 1 } {} 0).switchReady 0 0 = false ∧
    (arrayAt [] { mode := 1 } {} 0).segHeld 0 0 = false ∧ (convSeg 0 0 0).atRisk = true ∧ ({} : Seg).atRisk = false ∧
    (∃ w ∈ ({ swaps := [⟨0, 3, true⟩] } : Seg).swaps, w.late = true) ∧ ({ mode := 1, drains := [⟨false, 3⟩] } : Seg).tokens = [] ∧
    ({ inq := [(0, [{}])] } : Seg).tokens ≠ [] ∧
    ({ loads := [(3, 0, 16)] } : Seg).loads = (3, 0, 16) :: [] ∧
    (eventAt 0 [] {}).slotStored 0 9 = true ∧
    (let s : State := { eventAt 2 (encode (.tstep h0 5 1 true false)) {} with inp := { unit := 0, x := 2 } }
     s.streamNext 0 2 = some (.tstep h0 5 1 true false)) := by decide
/-! ## States that meet the premises: sumps, the front end, retirement -/

/-- Channel 2 as given, and one free segment of its die and address space; the event at hand is of channel 2. -/
def sumpAt (ch : Chan) (a : Nat) : State :=
  { State.reset with inp := { unit := 2, a := a }, chans := [(2, ch)], sumpFree := [(0, [0x10000])] }

/-- A die whose unit holds the sump's page, in HBM and open to channels. -/
def sumpDie : Tab Die := [(0, { pages := [{ asid := 0, base := 0, size := 4096, pa := 0x40000, kind := 1, r := true, w := true }] })]

/-- Where channel 2's oldest sump element lies: 0 somewhere, 1 a hole, 2 a fault. -/
def sumpMeets (s : State) (acc : Acc) (va : Nat) : Nat :=
  match s.sumpPlace 2 va acc with
  | .at _ _ => 0
  | .hole => 1
  | .fault _ => 2

/-- Slot 0 at a push into channel 2. -/
def pushing (ch : Chan) : State :=
  let sl : Slot := { chans := [(0, writerHandle)], streams := [(3, { wait := some (.channel (some 0)) })] }
  { eventAt 3 (encode (.chpush h0 0 1 false false)) sl with chans := [(2, ch)] }

theorem witness_SumpEvents :
    let full : Chan := { aChan with scnt := 1, maxseg := 2, segs := [0], used := [0], tailPos := 1, sumpFull := true }
    (full.isOpen = true ∧ 0 < full.scnt ∧ full.rcnt < full.rplaces ∧ full.spFault = false) ∧
    sumpMeets { sumpAt full 1 with dies := sumpDie } .read 0 = 0 ∧ sumpMeets (sumpAt full 1) .read 0 = 2 ∧
    (full.sumpFull = true ∧ 0 < 1 ∧ full.segs.length + 1 ≤ full.maxseg ∧ 1 ≤ ((sumpAt full 1).sumpFree.get [] 0).length) ∧
    ¬ (2 ≤ ((sumpAt full 2).sumpFree.get [] 0).length) ∧ ({ full with rcnt := 2 } : Chan).canPush = true ∧
    (pushing { full with rcnt := 2 }).pushWaits 2 = true := by
  decide

/-- Two parked tasks: the first waits to push into channel 3, which the second reads; the second to pop channel 2, which the first writes. -/
def aCycle (maxseg : Nat) : State :=
  { State.reset with
    inp := { a := 70 }, sumpFree := [(0, [0x10000])]
    chans := [(2, { isOpen := true, rplaces := 2, wmark := 1, wend := 0x80000000#32, rend := 0x80000001#32 }),
              (3, { isOpen := true, rplaces := 2, wmark := 1, wend := 0x80000000#32, rend := 0x80000001#32, maxseg := maxseg })]
    saved := [{ k := 0, ctx := 0, slot := { task := { loc := 70 } }, parked := some (3, false) },
              { k := 1, ctx := 0, slot := { task := { loc := 71 } }, parked := some (2, true) }] }

theorem witness_SumpEvents_scan :
    let s := aCycle 1
    let first (s : State) := s.saved.find? fun v => v.slot.task.loc == 70
    (first s).isSome = true ∧ (((first s).bind fun v => s.cycleFrom 70 3 v []).map fun c => c.map Prod.fst) = some [3, 2] ∧
    (s.chan 3).segs.length < (s.chan 3).maxseg ∧ ¬ ((s.chan 2).segs.length < (s.chan 2).maxseg) ∧
    ¬ (((aCycle 0).chan 3).segs.length < ((aCycle 0).chan 3).maxseg) ∧ s.sumpFree.get [] 0 ≠ [] := by decide

/-- Queue 0's packets and launch 1, at `now`; the event at hand is of queue 0, packet 5. -/
def frontAt (hq : HQueue) (l : Launch) (now : Nat) : State :=
  { State.reset with inp := { unit := 0, id := 5 }, hqueues := [(0, hq)], launches := [(1, l)], mtime := BitVec.ofNat 64 now,
                     progs := [(0, [0x02000001])] }

/-- A queue whose ring stands in tile 0's scratchpad, with one packet kicked. -/
def kicked : HQueue := { ring := 0xFFFE0000000000, tail := 1 }

/-- A packet at a SIGWAIT_LE, and one at an EMLAUNCH. -/
def inSignal : Packet := { bytes := List.replicate 256 0, code := encode (.sigwaitLe g0 5 6), wait := some (.signal 0xFFFE0000000000) }
def inGroups : Packet := { bytes := List.replicate 256 0, code := encode (.emlaunch g0 5 6), wait := some .groups }

set_option maxRecDepth 20000 in
theorem witness_FrontEvents :
    (frontReads (frontAt kicked {} 0) 0xFFFE0000000000 256 = 0) ∧ kicked.head ≠ kicked.tail ∧ kicked.started.length < 64 ∧
    (∀ p ∈ kicked.started, p.launch ≠ none ∧ p.barrier = false) ∧ (frontAt kicked {} 0).progs.get [] 0 ≠ [] ∧
    frontReads (frontAt { kicked with ring := 0xFF000000000000 } {} 0) 0xFF000000000000 256 = 1 ∧
    ¬ ({ kicked with head := 1 }.head ≠ kicked.tail) ∧
    frontDecode inSignal.code inSignal.prog.ctl.pc = some (.sigwaitLe g0 5 6) ∧ frontDecode inGroups.code 0 = some (.emlaunch g0 5 6) ∧
    ({ words := 512 } : Packet).ended = none ∧ 512 ≤ ({ words := 512 } : Packet).words ∧ ({ words := 511 } : Packet).words < 512 ∧
    (let p : Packet := { wait := some (.delta [] 0 [3] (some 5)) }
     p.wait = some (.delta [] 0 (3 :: []) (some 5)) ∧ (frontAt { cur := some p } {} 100004).mtime.toNat < 5 + 100000 ∧
     5 + 100000 ≤ (frontAt { cur := some p } {} 100005).mtime.toNat) ∧
    (let t : Tile := { halted := some [0], segs := [(0, { trapped := some { site := 0, seq := 3 } })] }
     t.halted = some [0] ∧ (t.segs.get {} 0).trapped = some { site := 0, seq := 3 } ∧ (t.segs.get {} 0).waiting = []) := by decide

/-- Packet 5 has ended; its completion signal at `va`. -/
def endedPacket (c : Option (Option Nat × Word × Word)) : Packet := { idx := 5, ended := some 0, launch := some 1, comp := c }

theorem witness_RetirementEvents :
    let s (c : Option (Option Nat × Word × Word)) (l : Launch) := frontAt { started := [endedPacket c] } l 0
    ((s none { census := 0 }).launches.find? 5 = none) ∧
    ({ s none {} with inp := { unit := 0, id := 1 } } : State).launches.find? 1 = some {} ∧
    (∃ p ∈ ((s none {}).hqueue 0).started, p.launch = some 1) ∧ ({} : Launch).retired = false ∧ ({} : Launch).census = 0 ∧
    (((s none {}).hqueue 0).started.find? fun e => e.idx == 5) = some (endedPacket none) ∧
    mayLeave (s none { retired := true }) 0 (endedPacket none) ∧ ¬ mayLeave (s none {}) 0 (endedPacket none) ∧
    mayLeave (s (some (some 0xFFFE0000000000, 7, 8)) { retired := true }) 0 (endedPacket (some (some 0xFFFE0000000000, 7, 8))) ∧
    (endedPacket (some (some 8, 7, 8))).noAdd = false ∧ (endedPacket (some (some 8, 7, 8))).added = false ∧
    (endedPacket (some (none, 7, 8))).comp = some (none, 7, 8) ∧
    (match (s none {}).feReach 0 .both 0xFFFE0000000000 8 with
      | .ok l => l.length == 8 && l.all fun a => !isRemote a && !(s none {}).marked a
      | _ => false) = true ∧
    (match (s none {}).feReach 0 .both 0xFF000000000000 8 with
      | .stop _ => true
      | _ => false) = true ∧ (s none {}).cairnHolders = [] ∧
    frontReads (atPacket {}) 0 1 = 2 := by
  refine ⟨rfl, rfl, ⟨endedPacket none, by decide, rfl⟩, rfl, rfl, by decide, ?_, ?_, ?_, rfl, rfl, rfl, by decide, by decide, rfl, front_unmapped⟩
  · unfold mayLeave; decide
  · unfold mayLeave; decide
  · unfold mayLeave; decide
/-! ## States that meet the premises: the host port, the torus, errors, power, words and turns -/

/-- A message of stream `st` in turn, with boot count 1 and SEQ 0: flags `x`, acknowledgement `ack`, payload `d`. -/
def hostSays (st x ack : Nat) (d : List Byte) : State := { State.reset with inp := { ver := 1, unit := st, x := x, a := ack, c := 1, data := d } }

theorem in_turn (st : Nat) (d : List Byte) (h : st < 16) (hd : d.length ≤ 8192) : InTurn (hostSays st 0 0 d) :=
  ⟨⟨rfl, rfl, show 1 = 1 % 2 ^ 32 by decide, h, show 0 ≤ 3 by decide, hd, show 0 < 2 ^ 32 by decide⟩, show 0 / 2 % 2 = 0 by decide, show (0 % 2 ^ 32 + 2 ^ 32 - 0) % 2 ^ 32 = 0 by decide,
    (nofun), rfl, rfl⟩

/-- A WRITE of `n` zero bytes to `va`, SPACE 2 with address space 0 (R438). -/
def writeTo (va n : Nat) : List Byte := leBytes 8 va ++ leBytes 1 2 ++ leBytes 7 0 ++ List.replicate n 0

/-- What the host's bytes meet: 0 places, 1 a hole, 2 a fault. -/
def hostMeets (acc : Acc) (va n : Nat) : Nat :=
  let d := writeTo va n
  match ((hostSays 3 0 0 d).hostTouch d n).hostReach d acc n with
  | .ok _ => 0
  | .hole _ => 1
  | .fault _ _ => 2

theorem witness_HostMessages :
    InTurn (hostSays 3 0 0 (writeTo 0xFFFE0000000000 8)) ∧ InTurn (hostSays 15 0 0 []) ∧ Hears (hostSays 15 2 (2 ^ 32 - 1) []) ∧
    (3 < (hostSays 0 4 0 []).inp.x ∧ 15 < (hostSays 16 0 0 []).inp.unit ∧ 8192 < (hostSays 0 0 0 (List.replicate 8193 0)).inp.data.length) ∧
    ({ hostSays 0 0 0 [] with host := { up := false } } : State).host.up = false ∧
    (let s : State := { hostSays 0 0 0 [] with inp := { unit := 0, c := 1, id := 1 } }
     seqAhead s = 1 ∧ seqAhead { s with host := { next := [(0, 2)] } } = 2 ^ 32 - 1 ∧ s.host.held.length < 4096) ∧
    hostMeets .write 0xFFFE0000000000 8 = 0 ∧ hostMeets .read 0xFFFE0000000000 8 = 0 ∧ hostMeets .write 0xFF000000000000 8 = 1 ∧
    16 < (writeTo 0xFFFE0000000000 8).length ∧ bytesAt (writeTo 0 8) 8 1 ≤ 2 ∧
    ({ size := 16 } : HQueue).size - (({} : HQueue).tail + 2 ^ 32 - ({} : HQueue).head) % 2 ^ 32 = 16 ∧
    onePage 0xFFF 0 ∧ ¬ onePage 0x1000 0 ∧ named 7 0 7 3 ∧ named 0 3 0 3 ∧
    bytesAt (leBytes 4 7 ++ leBytes 1 2) 4 1 = 2 ∧ covers 1 0 0 ∧ covers 0 1 1 ∧
    ({ State.reset with host := { up := false, lost := true } } : State).host.lost = true :=
  ⟨in_turn _ _ (by decide) (by decide), in_turn _ _ (by decide) (by decide), ⟨rfl, rfl, by decide, by decide, by decide, by decide⟩,
    ⟨by decide, by decide, by rw [show (hostSays 0 0 0 (List.replicate 8193 0)).inp.data = List.replicate 8193 0 from rfl, List.length_replicate]; decide⟩,
    by decide, by decide, by decide, by decide, by decide, by decide, by decide, by decide, by unfold onePage; decide, by unfold onePage; decide,
    by unfold named; decide, by unfold named; decide, by decide, Or.inl ⟨1, by decide⟩, Or.inr ⟨0, by decide⟩, by decide⟩

/-- A MGMT message of an operation, with a head and a body. -/
def mgmt (op : Nat) (rest : List Byte) : State := hostSays 3 0 0 (leBytes 1 op ++ rest)

theorem witness_ManagementOperations :
    (∀ op, op < 17 → InTurn (mgmt op (List.replicate 79 0)) ∧ bytesAt (mgmt op (List.replicate 79 0)).inp.data 0 1 = op) ∧
    (let d := leBytes 1 2 ++ leBytes 1 0 ++ leBytes 2 1023 ++ leBytes 4 0 ++ leBytes 8 0x100 ++ leBytes 4 65536 ++ List.replicate 12 0
     ¬ (1024 ≤ bytesAt d 2 2 ∨ d.length < 32 ∨ bytesAt d 8 8 % 256 ≠ 0 ∨ ¬ ringSize (bytesAt d 16 4) ∨ 3 < bytesAt d 29 1 ∨ 63 < bytesAt d 30 2)) ∧
    (bytesAt (leBytes 1 2 ++ leBytes 1 1 ++ leBytes 2 1023) 2 2 < 1024 ∧ bytesAt (leBytes 1 2 ++ leBytes 1 1 ++ leBytes 2 1023) 1 1 % 2 = 1) ∧
    loadCheck (encode (.endStream h0)) = none ∧ (loadCheck []).isSome = true ∧
    State.reset.closeHeld 2 = false ∧ (State.reset.torus.link 5).up = false ∧ (State.reset.torus.link 5).dying = none ∧ portOf 5 ∧ portOf 47 ∧ ¬ portOf 6 ∧ ¬ portOf 48 ∧
    (withChan { aChan with wend := 0, rend := 0 } []).closeHeld 2 = false :=
  ⟨fun op h => ⟨in_turn _ _ (by decide) (show 80 ≤ 8192 by decide), by revert op; decide⟩, by decide, by decide, by decide, by decide, by decide,
    by decide, by decide, by unfold portOf; decide, by unfold portOf; decide, by unfold portOf; decide, by unfold portOf; decide, by decide⟩
/-- A die whose TXINV waits, or not, with one page of address space 5; the event at hand writes `a` to it. -/
def txinvAt (w a : Nat) (sl : Slot) : State :=
  { State.reset with inp := { unit := 0, a := a }, slots := [(0, sl)],
                     dies := [(0, { txinv := BitVec.ofNat 64 w, pages := [{ asid := 5, base := 0, size := 4096, pa := 0, kind := 1, r := true, w := true }],
                                    charts := [(5, { base := 0, limit := 65536, offset := 0, kind := 1, r := true, w := true, bad := false })] })] }

theorem witness_InvalidationAndClock :
    (∀ k < 4, (txinvAt 2 (16 * k + 1) {}).inp.a % 2 = 1 ∧ (txinvAt 2 (16 * k + 1) {}).inp.a / 16 % 4 = k) ∧
    ((txinvAt 2 0 {}).die 0).txinv.toNat / 2 % 2 = 1 ∧ ((txinvAt (5 * 2 ^ 56 + 16) 0 {}).die 0).txinv.toNat / 2 % 2 = 0 ∧
    (5 * 2 ^ 56 + 16) / 16 % 4 = 1 ∧ (5 * 2 ^ 56 + 16) / 2 ^ 56 % 256 = 5 ∧
    (∀ p ∈ (txinvAt (5 * 2 ^ 56 + 16) 0 {}).slots, ∀ o ∈ p.2.ops, o.done = true ∨ o.kind.locs = []) ∧
    ¬ (∀ o ∈ ({ task := { asid := 5 }, ops := [ownStore] } : Slot).ops, o.done = true ∨ o.kind.locs = []) ∧
    (26 % 4 ≠ 3 ∧ 26 / 4 % 16 ≤ 6) ∧ (3 % 4 = 3 ∧ 6 < 28 / 4 % 16) ∧ (2 ^ 25 % 2 ^ 20 = 0 ∧ 2 ^ 25 ≤ 2 ^ 25) ∧ (∀ p ∈ State.reset.chans, p.1 / 4096 = 0 → p.2.isOpen = false) ∧
    ((State.reset.die 0).regions.length < 16 ∧ 65536 % 65536 = 0 ∧ 65536 < 131072) ∧ (2 ^ 24 % 256 = 0) ∧
    State.reset.clock.domain = 0 ∧ (100000 < 100001) ∧
    ({ State.reset with mtime := 2000000000#64, clock := { locked := true } } : State).clock.lastSync + 2000000000 ≤ (2000000000#64).toNat ∧
    State.reset.mtime.toNat < State.reset.clock.lastSync + 2000000000 := by decide

/-- A packet of an add of 5 to HBM address 64 from node 9, SEQ `seq`. -/
def packetFrom9 (op seq : Nat) (tor : Torus) : State :=
  { State.reset with inp := { unit := 9, id := seq, x := op, a := 64, b := 8, c := 3, data := leBytes 8 5 }, torus := tor }

/-- A packet of command 4 to node 9 that is not acknowledged, and one of queue 0's completion add. -/
def sentPacket (job : Nat) : OutPacket := { seq := 7, job := job, flight := 0, addr := 64, rmw := none, data := [1], size := 1, key := 3, path := [0] }
def awaiting (job : Nat) (p : Pair) (i : Inp) : State :=
  { State.reset with inp := { i with unit := 9, id := 7 },
                     torus := { pairs := [(9, { p with unacked := [sentPacket job] })], links := [(0, { up := true })] },
                     jobs := [(4, { flights := [{ word := 2, work := .spawn 0 0, packets := [⟨9, 7, 0, 1⟩] }] })],
                     hqueues := [(0, { started := [{ addSent := some (9, 7) }] })] }

theorem witness_TorusPackets :
    3 ∈ (packetFrom9 1 0 { revoked := [3] }).torus.revoked ∧ 3 ∉ (packetFrom9 1 0 {}).torus.revoked ∧
    (0 + 2 ^ 32 - 1) % 2 ^ 32 ≥ 2 ^ 31 ∧ ((1023 + 2 ^ 32 - 0) % 2 ^ 32 < 1024) ∧
    (∀ p ∈ ((packetFrom9 1 0 {}).torus.windows.get {} 9).held, p.seq ≠ 0) ∧ (packetFrom9 1 0 {}).cairnHolders = [] ∧
    (∀ a ∈ (List.range 8).map (64 + ·), inHbm a = true ∧ (packetFrom9 1 0 {}).marked a = false) ∧ (packetFrom9 1 0 {}).inp.data.length = 8 ∧
    (∃ a ∈ (List.range 8).map (64 + ·), ({ packetFrom9 1 0 {} with marks := [64] } : State).marked a = true) ∧
    (((awaiting 4 {} {}).torus.pairs.get {} 9).unacked.find? fun p => p.seq == 7) = some (sentPacket 4) ∧
    (((awaiting 0 {} {}).torus.pairs.get {} 9).unacked.find? fun p => p.seq == 7) = some (sentPacket 0) ∧
    ((awaiting 4 {} {}).jobs.find? 4).isSome = true ∧ (((awaiting 4 {} {}).job 4).flights[0]?).isSome = true ∧
    (∃ e ∈ ((awaiting 0 {} {}).hqueue 0).started, e.addSent = some (9, 7)) ∧
    (∀ p ∈ ((packetFrom9 1 0 {}).torus.pairs.get {} 9).unacked, p.seq ≠ 0) ∧ (awaiting 4 {} {}).torus.live ≠ [] ∧
    (packetFrom9 1 0 {}).torus.live = [] ∧ ({ deadSince := some 0 } : Pair).deadSince = some 0 ∧ (0 + 100000 ≤ 100000) := by decide

/-- Link `n` as given; the event at hand is of link `n`. -/
def linkAt (n : Nat) (l : Link) (x now : Nat) : State :=
  { State.reset with inp := { unit := n, x := x }, torus := { links := [(n, l)] }, mtime := BitVec.ofNat 64 now }

theorem witness_LinkEvents :
    ((linkAt 5 { up := true, retries := 14 } 0 0).torus.links.find? 5) = some { up := true, retries := 14 } ∧
    (State.reset.torus.links.find? 47).getD { up := decide (16 ≤ 47) } = { up := true } ∧
    (State.reset.torus.links.find? 5).getD { up := decide (16 ≤ 5) } = { up := false } ∧
    portOf 5 ∧ portOf 47 ∧ ¬ portOf 15 ∧ sameLink 16 21 ∧ sameLink 28 17 ∧ sameLink 18 35 ∧ sameLink 47 30 ∧
    ((linkAt 5 { dying := some (3, 2, 1) } 0 0).torus.links.find? 5).bind Link.dying = some (3, 2, 1) ∧
    ((linkAt 5 { training := some 0 } 0 10000000).torus.links.find? 5).bind Link.training = some 0 ∧
    0 + 10000000 ≤ (linkAt 5 { training := some 0 } 0 10000000).mtime.toNat ∧ (linkAt 5 {} 0 9999999).mtime.toNat < 0 + 10000000 := by
  refine ⟨by decide, by decide, by decide, ?_, ?_, ?_, ?_, ?_, ?_, ?_, by decide, by decide, by decide, by decide⟩ <;>
    first | (unfold portOf; decide) | (unfold sameLink; decide)

/-- A copy from tile 0 to tile 1. -/
def aCopyTo0 : Flight := { word := 2, work := .copy 0xFFFE0001000000 0xFFFE0000000000 64 1 1 0 0 0 0 }

set_option maxRecDepth 20000 in
theorem witness_ErrorEvents :
    (let c : ErrCount := { second := 0, inSecond := 16 }
     c.second = (linkAt 0 {} 0 999999999).mtime.toNat / 1000000000 ∧ 16 ≤ c.inSecond) ∧
    (({ onStream 0 {} with inp := { unit := 0, x := 1, id := 3 } } : State).slot 0).phase ≠ .free ∧
    ((onQueue {}).hqueue 0).cur = some { bytes := List.replicate 256 0 } ∧ ({ bytes := List.replicate 256 0 } : Packet).still = false ∧
    (((List.range 65).map fun n => (3, n, 0)).filter fun r : Nat × Nat × Nat => r.1 == 3 && decide (0 < r.2.2 + 86400000000000)).length = 65 ∧
    ({ spares := 1 } : Stack).spares < 2 ∧ 2 ≤ ({ spares := 2 } : Stack).spares ∧ 63 ∉ State.reset.away ∧
    63 ∈ ({ State.reset with away := [63] } : State).away ∧ (∀ e < 8, (State.reset.slot (8 * 63 + e)).phase = .free) ∧
    State.reset.boot.retired.find? (63 / 8) = none ∧
    (let j : Job := { asid := 0, engine := 64, flights := [aCopyTo0] }
     let s := State.reset
     (∃ f ∈ j.flights, s.readsTile f.work j 0 = true) ∧ (∀ f ∈ j.flights, s.readsTile f.work j 1 = false) ∧
     (∃ f ∈ j.flights, s.writesTile f.work j 1 = true) ∧
     (∀ f ∈ j.flights, s.readsTile f.work j 2 = false ∧ s.writesTile f.work j 2 = false)) := by
  decide
/-- Sensors as given: watts, a junction and a stack in sixteenths of a degree. -/
def sensors (watts j h : Nat) (cap : Word) : Power :=
  { cap := cap, now := BitVec.ofNat 64 watts, temps := [(0, BitVec.ofNat 64 (j + h * 2 ^ 16))] }

/-- Each cause at its boundary, and an image that is refused by its version. -/
theorem witness_PowerAndReset :
    (∀ n, ¬ Claims.causeOf {} n) ∧ Claims.causeOf (sensors 5401 0 0 0) 0 ∧ ¬ Claims.causeOf (sensors 5400 0 0 0) 0 ∧
    Claims.causeOf (sensors 0 1600 0 0) 1 ∧ Claims.causeOf (sensors 0 0 1520 0) 2 ∧ Claims.causeOf { ext := true } 3 ∧
    Claims.causeOf (sensors 1001 0 0 0x03E80001) 4 ∧ (sensors 0 1919 1679 0).hottest 0 < 1920 ∧ (sensors 0 1919 1679 0).hottest 16 < 1680 ∧
    1920 ≤ (sensors 0 1920 0 0).hottest 0 ∧ ({} : Power).causes = 0 ∧ (0 : Nat) ∉ [2, 3, 4, 6, 7] ∧ ¬ imageAccepted [] 0 1 := by
  refine ⟨?_, show 5400 < (sensors 5401 0 0 0).watts by decide, show ¬ 5400 < (sensors 5400 0 0 0).watts by decide,
    show 1600 ≤ (sensors 0 1600 0 0).hottest 0 by decide, show 1520 ≤ (sensors 0 0 1520 0).hottest 16 by decide, rfl,
    show (0x03E80001 : Word).toNat % 2 = 1 ∧ (0x03E80001 : Word).toNat / 2 ^ 16 % 2 ^ 16 < (sensors 1001 0 0 0x03E80001).watts by decide,
    by decide, by decide, by decide, rfl, by decide, fun h => absurd h.2.1 (by decide)⟩
  intro n
  match n with
  | 0 => exact show ¬ 5400 < ({} : Power).watts by decide
  | 1 => exact show ¬ 1600 ≤ ({} : Power).hottest 0 by decide
  | 2 => exact show ¬ 1520 ≤ ({} : Power).hottest 16 by decide
  | 3 => exact show ¬ ({} : Power).ext = true by decide
  | 4 => exact show ¬ (({} : Power).cap.toNat % 2 = 1 ∧ ({} : Power).cap.toNat / 2 ^ 16 % 2 ^ 16 < ({} : Power).watts) by decide
  | _ + 5 => exact id

/-! ## Words, turns and issue -/

theorem witness_DecodeReadsEncode :
    ([.li32 h0 31 0xFFFFFFFF, .fshr h0 31 30 29 true 31, .vcvt h0 3 3 0 3 true 15, .loopx h0 2 511 159, .ldB hs 31 31 0x100].all fun i =>
      i.wf && (readBy i).contains .core) = true ∧
    ([.casD g0 31 30 29, .cpy3d g0 1 2 3 4 30].all fun i => i.wf && (readBy i).contains .copy && !i.rv) = true ∧
    ([.complete g0 31 30 29, .pkgetW g0 1 63].all fun i => i.wf && (readBy i).contains .front && !i.rv) = true := by decide

/-- A stream's turn at a word of every kind: legal, illegal, and of another stream; a command's and a packet's; an event; the rails off. -/
theorem witness_StepRunsTheDecodedInstruction :
    (let s (ws : List Nat) : State := { eventAt 0 ws {} with agenda := [.stream 0 0, .tick] }
     (s []).power.railsOff = false ∧ (s []).fetchMark 0 0 = none ∧ decode .core 0x1000C850 0 = some (.add h0 3 4 5) ∧
     (Instr.add h0 3 4 5).streamOk 0 = true ∧ decode .core 0xFFFFFFFF 0 = none ∧ (s [0x1000C850]).streamWords 0 0 = (0x1000C850, 0) ∧
     decode .core 0xF000000A 0 = some (.fenceRel h0 2) ∧ (Instr.tstep h0 1 2 false false).streamOk 0 = false) ∧
    (let j : Job := { code := [0x8700C851], len := 1, started := true, queue := 2 }
     j.busy = false ∧ j.mac = none ∧ twoWordCopy 0x8700C851 = false ∧ inProgram (.casD g0 3 4 5) 0 1 = true) ∧
    (let p : Packet := { bytes := [0], code := [0x8000C004] }
     p.still = false ∧ twoWordFront 0x8000C004 = false ∧ inProgram (.pkgetW g0 3 4) 0 1 = true) ∧
    ({ State.reset with power := { railsOff := true }, agenda := [.tick] } : State).power.railsOff = true := by decide

theorem witness_UnassignedOpcodesAreIllegal :
    (0x08 ≤ 0x08FFFFFF / 2 ^ 24 ∧ 0x77FFFFFF / 2 ^ 24 ≤ 0x77) ∧ 0x8F000000 / 2 ^ 24 = 0x8F ∧ 0xFE000000 / 2 ^ 24 = 0xFE ∧
    (let s : State := { eventAt 0 [0xFFFFFFFF] {} with cur := .stream 0 0 }
     s.mayIssue 0 0 = true ∧ s.fetchMark 0 0 = none ∧ bytesWord (Memory.readBytes s.mem (imemAddr 0 0) 4) / 2 ^ 24 = 0xFF) := by decide

/-- A word alone on its core is chosen; one that a ready word of a better role stands beside is not. -/
theorem witness_ClustersChoose :
    let s : State := eventAt 0 [0x1000C850] {}
    let t : State := { s with issued := [(0, 0)] }
    t.issued = s.issued ++ [(0, 0)] ∧ comesInTurn s 0 0 ∧ s.unheld 0 [0] = true ∧ wordChosen s 0 0 ∧
    ({ s with issued := [(0, 0), (0, 1)] } : State).issued = s.issued ++ (0, 0) :: (0, 1) :: [] ∧ s.clustersApart := by
  refine ⟨by decide, by unfold comesInTurn comesInOrder; decide, by decide, ⟨by unfold idleCluster; decide, fun j hj => ?_⟩, by decide, ?_⟩
  · rw [show (eventAt 0 [0x1000C850] {}).coreSlots 0 = [0] by decide, List.mem_singleton] at hj
    subst hj
    exact ⟨fun h => absurd h (by decide), fun h => absurd rfl h⟩
  unfold State.clustersApart
  decide

theorem witness_EveryStepKeepsClustersApart : State.reset.clustersApart ∧ step State.reset = .next State.reset.tick :=
  ⟨by unfold State.clustersApart; decide, rfl⟩
/-! ## States that meet the premises: exposed mode, full counters, short queues -/

/-- A guard that is false at reset. -/
def hf : Hdr := ⟨false, 1, false⟩

/-- 63 loads outstanding. -/
def manyLoads : List Op := (List.range 63).map fun n => { aLoad with id := n }

/-- Four entries of a queue. -/
def fourPlaces : List QPlace := (List.range 4).map fun n => { op := n + 1, val := some 0, due := 0 }

/-- False guards in exposed mode; a counter at 63 in both modes; and a vector add whose first source is absent, whose second source is
still to come, and is there too late, whose push is full, and which waits in guarded mode. -/
theorem witness_FalseGuardedWords_stops :
    ([.add hf 1 2 3, .ldD hf 1 2 0, .div hf 1 2 0, .nop hf].all fun i =>
      atWordB (exposedNow (onStream 0 {}) 0 0) 0 0 i hf && !wordActive (usesOf i) (({} : Slot).view 0) 1 false) = true ∧
    (let s := onStream 0 { ops := manyLoads }
     (turnB s 0 0 h0 && turnB (exposedNow s 0 0) 0 0 h0) = true ∧ (usesOf (.ldD h0 5 1 0)).cls = some 0 ∧
       63 ≤ ((s.slot 0).ops.filter fun o => o.cls = 0).length) ∧
    (let i : Instr := .vadd h0 2 0 1 0 false false
     let x (l : Tab (List QPlace)) := exposedNow (onStream 1 { queues := l }) 0 1
     let p (d : Nat) : QPlace := { op := 9, val := none, due := d }
     (usesOf i).q = [] ++ (0, 0, true) :: [(1, 0, true)] ∧ (usesOf i).q = [(0, 0, true)] ++ (1, 0, true) :: [] ∧ (usesOf i).push = some 2 ∧
     ([x [], x [(0, fourPlaces), (1, [p 9])], x [(0, fourPlaces), (1, [p 0])], x [(0, fourPlaces), (1, fourPlaces), (2, fourPlaces)],
       onStream 1 {}].all fun s => atWordB s 0 1 i h0 && wordActive (usesOf i) ((s.slot 0).view 1) 0 false) = true ∧
     (Tab.get [] ([] : Tab (List QPlace)) 0)[0]? = none ∧ (0 : Nat) < 9 ∧ 4 + 0 + (x []).otherPops 0 1 2 false ≤ fourPlaces.length ∧
     (onStream 1 {}).interlock 0 1 (usesOf i) false ≠ .go) := by decide

/-- Slot cycles that end, that a load freezes, and that a stream has still to take its part in. -/
theorem witness_ExposedResults_cycle :
    let gone : Tab Stream := [(0, { next := 1 }), (1, { ended := true }), (2, { presented := true }), (3, { ended := true })]
    let s (sl : Slot) := onStream 0 { sl with exposed := true }
    let allOver (sl : Slot) := (List.range 4).all fun x => !sl.live x || decide (sl.cycle < (sl.stream x).next) || (sl.stream x).presented
    allOver { streams := gone } = true ∧ allOver {} = false ∧ ((s { streams := gone }).slot 0).gathered = false ∧ (s {}).haltsSlot 0 = false ∧
    ((s {}).slot 0).late = [] ∧ (∀ x < 4, (({ streams := gone } : Slot).stream x).wait = none) ∧
    (({ aQrd with due := 1 } : Op).kind.isLoad = true ∧ ({ aQrd with due := 1 } : Op).done = false ∧ (1 : Nat) ≤ 0 + 1) := by decide

/-- An exposed slot alone on its core, at an add; with a later stream that waits; at a push that finds five places taken; and
leaving exposed mode; then a turn in which a word traps, and a rendezvous. -/
theorem witness_ClustersChoose_more :
    let ended : Tab Stream := [(1, { ended := true }), (2, { ended := true }), (3, { ended := true })]
    let s : State := eventAt 0 [0x1000C850] { exposed := true, streams := ended }
    let w : State := eventAt 0 ([0x1000C850] ++ encode (.waitc h0 15 0 15 15 0))
      { exposed := true, ops := [ownStore], streams := [(1, { ended := true }), (2, { ended := true }), (3, { ctl := { pc := 1 } })] }
    let v : State := eventAt 1 (encode (.vadd h0 2 0 1 0 false false))
      { exposed := true, queues := twoQueues, streams := [(0, { ended := true }), (2, { ended := true }), (3, { ended := true })] }
    let crowded : State := v.setSlot 0 { v.slot 0 with queues := [(2, fourPlaces ++ fourPlaces)] }
    let full : State := { crowded with issued := [(0, 1)] }
    s.frozen 0 0 = none ∧ s.overfull { s with issued := [(0, 0)] } 0 0 = none ∧
    ((s.setSlot 0 { s.slot 0 with exposed := false }).slot 0).exposed = false ∧
    (w.frozen 0 0).isSome = true ∧ v.overfull full 0 1 = some 2 ∧ v.frozen 0 1 = none ∧ (s.slot 0).exposed = true ∧
    (let d : State := eventAt 0 (encode (.div h0 5 4 0)) { streams := ended }
     let t := d.runAs 0 0 (.div h0 5 4 0)
     t.issued = d.issued ∧ d.tripOf t = some (0, 0) ∧ d.suspect 0 = false ∧ d.tripOf d = none) := by decide

theorem witness_ClustersChoose_goes :
    let ended : Tab Stream := [(1, { ended := true }), (2, { ended := true }), (3, { ended := true })]
    let s : State := eventAt 0 [0x1000C850] { exposed := true, streams := ended }
    let b : State := rendezvousAt (encode (.add hs 3 4 5)) 0
    comesInTurn s 0 0 ∧ s.unheld 0 [0] = true ∧ wordChosen s 0 0 ∧
    comesInOrder b 0 3 ∧ b.unheld 0 [0, 1] = true ∧ bundleChosen b 0 := by
  refine ⟨by unfold comesInTurn comesInOrder; decide, by decide, ⟨by unfold idleCluster; decide, fun j hj => ?_⟩,
    by unfold comesInOrder; decide, by decide, by unfold idleCluster; decide, fun j hj => ?_⟩
  · rw [show State.coreSlots _ 0 = [0] by decide, List.mem_singleton] at hj
    subst hj
    exact ⟨fun h => absurd h (by decide), fun h => absurd rfl h⟩
  · rw [show State.coreSlots _ 0 = [0] by decide, List.mem_singleton] at hj
    subst hj
    exact ⟨fun h => absurd rfl h, by unfold bundleFirst; decide⟩

/-! ## States that meet the premises: late traps, collar traps, pieces, stops -/

/-- A trap of stream 1's word of this cycle that is to come late. -/
def aLate : LateTrap := { due := 0, x := 1, cause := 10, aux := 0, at_ := 0, ctl := { pc := 5 }, rv := 2 }

theorem witness_TrapEntry_late :
    (({ late := [aLate] } : Slot).late.reverse.find? fun u => u.x == 1) = some aLate ∧
    (({ late := [aLate] } : Slot).late.reverse.find? fun u => u.x == 0) = none ∧
    ({ trap := { inHandler := true } } : Slot).trap.inHandler = true ∧ (3 : Nat) ≠ 26 ∧ (26 : Nat) < 256 ∧
    (aLate.due ≤ ({ late := [aLate] } : Slot).cycle) := by decide

/-- The newest operation of slot 0, first cut into pieces, with the first byte's unit marked, and of another package. -/
def newest (o : Op) (bad : Bool) (b : Nat) : State :=
  let s := withOp o { last := some 0 }
  { s with marks := if bad then [0xFFFE0000000000] else [], inp := { s.inp with b := b } }

theorem witness_MemoryOperationsEnd_spoilt :
    spoilt (newest aLoad true 0) 0 aLoad [0] = some 0xFFFFFF80000000 ∧ spoilt (newest aLoad false 0) 0 aLoad [0] = none ∧
    spoilt (newest aQrd true 0) 0 aQrd [0] = some 0xFFFFFF80000000 ∧ spoilt (newest aQrd false 0) 0 aQrd [0] = none ∧
    spoilt (newest { aLoad with remote := true } false 1) 0 { aLoad with remote := true } [0] = some 0xFFFFFF80000000 ∧
    (newest aLoad true 0).mayPerform 0 aLoad [0] = true ∧ (newest aQrd true 0).mayPerform 0 aQrd [0] = true ∧
    ((newest aLoad true 0).slot 0).last = some aLoad.at_ ∧ (∀ e ∈ (newest aLoad true 0).issued ++ (newest aLoad true 0).landed, e.1 = 0 → e.2 ≤ 0) ∧
    (5 : BitVec 5).toNat ∉ ((newest aLoad true 0).slot 0).seen ∧
    (let far : Op := { aLoad with kind := .load 5 true 0 [(0x800000000000, 1)] false }
     (∃ p, far.kind.locs[0]? = some p ∧ isRemote p.1 = true) ∧ far.got.find? 0 = none ∧ far.done = false) ∧
    aQrd.kind.locs ≠ [] :=
  ⟨by decide, by decide, by decide, by decide, by decide, by decide, by decide, by decide, by decide, by decide,
    ⟨⟨_, rfl, by decide⟩, by decide, by decide⟩, by decide⟩

/-- Slot 0 with a collar trap of segment 0 of its tile waiting, and another of segment 3 or none. -/
def collared (x : Nat) (handler : Bool) (ws : List Nat) (both : Bool) : State :=
  (eventAt x ws { trap := { inHandler := handler, cause := 4, pc := 7, stream := BitVec.ofNat 2 x }, collarTraps := if both then [0, 3] else [0] }).setTile 0
    { segs := [(0, { trapped := some { site := 5, seq := 3 } }), (3, { trapped := some { site := 80, seq := 3 } })] }

/-- ERET in a handler with collar traps waiting, on T and on another stream; the traps' delivery; and a resolved one. -/
theorem witness_TrapAndEndWords_collar :
    ([(0, false), (2, false), (2, true)].all fun p =>
      issuesB { collared p.1 true [] p.2 with cur := .stream 0 p.1 } 0 p.1 (.eret h0 true) h0) = true ∧
    ((collared 0 true [] true).slot 0).collarTraps = [0, 3] ∧ (((collared 0 true [] true).tile 0).segs.get {} 3).trapped.isSome = true ∧
    (∀ f ∈ [0, 3], f ≠ 0 → (0 : Nat) % 4 < f % 4) ∧ ((collared 0 true [] true).slot 0).late = [] ∧
    ((collared 0 false [] false).slot 0).collarTraps = [4 * 0 + 0] ∧ ((collared 0 false [] false).slot 0).trap.inHandler = false ∧
    ((collared 0 false [] false).slot 0).diverting = false ∧
    ((((collared 0 true [] true).setTile 0 {}).tile 0).segs.get {} 0).trapped = none := by decide

/-- A slot that re-enters exposed mode; a FENCE.REL that lets its stream go on early. -/
theorem witness_WaitsEnd_more :
    let r := eventAt 3 [] { reenter := true }
    let f := eventAt 3 [0xF000000A] (inWait (.fence 1 2 0) { ops := [ownStore] })
    ((r.slot 0).reenter = true ∧ (r.slot 0).ops = [] ∧ (r.slot 0).queues = [] ∧ r.otherExposed 0 = false) ∧
    f.streamNext 0 3 = some (.fenceRel h0 2) ∧ issuesB (turnOf f 0 3) 0 3 (.fenceRel h0 2) h0 = true ∧ f.crossHeld 0 1 2 = false ∧
    (f.inp.unit = 0 ∧ ({ f with inp := { f.inp with a := 1 } } : State).inp.a ≠ 0) := by decide

/-- A bundle whose streams meet no stall of another, no service and no collar trap. -/
theorem witness_SlotEvents_ready :
    let s := rendezvousAt (encode (.add hs 3 4 5)) 0
    (∀ y ∈ (s.slot 0).stallers, y ∈ (s.slot 0).rvStreams) ∧ (∀ x ∈ (s.slot 0).rvStreams, s.collarHolds 0 x = false) ∧
    (({ s with groups := [(0, { launch := 0, members := [0], count := 1 })] } : State).groups.find? 0).isSome = true := by decide

/-- Commands that fail with bytes in hand, which are written at once or must wait behind a store that has crossed first. -/
theorem witness_CopyEvents_held :
    let f : Flight := { word := 2, work := .copy 0xFFFE0000000000 0xFF000000000000 64 1 1 0 0 0 0, buf := [1] }
    let s := inFlight (some (.cpmeta 63)) [f] true
    let w : State := { s.setSlot 0 { ops := [{ ownStore with id := 8 }] } with crossings := [{ op := 8, place := 0, scope := 2, stamp := 0 }] }
    (s.letGo 4 0 (s.job 4) f).isSome = true ∧ (w.letGo 4 0 (w.job 4) f).isNone = true ∧ granuleOf f = 1 ∧
    (∀ e ∈ s.issued ++ s.tripped, e.1 / 8 ≠ 0) ∧
    ((inFlight (some (.cpmc 63 255)) [{ word := 2, work := .cpmc 0 0 63 {} [0, 63] }] true).job 4).flights ≠ [] := by decide

/-! ## States that meet the premises: what waits, what is full, what has failed -/

/-- A record at the head of its queue that no store keeps from being read, with nothing past its landfall point ahead of it; and one
saved past it. -/
theorem witness_TasksBind_order :
    let s := readyState aReady (2 ^ 64 - 1) 0 []
    let late := readyState { aReady with restore := true, landfall := true } 0 0 [aSaved]
    s.pilotWaits 0 ((List.range 128).map (0xFFFE0000000000 + ·)) = false ∧ s.landfallAhead 0 = false ∧
    (readyState aReady 7 7 []).pilotWaits 0 ((List.range 128).map (0xFFFE0000000000 + ·)) = false ∧
    ({ aReady with restore := true, landfall := true } : ReadyRec).landfall = true ∧
    ((late.ready.get [] 0).find? fun r => r.loc == 0xFFFE0000000000 && r.restore) = some { aReady with restore := true, landfall := true } ∧
    ((readyState { aReady with cancel := true } 0 0 []).ready.get [] 0 = { aReady with cancel := true } :: []) ∧
    s.pilotWaits 0 ((List.range 128).map (0xFFFE0000000000 + ·)) = false := by decide

theorem witness_TasksStopAndEnd_more :
    let stop := taskAt .ending 9 { ending := some .endOk }
    State.reset.poolFree 0 = true ∧ (taskAt .saving 0 {}).endWaits 0 ((taskAt .saving 0 {}).slot 0) = false ∧
    stop.endWaits 0 (stop.slot 0) = false ∧ aTask.onabort = 0 ∧
    ((taskAt .running 9 {}).slot 0).diverting = false ∧ ((taskAt .running 9 {}).slot 0).lfrun = false ∧
    (State.reset.tile 63).tenant ≠ some 5 ∧ (({ State.reset with tiles := [(63, { tenant := some 5 })] } : State).tile 63).tenant = some 5 ∧
    (∀ v, (some Ending.endOk) ≠ some (.landed v)) := by
  refine ⟨by decide, by decide, by decide, by decide, by decide, by decide, by decide, by decide, fun v h => ?_⟩
  cases h

/-- A stream 0 with room, and one with none. -/
theorem witness_RetirementEvents_room :
    roomLeft State.reset ∧ (∀ m : Msg, ¬ roomLeft { State.reset with devOut := [(0, { unacked := List.replicate 65536 m })] }) ∧
    State.reset.firstRetiring = none ∧
    ({ frontAt { started := [endedPacket none] } { retired := true } 0 with retiring := [(0, 5)] } : State).firstRetiring = some (0, 5) ∧
    ({ endedPacket (some (some 8, 7, 8)) with added := true } : Packet).added = true ∧
    (frontAt { started := [endedPacket none] } { retired := true } 0).heedful (endedPacket none) = false := by
  refine ⟨by unfold roomLeft; decide, fun m h => ?_, by decide, by decide, by decide, by decide⟩
  unfold roomLeft at h
  rw [show (State.devOut _ |>.get {} 0).unacked = List.replicate 65536 m from rfl, List.length_replicate] at h
  exact absurd h (by decide)

theorem witness_LaunchWords_launch :
    (aPacket { launch := some 1 }).emitted = 0 ∧
    ({ atPacket { launch := some 1 } with launches := [(1, {})] } : State).launches.find? 1 = some {} := by decide

theorem witness_SystemRegisterWords_due : [1, 0x10, 0x1F, 0x40, 0x7F].all (fun n => sysWritable n &&
    ((onStream 0 { pend := [{ due := 0, x := 0, eff := .sysreg n 3 }] }).slot 0).pend == [{ due := 0, x := 0, eff := .sysreg n 3 }]) = true := by
  decide

/-- Messages of another version, links that are down or have been lost, and a device that is not READY. -/
theorem witness_HostMessages_link :
    ({ hostSays 0 0 0 [] with inp := { ver := 2 } } : State).inp.ver ≠ 1 ∧ State.reset.owed = [] ∧
    (let h (up lost ready : Bool) : State := { State.reset with host := { up := up, lost := lost, ready := ready } }
     (h true false true).host.ready = true ∧ (h true false false).host.ready = false ∧ (h true false false).power.recovery = false ∧
     (h false false false).boot.failed = false ∧ (h false false false).host.lost = false ∧ (h false true true).host.lost = true ∧
     ({ State.reset with boot := { failed := true } } : State).boot.failed = true) ∧
    (let s := withChan { aChan with spFault := true, faultLaunch := 7, faultVa := 0x1FFF } []
     (s.chan 2).spFault = true ∧ named 7 0 (s.chan 2).faultLaunch (s.chan 2).asid ∧ onePage (s.chan 2).faultVa 0x1000) ∧
    (((onQueue { wait := some (.fault 0x1FFF) }).hqueue 0).cur.bind fun p => p.wait) = some (.fault 0x1FFF) ∧ onePage 0x1FFF 0x1000 :=
  ⟨by decide, by decide, by decide, ⟨by decide, ⟨by decide, .inl (by decide)⟩, by unfold onePage; decide⟩, by decide, by unfold onePage; decide⟩

/-- CHOPEN's 64 bytes: a channel of slot 0 with elements of 8 bytes, `places` of them, SEGLIST at `list`. -/
def openBody (places list : Nat) : List Byte :=
  leBytes 1 0 ++ leBytes 1 0 ++ leBytes 2 0 ++ leBytes 4 0x80000000 ++ leBytes 4 0x80000000 ++ leBytes 4 0xFC000 ++ leBytes 4 places ++
    leBytes 4 1 ++ List.replicate 24 0 ++ leBytes 8 list ++ leBytes 2 0 ++ leBytes 2 0 ++ leBytes 4 0

/-- An open that is accepted, with the die's reserve of one megabyte; refused ones: three places, SEGLIST at a byte, no reserve. The node
map and PWRCAP at the ends of their ranges. -/
theorem witness_ManagementOperations_more :
    (let s : State := { State.reset with dies := [(0, { rres := 2 ^ 20 })] }
     chopenBad (openBody 4 0) = false ∧ s.ringBad 0 (chopenEntry (openBody 4 0)) = false ∧ (openBody 4 0).length = 64 ∧ (s.chan 0).isOpen = false ∧
     State.reset.ringBad 0 (chopenEntry (openBody 4 0)) = true) ∧
    chopenBad (openBody 3 0) = true ∧ chopenBad (openBody 4 8) = true ∧
    (∀ w ∈ [1000 * 2 ^ 16 + 1 * 2 ^ 8, 2 ^ 63 + 5400 * 2 ^ 16 + 255 * 2 ^ 8 + 255],
      ¬ (w / 2 ^ 16 % 2 ^ 16 < 1000 ∨ 5400 < w / 2 ^ 16 % 2 ^ 16 ∨ w / 2 ^ 8 % 256 = 0)) ∧
    (∀ w ∈ [999 * 2 ^ 16 + 1 * 2 ^ 8, 5401 * 2 ^ 16 + 1 * 2 ^ 8, 5400 * 2 ^ 16],
      w / 2 ^ 16 % 2 ^ 16 < 1000 ∨ 5400 < w / 2 ^ 16 % 2 ^ 16 ∨ w / 2 ^ 8 % 256 = 0) := by decide

/-- A key in the router's table, and one revoked; a command whose completion record is out, and commands with one packet out. -/
theorem witness_TorusPackets_more :
    admitted (packetFrom9 1 0 { keys := [3] }) 3 ∧ ¬ admitted (packetFrom9 1 0 { keys := [3], revoked := [3] }) 3 ∧
    (let s := awaiting 4 { later := [sentPacket 4] } {}
     let pair := s.torus.pairs.get {} 9
     pair.later = sentPacket 4 :: [] ∧ (pair.unacked.filter fun q => q.seq != 7).length < 1024) ∧
    ((awaiting 4 {} {}).torus.pairs.get {} 9).later = [] ∧ ((awaiting 4 {} {}).job 4).failed = none ∧
    (let f : Flight := { word := 2, work := .spawn 0 0, packets := [⟨9, 7, 0, 1⟩] }
     f.packets.find? (fun pc => pc.node == 9 && pc.seq == 7) = some ⟨9, 7, 0, 1⟩ ∧
     ({ flights := [f], recorded := true } : Job).recorded = true ∧ 0 + 1 = ({ flights := [f], recorded := true } : Job).flights.length) ∧
    ([sentPacket 4].filter fun p => decide (p.sent + 20000 ≤ 20000)) ≠ [] ∧ ([sentPacket 4].filter fun p => decide (p.sent + 20000 ≤ 19999)) = [] :=
  ⟨⟨.inl (by decide), by decide⟩, fun h => absurd h.2 (by decide), by decide, by decide, by decide, by decide, by decide, by decide⟩

/-- A link under training; retries of the last millisecond against the flits that went; the boundary of the rate. -/
theorem witness_LinkEvents_training :
    ((linkAt 5 { training := some 0 } 0 0).torus.links.find? 5).bind Link.training ≠ none ∧ (linkAt 5 { training := some 0 } 1 0).inp.x = 1 ∧
    (let l : Link := { up := true, recent := [1000000, 1500000] }
     let lately := (l.recent.filter fun t => decide (2000000 < t + 1000000)).length
     lately = 1 ∧ (999999 : Nat) < 1000000 * lately ∧ 1000000 * lately ≤ 1000000) := by decide

/-- A saved granule of a cairn; a stack with a broken channel; a die that has lost a tile before. -/
theorem witness_ErrorEvents_more :
    (let c : Cairn := { base := 0, len := 256, saved := [(0, [1])] }
     (({ onStream 0 { cairns := [(1, c)] } with inp := { unit := 0, x := 3, id := 1, b := 0 } } : State).slot 0).cairns.find? 1 = some c ∧
     (c.saved.find? 0).isSome = true ∧ 0 ∉ c.bad) ∧
    (5 : Nat) ∉ ({} : Stack).broken ∧ (5 : Nat) ∈ ({ broken := [5] } : Stack).broken ∧
    ((({ State.reset with boot := { retired := [(7, 2)] } } : State).boot.retired.find? (63 / 8)).isSome = true) ∧
    (let j : Job := { asid := 0, engine := 64, flights := [aCopyTo0] }
     j.dead = none ∧ j.susp = none ∧ j.failed = none ∧ aCopyTo0.closed = false) ∧
    ((onStream 0 {}).slot 0).phase ≠ .ending ∧ (63 : Nat) ∈ ({ State.reset with boot := { absent := [63] } } : State).boot.absent := by decide

/-- The clock's lowest step; an image that is accepted, whatever the opaque constants of Config are (log entry 151), and that a die refuses
by its version; each step of the boot. -/
theorem witness_PowerAndReset_images :
    tooHot (sensors 0 1760 0 0) ∧ tooHot (sensors 0 0 1600 0) ∧ ¬ tooHot (sensors 0 1759 1599 0) ∧
    imageAccepted Config.firmware 0 0 ∧ ¬ imageAccepted Config.firmware 0 1 ∧ (0 : Nat) ∉ [2, 4, 6, 7] ∧
    (∀ x ∈ [4, 6], x ≠ 2 ∧ x ≠ 1) ∧ ({ data := Config.firmware } : Inp).received = Config.firmware ∧ ({} : Inp).b = 0 :=
  ⟨.inl (by decide), .inr (by decide), fun h => by rcases h with h | h <;> exact absurd h (by decide),
    ⟨rfl, by decide, by simp [Config.verifies]⟩, fun h => absurd h.2.1 (by decide), by decide, by decide, rfl, rfl⟩

/-! ## Ill-formed terms, each refused by the check of its field (R75) -/

/-- None of these is well-formed. -/
def allIll (l : List Instr) : Bool := l.all fun i => !i.wf

theorem test_wf_refuses_loops_and_shifts : allIll [.loop h0 0 0 5, .loop h0 0 7 160, .loopx h0 0 0 5, .loopx h0 0 7 255,
    .fshr h0 1 2 3 true 32] = true := by decide

theorem test_wf_refuses_system_registers : allIll [.getx h0 1 7, .getx h0 1 0x23, .getx h0 1 0x80, .getx h0 1 0x0C, .setx h0 1 8,
    .setx h0 1 0x20, .setx h0 1 0] = true := by decide

theorem test_wf_refuses_vector_types : allIll [.vadd h0 0 0 0 3 false false, .vadd h0 0 0 0 10 false false,
    .vaddSat h0 0 0 0 0 false false, .vfma h0 0 0 0 4 false false, .vmulHi h0 0 0 0 2 false false, .vsel h0 0 0 0 11 false false,
    .vand h0 0 0 0 3 false false, .vmad h0 0 0 0 1 false false, .vcmpUn h0 0 0 0 0 4 false false, .vmovq h0 0 0 15 false,
    .vcvt h0 0 0 3 3 false 0, .vcvt h0 0 0 10 0 false 0, .vcvt h0 0 0 0 4 false 1, .vredAnd h0 0 0 0 false, .vrcp h0 0 0 4 false,
    .vscl h0 0 0 0 4 false false, .vshl h0 0 0 0 0 false false] = true := by decide

theorem test_wf_refuses_pairs_and_types : allIll [.tmov h0 0 3 0 16, .tmov h0 0 2 0 25, .tmovK h0 0 31 0 16, .cpl h0 0 1 false 0,
    .cps h0 0 31 true 2, .cpmc h0 0 1 0, .cpy3d g0 1 2 3 4 5] = true := by decide

theorem test_wf_refuses_operations_masks_and_scopes : allIll [.cpacc h0 1 2 3 13, .cpaccr h0 1 2 13, .acc g0 1 2 3 13, .accr g0 1 2 3 15,
    .chpush h0 0 16 false true, .chpush h0 0 1 true false, .chpop h0 0 16 true, .chpopPk h0 0 31 true, .tcfg h0 0 1, .tswap h0 0,
    .tdrain h0 true 0, .tcbk h0 0 1 24, .fenceAcq h0 7, .fenceRel h0 7, .fenceSc h0 7, .waitc h0 0 0 0 0 7] = true := by decide

/-! ## Words as the spec's examples write them -/

/-- Words of control cores (R54-R64, R103-R107, R111, R119, R150). -/
theorem test_decode_core : ([(0x1301BFFF, some (.lui h0 6 0x3FFF)), (0x4F00C225, some (.pandn h0 3 1 2)),
    (0x4D0445EC, some (.cmpiGen h0 2 1 2 0x3D 4)), (0x5700C851, some (.divnW h0 3 4 5)), (0x890249FE, some (.stW h0 9 4 0x1FE)),
    (0x8B008601, some (.ldaD h0 2 3 1)), (0x8D014008, some (.getx h0 5 8)), (0x8E00C001, some (.setx h0 3 1)),
    (0xC0008801, some (.qrd h0 2 4 1)), (0xC2054802, some (.qwr h0 true 5 4 2))] : List (Nat × Option Instr)).all
      (fun p => decode .core p.1 0 == p.2) = true := by decide

/-- Words of tiles, commands, channels and the system (R157-R178, R184-R205). -/
theorem test_decode_tile : ([(0xC6006C10, some (.tmov h0 3 12 0 16)), (0xD600A211, some (.cpmc h0 5 2 17)),
    (0xD200C852, some (.cpacc h0 3 4 5 2)), (0xD400C851, some (.cpcasD h0 3 4 5)), (0xD9004900, some (.chpop h0 2 9 false)),
    (0xE0002606, some (.tstep h0 1 6 true true)), (0xE1000041, some (.tcfg h0 4 1)), (0xE2000040, some (.tswap h0 4)),
    (0xE3000140, some (.tdrain h0 true 4)), (0xE4000601, some (.tresumeDisc h0 3)), (0xE5012500, some (.tcbk h0 9 5 0)),
    (0xE6008702, some (.scaccBlk h0 4 7 false)), (0xF0000015, some (.fenceSc h0 5)), (0xF107F87A, some (.waitc h0 15 15 0 15 2)),
    (0xF2000011, some (.gbar h0 17)), (0xF4018E00, some (.spawn h0 6 7)), (0xF6008640, some (.cairnSet h0 2 3 4)),
    (0xF701C000, some (.lfdone h0 7)), (0xF8000005, some (.trap h0 5)), (0xF9000001, some (.eret h0 true)),
    (0xFA000003, some (.bkpt h0 3)), (0xFB00C000, some (.haltx h0 3))] : List (Nat × Option Instr)).all
      (fun p => decode .core p.1 0 == p.2) = true := by decide

/-- Words of command and queue programs (R220, R225, R230). -/
theorem test_decode_programs : decode .copy 0x8700C851 0 = some (.casD g0 3 4 5) ∧ decode .front 0x8000C004 0 = some (.pkgetW g0 3 4) ∧
    decode .front 0x82010007 0 = some (.shdr g0 4 7) ∧ decode .front 0x8A014E00 0 = some (.complete g0 5 7 0) := by decide

/-! ## One step each, with results worked out from the rules -/

/-- Slot 0 after one word on stream 0. -/
def afterWord (i : Instr) (sl : Slot) : Option Slot :=
  match exec i (onStream 0 sl) with
  | .next t => some (t.slot 0)
  | _ => none

/-- R99: 2^63 + (2^64 - 1) is 2^63 - 1 in 64 bits; R82: bits 31:0 of 2^32 - 2 + 2 are sign-extended. -/
theorem test_add_wraps : ((afterWord (.add h0 5 1 2) { regs := edgeRegs }).map fun sl => readScalar sl.regs 5) = some 0x7FFFFFFFFFFFFFFF ∧
    ((afterWord (.addW h0 5 1 2) { regs := [(1, 0x7FFFFFFF), (2, 1)] }).map fun sl => readScalar sl.regs 5) = some 0xFFFFFFFF80000000 := by
  decide

/-- R27: a write to s0 is discarded. -/
theorem test_s0_discards : ((afterWord (.add h0 0 2 3) { regs := edgeRegs }).map fun sl => (readScalar sl.regs 0, (sl.stream 0).ctl.pc)) =
    some (0, 1) := by decide

/-- R108: a zero divisor raises trap 4 with the dividend in TRAPAUX; R107: dividing -2^63 by -1 gives -2^63. -/
theorem test_divide : ((afterWord (.div h0 5 3 0) { regs := edgeRegs, task := { trapEntry := [(0, 9)] } }).map fun sl =>
      (sl.trap.cause, sl.trap.aux, (sl.stream 0).ctl.pc)) = some (4, 1, 9) ∧
    ((afterWord (.div h0 5 1 2) { regs := edgeRegs }).map fun sl => readScalar sl.regs 5) = some 0x8000000000000000 := by decide

/-- R100's example: LI32 of 8000_1000, then LUI 00FF. -/
theorem test_lui_keeps_the_low_half :
    ((afterWord (.lui h0 6 0xFF) { regs := [(6, 0xFFFFFFFF80001000)] }).map fun sl => readScalar sl.regs 6) = some 0x000000FF80001000 := by
  decide

/-- R84: SHDR reads shadow word 7 into s4 of a queue program. -/
theorem test_shdr : (match exec (.shdr g0 4 7) { onQueue {} with hqueues := [(0, { sh := [(7, 0xABC)], cur := some { bytes := [0] } })] } with
    | .next t => ((t.hqueue 0).cur.map fun p => readScalar p.prog.regs 4)
    | _ => none) = some 0xABC := by decide

end Sys2Proof.Tests
end

section
/-! Bit fields of a number as quotients and remainders, and the reading of system registers (R32-R38, R119-R121). -/

namespace Sys2Proof

theorem fld_eq (w lo n : Nat) : fld w lo n = w / 2 ^ lo % 2 ^ n := rfl

theorem flag_iff (w lo : Nat) : flag w lo = true ↔ w / 2 ^ lo % 2 = 1 := by simp [flag, fld]

theorem flag_eq_false_iff (w lo : Nat) : flag w lo = false ↔ w / 2 ^ lo % 2 = 0 := by
  rw [← Bool.not_eq_true, flag_iff]; omega

/-- The top field of a number of `lo + n` bits is its quotient. -/
theorem fld_top {w lo n : Nat} (h : w < 2 ^ (lo + n)) : fld w lo n = w / 2 ^ lo := by
  rw [fld_eq, Nat.mod_eq_of_lt]
  rw [Nat.div_lt_iff_lt_mul (by positivity), ← Nat.pow_add]
  exact (Nat.add_comm lo n) ▸ h

end Sys2Proof

namespace Sys2Proof.Machine

/-! ## Landing a SETX (R120) -/

/-- What a SETX writes, by its register: FPCSR, a format register of the tile, or a channel handle. -/
theorem State.writeSys_fpcsr (s : State) (k : Nat) (v : Word) :
    s.writeSys k 1 v = s.setSlot k { s.slot k with fpcsr := v ||| (s.slot k).raised.setWidth 64 } := rfl

theorem State.writeSys_format (s : State) (k n : Nat) (v : Word) (h : 0x10 ≤ n) (h' : n < 0x20) :
    s.writeSys k n v = s.setTile (k / 8) { s.tile (k / 8) with fmt := (s.tile (k / 8)).fmt.set (n - 0x10) (BitVec.ofNat 32 v.toNat) } := by
  have h1 : n ≠ 1 := by omega
  simp only [State.writeSys, if_neg h1, if_pos h', BitVec.ofNat_toNat]
  rfl

theorem State.writeSys_handle (s : State) (k n : Nat) (v : Word) (h : 0x40 ≤ n) :
    s.writeSys k n v = s.setSlot k { s.slot k with chans := (s.slot k).chans.set (n - 0x40) (BitVec.ofNat 32 v.toNat) } := by
  have h1 : n ≠ 1 := by omega
  have h2 : ¬ n < 0x20 := by omega
  simp only [State.writeSys, if_neg h1, if_neg h2, BitVec.ofNat_toNat]
  rfl

/-- In guarded mode, outside a bundle, results land at once (R80). -/
theorem State.commit_guarded (s : State) (k x lat : Nat) (es : List PendEff) (h : (s.slot k).exposed = false) (hb : s.bundle = false) :
    s.commit k x lat es = es.foldl (fun s e => s.land k e) s := by
  simp [State.commit, h, hb]

/-- With nothing on its way to a slot, landing only writes the slot back. -/
theorem State.landWhere_of_pend_nil (s : State) (k : Nat) (f : Pend → Bool) (h : (s.slot k).pend = []) :
    s.landWhere k f = s.setSlot k (s.slot k) := by
  have e : ({ s.slot k with pend := [] } : Slot) = s.slot k := by rw [← h]
  simp only [State.landWhere, h, List.filter_nil, e]
  rfl

/-- A lone SETX lands as the system results of its cycle do. -/
theorem State.landWhere_sys (s : State) (k x n due : Nat) (v : Word) (h : (s.slot k).pend = [{ due := due, x := x, eff := .sysreg n v }]) :
    s.landWhere k (fun p => p.eff.isSys) = (s.setSlot k { s.slot k with pend := [] }).writeSys k n v := by
  simp only [State.landWhere, h]
  rfl

/-! ## What the end of a cycle leaves of a slot with nothing on its way -/

/-- All of a slot and of the state around it that the passing of a slot cycle leaves. -/
def tickKeeps (k : Nat) (a b : State) : Prop :=
  b.tiles = a.tiles ∧ b.mem = a.mem ∧ ∃ c r w e, b.slot k = { a.slot k with cycle := c, raised := r, wrote := w, seen := e }

theorem tickKeeps.refl (k : Nat) (a : State) : tickKeeps k a a := ⟨rfl, rfl, _, _, _, _, rfl⟩

theorem tickKeeps.trans {k : Nat} {a b c : State} (h : tickKeeps k a b) (h' : tickKeeps k b c) : tickKeeps k a c := by
  obtain ⟨ht, hm, _, _, _, _, hs⟩ := h
  obtain ⟨ht', hm', c, r, w, e, hs'⟩ := h'
  exact ⟨ht'.trans ht, hm'.trans hm, c, r, w, e, by rw [hs', hs]⟩

theorem tickKeeps.setSlot (k : Nat) (a : State) (c : Nat) (r : BitVec 5) (w e : List Nat) :
    tickKeeps k a (a.setSlot k { a.slot k with cycle := c, raised := r, wrote := w, seen := e }) :=
  ⟨rfl, rfl, c, r, w, e, State.slot_setSlot ..⟩

theorem State.landWhere_keeps (s : State) (k : Nat) (f : Pend → Bool) (h : (s.slot k).pend = []) : tickKeeps k s (s.landWhere k f) := by
  rw [s.landWhere_of_pend_nil k f h]
  exact tickKeeps.setSlot k s _ _ _ _

/-- The slot cycle that follows the landing of a SETX. -/
theorem State.slotCycle_keeps (s : State) (k : Nat) (h : (s.slot k).pend = []) :
    tickKeeps k s (if (s.slot k).exposed && (s.slot k).draining then s.landWhere k fun p => p.eff.drains
      else if (s.slot k).cycleOver && !s.haltsSlot k then (s.modSlot k fun sl => { sl with cycle := sl.cycle + 1 }).landDue k
      else s) := by
  split
  · exact s.landWhere_keeps k _ h
  · split
    · refine (tickKeeps.setSlot k s _ _ _ _).trans (State.landWhere_keeps _ k _ ?_)
      rw [State.slot_setSlot]
      exact h
    · exact tickKeeps.refl k s

/-- What is kept of the words of a cycle goes with its end. -/
theorem State.cycleDone_keeps (s : State) (k : Nat) :
    tickKeeps k s (if (s.slot k).cycleDone = s.slot k then s else s.setSlot k (s.slot k).cycleDone) := by
  split
  · exact tickKeeps.refl k s
  · exact tickKeeps.setSlot k s _ _ _ _

/-- The end of a slot's cycle, after the write of its SETX. -/
theorem State.slotTick_sys (s : State) (k x n due : Nat) (v : Word)
    (hp : (s.slot k).pend = [{ due := due, x := x, eff := .sysreg n v }])
    (hw : (((s.setSlot k { s.slot k with pend := [] }).writeSys k n v).slot k).pend = []) :
    tickKeeps k ((s.setSlot k { s.slot k with pend := [] }).writeSys k n v) (s.slotTick k) := by
  have hany : ((s.slot k).pend.any fun p => p.eff.isSys) = true := by rw [hp]; rfl
  unfold State.slotTick
  rw [if_pos hany, s.landWhere_sys k x n due v hp]
  exact (State.slotCycle_keeps _ k hw).trans (State.cycleDone_keeps _ k)

/-- What the end of a cycle with a lone SETX shows of the slot and its tile, from the state in which the SETX has landed. -/
theorem tickKeeps.shows {k : Nat} {a b : State} (h : tickKeeps k a b) :
    b.tile (k / 8) = a.tile (k / 8) ∧ b.mem = a.mem ∧ (b.slot k).fpcsr = (a.slot k).fpcsr ∧ (b.slot k).chans = (a.slot k).chans ∧
      (b.slot k).regs = (a.slot k).regs ∧ (b.slot k).preds = (a.slot k).preds ∧ (b.slot k).queues = (a.slot k).queues := by
  obtain ⟨ht, hm, _, _, _, _, hs⟩ := h
  rw [hs]
  exact ⟨congrArg (fun t : Tab Tile => t.get {} (k / 8)) ht, hm, rfl, rfl, rfl, rfl, rfl⟩

end Sys2Proof.Machine

namespace Sys2Proof.Claims
open Sys2Proof.Machine

/-! ## GETX and SETX (R119-R121) -/

/-- R37: a segment's group of CXSTAT, its bits in their places. -/
theorem cxstat_eq (g : Seg) : g.cxstat =
    g.active.img * 2 ^ 4 + g.shadow.img * 2 ^ 8 + g.active.valid.toNat * 2 ^ 12 + g.trapped.isSome.toNat * 2 ^ 13 +
      (if g.mode = 0 then 0 else 2 ^ 14) + g.shadow.valid.toNat * 2 ^ 15 := by
  by_cases h : g.mode = 0 <;> simp only [Seg.cxstat, h, ne_eq, not_true_eq_false, not_false_eq_true, decide_true, decide_false,
    Bool.toNat_true, Bool.toNat_false, if_true, if_false] <;> omega

/-- R35, R37, R231: the packed registers hold the fields of the statement. -/
theorem slotst_eq (s : State) (k : Nat) : (s.slot k).slotst = systemRegister s k 2 := by
  simp only [Slot.slotst, systemRegister]
  norm_num
  congr 1
  omega

theorem causeWord_eq (s : State) (k : Nat) : (s.slot k).trap.causeWord = systemRegister s k 4 := by
  simp only [TrapSt.causeWord, systemRegister]
  norm_num
  congr 1
  omega

theorem pcWord_eq (s : State) (k : Nat) : (s.slot k).trap.pcWord = systemRegister s k 5 := by
  simp only [TrapSt.pcWord, systemRegister]
  norm_num
  congr 1
  omega

theorem cxstatWord_eq (s : State) (k : Nat) : (s.tile (k / 8)).cxstat = systemRegister s k 0x22 := by
  simp only [Tile.cxstat, cxstat_eq, systemRegister]
  norm_num

/-- The format registers and channel handles are the registers without a number of their own. -/
theorem readSys_indexed (s : State) (k r : Nat) (h : 0x10 ≤ r) (h' : r < 0x20 ∨ 0x22 < r) : s.readSys k r = systemRegister s k r := by
  have hs : systemRegister s k r =
      if r < 0x20 then ((s.tile (k / 8)).fmt.get 0 (r - 0x10)).setWidth 64 else ((s.slot k).chans.get 0 (r - 0x40)).setWidth 64 := by
    have hr : ∀ m, m < 0x10 ∨ (0x20 ≤ m ∧ m ≤ 0x22) → r ≠ m := fun m hm e => by omega
    simp [systemRegister, hr]
  rw [hs]
  unfold State.readSys
  split <;> first | omega | rfl

/-- R32: what GETX reads is the register of the statement. -/
theorem readSys_eq (s : State) (k r : Nat) (h : sysReadable r = true) : s.readSys k r = systemRegister s k r := by
  by_cases hi : 0x10 ≤ r ∧ (r < 0x20 ∨ 0x22 < r)
  · exact readSys_indexed s k r hi.1 hi.2
  · have hr : r = 2 ∨ r = 4 ∨ r = 5 ∨ r = 0x22 ∨ r ∈ [0, 1, 3, 6, 8, 9, 10, 11, 0x20, 0x21] := by
      simp only [sysReadable, Bool.or_eq_true, Bool.and_eq_true, decide_eq_true_eq] at h
      simp only [List.mem_cons, List.not_mem_nil, or_false]
      omega
    obtain rfl | rfl | rfl | rfl | hr := hr
    · exact slotst_eq s k
    · exact causeWord_eq s k
    · exact pcWord_eq s k
    · exact cxstatWord_eq s k
    · fin_cases hr
      all_goals rfl

/-- R7, R121: the values that a SETX refuses. -/
theorem setxRefused_iff (r : Nat) (v : Word) : setxRefused r v = true ↔ valueRefused r v := by
  have hv := v.isLt
  have top : fld v.toNat 15 49 = v.toNat / 2 ^ 15 := fld_top hv
  have high : fld v.toNat 32 32 = v.toNat / 2 ^ 32 := fld_top hv
  unfold setxRefused valueRefused
  dsimp only
  split
  · simp only [top, Bool.or_eq_true, bne_iff_ne, fld_eq]
    norm_num
  · split
    · simp only [high, fmtRefused, flag_iff, Bool.or_eq_true, bne_iff_ne, beq_iff_eq, fld_eq]
      norm_num [or_assoc]
    · simp only [high, Bool.or_eq_true, bne_iff_ne, fld_eq]

/-- R119, R256: the scalar of a GETX: at once in guarded mode, two slot cycles later in exposed mode. -/
theorem done_commit_scalar {s : State} {k x : Nat} (hb : s.bundle = false) (lat : Nat) (d : BitVec 5) (v : Word) (h : Hdr) (len : Nat) :
    done s (s.commit k x lat [.scalar d v]) k x h len = done s (receives s k x lat d v) k x h len := by
  cases e : (s.slot k).exposed with
  | true => simp [State.commit, receives, landing, e]
  | false =>
    have hc : s.commit k x lat [.scalar d v] = s.setSlot k { s.slot k with regs := writeScalar (s.slot k).regs d v } :=
      s.commit_guarded k x lat _ e hb
    have hr : receives s k x lat d v = received s k d v := by simp [receives, e]
    rw [hc, hr]
    by_cases hd : d = 0
    · subst hd
      exact setSlot_same s k x h len
    · simp only [received, writeScalar, if_neg hd]

theorem getx_reads {h : Hdr} {d : BitVec 5} {r : BitVec 14} {s : State} {k x : Nat} (a : Issues s k x (.getx h d r) h)
    (hr : sysReadable r.toNat = true) :
    exec (.getx h d r) s = .next (done s (receives s k x 2 d (systemRegister s k r.toNat)) k x h 1) := by
  change Host.Outcome.next (s.issueCore _ h 1 _) = _
  rw [a.issueCore, readSys_eq s k _ hr]
  exact congrArg _ (done_commit_scalar a.single 2 d _ h 1)

/-- R121: a refused value traps. -/
theorem setx_traps {h : Hdr} {d : BitVec 5} {r : BitVec 14} {s : State} {k x : Nat} (a : Issues s k x (.setx h d r) h)
    (hv : valueRefused r.toNat (readScalar (s.slot k).regs d)) :
    Traps s k x (.setx h d r) 1 (readScalar (s.slot k).regs d) := by
  change Host.Outcome.next (s.issueCore _ h 1 _) = _
  rw [a.issueCore]
  simp [Slot.view, (setxRefused_iff _ _).2 hv, State.trapAt, a.single]

theorem setx_commits {h : Hdr} {d : BitVec 5} {r : BitVec 14} {s : State} {k x : Nat} (a : Issues s k x (.setx h d r) h)
    (hv : ¬ valueRefused r.toNat (readScalar (s.slot k).regs d)) :
    exec (.setx h d r) s = .next (done s (s.commitSys k x r.toNat (readScalar (s.slot k).regs d)) k x h 1) := by
  have hn : setxRefused r.toNat (readScalar (s.slot k).regs d) = false := by rwa [← Bool.not_eq_true, setxRefused_iff]
  change Host.Outcome.next (s.issueCore _ h 1 _) = _
  rw [a.issueCore]
  simp [Slot.view, hn]

theorem sysWritable_cases {n : Nat} (h : sysWritable n = true) : n = 1 ∨ (0x10 ≤ n ∧ n < 0x20) ∨ 0x40 ≤ n := by
  simp only [sysWritable, Bool.or_eq_true, Bool.and_eq_true, decide_eq_true_eq, beq_iff_eq] at h
  omega

/-- Settles O27: GETX and SETX issue as any word does, and a SETX lands as its cycle ends. -/
theorem systemRegisterWords : Obligations.SystemRegisterWords := by
  unfold Obligations.SystemRegisterWords
  refine ⟨fun h d r s k x a hr => getx_reads a hr, fun h d r s k x a _ => ⟨setx_traps a, setx_commits a⟩, ?_⟩
  intro s k x n due v hn hp
  rcases sysWritable_cases hn with rfl | ⟨hlo, hhi⟩ | hlo
  · have hw := State.slotTick_sys s k x 1 due v hp (by rw [State.writeSys_fpcsr]; simp)
    obtain ⟨ht, hm, hf, hc, hr, hq, hu⟩ := hw.shows
    rw [State.writeSys_fpcsr] at *
    simp only [State.slot_setSlot] at *
    exact ⟨fun _ => ⟨hf, hc⟩, by omega, by omega, hr, hq, hu, hm⟩
  · have hw := State.slotTick_sys s k x n due v hp (by rw [State.writeSys_format _ _ _ _ hlo hhi]; simp)
    obtain ⟨ht, hm, hf, hc, hr, hq, hu⟩ := hw.shows
    rw [State.writeSys_format _ _ _ _ hlo hhi] at *
    simp only [State.slot_setTile, State.slot_setSlot, State.tile_setTile] at *
    exact ⟨by omega, fun _ _ => ⟨ht, hf⟩, by omega, hr, hq, hu, hm⟩
  · have hw := State.slotTick_sys s k x n due v hp (by rw [State.writeSys_handle _ _ _ _ hlo]; simp)
    obtain ⟨ht, hm, hf, hc, hr, hq, hu⟩ := hw.shows
    rw [State.writeSys_handle _ _ _ _ hlo] at *
    simp only [State.slot_setSlot] at *
    exact ⟨by omega, by omega, fun _ => ⟨hc, hf⟩, hr, hq, hu, hm⟩

end Sys2Proof.Claims
end

section
/-! Invalidations (R352), the pilot's register writes (R36, R248, R346, R398, R432) and the meridian clock (R410, R411). -/

namespace Sys2Proof.Machine

/-! ## TXINV -/

/-- R352: an access of the slot may have used what the invalidation `w` removes. -/
theorem State.accessesOver_iff (s : State) (d w : Nat) : s.accessesOver d w = true ↔
    ∀ p ∈ s.slots, dieOf p.1 = d → (w / 16 % 4 = 3 ∨ p.2.task.asid = w / 2 ^ 56 % 256) →
      ∀ o ∈ p.2.ops, o.done = true ∨ o.kind.locs = [] := by
  have hk : fld w 4 2 = w / 16 % 4 := rfl
  have ha : fld w 56 8 = w / 2 ^ 56 % 256 := rfl
  simp only [State.accessesOver, hk, ha, List.all_eq_true, Bool.or_eq_true, Bool.and_eq_true, bne_iff_ne, List.isEmpty_iff]
  refine forall₂_congr fun p _ => ?_
  simp only [ne_eq, imp_iff_not_or, not_or, or_assoc]

/-- R352: what each kind of invalidation removes. -/
theorem Die.invalidate_pages (d : Die) (w : Nat) (h : w / 16 % 4 = 0) :
    d.invalidate w = { d with pages := d.pages.filter fun p => !p.hit w } := by
  have hk : fld w 4 2 = 0 := h
  simp only [Die.invalidate, hk]

theorem Die.invalidate_chart (d : Die) (w : Nat) (h : w / 16 % 4 = 1) :
    d.invalidate w = { d with charts := d.charts.filter fun l => l.1 != w / 2 ^ 56 % 256 } := by
  have hk : fld w 4 2 = 1 := h
  simp only [Die.invalidate, hk]
  rfl

theorem Die.invalidate_asid (d : Die) (w : Nat) (h : w / 16 % 4 = 2) :
    d.invalidate w = { d with charts := d.charts.filter fun l => l.1 != w / 2 ^ 56 % 256
                              pages := d.pages.filter fun p => p.asid != w / 2 ^ 56 % 256 } := by
  have hk : fld w 4 2 = 2 := h
  simp only [Die.invalidate, hk]
  rfl

theorem Die.invalidate_all (d : Die) (w : Nat) (h : w / 16 % 4 = 3) : d.invalidate w = { d with charts := [], pages := [] } := by
  have hk : fld w 4 2 = 3 := h
  simp only [Die.invalidate, hk]

/-- R352: the pages that an invalidation of a range names. -/
theorem PageLine.hit_iff (p : PageLine) (w : Nat) : p.hit w = true ↔
    p.asid = w / 2 ^ 56 % 256 ∧ p.base < w / 2 ^ 12 % 2 ^ 44 * 4096 / (4096 * 2 ^ (w / 2 ^ 6 % 64)) * (4096 * 2 ^ (w / 2 ^ 6 % 64)) +
      4096 * 2 ^ (w / 2 ^ 6 % 64) ∧
      w / 2 ^ 12 % 2 ^ 44 * 4096 / (4096 * 2 ^ (w / 2 ^ 6 % 64)) * (4096 * 2 ^ (w / 2 ^ 6 % 64)) < p.base + p.size := by
  simp only [PageLine.hit, Bool.and_eq_true, beq_iff_eq, decide_eq_true_eq, and_assoc]
  rfl

/-! ## Channel-class regions (R398) -/

/-- The segments of a region are 64 KiB apart from its base on. -/
theorem ChanRegion.mem_segments (r : ChanRegion) (a : Nat) : a ∈ r.segments ↔
    r.base ≤ a ∧ (a - r.base) % 65536 = 0 ∧ (a - r.base) / 65536 < (r.limit - r.base) / 65536 := by
  simp only [ChanRegion.segments, List.mem_map, List.mem_range]
  constructor
  · rintro ⟨j, hj, rfl⟩
    omega
  · rintro ⟨h, hm, hd⟩
    exact ⟨(a - r.base) / 65536, hd, by omega⟩

theorem State.addRegion_fits (s : State) (d : Nat) (r : ChanRegion) (hn : (s.die d).regions.length < 16) (hb : r.base % 65536 = 0)
    (hl : r.limit % 65536 = 0) (hlt : r.base < r.limit) :
    s.addRegion d r = { s with sumpFree := s.sumpFree.set (256 * d + r.asid) (s.sumpFree.get [] (256 * d + r.asid) ++
      r.segments.filter fun a => !((s.die d).regions.any fun q => q.asid == r.asid && q.segments.contains a)) }.setDie d
        { s.die d with regions := (s.die d).regions ++ [r] } := by
  unfold State.addRegion
  rw [if_neg]
  · rfl
  · simp [hb, hl]
    omega

end Sys2Proof.Machine

namespace Sys2Proof.Claims
open Sys2Proof.Machine

/-- R352: a write to TXINV is the write of the statement. -/
theorem writeTxinv_eq (s : State) (d w : Nat) : s.writeTxinv d (BitVec.ofNat 64 w) = txinvWritten s d w := by
  have hgo : flag (w % 2 ^ 64) 0 = decide (w % 2 = 1) := by
    rw [Bool.eq_iff_iff, flag_iff, decide_eq_true_eq]
    omega
  simp only [State.writeTxinv, State.modDie_eq, txinvWritten, BitVec.toNat_ofNat, hgo, decide_eq_true_eq]
  cases e : flag (s.die d).txinv.toNat 1
  · have e' := (flag_eq_false_iff _ _).1 e
    simp at e'
    simp [e']
  · have e' := (flag_iff _ _).1 e
    simp at e'
    simp [e']

/-- R352: the event of a TXINV write starts an invalidation of its own kind. -/
theorem txinvEvent_of_go (s : State) (what : Nat) (hgo : s.inp.a % 2 = 1) (hk : s.inp.a / 16 % 4 = what) :
    s.txinvEvent what = txinvWritten s s.inp.unit s.inp.a := by
  have h0 : flag s.inp.a 0 = true := by rw [flag_iff]; omega
  have hf : (fld s.inp.a 4 2 == what) = true := beq_iff_eq.2 hk
  rw [State.txinvEvent, if_pos (by simp [h0, hf]), writeTxinv_eq]

/-- R352: before its accesses are over, or once it is DONE, an invalidation does nothing. -/
theorem txinvDone_idle (s : State) (h : (s.die s.inp.unit).txinv.toNat / 2 % 2 = 1 ∨
    s.accessesOver s.inp.unit (s.die s.inp.unit).txinv.toNat = false) : exec .txinvDone s = .next s := by
  have hc : (flag (s.die s.inp.unit).txinv.toNat 1 || !s.accessesOver s.inp.unit (s.die s.inp.unit).txinv.toNat) = true := by
    rcases h with h | h
    · simp [(flag_iff _ 1).2 h]
    · simp [h]
  exact congrArg Host.Outcome.next (if_pos hc)

/-- R352: the state in which the invalidation has removed what it names, and DONE is set. -/
theorem txinvDone_removes (s : State) (h0 : (s.die s.inp.unit).txinv.toNat / 2 % 2 = 0)
    (h : s.accessesOver s.inp.unit (s.die s.inp.unit).txinv.toNat = true) :
    exec .txinvDone s = .next (s.setDie s.inp.unit { (s.die s.inp.unit).invalidate (s.die s.inp.unit).txinv.toNat with
      txinv := BitVec.ofNat 64 ((s.die s.inp.unit).txinv.toNat + 2) }) := by
  have hc : ¬ (flag (s.die s.inp.unit).txinv.toNat 1 || !s.accessesOver s.inp.unit (s.die s.inp.unit).txinv.toNat) = true := by
    simp [h, (flag_eq_false_iff _ 1).2 h0]
  exact congrArg Host.Outcome.next (if_neg hc)

/-- R352: DONE is bit 1 of TXINV. -/
theorem txinv_done_of_add_two {w : Word} (h : w.toNat / 2 % 2 = 0) : (BitVec.ofNat 64 (w.toNat + 2)).toNat / 2 % 2 = 1 := by
  have := w.isLt
  rw [BitVec.toNat_ofNat]
  omega

theorem ashareOf_legal {n : Nat} (h : n % 4 ≠ 3) (h' : n / 4 % 16 ≤ 6) : ashareOf n = some (BitVec.ofNat 64 (n % 64)) := by
  have e : ¬ (fld n 0 2 = 3 ∨ 6 < fld n 2 4) := by simp only [fld_eq]; omega
  exact if_neg e

theorem ashareOf_reserved {n : Nat} (h : n % 4 = 3 ∨ 6 < n / 4 % 16) : ashareOf n = none := by
  have e : fld n 0 2 = 3 ∨ 6 < fld n 2 4 := by simp only [fld_eq]; omega
  exact if_pos e

/-- R36, R248, R346, R398, R432: the pilot's register writes, by the number of the register. -/
theorem registerWrite_ashare (s : State) (hx : s.inp.x = 0) (h : s.inp.a % 4 ≠ 3) (h' : s.inp.a / 4 % 16 ≤ 6) :
    exec .registerWrite s = .next (s.setTile s.inp.unit { s.tile s.inp.unit with
      ashare := BitVec.ofNat 64 (s.inp.a % 64), window := s.cycle }) := by
  change execRegisterWrite s = _
  simp only [execRegisterWrite, hx, ashareOf_legal h h', State.modTile_eq]

theorem registerWrite_ashare_reserved (s : State) (hx : s.inp.x = 0) (h : s.inp.a % 4 = 3 ∨ 6 < s.inp.a / 4 % 16) :
    exec .registerWrite s = .next s := by
  change execRegisterWrite s = _
  simp only [execRegisterWrite, hx, ashareOf_reserved h]

theorem registerWrite_agelim (s : State) (hx : s.inp.x = 1) :
    exec .registerWrite s = .next { s with agelim := s.agelim.set s.inp.unit (s.inp.a % 65536) } := by
  change execRegisterWrite s = _
  simp only [execRegisterWrite, hx, agelimOf]

theorem registerWrite_asid (s : State) (hx : s.inp.x = 2) (ha : s.inp.a % 32 = 0) (hb : s.inp.b ≤ 4096) (hc : s.inp.c % 4096 = 0) :
    exec .registerWrite s =
      .next { s with asids := s.asids.set s.inp.unit { chart := s.inp.a, nchart := s.inp.b, root := s.inp.c } } := by
  have hf : ¬ (s.inp.a % 32 != 0 || decide (4096 < s.inp.b) || s.inp.c % 4096 != 0) = true := by simp [ha, hb, hc]
  change execRegisterWrite s = _
  simp only [execRegisterWrite, hx, if_neg hf]

theorem registerWrite_rres (s : State) (hx : s.inp.x = 3) (ha : s.inp.a % 2 ^ 20 = 0) (hb : s.inp.a ≤ 2 ^ 25)
    (hc : ∀ p ∈ s.chans, p.1 / 4096 = s.inp.unit → p.2.isOpen = false) :
    exec .registerWrite s = .next (s.setDie s.inp.unit { s.die s.inp.unit with rres := s.inp.a }) := by
  have ho : (List.any s.chans fun p => p.1 / 4096 == s.inp.unit && p.2.isOpen) = false := by
    rw [List.any_eq_false]
    intro p hp
    simp only [Bool.and_eq_true, beq_iff_eq, not_and, Bool.not_eq_true]
    exact hc p hp
  have hf : ¬ (s.inp.a % 0x100000 != 0 || decide (0x2000000 < s.inp.a) ||
      List.any s.chans fun p => p.1 / 4096 == s.inp.unit && p.2.isOpen) = true := by
    rw [ho]
    simp only [Bool.or_false, Bool.or_eq_true, bne_iff_ne, decide_eq_true_eq]
    omega
  change execRegisterWrite s = _
  simp only [execRegisterWrite, hx, if_neg hf, State.modDie_eq]

theorem registerWrite_region (s : State) (hx : s.inp.x = 4) :
    exec .registerWrite s = .next (s.addRegion s.inp.unit { asid := s.inp.a, base := s.inp.b, limit := s.inp.c }) := by
  change execRegisterWrite s = _
  simp only [execRegisterWrite, hx]

theorem registerWrite_reserve (s : State) (hx : s.inp.x = 6) (ha : s.inp.a % 256 = 0) (hb : s.inp.a ≤ 2 ^ 24) :
    exec .registerWrite s = .next { s with cairnFree := s.cairnFree.set s.inp.unit (s.inp.a - s.cairnUsed s.inp.unit) } := by
  have hf : ¬ (s.inp.a % 256 != 0 || decide (2 ^ 24 < s.inp.a)) = true := by
    simp only [Bool.or_eq_true, bne_iff_ne, decide_eq_true_eq]
    omega
  change execRegisterWrite s = _
  simp only [execRegisterWrite, hx, if_neg hf]

/-- R411: a Sync of another domain is nothing. -/
theorem ptpMessage_otherDomain (s : State) (h : s.inp.unit ≠ s.clock.domain) : exec .ptpMessage s = .next s :=
  congrArg Host.Outcome.next (if_pos h)

theorem ptpHoldover_late (s : State) (hl : s.clock.locked = true) (h : s.clock.lastSync + 2000000000 ≤ s.mtime.toNat) :
    exec .ptpHoldover s = .next { s with clock := { s.clock with holdover := true } } :=
  congrArg Host.Outcome.next (if_pos (by simp [hl, h]))

theorem ptpHoldover_early (s : State) (h : s.mtime.toNat < s.clock.lastSync + 2000000000) : exec .ptpHoldover s = .next s :=
  congrArg Host.Outcome.next (if_neg (by simp; omega))

/-- R411: what a Sync of the own domain makes of the clock: a step forward of more than 100 µs, or a slew. -/
theorem ptpMessage_ownDomain (s : State) (h : s.inp.unit = s.clock.domain) :
    exec .ptpMessage s = .next (if s.inp.x = 0 ∧ 100000 < s.inp.a then
      { s with mtime := s.mtime + BitVec.ofNat 64 s.inp.a, clock := { s.clock with
        locked := true, holdover := false, part := 0, slew := 0, lastSync := s.mtime.toNat + s.inp.a } }
    else { s with clock := { s.clock with
        locked := true, holdover := false, part := 0, lastSync := s.mtime.toNat
        slew := if s.inp.x = 0 then (s.inp.a : Int) else -(s.inp.a : Int) } }) :=
  congrArg Host.Outcome.next (if_neg (not_not.2 h))

/-- R352: what stays of charts and pages at the end of an invalidation. -/
theorem mem_kept_pages (d : Die) (w : Nat) (p : PageLine) : p ∈ d.pages.filter (fun p => !p.hit w) ↔ p ∈ d.pages ∧ ¬ p.hit w = true := by
  simp

theorem mem_kept_of_ne {α : Type} (l : List α) (f : α → Nat) (a : Nat) (p : α) : p ∈ l.filter (fun p => f p != a) ↔ p ∈ l ∧ f p ≠ a := by
  simp

/-- R352: TXINV_DONE. -/
theorem txinvDone_clauses (s : State) :
    let i := s.inp
    let dd := s.die i.unit
    let w := dd.txinv.toNat
    let asid := w / 2 ^ 56 % 256
    let span := 4096 * 2 ^ (w / 2 ^ 6 % 64)
    let base := w / 2 ^ 12 % 2 ^ 44 * 4096 / span * span
    w / 2 % 2 = 0 → s.accessesOver i.unit w = true → ∃ t, exec .txinvDone s = .next t ∧ t.mem = s.mem ∧ t.slots = s.slots ∧
      (t.die i.unit).txinv.toNat / 2 % 2 = 1 ∧
      (w / 16 % 4 = 0 → (t.die i.unit).charts = dd.charts ∧ ∀ p, p ∈ (t.die i.unit).pages ↔ p ∈ dd.pages ∧
        ¬ (p.asid = asid ∧ p.base < base + span ∧ base < p.base + p.size)) ∧
      (w / 16 % 4 = 1 → (∀ p, p ∈ (t.die i.unit).charts ↔ p ∈ dd.charts ∧ p.1 ≠ asid) ∧ (t.die i.unit).pages = dd.pages) ∧
      (w / 16 % 4 = 2 → (∀ p, p ∈ (t.die i.unit).charts ↔ p ∈ dd.charts ∧ p.1 ≠ asid) ∧ ∀ p, p ∈ (t.die i.unit).pages ↔ p ∈ dd.pages ∧ p.asid ≠ asid) ∧
      (w / 16 % 4 = 3 → (t.die i.unit).charts = [] ∧ (t.die i.unit).pages = []) := by
  intro i dd w asid span base h0 h
  refine ⟨_, txinvDone_removes s h0 h, rfl, rfl, ?_⟩
  simp only [i, State.die_setDie]
  refine ⟨txinv_done_of_add_two h0, fun hk => ?_, fun hk => ?_, fun hk => ?_, fun hk => ?_⟩
  · rw [Die.invalidate_pages _ _ hk]
    exact ⟨rfl, fun p => (mem_kept_pages _ _ p).trans (and_congr_right' (not_congr (PageLine.hit_iff p _)))⟩
  · rw [Die.invalidate_chart _ _ hk]
    exact ⟨fun p => mem_kept_of_ne dd.charts Prod.fst asid p, rfl⟩
  · rw [Die.invalidate_asid _ _ hk]
    exact ⟨fun p => mem_kept_of_ne dd.charts Prod.fst asid p, fun p => mem_kept_of_ne dd.pages PageLine.asid asid p⟩
  · rw [Die.invalidate_all _ _ hk]
    exact ⟨rfl, rfl⟩

/-- The arithmetic by which the statement names the segments of a region. -/
theorem segments_contains (q : ChanRegion) (a : Nat) : q.segments.contains a =
    (decide (q.base ≤ a) && decide ((a - q.base) % 65536 = 0) && decide ((a - q.base) / 65536 < (q.limit - q.base) / 65536)) := by
  rw [Bool.eq_iff_iff, List.contains_iff_mem, ChanRegion.mem_segments]
  simp [and_assoc]

/-- Settles O56: the events that start an invalidation, its end, the register writes and the clock, each by its own lemmas. -/
theorem invalidationAndClock : Obligations.InvalidationAndClock := by
  unfold Obligations.InvalidationAndClock
  intro s i dd
  refine ⟨?_, ?_, ?_, ptpMessage_otherDomain s, ?_, ptpHoldover_late s, ptpHoldover_early s⟩
  · intro e he hgo hk
    simp only [List.mem_cons, List.not_mem_nil, or_false] at he
    rcases he with rfl | rfl | rfl | rfl <;> exact congrArg Host.Outcome.next (txinvEvent_of_go s _ hgo hk)
  · intro w asid span base performed
    refine ⟨fun h => txinvDone_idle s (.inl h), fun _ hp => txinvDone_idle s (.inr ?_), fun h0 hp => ?_⟩
    · rw [← Bool.not_eq_true, State.accessesOver_iff]
      exact hp
    · exact txinvDone_clauses s h0 ((State.accessesOver_iff ..).2 hp)
  · refine ⟨registerWrite_ashare s, registerWrite_ashare_reserved s, registerWrite_agelim s, registerWrite_asid s, registerWrite_rres s,
      fun hx hn hb hc hlt => ?_, registerWrite_reserve s⟩
    refine ⟨_, (registerWrite_region s hx).trans (congrArg _ (s.addRegion_fits i.unit _ hn hb hc hlt)), ?_, ?_⟩
    · exact congrArg Die.regions (State.die_setDie ..)
    · simp only [segments_contains, Bool.and_assoc]
      rfl
  · intro h
    refine ⟨_, ptpMessage_ownDomain s h, ?_⟩
    by_cases hs : s.inp.x = 0 ∧ 100000 < s.inp.a
    · rw [if_pos hs]
      exact ⟨rfl, rfl, fun _ _ => ⟨rfl, rfl⟩, fun _ hle => absurd hs.2 (Nat.not_lt.2 hle), fun hx => absurd hs.1 hx, rfl, rfl⟩
    · rw [if_neg hs]
      exact ⟨rfl, rfl, fun hx hlt => absurd ⟨hx, hlt⟩ hs, fun hx _ => ⟨rfl, if_pos hx⟩, fun hx => ⟨rfl, if_neg hx⟩, rfl, rfl⟩

end Sys2Proof.Claims
end

section
/-! Task records as the pilot reads them (R377, R382, R412), ready queues (R380), and binding (R383, R388, R413). -/

namespace Sys2Proof.Machine

/-! ## Tables and registers written one after another -/

/-- A table whose entries are mapped reads the mapped entry. -/
theorem Tab.find_map {α : Type} (t : Tab α) (f : α → α) (k : Nat) :
    Tab.find? (t.map fun p : Nat × α => (p.1, f p.2)) k = (t.find? k).map f := by
  induction t with
  | nil => rfl
  | cons p t ih =>
    obtain ⟨j, v⟩ := p
    simp only [List.map_cons, Tab.find?]
    split
    · rfl
    · exact ih

theorem Tab.get_map {α : Type} (d : α) (t : Tab α) (f : α → α) (k : Nat) (h : f d = d) :
    Tab.get d (t.map fun p : Nat × α => (p.1, f p.2)) k = f (t.get d k) := by
  unfold Tab.get
  rw [Tab.find_map]
  cases t.find? k with
  | none => exact h.symm
  | some v => rfl

theorem Tab.find_append {α : Type} (t u : Tab α) (k : Nat) : Tab.find? (t ++ u) k = (Tab.find? t k).or (Tab.find? u k) := by
  induction t with
  | nil => rfl
  | cons p t ih =>
    simp only [List.cons_append, Tab.find?]
    split
    · rfl
    · exact ih

/-- A table made of some of the numbers below `n`, in order, holds what those give. -/
theorem Tab.find_range {α : Type} (f : Nat → Option α) (n x : Nat) :
    Tab.find? ((List.range n).filterMap fun i => (f i).map fun v => (i, v)) x = if x < n then f x else none := by
  induction n with
  | zero => rfl
  | succ n ih =>
    have hl : Tab.find? ([n].filterMap fun i => (f i).map fun v => (i, v)) x = if n = x then f n else none := by
      cases e : f n <;> simp [e, Tab.find?]
    rw [List.range_succ, List.filterMap_append, Tab.find_append, ih, hl]
    rcases Nat.lt_trichotomy x n with h | h | h
    · rw [if_pos h, if_neg (by omega), if_pos (by omega), Option.or_none]
    · subst h
      simp
    · rw [if_neg (by omega), if_neg (by omega), if_neg (by omega), Option.or_none]

theorem Tab.find_range_map {α : Type} (f : Nat → α) (n x : Nat) (h : x < n) :
    Tab.find? ((List.range n).map fun i => (i, f i)) x = some (f x) := by
  have := Tab.find_range (fun i => some (f i)) n x
  rw [if_pos h] at this
  simpa [List.filterMap_eq_map] using this

/-- A scalar written is read back, but s0 (R27). -/
theorem readScalar_writeScalar (t : Tab Word) (d e : BitVec 5) (v : Word) (he : e ≠ 0) :
    readScalar (writeScalar t d v) e = if e = d then v else readScalar t e := by
  simp only [readScalar, if_neg he, writeScalar]
  by_cases hd : e = d
  · subst hd
    rw [if_neg he, if_pos rfl, Tab.get_set]
  · have hn : e.toNat ≠ d.toNat := fun h => hd (BitVec.eq_of_toNat_eq h)
    rw [if_neg hd]
    split
    · rfl
    · exact Tab.get_set_ne _ _ _ _ _ hn

theorem readPred_writePred (t : Tab Lanes) (p q : BitVec 3) (v : Lanes) (hq : q ≠ 0) :
    readPred (writePred t p v) q = if q = p then v else readPred t q := by
  simp only [readPred, if_neg hq, writePred]
  by_cases hp : q = p
  · subst hp
    rw [if_neg hq, if_pos rfl, Tab.get_set]
  · have hn : q.toNat ≠ p.toNat := fun h => hp (BitVec.eq_of_toNat_eq h)
    rw [if_neg hp]
    split
    · rfl
    · exact Tab.get_set_ne _ _ _ _ _ hn

/-- A register of `w` bits has number `n`. -/
theorem eq_ofNat_iff {w n : Nat} (hn : n < 2 ^ w) (e : BitVec w) : e = BitVec.ofNat w n ↔ e.toNat = n := by
  rw [← BitVec.toNat_inj, BitVec.toNat_ofNat, Nat.mod_eq_of_lt hn]

/-- The scalars after `n` of them have been written in order. -/
theorem readScalar_foldl (f : Nat → Word) (n : Nat) (hn : n ≤ 32) (e : BitVec 5) (h0 : e ≠ 0) :
    readScalar ((List.range n).foldl (fun t i => writeScalar t (BitVec.ofNat 5 i) (f i)) []) e = if e.toNat < n then f e.toNat else 0 := by
  induction n with
  | zero => simp only [List.range_zero, List.foldl_nil, readScalar, if_neg h0]; rfl
  | succ n ih =>
    rw [List.range_succ, List.foldl_append, List.foldl_cons, List.foldl_nil, readScalar_writeScalar _ _ _ _ h0, ih (by omega)]
    simp only [eq_ofNat_iff (show n < 2 ^ 5 by omega)]
    split
    · next hx => rw [if_pos (by omega), hx]
    · next hx => simp only [show e.toNat < n + 1 ↔ e.toNat < n by omega]

theorem readPred_foldl (f : Nat → Lanes) (n : Nat) (hn : n ≤ 8) (e : BitVec 3) (h0 : e ≠ 0) :
    readPred ((List.range n).foldl (fun t i => writePred t (BitVec.ofNat 3 i) (f i)) []) e = if e.toNat < n then f e.toNat else 0 := by
  induction n with
  | zero => simp only [List.range_zero, List.foldl_nil, readPred, if_neg h0]; rfl
  | succ n ih =>
    rw [List.range_succ, List.foldl_append, List.foldl_cons, List.foldl_nil, readPred_writePred _ _ _ _ h0, ih (by omega)]
    simp only [eq_ofNat_iff (show n < 2 ^ 3 by omega)]
    split
    · next hx => rw [if_pos (by omega), hx]
    · next hx => simp only [show e.toNat < n + 1 ↔ e.toNat < n by omega]

/-! ## Ready queues (R380) -/

@[simp] theorem State.unqueue_ready (s : State) (loc d : Nat) :
    (s.unqueue loc).ready.get [] d = (s.ready.get [] d).filter fun r => r.loc != loc :=
  Tab.get_map [] s.ready (fun l => l.filter fun r => r.loc != loc) d rfl

/-! ## Fields of a context area (R387) -/

theorem flag_eq_testBit (w i : Nat) : flag w i = w.testBit i := by
  rw [Bool.eq_iff_iff, flag_iff, Nat.testBit_eq_decide_div_mod_eq, decide_eq_true_eq]

/-- R7: an FPCSR of an area keeps bits 14:10 and 6:0. -/
theorem fpcsr_of_area (n i : Nat) (hi : i < 64) : (BitVec.ofNat 64 (n % 2 ^ 15 / 2 ^ 10 * 2 ^ 10 + n % 2 ^ 7)).getLsbD i =
    (n.testBit i && (decide (i < 7) || decide (10 ≤ i ∧ i < 15))) := by
  have hb : n % 2 ^ 7 < 2 ^ 10 := by omega
  rw [BitVec.getLsbD_ofNat, Nat.mul_comm, Nat.testBit_two_pow_mul_add _ hb, decide_eq_true hi, Bool.true_and]
  split
  · next h =>
    have : ¬ (10 ≤ i ∧ i < 15) := by omega
    rw [Nat.testBit_mod_two_pow, decide_eq_false this, Bool.or_false, Bool.and_comm]
  · next h =>
    have h7 : ¬ i < 7 := by omega
    have he : i - 10 + 10 = i := by omega
    simp only [Nat.testBit_div_two_pow, Nat.testBit_mod_two_pow, he, h7, decide_false, Bool.false_or]
    rw [Bool.and_comm]
    congr 1
    simp only [decide_eq_decide]
    omega

/-- R387: a stream's PC and whether it has ended lead its 39 bytes. -/
theorem Stream.ofArea_pc (st : Stream) (n : Nat) (rest : List Nat) : (st.ofArea n rest).ctl.pc = n % 2 ^ 15 := rfl

theorem Stream.ofArea_ended (st : Stream) (n : Nat) (rest : List Nat) : (st.ofArea n rest).ended = n.testBit 15 :=
  flag_eq_testBit n 15

theorem Stream.ofArea_wait (st : Stream) (n : Nat) (rest : List Nat) : (st.ofArea n rest).wait = none := rfl

/-- R388: a restored slot's streams come from its area. -/
theorem Slot.restored_stream (sl : Slot) (rd : Nat → Nat → Nat) (x : Nat) (hx : x < 4) : (sl.restored rd).stream x =
    (sl.stream x).ofArea (rd (0x1C0 + 39 * x) 39) ((List.range 4).map fun i => rd (0x3B0 + 12 * x + 3 * i) 3) := by
  rw [Slot.stream, Tab.get, show (sl.restored rd).streams = (List.range 4).map fun x =>
    (x, (sl.stream x).ofArea (rd (0x1C0 + 39 * x) 39) ((List.range 4).map fun i => rd (0x3B0 + 12 * x + 3 * i) 3)) from rfl,
    Tab.find_range_map _ _ _ hx]

theorem Slot.restored_reg (sl : Slot) (rd : Nat → Nat → Nat) (i : BitVec 5) :
    readScalar (sl.restored rd).regs i = if i = 0 then 0 else BitVec.ofNat 64 (rd (8 * i.toNat) 8) := by
  by_cases hi : i = 0
  · rw [readScalar, if_pos hi, if_pos hi]
  · rw [if_neg hi, Slot.restored]
    dsimp only
    rw [readScalar_foldl (fun i => BitVec.ofNat 64 (rd (8 * i) 8)) 32 (Nat.le_refl _) i hi, if_pos i.isLt]

theorem Slot.restored_pred (sl : Slot) (rd : Nat → Nat → Nat) (i : BitVec 3) (hi : i ≠ 0) :
    readPred (sl.restored rd).preds i = BitVec.ofNat 128 (rd (0x100 + 16 * i.toNat) 16) := by
  rw [Slot.restored]
  dsimp only
  rw [readPred_foldl (fun i => BitVec.ofNat 128 (rd (0x100 + 16 * i) 16)) 8 (Nat.le_refl _) i hi, if_pos i.isLt]

/-! ## Numbers in bytes -/

theorem leNat_lt (l : List Byte) : leNat l < 256 ^ l.length := by
  induction l with
  | nil => simp [leNat]
  | cons b l ih =>
    have := b.isLt
    simp only [leNat, List.length_cons, Nat.pow_succ]
    omega

theorem Memory.readBytes_eq_map (m : Memory) (a n : Nat) : Memory.readBytes m a n = (List.range n).map fun j => Memory.read m (a + j) := by
  induction n generalizing a with
  | zero => rfl
  | succ n ih =>
    rw [Memory.readBytes, ih, List.range_succ_eq_map, List.map_cons, List.map_map]
    refine congrArg₂ List.cons rfl (List.map_congr_left fun j _ => ?_)
    simp only [Function.comp_apply]
    congr 1
    omega

end Sys2Proof.Machine

namespace Sys2Proof.Claims
open Sys2Proof.Machine

/-! ## Records -/

@[simp] theorem recField_eq (s : State) (loc off n : Nat) : s.recField loc off n = recordField s loc off n := by
  unfold State.recField recordField Memory.readLe
  rw [Memory.readBytes_eq_map]
  cases isRemote loc <;> rfl

theorem recordField_lt (s : State) (loc off n : Nat) : recordField s loc off n < 256 ^ n := by
  have := leNat_lt ((List.range n).map fun j =>
    if isRemote loc = true then Config.remoteByte s.fresh (loc + off + j) else Memory.read s.mem (loc + off + j))
  simpa [recordField] using this

theorem recAllows_iff (s : State) (loc k : Nat) : s.recAllows loc k = true ↔ placeAllows s loc k := by
  have hp := recordField_lt s loc 50 2
  have htop : fld (recordField s loc 50 2) 14 2 = recordField s loc 50 2 / 2 ^ 14 := fld_top hp
  simp only [State.recAllows, State.recPlace, recField_eq, placeAllows, htop, Bool.and_eq_true, Bool.or_eq_true, beq_iff_eq, fld_eq,
    tileOf, dieOf, coreOf, Nat.pow_zero, Nat.div_one]
  split <;> simp

theorem past_iff (s : State) (d p : Word) : s.past d p = true ↔ come s d p := by
  have : d.toNat ≠ noDeadline ↔ d ≠ BitVec.allOnes 64 := by
    rw [ne_eq, ne_eq, ← BitVec.toNat_inj, BitVec.toNat_allOnes]
    rfl
  simp [State.past, come, this]

theorem taskOf_landfall (s : State) (r : ReadyRec) (loc : Nat) : (s.taskOf r loc).landfall = landfallPoint s loc := by
  have hn : 2 ^ 64 - 1 = noDeadline := rfl
  simp only [State.taskOf, State.recLaunch, recField_eq, landfallPoint, hn]
  split
  · next h => rw [h]
  · rfl

/-- R377: the stream entries of a record. -/
theorem entries_all (s : State) (loc off : Nat) :
    s.entries loc off false = (List.range 4).map fun x => (x, recordField s loc (off + 2 * x) 2 % 32768) := by
  simp [State.entries]

theorem find_entries (s : State) (loc off x : Nat) (hx : x < 4) : (s.entries loc off true).find? x =
    if recordField s loc (off + 2 * x) 2 / 2 ^ 15 % 2 = 1 then some (recordField s loc (off + 2 * x) 2 % 32768) else none := by
  have he : s.entries loc off true = (List.range 4).filterMap fun i =>
      (if recordField s loc (off + 2 * i) 2 / 2 ^ 15 % 2 = 1 then some (recordField s loc (off + 2 * i) 2 % 32768) else none).map
        fun v => (i, v) := by
    refine List.filterMap_congr fun i _ => ?_
    simp only [recField_eq, Bool.true_and]
    by_cases h : recordField s loc (off + 2 * i) 2 / 2 ^ 15 % 2 = 1
    · rw [if_pos h, (flag_iff _ 15).2 h]
      rfl
    · rw [if_neg h, (flag_eq_false_iff _ 15).2 (by omega)]
      rfl
  rw [he, Tab.find_range, if_pos hx]

/-! ## BIND_FRESH (R383) -/

/-- The slot that a fresh task begins in: every register zero, each stream at its entry, and diverted when its landfall point has come. -/
def freshSlot (s : State) (k : Nat) (task : Task) (late : Bool) : Slot :=
  { phase := .running, task := task, debug := (s.slot k).debug, bound := s.cycle, lfpend := late, diverting := late
    streams := task.entry.map fun (e : Nat × Nat) => (e.1, { ctl := { pc := e.2 } }) }

/-- The package once the record `r` that stands at `at_` is bound to slot `k`. -/
def freshBound (s : State) (k at_ : Nat) (r : ReadyRec) : State :=
  let task := s.taskOf r at_
  let u := ((s.unqueue r.loc).writeFormats (tileOf k) task.launch).modTile (tileOf k) fun t => { t with tenant := some task.asid }
  let ctx := if task.ctx = 0 then s.inp.b % 2 ^ 56 / 256 * 256 else task.ctx
  { u with binds := u.binds.set k { ctx := ctx, record := r.va, valid := true } }.setSlot k
    (freshSlot s k task (s.past task.deadline task.landfall))

theorem bindFresh_binds (s : State) (r : ReadyRec) (at_ : Nat)
    (hr : ((s.ready.get [] (s.inp.unit / 64)).find? fun r => r.loc == s.inp.a && !r.restore && !r.cancel) = some r)
    (ho : s.recordOpen (s.inp.unit / 64) r = some at_) (hs : slotTakes s s.inp.unit at_ (recordField s at_ 48 1))
    (hst : recordField s at_ 58 1 = 0xFF) (hw : s.pilotWaits (s.inp.unit / 64) ((List.range 128).map (at_ + ·)) = false)
    (hl : s.past (s.taskOf r at_).deadline (s.taskOf r at_).landfall = true ∨ s.landfallAhead s.inp.unit = false) :
    exec .bindFresh s = .next (freshBound s s.inp.unit at_ r) := by
  obtain ⟨hf, hp, ht⟩ := hs
  change execBindFresh s = _
  have hq : (s.queueOf (dieOf s.inp.unit)).find? (fun r => r.loc == s.inp.a && !r.restore && !r.cancel) = some r := hr
  have ho' : s.recordOpen (dieOf s.inp.unit) r = some at_ := ho
  have hw' : s.pilotWaits (dieOf s.inp.unit) ((List.range 128).map (at_ + ·)) = false := hw
  have h1 : ((s.slot s.inp.unit).phase != .free || s.recStatus at_ != 0xFF || !s.recAllows at_ s.inp.unit ||
      !s.tenantFits s.inp.unit (s.recAsid at_)) = false := by
    simp only [State.recStatus, State.recAsid, recField_eq, hf, hst, (recAllows_iff s at_ _).2 hp, ht]
    rfl
  have h2 : (s.landfallAhead s.inp.unit && !s.past (s.taskOf r at_).deadline (s.taskOf r at_).landfall) = false := by
    rcases hl with h | h <;> simp [h]
  simp only [execBindFresh, hq, ho', h1, hw', h2, Bool.or_false, Bool.false_eq_true, if_false]
  rfl

theorem freshBound_slot (s : State) (k at_ : Nat) (r : ReadyRec) :
    (freshBound s k at_ r).slot k =
      freshSlot s k (s.taskOf r at_) (s.past (s.taskOf r at_).deadline (s.taskOf r at_).landfall) := State.slot_setSlot ..

theorem freshBound_bind (s : State) (k at_ : Nat) (r : ReadyRec) : (freshBound s k at_ r).bind k =
    { ctx := if (s.taskOf r at_).ctx = 0 then s.inp.b % 2 ^ 56 / 256 * 256 else (s.taskOf r at_).ctx, record := r.va, valid := true } :=
  Tab.get_set ..

theorem freshBound_tile (s : State) (k at_ : Nat) (r : ReadyRec) :
    ((freshBound s k at_ r).tile (k / 8)).tenant = some (s.taskOf r at_).asid :=
  congrArg Tile.tenant (Tab.get_set ..)

theorem freshBound_ready (s : State) (k at_ : Nat) (r : ReadyRec) (d : Nat) :
    (freshBound s k at_ r).ready.get [] d = (s.ready.get [] d).filter fun e => e.loc != r.loc := s.unqueue_ready r.loc d

/-- R377: a fresh task's streams stand at the entries of its record. -/
theorem freshSlot_stream (s : State) (k at_ : Nat) (r : ReadyRec) (late : Bool) (x : Nat) (hx : x < 4) :
    (freshSlot s k (s.taskOf r at_) late).stream x = { ctl := { pc := recordField s at_ (2 * x) 2 % 32768 } } := by
  have hs : (freshSlot s k (s.taskOf r at_) late).streams =
      (List.range 4).map fun i => (i, { ctl := { pc := recordField s at_ (0 + 2 * i) 2 % 32768 } }) := by
    simp only [freshSlot, State.taskOf, entries_all, List.map_map]
    rfl
  rw [Slot.stream, Tab.get, hs, Tab.find_range_map _ _ _ hx, Nat.zero_add]

/-- R377: what the task latches of its record. -/
theorem taskOf_fields (s : State) (r : ReadyRec) (at_ : Nat) :
    let t := s.taskOf r at_
    t.asid = recordField s at_ 48 1 ∧ t.launch = recordField s at_ 44 4 ∧ t.role = BitVec.ofNat 2 (recordField s at_ 49 1) ∧
      t.deadline = BitVec.ofNat 64 (recordField s at_ 32 8) ∧ t.landfall = landfallPoint s at_ ∧
      t.ctx = recordField s at_ 64 8 / 256 * 256 := by
  refine ⟨recField_eq .., recField_eq .., ?_, ?_, taskOf_landfall .., ?_⟩
  · exact congrArg (BitVec.ofNat 2) (recField_eq ..)
  · exact congrArg (BitVec.ofNat 64) (recField_eq ..)
  · exact congrArg (· / 256 * 256) (recField_eq ..)

/-- R412: a fresh task is late when its landfall point has come. -/
theorem late_iff (s : State) (r : ReadyRec) (at_ : Nat) : s.past (s.taskOf r at_).deadline (s.taskOf r at_).landfall = true ↔
    come s (BitVec.ofNat 64 (recordField s at_ 32 8)) (landfallPoint s at_) := by
  obtain ⟨-, -, -, hdl, hlf, -⟩ := taskOf_fields s r at_
  rw [past_iff, hdl, hlf]

/-! ## BIND_RESTORE (R388) -/

/-- R387: a field of the context area at these locations. -/
def areaField (s : State) (locs : List Nat) (off n : Nat) : Nat := leNat (((locs.drop off).take n).map (Memory.read s.mem))

/-- The slot that a saved task goes on in, from what its area holds; `late` when its landfall point has come. -/
def restoredSlot (s : State) (k : Nat) (v : Saved) (locs : List Nat) (late : Bool) : Slot :=
  let sl := v.slot.restored (areaField s locs)
  { sl with debug := (s.slot k).debug, bound := s.cycle, lfpend := sl.lfpend || (late && !sl.lfrun), diverting := (late || sl.lfpend) && !sl.lfrun }

/-- The package once the saved task `v` of the record `r` is bound to slot `k`. -/
def restoredBound (s : State) (k : Nat) (r : ReadyRec) (v : Saved) (locs : List Nat) : State :=
  let t : State := { s.unqueue r.loc with saved := s.saved.filter fun u => u.slot.task.loc != r.loc }
  let u := (t.moveEnds v.k k).modTile (tileOf k) fun t => { t with tenant := some v.slot.task.asid }
  { u with binds := u.binds.set k { ctx := v.ctx, record := r.va, restore := true, valid := true } }.setSlot k
    (restoredSlot s k v locs (r.landfall || s.past v.slot.task.deadline v.slot.task.landfall))

theorem bindRestore_binds (s : State) (r : ReadyRec) (v : Saved) (at_ : Nat) (locs : List Nat)
    (hr : ((s.ready.get [] (s.inp.unit / 64)).find? fun r => r.loc == s.inp.a && r.restore) = some r)
    (hv : (s.saved.find? fun v => v.slot.task.loc == s.inp.a) = some v) (hst : v.stale = false)
    (ho : s.recordOpen (s.inp.unit / 64) r = some at_) (hs : slotTakes s s.inp.unit at_ v.slot.task.asid)
    (hw : s.pilotWaits (s.inp.unit / 64) ((List.range 128).map (at_ + ·)) = false)
    (hl : r.landfall = true ∨ s.past v.slot.task.deadline v.slot.task.landfall = true ∨ s.landfallAhead s.inp.unit = false)
    (ha : s.areaLocs (s.inp.unit / 64) v.slot.task.asid v.ctx v.pool .read = .ok locs) (hm : ∀ l ∈ locs, s.marked l = false) :
    exec .bindRestore s = .next (restoredBound s s.inp.unit r v locs) := by
  obtain ⟨hf, hp, ht⟩ := hs
  have hq : (s.queueOf (dieOf s.inp.unit)).find? (fun r => r.loc == s.inp.a && r.restore) = some r := hr
  have ho' : s.recordOpen (dieOf s.inp.unit) r = some at_ := ho
  have ha' : s.areaLocs (dieOf s.inp.unit) v.slot.task.asid v.ctx v.pool .read = .ok locs := ha
  have hw' : s.pilotWaits (dieOf s.inp.unit) ((List.range 128).map (at_ + ·)) = false := hw
  have h1 : ((s.slot s.inp.unit).phase != .free || v.stale) = false := by rw [hf, hst]; rfl
  have h2 : (s.landfallAhead s.inp.unit && !r.landfall && !s.past v.slot.task.deadline v.slot.task.landfall) = false := by
    rcases hl with h | h | h <;> simp [h]
  have hm' : locs.any ({ s.unqueue r.loc with saved := s.saved.filter fun u => u.slot.task.loc != r.loc } : State).marked = false :=
    List.any_eq_false.2 fun l hl => by rw [Bool.not_eq_true]; exact hm l hl
  change execBindRestore s = _
  simp only [execBindRestore, hq, hv, h1, ho', (recAllows_iff s at_ _).2 hp, ht, h2, hw', ha', hm', Bool.not_true, Bool.or_false,
    Bool.false_eq_true, if_false]
  rfl

@[simp] theorem State.moveEnds_mem (s : State) (a b : Nat) : (s.moveEnds a b).mem = s.mem := by
  unfold State.moveEnds
  split <;> rfl

@[simp] theorem State.moveEnds_saved (s : State) (a b : Nat) : (s.moveEnds a b).saved = s.saved := by
  unfold State.moveEnds
  split <;> rfl

theorem restoredBound_slot (s : State) (k : Nat) (r : ReadyRec) (v : Saved) (locs : List Nat) : (restoredBound s k r v locs).slot k =
    restoredSlot s k v locs (r.landfall || s.past v.slot.task.deadline v.slot.task.landfall) := State.slot_setSlot ..

theorem restoredSlot_regs (s : State) (k : Nat) (v : Saved) (locs : List Nat) (late : Bool) :
    (restoredSlot s k v locs late).regs = (v.slot.restored (areaField s locs)).regs := by dsimp only [restoredSlot]

theorem restoredSlot_preds (s : State) (k : Nat) (v : Saved) (locs : List Nat) (late : Bool) :
    (restoredSlot s k v locs late).preds = (v.slot.restored (areaField s locs)).preds := by dsimp only [restoredSlot]

theorem restoredSlot_stream (s : State) (k : Nat) (v : Saved) (locs : List Nat) (late : Bool) (x : Nat) :
    (restoredSlot s k v locs late).stream x = (v.slot.restored (areaField s locs)).stream x := by dsimp only [restoredSlot, Slot.stream]

/-- R38: a handle of the area without its reserved bits. -/
theorem restoredSlot_chans (s : State) (k : Nat) (v : Saved) (locs : List Nat) (late : Bool) :
    (restoredSlot s k v locs late).chans = (List.range 64).foldl (fun t i => Tab.set t i (BitVec.ofNat 32
      (areaField s locs (0x460 + 4 * i) 4 / 2 ^ 30 * 2 ^ 30 + areaField s locs (0x460 + 4 * i) 4 % 2 ^ 15))) [] := by
  dsimp only [restoredSlot, Slot.restored, handleBits]

theorem restoredBound_bind (s : State) (k : Nat) (r : ReadyRec) (v : Saved) (locs : List Nat) :
    (restoredBound s k r v locs).bind k = { ctx := v.ctx, record := r.va, restore := true, valid := true } := Tab.get_set ..

theorem restoredBound_saved (s : State) (k : Nat) (r : ReadyRec) (v : Saved) (locs : List Nat) :
    (restoredBound s k r v locs).saved = s.saved.filter fun u => u.slot.task.loc != r.loc := State.moveEnds_saved ..

theorem restoredBound_mem (s : State) (k : Nat) (r : ReadyRec) (v : Saved) (locs : List Nat) :
    (restoredBound s k r v locs).mem = s.mem := State.moveEnds_mem ..

/-- Settles O46: the two binding events give the two bound packages above, whose slots hold what the record or the area holds. -/
theorem tasksBind : Obligations.TasksBind := by
  unfold Obligations.TasksBind
  intro s k loc d
  constructor
  · intro r at_ fields hr ho hs hst hw late hl
    obtain ⟨hasid, hlaunch, hrole, hdl, hlf, hctx⟩ := taskOf_fields s r at_
    have hloc : r.loc = loc := by
      have := List.find?_some hr
      simp only [Bool.and_eq_true, beq_iff_eq] at this
      exact this.1.1
    have h0 : fields 64 8 / 256 * 256 = 0 ↔ fields 64 8 / 256 = 0 := by omega
    refine ⟨_, bindFresh_binds s r at_ hr ho hs hst hw (hl.imp_left (late_iff s r at_).2), ?_⟩
    rw [freshBound_slot, freshBound_bind, freshBound_tile, freshBound_ready]
    refine ⟨rfl, rfl, rfl, rfl, rfl, rfl, rfl, rfl, rfl, rfl, rfl, rfl, rfl, rfl, fun h => ?_, fun h => ?_,
      freshSlot_stream s k at_ r _, find_entries s at_ 8, hasid, hlaunch, hrole, hdl, hlf, hctx, ?_, congrArg some hasid, ?_, rfl⟩
    · exact ⟨(late_iff s r at_).2 h, (late_iff s r at_).2 h⟩
    · have hn := Bool.eq_false_iff.2 (mt (late_iff s r at_).1 h)
      exact ⟨hn, hn⟩
    · rw [hctx]
      change ({ ctx := if fields 64 8 / 256 * 256 = 0 then _ else _, record := _, valid := _ } : Bind) = _
      simp only [h0]
      rfl
    · intro e he
      rw [List.mem_filter, hloc, bne_iff_ne] at he
      exact he.2
  · intro r v at_ locs hr hv hst ho hs hw hl ha _ hm
    have hloc : r.loc = loc := by
      have := List.find?_some hr
      simp only [Bool.and_eq_true, beq_iff_eq] at this
      exact this.1
    refine ⟨_, bindRestore_binds s r v at_ locs hr hv hst ho hs hw (hl.imp_right (Or.imp_left (past_iff ..).2)) ha hm, ?_⟩
    rw [restoredBound_slot, restoredBound_bind, restoredBound_saved, restoredBound_mem]
    refine ⟨rfl, rfl, rfl, flag_eq_testBit _ 0, fun i => ?_, fun i hi => ?_, fpcsr_of_area _, fun x hx => ?_,
      restoredSlot_chans .., rfl, fun u hu => ?_, rfl⟩
    · exact (congrArg (readScalar · i) (restoredSlot_regs ..)).trans (Slot.restored_reg ..)
    · exact (congrArg (readPred · i) (restoredSlot_preds ..)).trans (Slot.restored_pred _ _ _ hi)
    · have hx' := (restoredSlot_stream s k v locs (r.landfall || s.past v.slot.task.deadline v.slot.task.landfall) x).trans (Slot.restored_stream v.slot (areaField s locs) x hx)
      exact ⟨congrArg (fun st : Stream => st.ctl.pc) hx', (congrArg Stream.ended hx').trans (Stream.ofArea_ended ..), congrArg Stream.wait hx'⟩
    · rw [List.mem_filter, hloc, bne_iff_ne] at hu
      exact hu.2

end Sys2Proof.Claims
end

section
/-! The host port (R437-R439) and how a management message takes effect (R442). -/

namespace Sys2Proof.Machine

/-! ## What goes onto the link -/

/-- Two states that differ in the host port and its device streams alone. -/
def portOnly (a b : State) : Prop := ∃ o h, b = { a with devOut := o, host := h }

theorem portOnly.refl (a : State) : portOnly a a := ⟨_, _, rfl⟩

theorem portOnly.trans {a b c : State} (h : portOnly a b) (h' : portOnly b c) : portOnly a c := by
  obtain ⟨_, _, rfl⟩ := h
  obtain ⟨o, h, rfl⟩ := h'
  exact ⟨o, h, rfl⟩

theorem portOnly.foldl {α : Type} (f : State → α → State) (h : ∀ s e, portOnly s (f s e)) (l : List α) (s : State) :
    portOnly s (l.foldl f s) := by
  induction l generalizing s with
  | nil => exact .refl s
  | cons e l ih => exact (h s e).trans (ih _)

theorem State.wire_portOnly (s : State) (i : Nat) (m : Msg) : portOnly s (s.wire i m) := by
  unfold State.wire
  split
  · exact ⟨_, _, rfl⟩
  · exact .refl s

@[simp] theorem State.wire_devOut (s : State) (i : Nat) (m : Msg) : (s.wire i m).devOut = s.devOut := by
  unfold State.wire
  split <;> rfl

theorem State.send_portOnly (s : State) (i type : Nat) (d : List Byte) : portOnly s (s.send i type d) :=
  portOnly.trans ⟨_, _, rfl⟩ (State.wire_portOnly _ i _)

theorem State.sendLong_portOnly (s : State) (i type : Nat) (d : List Byte) : portOnly s (s.sendLong i type d) := by
  unfold State.sendLong
  split
  · exact s.send_portOnly i type d
  · exact portOnly.foldl _ (fun s e => s.send_portOnly i type e) _ s

theorem State.hostAck_portOnly (s : State) (i a b : Nat) : portOnly s (s.hostAck i a b) := ⟨_, _, rfl⟩

/-- R437: a message sent is the last of its stream's, with the stream's next SEQ. -/
theorem State.send_devOut (s : State) (i type : Nat) (d : List Byte) : (s.send i type d).devOut.get {} i =
    { seq := (s.devOut.get {} i).seq + 1
      unacked := (s.devOut.get {} i).unacked ++ [{ seq := (s.devOut.get {} i).seq, type := type, data := d, sent := s.mtime.toNat }] } := by
  rw [State.send, State.wire_devOut]
  exact Tab.get_set ..

theorem State.send_devOut_ne (s : State) (i type : Nat) (d : List Byte) (j : Nat) (h : j ≠ i) :
    (s.send i type d).devOut.get {} j = s.devOut.get {} j := by
  rw [State.send, State.wire_devOut]
  exact Tab.get_set_ne _ _ _ _ _ h

/-- Sending in pieces touches no other stream, and what is unacknowledged stays so. -/
theorem State.sendAll_devOut_ne (i type j : Nat) (h : j ≠ i) (l : List (List Byte)) (s : State) :
    (l.foldl (fun s d => s.send i type d) s).devOut.get {} j = s.devOut.get {} j := by
  induction l generalizing s with
  | nil => rfl
  | cons d l ih => rw [List.foldl_cons, ih, State.send_devOut_ne _ _ _ _ _ h]

theorem State.mem_sendAll (i type : Nat) (m : Msg) (l : List (List Byte)) (s : State) (h : m ∈ (s.devOut.get {} i).unacked) :
    m ∈ ((l.foldl (fun s d => s.send i type d) s).devOut.get {} i).unacked := by
  induction l generalizing s with
  | nil => exact h
  | cons d l ih =>
    refine ih _ ?_
    rw [State.send_devOut]
    exact List.mem_append_left _ h

theorem State.sendLong_devOut_ne (s : State) (i type : Nat) (d : List Byte) (j : Nat) (h : j ≠ i) :
    (s.sendLong i type d).devOut.get {} j = s.devOut.get {} j := by
  unfold State.sendLong
  split
  · exact s.send_devOut_ne i type d j h
  · exact State.sendAll_devOut_ne i type j h _ s

/-- R437: the first message of a long payload carries its first 8,192 bytes. -/
theorem State.sendLong_first (s : State) (i type : Nat) (d : List Byte) : ∃ m ∈ ((s.sendLong i type d).devOut.get {} i).unacked,
    m.seq = (s.devOut.get {} i).seq ∧ m.type = type ∧ m.data = d.take 8192 := by
  unfold State.sendLong
  split
  · next h =>
    refine ⟨{ seq := (s.devOut.get {} i).seq, type := type, data := d, sent := s.mtime.toNat }, ?_, rfl, rfl,
      (List.take_of_length_le h).symm⟩
    rw [State.send_devOut]
    simp
  · next h =>
    obtain ⟨n, hn⟩ : ∃ n, (d.length + 8191) / 8192 = n + 1 := ⟨(d.length + 8191) / 8192 - 1, by omega⟩
    refine ⟨{ seq := (s.devOut.get {} i).seq, type := type, data := d.take 8192, sent := s.mtime.toNat }, ?_, rfl, rfl, rfl⟩
    rw [hn, chunks, List.foldl_cons]
    refine State.mem_sendAll i type _ _ _ ?_
    rw [State.send_devOut]
    simp

end Sys2Proof.Machine

namespace Sys2Proof.Claims
open Sys2Proof.Machine

/-! ## A management message in turn (R439, R442) -/

/-- R437: a message the port hears is neither dropped nor malformed. -/
theorem Hears.takes {s : State} (h : Hears s) (type : Nat) (hc : s.inp.x / 2 % 2 = 0) :
    s.hostMsg type = (State.hostSeq (heard s) s.inp.unit (s.inp.id % 2 ^ 32) type s.inp.data).ackOnly s.inp.unit type := by
  obtain ⟨hup, hver, hcount, hunit, hflags, hlen, -⟩ := h
  have h1 : ¬ (!s.host.up || s.inp.ver != 1 || s.inp.c != s.boot.count % 2 ^ 32) = true := by simp [hup, hver, hcount]
  have h2 : ¬ s.inp.malformed = true := by simp [Inp.malformed]; omega
  have h3 : ¬ flag s.inp.x 1 = true := by rw [flag_iff]; omega
  unfold State.hostMsg
  simp only [if_neg h1, if_neg h2, if_neg h3]
  rfl

/-- R439: a message in turn takes effect in the state that expects the next one, with nothing held behind it. -/
theorem InTurn.hostMsg {s : State} (h : InTurn s) (type : Nat) :
    s.hostMsg type = confirmed s type ((taken s).hostApply type s.inp.data) := by
  have hn : (s.inp.id % 2 ^ 32 + 2 ^ 32 - (heard s).host.next.get 0 s.inp.unit) % 2 ^ 32 = 0 := h.next
  have hh : ((heard s).host.held.filter fun w => w.stream == s.inp.unit) = [] := by
    rw [List.filter_eq_nil_iff]
    intro w hw
    rw [beq_iff_eq]
    exact h.alone w hw
  rw [h.hears.takes type h.carries]
  simp only [State.hostSeq, hn, hh, if_true, List.length_nil, State.hostDrain]
  rfl

/-- R452: a READY package takes management messages. -/
theorem InTurn.mgmtMsg {s : State} (h : InTurn s) (op : Nat) (hop : bytesAt s.inp.data 0 1 = op) :
    s.mgmtMsg op = confirmed s 7 ((taken s).mgmt s.inp.data) := by
  have hr : (taken s).power.recovery = false := h.well
  unfold State.mgmtMsg
  rw [if_pos hop, h.hostMsg 7]
  simp only [State.hostApply, hr, Bool.false_eq_true, if_false, bne_self_eq_false, Bool.and_false]

/-- A management operation is what its function gives, in turn. -/
theorem manages_of {i : Instr} {op : Nat} {P : State → List Byte → (State → Prop) → Prop} (f : State → List Byte → State)
    (hP : ∀ u d (runs : State → Prop), bytesAt d 0 1 = op → runs (f u d) → P u d runs)
    (hx : ∀ s, exec i s = .next (s.mgmtMsg op) := by exact fun _ => rfl)
    (hf : ∀ u d, bytesAt d 0 1 = op → u.mgmt d = f u d := by exact fun _ _ h => by simp only [State.mgmt, h]) : Manages i op P := by
  intro s hs hop
  refine hP (taken s) s.inp.data _ hop ?_
  rw [hx, hs.mgmtMsg op hop, hf _ _ hop]

end Sys2Proof.Claims
end

section
/-! The pilot's management operations (R442), one equation per case of each. -/

namespace Sys2Proof.Machine

/-- Fields behind an offset are fields of what stands behind it. -/
theorem bytesAt_drop (d : List Byte) (k o n : Nat) : bytesAt (d.drop k) o n = bytesAt d (k + o) n := by
  simp only [bytesAt, List.drop_drop]

theorem bytesAt_lt (d : List Byte) (o n : Nat) : bytesAt d o n < 256 ^ n := by
  refine Nat.lt_of_lt_of_le (leNat_lt _) (Nat.pow_le_pow_right (by decide) ?_)
  rw [List.length_take]
  exact Nat.min_le_left _ _

/-- Elements of a list, cut off one after another, are those at the multiples of their size. -/
theorem chunks_map {β : Type} (z : Nat) (f : List Byte → β) (n : Nat) (l : List Byte) :
    (chunks z n l).map f = (List.range n).map fun i => f ((l.drop (z * i)).take z) := by
  induction n generalizing l with
  | zero => rfl
  | succ n ih =>
    rw [chunks, List.map_cons, ih, List.range_succ_eq_map, List.map_cons, List.map_map]
    refine congrArg₂ List.cons rfl (List.map_congr_left fun i _ => ?_)
    rw [Function.comp_apply, List.drop_drop, Nat.mul_succ, Nat.add_comm z]

/-- R371: an accepted program has 1 to 1,024 words. -/
theorem loadCheck_length {code : List Nat} (h : loadCheck code = none) : 1 ≤ code.length ∧ code.length ≤ 1024 := by
  unfold loadCheck at h
  split at h
  · cases h
  · next hc =>
    simp only [Bool.or_eq_true, List.isEmpty_iff, decide_eq_true_eq, not_or, Nat.not_lt] at hc
    exact ⟨List.length_pos_iff.2 hc.1, hc.2⟩

/-! ## Channels (R398-R400) -/

@[simp] theorem State.chan_setChan (s : State) (c : Nat) (v : Chan) : (s.setChan c v).chan c = v := Tab.get_set ..
theorem State.chan_setChan_ne (s : State) (c : Nat) (v : Chan) (e : Nat) (h : e ≠ c) : (s.setChan c v).chan e = s.chan e :=
  Tab.get_set_ne _ _ _ _ _ h

/-- What goes to another package as a packet of no command changes the torus unit alone, and the draws. -/
theorem State.handFar_eq (s : State) (node : Nat) (pk : OutPacket) : ∃ t f, s.handFar node pk = { s with torus := t, fresh := f } := by
  unfold State.handFar
  dsimp only
  split
  · exact ⟨_, _, rfl⟩
  · split
    · exact ⟨_, _, rfl⟩
    · exact ⟨_, _, rfl⟩

theorem State.creditBack_eq (s : State) (c : Nat) : ∃ t f, s.creditBack c = { s with torus := t, fresh := f } := by
  unfold State.creditBack
  split
  · exact ⟨_, _, rfl⟩
  · exact State.handFar_eq _ _ _

/-- R398, R399: segments move from the reserve of a channel's die and address space into its entry. -/
theorem State.giveSegs_moves (s : State) (c n : Nat) :
    (s.giveSegs c n).chan c =
      { s.chan c with segs := (s.chan c).segs ++ (s.sumpFree.get [] (256 * (c / 4096) + (s.chan c).asid)).take n } ∧
    (s.giveSegs c n).sumpFree = s.sumpFree.set (256 * (c / 4096) + (s.chan c).asid)
      ((s.sumpFree.get [] (256 * (c / 4096) + (s.chan c).asid)).drop n) ∧
    ∀ e, e ≠ c → (s.giveSegs c n).chan e = s.chan e := by
  have ht : ∀ t : State, t.chans = s.chans → ∀ v f, ∀ u, (∃ x y, u = { ({ t with sumpFree := f }.setChan c v) with torus := x, fresh := y }) →
      u.chan c = v ∧ u.sumpFree = f ∧ ∀ e, e ≠ c → u.chan e = s.chan e := by
    rintro t htc v f u ⟨x, y, rfl⟩
    refine ⟨Tab.get_set .., rfl, fun e he => ?_⟩
    exact (Tab.get_set_ne _ _ _ _ _ he).trans (congrArg (fun l : Tab Chan => l.get {} e) htc)
  unfold State.giveSegs
  dsimp only
  generalize ht' : (if inHbm ((s.chan c).seglist + 8 * (s.chan c).segs.length) = true then _ else s) = t
  have htc : t.chans = s.chans := by
    rw [← ht']
    split <;> rfl
  refine ht t htc _ _ _ ?_
  split
  · exact ⟨_, _, rfl⟩
  · exact State.creditBack_eq _ c

end Sys2Proof.Machine

namespace Sys2Proof.Claims
open Sys2Proof.Machine

@[simp] theorem mgmtAnswer_eq (s : State) (d : List Byte) (st : Nat) (b : List Byte) : s.mgmtAnswer d st b = replied s d st b := rfl

theorem pow2In_iff (n : Nat) : pow2In n 16 65536 = true ↔ ringSize n := by
  simp only [pow2In, Bool.and_eq_true, decide_eq_true_eq, List.any_eq_true, List.mem_range, beq_iff_eq]
  constructor
  · rintro ⟨⟨hlo, hhi⟩, i, hi, rfl⟩
    have h4 : 4 ≤ i := by
      by_contra h
      have : i < 4 := by omega
      interval_cases i <;> omega
    have h16 : i ≤ 16 := by
      by_contra h
      have : i = 17 := by omega
      subst this
      omega
    exact ⟨i - 4, by omega, by rw [Nat.sub_add_cancel h4]⟩
  · rintro ⟨i, hi, rfl⟩
    refine ⟨?_, i + 4, by omega, rfl⟩
    interval_cases i <;> decide

end Sys2Proof.Claims
end

section
/-! QTEAR (R390): a launch that ends, and all that it stops, changes no queue. -/

namespace Sys2Proof.Machine

/-- What every step of a fold leaves as it is, the fold leaves as it is. -/
theorem foldl_keeps {α β γ : Type} (g : β → γ) {f : β → α → β} (h : ∀ s e, g (f s e) = g s) (l : List α) (s : β) :
    g (l.foldl f s) = g s := by
  induction l generalizing s with
  | nil => rfl
  | cons e l ih => exact (ih _).trans (h s e)

section
variable (s : State)

/-! ## Accessors and the memory -/

@[simp] theorem State.modSlot_hqueues (k : Nat) (f : Slot → Slot) : (s.modSlot k f).hqueues = s.hqueues := rfl
@[simp] theorem State.modTile_hqueues (t : Nat) (f : Tile → Tile) : (s.modTile t f).hqueues = s.hqueues := rfl
@[simp] theorem State.modSeg_hqueues (t g : Nat) (f : Seg → Seg) : (s.modSeg t g f).hqueues = s.hqueues := rfl
@[simp] theorem State.setEntry_hqueues (t h : Nat) (e : TileEntry) : (s.setEntry t h e).hqueues = s.hqueues := rfl
@[simp] theorem State.killJobs_hqueues (p : Job → Bool) : (s.killJobs p).hqueues = s.hqueues := rfl
@[simp] theorem State.retireOp_hqueues (id : Nat) : (s.retireOp id).hqueues = s.hqueues := rfl
@[simp] theorem State.startPreloads_hqueues (t : Nat) : (s.startPreloads t).hqueues = s.hqueues := rfl
@[simp] theorem State.fireWith_hqueues (t g site : Nat) (f : Firing) (r : Option (Nat × Tok)) (y : Tally) :
    (s.fireWith t g site f r y).hqueues = s.hqueues := rfl
@[simp] theorem State.unqueue_hqueues (loc : Nat) : (s.unqueue loc).hqueues = s.hqueues := rfl
@[simp] theorem State.dropCairns_hqueues (k : Nat) (sl : Slot) : (s.dropCairns k sl).hqueues = s.hqueues := rfl
@[simp] theorem State.takeReserve_hqueues (k n : Nat) : (s.takeReserve k n).hqueues = s.hqueues := rfl
@[simp] theorem State.orphan_hqueues (o : Nat) : (s.orphan o).hqueues = s.hqueues := rfl
@[simp] theorem State.tell_hqueues (ws : List Nat) : (s.tell ws).hqueues = s.hqueues := rfl
@[simp] theorem State.rawLocs_hqueues (l : List (Nat × Byte)) : (s.rawLocs l).hqueues = s.hqueues := rfl
@[simp] theorem State.rawRun_hqueues (a : Nat) (bs : List Byte) : (s.rawRun a bs).hqueues = s.hqueues := rfl
@[simp] theorem State.unhalt_hqueues (t : Nat) : (s.unhalt t).hqueues = s.hqueues := rfl

@[simp] theorem State.modLaunch_hqueues (n : Nat) (f : Launch → Launch) : (s.modLaunch n f).hqueues = s.hqueues := by
  unfold State.modLaunch
  split <;> rfl

@[simp] theorem State.modTask_hqueues (o : Nat) (f : Slot → Slot) : (s.modTask o f).hqueues = s.hqueues := by
  unfold State.modTask
  split <;> rfl

@[simp] theorem State.lowerCensus_hqueues (n c : Nat) : (s.lowerCensus n c).hqueues = s.hqueues := s.modLaunch_hqueues ..

theorem State.cairnSaveSlots_hqueues (n loc : Nat) : (s.cairnSaveSlots n loc).hqueues = s.hqueues := by
  unfold State.cairnSaveSlots
  refine foldl_keeps State.hqueues (fun t p => ?_) _ s
  dsimp only
  split <;> simp

theorem State.cairnSaveSaved_hqueues (n loc : Nat) : (s.cairnSaveSaved n loc).hqueues = s.hqueues := by
  unfold State.cairnSaveSaved
  refine foldl_keeps State.hqueues (fun t p => ?_) _ s
  rfl

theorem State.cairnSave_hqueues (loc : Nat) : (s.cairnSave loc).hqueues = s.hqueues := by
  unfold State.cairnSave
  exact foldl_keeps State.hqueues (fun t n => (State.cairnSaveSaved_hqueues ..).trans (t.cairnSaveSlots_hqueues ..)) _ s

@[simp] theorem State.writeLocs_hqueues (l : List (Nat × Byte)) : (s.writeLocs l).hqueues = s.hqueues := by
  unfold State.writeLocs
  rw [State.rawLocs_hqueues]
  split
  · rw [foldl_keeps State.hqueues fun t p => t.cairnSave_hqueues _]
  · rfl

@[simp] theorem State.writeRun_hqueues (a : Nat) (bs : List Byte) : (s.writeRun a bs).hqueues = s.hqueues :=
  s.writeLocs_hqueues _

@[simp] theorem State.handFar_hqueues (n : Nat) (pk : OutPacket) : (s.handFar n pk).hqueues = s.hqueues := by
  obtain ⟨t, f, h⟩ := s.handFar_eq n pk
  rw [h]

@[simp] theorem State.sendFar_hqueues (r : Option Rmw) (a : Nat) (bs : List Byte) : (s.sendFar r a bs).hqueues = s.hqueues :=
  s.handFar_hqueues _ _

@[simp] theorem State.recWrite_hqueues (loc off n v : Nat) : (s.recWrite loc off n v).hqueues = s.hqueues := by
  unfold State.recWrite
  split <;> simp

@[simp] theorem State.send_hqueues (i type : Nat) (d : List Byte) : (s.send i type d).hqueues = s.hqueues := by
  obtain ⟨o, h, e⟩ := s.send_portOnly i type d
  rw [e]

@[simp] theorem State.faultRecord_hqueues (f : FaultInfo) : (s.faultRecord f).hqueues = s.hqueues := s.send_hqueues ..
@[simp] theorem State.event_hqueues (d : List Byte) : (s.event d).hqueues = s.hqueues := s.send_hqueues ..

/-! ## Traps and steps of a tile -/

@[simp] theorem State.noteTrap_hqueues (t g seq : Nat) (on : Bool) : (s.noteTrap t g seq on).hqueues = s.hqueues := by
  unfold State.noteTrap
  split <;> simp

@[simp] theorem State.holdSite_hqueues (t g site : Nat) (f : Firing) (n : Nat) : (s.holdSite t g site f n).hqueues = s.hqueues := by
  unfold State.holdSite
  dsimp only
  split <;> simp

@[simp] theorem State.nextHeld_hqueues (t g : Nat) : (s.nextHeld t g).hqueues = s.hqueues := by
  unfold State.nextHeld
  split
  · simp
  · dsimp only
    split <;> simp

@[simp] theorem State.planeDone_hqueues (t op : Nat) : (s.planeDone t op).hqueues = s.hqueues := by
  unfold State.planeDone
  split <;> simp

theorem State.switchSeg_hqueues (t g : Nat) : (s.switchSeg t g).hqueues = s.hqueues := by
  unfold State.switchSeg
  split
  · split <;> simp
  · rfl

@[simp] theorem State.switchAll_hqueues (t : Nat) : (s.switchAll t).hqueues = s.hqueues := by
  unfold State.switchAll
  exact foldl_keeps State.hqueues (fun u g => u.switchSeg_hqueues t g) _ s

theorem State.dropSeq_hqueues (t g seq id : Nat) : (s.dropSeq t g seq id).hqueues = s.hqueues := by
  unfold State.dropSeq
  dsimp only
  split <;> simp

@[simp] theorem State.entryFails_hqueues (t h : Nat) (fault : Bool) : (s.entryFails t h fault).hqueues = s.hqueues := by
  unfold State.entryFails
  dsimp only
  split <;> simp

@[simp] theorem State.cancelEntry_hqueues (t : Nat) (p : Step) : (s.cancelEntry t p).hqueues = s.hqueues := by
  unfold State.cancelEntry
  split
  · dsimp only
    split <;> simp
  · rfl

theorem State.cancelStep_hqueues (t id : Nat) : (s.cancelStep t id).hqueues = s.hqueues := by
  unfold State.cancelStep
  split
  · rfl
  · next p _ =>
    have drop := foldl_keeps State.hqueues (fun u g => u.dropSeq_hqueues t g p.seq id) [0, 1, 2, 3] s
    simpa using drop

@[simp] theorem State.cancelSteps_hqueues (o : Nat) : (s.cancelSteps o).hqueues = s.hqueues := by
  unfold State.cancelSteps
  exact foldl_keeps State.hqueues (fun u e => u.cancelStep_hqueues _ _) _ s

theorem State.resolveTrap_hqueues (t g : Nat) (r : Option Nat) : (s.resolveTrap t g r).hqueues = s.hqueues := by
  unfold State.resolveTrap
  split
  · rfl
  · dsimp only
    split <;> simp

@[simp] theorem State.discTraps_hqueues (o : Nat) : (s.discTraps o).hqueues = s.hqueues := by
  unfold State.discTraps
  exact foldl_keeps State.hqueues (fun u e => u.resolveTrap_hqueues ..) _ s

/-! ## Tasks that end -/

@[simp] theorem State.owe_hqueues (o : Owed) : (s.owe o).hqueues = s.hqueues := by
  unfold State.owe
  dsimp only
  split
  · simp
  · split
    · split
      · simp
      · split
        · simp
        · split <;> simp
    · simp
    · simp

@[simp] theorem State.finishTask_hqueues (k : Nat) (sl : Slot) (e : Ending) : (s.finishTask k sl e).hqueues = s.hqueues := by
  have tells : ∀ (b : Prop) [Decidable b] (u : State) (d : List Byte), (if b then u.event d else u).hqueues = u.hqueues := by
    intro b _ u d
    split <;> simp
  have owes : ∀ (b : Prop) [Decidable b] (u : State) (o : Owed) (n c : Nat),
      (if b then u.owe o else u.lowerCensus n c).hqueues = u.hqueues := by
    intro b _ u o n c
    split <;> simp
  unfold State.finishTask
  refine (tells _ _ _).trans ((State.tell_hqueues ..).trans ((owes _ _ _ _ _).trans ?_))
  cases e
  case landed v =>
    refine (State.modLaunch_hqueues ..).trans ?_
    split <;> simp
  all_goals
    dsimp only
    split <;> simp

@[simp] theorem State.endSaved_hqueues (v : Saved) : (s.endSaved v).hqueues = s.hqueues := by
  unfold State.endSaved
  dsimp only
  rw [State.finishTask_hqueues]
  split <;> simp

@[simp] theorem State.cancelRecord_hqueues (r : ReadyRec) (a : Nat) : (s.cancelRecord r a).hqueues = s.hqueues := by
  unfold State.cancelRecord
  dsimp only
  split <;> simp

/-! ## The launch -/

@[simp] theorem State.tearTask_hqueues (k : Nat) : (s.tearTask k).hqueues = s.hqueues := by
  have stop : ∀ (b : Prop) [Decidable b] (v : Slot), (if b then s.setSlot k v else s).hqueues = s.hqueues := by
    intro b _ v
    split <;> rfl
  have cancel : ∀ (b : Prop) [Decidable b] (u : State) (o : Nat), (if b then u.cancelSteps o else u).hqueues = u.hqueues := by
    intro b _ u o
    split <;> simp
  unfold State.tearTask
  exact (cancel _ _ _).trans (stop _ _)

@[simp] theorem State.cancelRanges_hqueues (n : Nat) : (s.cancelRanges n).hqueues = s.hqueues := by
  unfold State.cancelRanges
  refine foldl_keeps State.hqueues (fun u r => foldl_keeps State.hqueues (fun u i => ?_) _ u) _ s
  split
  · split <;> simp
  · rfl

@[simp] theorem State.dropOwed_hqueues (n : Nat) : (s.dropOwed n).hqueues = s.hqueues := by
  unfold State.dropOwed
  rw [foldl_keeps State.hqueues (fun u o => u.lowerCensus_hqueues ..)]

theorem State.abortChain_hqueues (id : Nat) : (s.abortChain id).hqueues = s.hqueues := by
  unfold State.abortChain
  split
  · rfl
  · dsimp only
    split
    · rfl
    · split <;> rfl

/-- R390: what a launch's end stops lies outside the queues. -/
@[simp] theorem State.tearLaunch_hqueues (n status : Nat) : (s.tearLaunch n status).hqueues = s.hqueues := by
  unfold State.tearLaunch
  split
  · rfl
  · next l _ =>
    dsimp only
    split
    · rfl
    · have ends : ∀ (u : State) (v : Saved), (if l.abortSteps = true then (u.endSaved v).cancelSteps v.slot.task.loc
          else u.endSaved v).hqueues = u.hqueues := by
        intro u v
        split <;> simp
      have stops : ∀ (u : State) (p : Nat × Slot), (if (p.2.phase != .free && p.2.task.launch == n) = true then
          (u.tearTask p.1).modSlot p.1 Slot.dropStuck else u).hqueues = u.hqueues := by
        intro u p
        split <;> simp
      refine (foldl_keeps State.hqueues (fun u p => u.abortChain_hqueues _) _ _).trans ?_
      rw [State.dropOwed_hqueues, State.killJobs_hqueues, State.cancelRanges_hqueues, foldl_keeps State.hqueues ends,
        foldl_keeps State.hqueues stops, State.modLaunch_hqueues]

end

/-! ## A queue whose packet ends, and a queue torn down -/

theorem State.hqueue_congr {s t : State} (h : t.hqueues = s.hqueues) (q : Nat) : t.hqueue q = s.hqueue q := by
  unfold State.hqueue
  rw [h]

/-- R390: a queue in state 3 stays in it when the packet that has ended makes room. -/
theorem State.settle_torn (s : State) (q : Nat) (h : (s.hqueue q).state = 3)
    (hc : ∀ p, (s.hqueue q).cur = some p → p.ended ≠ none) :
    ((s.settle q).hqueue q).state = 3 ∧ ((s.settle q).hqueue q).cur = none := by
  unfold State.settle
  dsimp only
  split
  · next hn => exact ⟨h, hn⟩
  · next p hp =>
    split
    · next hn => exact absurd hn (hc p hp)
    · next st _ =>
      have queue : ∀ (u : State) (v : HQueue) (n : Nat), v.state = 3 → v.cur = none →
          (((u.setHqueue q v).hqueue q).state = 3 ∧ ((u.setHqueue q v).hqueue q).cur = none) ∧
          (((if st = 0 then u.setHqueue q v else (u.setHqueue q v).tearLaunch n st).hqueue q).state = 3 ∧
            ((if st = 0 then u.setHqueue q v else (u.setHqueue q v).tearLaunch n st).hqueue q).cur = none) := by
        intro u v n h3 hn
        have torn : (if st = 0 then u.setHqueue q v else (u.setHqueue q v).tearLaunch n st).hqueues = (u.setHqueue q v).hqueues := by
          split <;> simp
        rw [State.hqueue_congr torn, State.hqueue_setHqueue]
        exact ⟨⟨h3, hn⟩, h3, hn⟩
      cases p.launch with
      | none => exact (queue _ _ 0 (if_pos h) rfl).1
      | some n => exact (queue _ _ n (if_pos h) rfl).2

/-- R390: a queue in state 3 stays in it when its packet ends, and no packet's program runs any more. -/
theorem State.endPacket_torn (s : State) (q st : Nat) (h : (s.hqueue q).state = 3) :
    ((s.endPacket q st).hqueue q).state = 3 ∧ ((s.endPacket q st).hqueue q).cur = none := by
  unfold State.endPacket
  have hq : ∀ f, (s.modPacket q f).hqueue q = { s.hqueue q with cur := (s.hqueue q).cur.map f } := fun f =>
    State.hqueue_setHqueue ..
  refine State.settle_torn _ q (by rw [hq]; exact h) fun p hp he => ?_
  rw [hq] at hp
  obtain ⟨p', -, rfl⟩ := Option.map_eq_some_iff.1 hp
  dsimp only at he
  cases hp' : p'.ended <;> simp [hp'] at he

/-- R390: a queue torn down keeps its state, runs nothing and has nothing left to start. -/
theorem State.tearQueue_torn (s : State) (q : Nat) (h : (s.hqueue q).state ≠ 3) :
    ((s.tearQueue q).hqueue q).state = 3 ∧ ((s.tearQueue q).hqueue q).cur = none ∧
      ((s.tearQueue q).hqueue q).head = ((s.tearQueue q).hqueue q).tail := by
  have last : ∀ (u : State) (f : HQueue → HQueue), (u.modHqueue q f).hqueue q = f (u.hqueue q) := fun u f =>
    State.hqueue_setHqueue ..
  unfold State.tearQueue
  dsimp only
  rw [if_neg h, last]
  refine ⟨?_, ?_, rfl⟩
  all_goals
    dsimp only
    rw [State.hqueue_congr (foldl_keeps State.hqueues (fun u p => ?_) _ _)]
  · exact (State.endPacket_torn _ q 4 (by rw [State.hqueue_setHqueue])).1
  · split <;> simp
  · exact (State.endPacket_torn _ q 4 (by rw [State.hqueue_setHqueue])).2
  · split <;> simp

end Sys2Proof.Machine
end

section
/-! The pilot's management operations (R442-R447), case by case. -/

namespace Sys2Proof.Machine

theorem Tab.find_none_of_notMem {α : Type} (t : Tab α) (k : Nat) (h : k ∉ t.map Prod.fst) : t.find? k = none := by
  induction t with
  | nil => rfl
  | cons p t ih =>
    obtain ⟨j, v⟩ := p
    simp only [List.map_cons, List.mem_cons, not_or] at h
    rw [Tab.find?, if_neg (Ne.symm h.1), ih h.2]

/-! ## STATUS (R443): acknowledgements, and what goes out again -/

/-- R443: a device stream all of whose messages went out again at a time. -/
def DevStream.stamped (d : DevStream) (now : Nat) : DevStream := { d with unacked := d.unacked.map fun m => { m with sent := now } }

theorem DevStream.stamped_stamped (d : DevStream) (now : Nat) : (d.stamped now).stamped now = d.stamped now := by
  simp [DevStream.stamped]

theorem portOnly.frame {a b : State} (h : portOnly a b) : b.mem = a.mem ∧ b.slots = a.slots ∧ b.hqueues = a.hqueues := by
  obtain ⟨o, p, rfl⟩ := h
  exact ⟨rfl, rfl, rfl⟩

theorem State.wireAll_portOnly (s : State) (i : Nat) (l : List Msg) : portOnly s (l.foldl (fun s m => s.wire i m) s) :=
  portOnly.foldl _ (fun s m => s.wire_portOnly i m) l s

theorem State.resend1_portOnly (s : State) (i : Nat) (p : Msg → Bool) : portOnly s (s.resend1 i p) :=
  (s.wireAll_portOnly i _).trans ⟨_, _, rfl⟩

theorem State.resend1_devOut (s : State) (i : Nat) :
    (s.resend1 i fun _ => true).devOut = s.devOut.set i ((s.devOut.get {} i).stamped s.mtime.toNat) := by
  simp [State.resend1, updateWhere, DevStream.stamped]

theorem State.resendIn_devOut (i : Nat) (l : List Nat) (s : State) :
    (l.foldl (fun s i => s.resend1 i fun _ => true) s).devOut.get {} i =
      if i ∈ l then (s.devOut.get {} i).stamped s.mtime.toNat else s.devOut.get {} i := by
  induction l generalizing s with
  | nil => rfl
  | cons j l ih =>
    obtain ⟨o, h, e⟩ := s.resend1_portOnly j fun _ => true
    have hm : (s.resend1 j fun _ => true).mtime = s.mtime := by rw [e]
    rw [List.foldl_cons, ih, State.resend1_devOut, hm]
    by_cases hj : i = j
    · subst hj
      simp [DevStream.stamped_stamped]
    · rw [Tab.get_set_ne _ _ _ _ _ hj]
      simp [hj]

theorem State.resendAll_portOnly (s : State) : portOnly s s.resendAll :=
  portOnly.foldl _ (fun s i => s.resend1_portOnly i _) _ s

/-- R443: every message of every stream goes out again. -/
theorem State.resendAll_devOut (s : State) (i : Nat) : s.resendAll.devOut.get {} i = (s.devOut.get {} i).stamped s.mtime.toNat := by
  unfold State.resendAll
  rw [State.resendIn_devOut]
  split
  · rfl
  · next h =>
    have none : s.devOut.find? i = none := Tab.find_none_of_notMem _ _ h
    rw [Tab.get, none]
    rfl

/-- R443: the acknowledgements of a STATUS request. -/
def State.statusAcks (s : State) (d : List Byte) (l : List Nat) : State :=
  l.foldl (fun s i => if d.length < 72 then s else s.hostAck i (bytesAt d (8 + 4 * i) 4) 0) s

theorem State.statusAcks_portOnly (s : State) (d : List Byte) (l : List Nat) : portOnly s (s.statusAcks d l) := by
  refine portOnly.foldl _ (fun s i => ?_) l s
  split
  · exact .refl s
  · exact s.hostAck_portOnly ..

theorem State.hostAck_unacked (s : State) (i a b : Nat) (m : Msg) : m ∈ ((s.hostAck i a b).devOut.get {} i).unacked ↔
    m ∈ (s.devOut.get {} i).unacked ∧ acked a b m.seq = false := by
  simp [State.hostAck]

theorem State.hostAck_seq (s : State) (i a b j : Nat) : ((s.hostAck i a b).devOut.get {} j).seq = (s.devOut.get {} j).seq := by
  by_cases h : j = i
  · subst h
    simp [State.hostAck]
  · unfold State.hostAck
    rw [Tab.get_set_ne _ _ _ _ _ h]

theorem State.statusAcks_seq (s : State) (d : List Byte) (l : List Nat) (j : Nat) :
    ((s.statusAcks d l).devOut.get {} j).seq = (s.devOut.get {} j).seq := by
  refine foldl_keeps (fun s : State => (s.devOut.get {} j).seq) (fun s i => ?_) l s
  split
  · rfl
  · exact s.hostAck_seq ..

/-- R439, R443: what the ACK of a stream in the request covers is free. -/
theorem State.statusAcks_unacked (d : List Byte) (hd : 72 ≤ d.length) (i : Nat) (m : Msg) (l : List Nat) (s : State) :
    m ∈ ((s.statusAcks d l).devOut.get {} i).unacked ↔
      m ∈ (s.devOut.get {} i).unacked ∧ (i ∈ l → acked (bytesAt d (8 + 4 * i) 4) 0 m.seq = false) := by
  induction l generalizing s with
  | nil => simp [State.statusAcks]
  | cons j l ih =>
    have step : s.statusAcks d (j :: l) = (s.hostAck j (bytesAt d (8 + 4 * j) 4) 0).statusAcks d l := by
      rw [State.statusAcks, List.foldl_cons, if_neg (Nat.not_lt.2 hd)]
      rfl
    rw [step, ih]
    by_cases hj : i = j
    · subst hj
      rw [State.hostAck_unacked]
      simp only [List.mem_cons, true_or, forall_const]
      tauto
    · have other : (s.hostAck j (bytesAt d (8 + 4 * j) 4) 0).devOut.get {} i = s.devOut.get {} i := by
        unfold State.hostAck
        exact Tab.get_set_ne _ _ _ _ _ hj
      rw [other]
      simp [hj]

end Sys2Proof.Machine

namespace Sys2Proof.Claims
open Sys2Proof.Machine

/-- R437: an ACK with no SACK covers what lies less than 2^31 behind it. -/
theorem acked_iff (ack seq : Nat) (h : ack < 2 ^ 32) : acked ack 0 seq = true ↔ covers ack 0 seq := by
  simp only [acked, covers, flag, fld, Nat.zero_div, Nat.zero_mod, Bool.or_eq_true, Bool.and_eq_true, decide_eq_true_eq, beq_iff_eq]
  constructor
  · rintro (⟨h1, h2⟩ | ⟨-, h0⟩)
    · exact .inl ⟨_, h1, h2, by omega⟩
    · omega
  · rintro (⟨n, h1, h2, h3⟩ | ⟨i, -, h0, -⟩)
    · exact .inl (by omega)
    · omega

/-! ## How an operation decides -/

theorem flag_zero_iff {w : Nat} : flag w 0 = true ↔ w % 2 = 1 := by rw [flag_iff, Nat.pow_zero, Nat.div_one]

/-- An answer that a condition decides runs as the one that the condition picks. -/
theorem runs_ite {runs : State → Prop} {p q : Prop} [Decidable p] {a b : State} (hq : p ↔ q) (h : runs (if p then a else b)) :
    (q → runs a) ∧ (¬ q → runs b) :=
  ⟨fun w => by rwa [if_pos (hq.2 w)] at h, fun w => by rwa [if_neg (hq.not.2 w)] at h⟩

/-! ## STATUS -/

/-- R443: a STATUS request frees what its ACKs cover, sends the rest again, and is answered with the boot count and the time. -/
theorem mgmtStatus_answers (u : State) (d : List Byte) : ∃ v body, u.mgmtStatus d = replied v d 0 body ∧ portOnly u v ∧
    (∀ i, ((v.devOut.get {} i).seq = (u.devOut.get {} i).seq)) ∧
    (∀ i m, i < 16 → 72 ≤ d.length → (m ∈ (v.devOut.get {} i).unacked ↔ ∃ o ∈ (u.devOut.get {} i).unacked,
      ¬ covers (bytesAt d (8 + 4 * i) 4) 0 o.seq ∧ m = { o with sent := u.mtime.toNat })) ∧
    body.take 12 = leBytes 4 u.boot.count ++ leBytes 8 u.mtime.toNat := by
  have hacks : portOnly u (u.statusAcks d (List.range 16)) := u.statusAcks_portOnly d _
  have hport := hacks.trans (State.resendAll_portOnly _)
  obtain ⟨o, hs, e⟩ := hacks
  have hm : (u.statusAcks d (List.range 16)).mtime = u.mtime := by rw [e]
  have hc : (u.statusAcks d (List.range 16)).boot = u.boot := by rw [e]
  refine ⟨(u.statusAcks d (List.range 16)).resendAll, _, rfl, hport, fun i => ?_, fun i m hi h => ?_, ?_⟩
  · rw [State.resendAll_devOut]
    exact u.statusAcks_seq d _ i
  · rw [State.resendAll_devOut, DevStream.stamped, List.mem_map, hm]
    have hb : bytesAt d (8 + 4 * i) 4 < 2 ^ 32 := bytesAt_lt d _ 4
    simp only [State.statusAcks_unacked d h, List.mem_range, hi, forall_const, ← acked_iff _ _ hb, Bool.not_eq_true, and_assoc,
      eq_comm (b := m)]
  · change ((((leBytes 4 (u.statusAcks d (List.range 16)).boot.count ++ leBytes 8 (u.statusAcks d (List.range 16)).mtime.toNat) ++ _) ++ _) ++ _).take 12 = _
    rw [hm, hc, List.append_assoc, List.append_assoc, List.take_left']
    simp [leBytes_length]

theorem ne_nil_of_op {d : List Byte} {op : Nat} (h : bytesAt d 0 1 = op) (hop : op ≠ 0) : d ≠ [] := by
  rintro rfl
  exact hop (h.symm.trans rfl)

theorem replied_portOnly (v : State) (d : List Byte) (st : Nat) (b : List Byte) : portOnly v (replied v d st b) :=
  v.sendLong_portOnly 3 7 _

theorem replied_devOut_ne (v : State) (d : List Byte) (st : Nat) (b : List Byte) (i : Nat) (h : i ≠ 3) :
    (replied v d st b).devOut.get {} i = v.devOut.get {} i := State.sendLong_devOut_ne _ _ _ _ _ h

/-- R442: an answer begins with the operation, the status and six bytes of zero, and then its body. -/
theorem replied_head (v : State) (d : List Byte) (b : List Byte) (hd : d ≠ []) :
    ∃ m ∈ ((replied v d 0 b).devOut.get {} 3).unacked, m.seq = (v.devOut.get {} 3).seq ∧ m.type = 7 ∧
      m.data.take 20 = d.take 1 ++ leBytes 7 0 ++ b.take 12 := by
  obtain ⟨m, hm, hseq, htype, hdata⟩ := v.sendLong_first 3 7 (d.take 1 ++ leBytes 1 0 ++ leBytes 6 0 ++ b)
  refine ⟨m, hm, hseq, htype, ?_⟩
  obtain ⟨x, l, rfl⟩ := List.exists_cons_of_ne_nil hd
  rw [hdata, List.take_take]
  rfl

/-! ## The tables and the channels -/

/-- R371: the words of a program are those that its 4-byte fields give. -/
theorem programWords_eq (b : List Byte) : (chunks 4 (b.length / 4) b).map leNat =
    (List.range (b.length / 4)).map fun i => bytesAt b (4 * i) 4 := chunks_map 4 leNat _ b

theorem chopenWrong_iff (u : State) (d b : List Byte) (die c n : Nat) (ch : Chan) (free : List Nat) :
    (decide (7 < die) || decide (4095 < bytesAt d 2 2) || decide (b.length < 64) || (u.chan c).isOpen || chopenBad b ||
      u.ringBad die ch || decide (free.length < n) || (free.take n).any (u.segOutside die ch.asid)) = true ↔
    7 < die ∨ 4095 < bytesAt d 2 2 ∨ b.length < 64 ∨ (u.chan c).isOpen = true ∨ chopenBad b = true ∨
      u.ringBad die ch = true ∨ free.length < n ∨ ∃ a ∈ free.take n, u.segOutside die ch.asid a = true := by
  simp only [Bool.or_eq_true, decide_eq_true_eq, List.any_eq_true, or_assoc]

theorem chcloseWrong_iff (u : State) (d : List Byte) (die c : Nat) :
    (decide (7 < die) || decide (4095 < bytesAt d 2 2) || !(u.chan c).isOpen || u.closeHeld c) = true ↔
      7 < die ∨ 4095 < bytesAt d 2 2 ∨ (u.chan c).isOpen = false ∨ u.closeHeld c = true := by
  simp only [Bool.or_eq_true, decide_eq_true_eq, Bool.not_eq_true', or_assoc]

/-- R398, R400: an opened channel has its entry, and the segments that its die's reserve had for it. -/
theorem chopen_gives (u : State) (die i n : Nat) (ch : Chan) (h : i ≤ 4095) (hs : ch.segs = []) :
    let c := die * 4096 + i
    let free := u.sumpFree.get [] (256 * die + ch.asid)
    let t := (u.setChan c ch).giveSegs c n
    t.chan c = { ch with segs := free.take n } ∧ t.sumpFree = u.sumpFree.set (256 * die + ch.asid) (free.drop n) ∧
      ∀ e, e ≠ c → t.chan e = u.chan e := by
  have hdie : (die * 4096 + i) / 4096 = die := by omega
  obtain ⟨hc, hf, he⟩ := (u.setChan (die * 4096 + i) ch).giveSegs_moves (die * 4096 + i) n
  rw [State.chan_setChan, hdie] at hc hf
  refine ⟨?_, hf, fun e h' => (he e h').trans (State.chan_setChan_ne _ _ _ _ h')⟩
  rw [hc, hs]
  rfl

/-! ## Keys, ports and nonces -/

/-- R435: a key of a valid entry joins the routers' table while it has room. -/
theorem installed_keys (t : Torus) (key : Nat) (valid : Prop) [Decidable valid] : (if valid then t.installKey key else t) =
    { t with keys := if valid ∧ key ∉ t.keys ∧ t.keys.length < 64 then key :: t.keys else t.keys } := by
  by_cases hv : valid
  · have full : (t.keys.contains key || decide (64 ≤ t.keys.length)) = true ↔ ¬ (key ∉ t.keys ∧ t.keys.length < 64) := by
      simp [Classical.or_iff_not_imp_left]
    simp only [hv, if_true, true_and, Torus.installKey, if_congr full rfl rfl, ite_not]
  · simp only [hv, if_false, false_and]

theorem isPort_iff (n : Nat) : isPort n = true ↔ portOf n := by simp [isPort, portOf]

/-- R435: what a revoked key changes. -/
theorem revokeKey_windows (u : State) (key w : Nat) : (u.revokeKey key).torus.windows.get {} w =
    if (u.torus.windows.get {} w).held.any (fun k => k.key == key) then {} else u.torus.windows.get {} w :=
  Tab.get_map {} u.torus.windows (fun v => if v.held.any fun k => k.key == key then {} else v) w rfl

theorem revokeKey_revoked (u : State) (key e : Nat) : e ∈ (u.revokeKey key).torus.revoked ↔ e = key ∨ e ∈ u.torus.revoked := by
  unfold State.revokeKey
  dsimp only
  by_cases h : key ∈ u.torus.revoked
  · rw [if_pos (by simpa using h)]
    exact ⟨.inr, fun o => o.elim (fun he => he ▸ h) id⟩
  · rw [if_neg (by simpa using h), List.mem_cons]

theorem zeroNonce_iff (l : List Byte) (h : l.length = 32) : (l.all fun b => b == 0) = true ↔ l = List.replicate 32 0 := by
  rw [List.eq_replicate_iff]
  simp [h]

theorem txinvMask_fold (u : State) (m w : Nat) : (List.range 8).foldl (fun s i => if flag m i then s.writeTxinv i (BitVec.ofNat 64 w) else s) u =
    ((List.range 8).filter fun i => m / 2 ^ i % 2 = 1).foldl (fun t i => txinvWritten t i w) u := by
  rw [List.foldl_filter]
  refine congrArg (fun f => (List.range 8).foldl f u) (funext fun s => funext fun i => ?_)
  simp only [flag_iff, writeTxinv_eq, decide_eq_true_eq]

/-- Settles O55: each operation decides between its answers as the statement does; QTEAR rests on the frame of a launch's end. -/
theorem managementOperations : Obligations.ManagementOperations := by
  unfold Obligations.ManagementOperations
  refine ⟨manages_of State.mgmtStatus fun u d runs hop h => ?status,
    manages_of State.mgmtQdesc fun u d runs _ h => ?qdesc,
    manages_of State.mgmtQprog fun u d runs _ h => ?qprog,
    manages_of State.mgmtQtear fun u d runs _ h => ?qtear,
    manages_of State.mgmtChopen fun u d runs _ h => ?chopen,
    manages_of State.mgmtChclose fun u d runs _ h => ?chclose,
    manages_of State.mgmtNodemap fun u d runs _ h => ?nodemap,
    manages_of State.mgmtTxinv fun u d runs _ h => ?txinv,
    manages_of State.mgmtPtpdom fun u d runs _ h => ?ptpdom,
    manages_of State.mgmtCounters fun u d runs _ h => ?counters,
    manages_of State.mgmtLinktrain fun u d runs _ h => ?linktrain,
    manages_of State.mgmtFence fun u d runs _ h => ?fence,
    manages_of State.mgmtAttest fun u d runs _ h => ?attest,
    manages_of State.mgmtBaseimg fun u d runs _ h => ?baseimg,
    manages_of State.mgmtPower fun u d runs _ h => ?power,
    manages_of State.mgmtSensors fun u d runs _ h => ?sensors⟩
  case status =>
    obtain ⟨v, body, e, hport, hseq, hacks, hbody⟩ := mgmtStatus_answers u d
    rw [e] at h
    obtain ⟨hmem, hslots, hqueues⟩ := (hport.trans (replied_portOnly v d 0 body)).frame
    obtain ⟨m, hm, hms, hmt, hmd⟩ := replied_head v d body (ne_nil_of_op hop (by decide))
    refine ⟨_, h, hmem, hslots, hqueues, fun i m hi hi' hd => ?_,
      m, hm, hms.trans (hseq 3), hmt, ?_⟩
    · rw [replied_devOut_ne _ _ _ _ _ hi]
      exact hacks i m hi' hd
    · rw [hmd, hbody, List.append_assoc, List.append_assoc, List.append_assoc]
  case qdesc =>
    unfold State.mgmtQdesc at h
    simp only [mgmtAnswer_eq, bytesAt_drop, List.length_drop] at h
    obtain ⟨hr, hn⟩ := runs_ite (q := bytesAt d 2 2 < 1024 ∧ bytesAt d 1 1 % 2 = 1) (by simp [flag_zero_iff]) h
    have hl : d.length - 8 < 24 ↔ d.length < 32 := by omega
    refine ⟨hr, fun r => (runs_ite ?_ (hn r)).1, fun r => (runs_ite ?_ (hn r)).2⟩
    all_goals simp [← pow2In_iff, or_assoc, hl]
  case qprog =>
    unfold State.mgmtQprog at h
    simp only [programWords_eq] at h
    obtain ⟨hw, hn⟩ := runs_ite (q := 63 < bytesAt d 2 2 ∨ (d.drop 8).length % 4 ≠ 0) (by simp) h
    refine ⟨hw, fun h1 h2 => ?_⟩
    have h := hn (by omega)
    refine ⟨fun i hi => by rwa [hi] at h, fun hok => ?_⟩
    rw [hok] at h
    exact ⟨(loadCheck_length hok).1, (loadCheck_length hok).2, h⟩
  case qtear =>
    unfold State.mgmtQtear at h
    obtain ⟨hw, hn⟩ := runs_ite Iff.rfl h
    exact ⟨hw, fun hq => ⟨hn (by omega), State.tearQueue_torn u _⟩⟩
  case chopen =>
    unfold State.mgmtChopen at h
    obtain ⟨hw, hn⟩ := runs_ite (chopenWrong_iff u d _ _ _ _ _ _) h
    refine ⟨hw, fun w => ⟨_, hn w, chopen_gives u _ _ _ _ ?_ rfl⟩⟩
    simp only [not_or, Nat.not_lt] at w
    exact w.2.1
  case chclose =>
    unfold State.mgmtChclose at h
    obtain ⟨hw, hn⟩ := runs_ite (chcloseWrong_iff u d _ _) h
    refine ⟨hw, fun w => ⟨_, hn w, rfl, ?_⟩⟩
    rw [State.chan_setChan]
    exact ⟨rfl, rfl, rfl, rfl, rfl, rfl, fun e he => State.chan_setChan_ne _ _ _ _ he, rfl⟩
  case nodemap =>
    unfold State.mgmtNodemap at h
    simp only [flag, fld_eq, Nat.pow_zero, Nat.pow_one, Nat.div_one, beq_iff_eq, installed_keys] at h
    obtain ⟨hw, hn⟩ := runs_ite Iff.rfl h
    exact ⟨hw, fun hi => hn (by omega)⟩
  case txinv =>
    unfold State.mgmtTxinv at h
    rwa [txinvMask_fold] at h
  case ptpdom =>
    unfold State.mgmtPtpdom at h
    obtain ⟨hw, hn⟩ := runs_ite (q := bytesAt d 1 1 % 2 = 1 ∧ 127 < bytesAt d 2 2) (by simp [flag_zero_iff]) h
    refine ⟨fun hs hl => hw ⟨hs, hl⟩, fun hs hl => ?_, fun hs => ?_⟩
    · have h := hn (by omega)
      rwa [if_pos (flag_zero_iff.2 hs)] at h
    · have h := hn fun w => hs w.1
      rwa [if_neg (flag_zero_iff.not.2 hs)] at h
  case counters =>
    unfold State.mgmtCounters at h
    refine ⟨_ ++ u.errs.flatMap fun (p : Nat × ErrCount) => leBytes 8 p.1 ++ leBytes 8 p.2.count,
      List.take_left' (by simp [leBytes_length]), fun hc => ?_, fun hc => ?_⟩
    · rwa [if_pos (flag_zero_iff.2 hc)] at h
    · rwa [if_neg (flag_zero_iff.not.2 (by omega))] at h
  case linktrain =>
    unfold State.mgmtLinktrain at h
    refine runs_ite ?_ h
    rw [← isPort_iff]
    simp [or_assoc, Option.isSome_iff_ne_none]
  case fence =>
    refine ⟨_, h, (revokeKey_revoked u _ _).2 (.inl rfl), fun e => (revokeKey_revoked u _ e).1,
      fun e he => (revokeKey_revoked u _ e).2 (.inr he), fun w hk => ?_, fun w hk => ?_, rfl⟩
    · rw [revokeKey_windows, if_pos (by simpa using hk)]
    · rw [revokeKey_windows, if_neg (by simpa using hk)]
  case attest =>
    unfold State.mgmtAttest at h
    obtain ⟨hw, hn⟩ := runs_ite Iff.rfl h
    refine ⟨hw, fun hz => ?_, fun hl hz => ?_⟩
    · have hl : ((d.drop 8).take 32).length = 32 := by rw [hz]; rfl
      exact (runs_ite (zeroNonce_iff _ hl) (hn (by omega))).1 hz
    · exact (runs_ite (zeroNonce_iff _ hl) (hn (by omega))).2 hz
  case baseimg =>
    unfold State.mgmtBaseimg at h
    obtain ⟨hw, hn⟩ := runs_ite (q := 63 < bytesAt d 2 2 ∨ 15 < bytesAt d 4 1) (by simp) h
    exact ⟨hw, fun h1 h2 => hn (by omega)⟩
  case power =>
    unfold State.mgmtPower at h
    have low : fld (bytesAt d 8 8) 0 1 = bytesAt d 8 8 % 2 := by rw [fld_eq, Nat.pow_zero, Nat.pow_one, Nat.div_one]
    simp only [low] at h
    exact runs_ite (by rw [Bool.or_eq_true, Bool.or_eq_true, decide_eq_true_eq, decide_eq_true_eq, beq_iff_eq, or_assoc]; rfl) h
  case sensors => exact h

end Sys2Proof.Claims
end

section
/-! Transfers, hardware loops and the end of a stream (R86, R90-R96). -/

namespace Sys2Proof.Claims
open Sys2Proof.Machine

section
variable {s : State} {k x : Nat} {i : Instr} {h : Hdr}

/-! ## A shared word that issues, in either mode -/

/-- A word that changed its own slot and then issues. -/
theorem after_setSlot (t : State) (v : Slot) (c : Ctl) (b : Nat) : after s (t.setSlot k v) k x h c b =
    ({ t with issued := t.issued ++ [(k, x)] } : State).setSlot k (v.setStream x (issuedStream s k h c b v.cycle (v.stream x))) := by
  simp only [after, State.slot_setSlot, State.setSlot_issued]
  exact State.setSlot_setSlot ({ t with issued := t.issued ++ [(k, x)] } : State) k _ v

/-- The control state that the word's meaning left in the stream gives way to the one that it goes on to. -/
theorem after_setCtl (c c' : Ctl) (b : Nat) :
    after s (s.setSlot k ((s.slot k).setStream x { (s.slot k).stream x with ctl := c' })) k x h c b = after s s k x h c b := by
  rw [after_setSlot]
  simp [after, issuedStream]

theorem after_setSlot_slot (c : Ctl) (b : Nat) : after s (s.setSlot k (s.slot k)) k x h c b = after s s k x h c b :=
  after_setSlot s (s.slot k) c b

/-- A jump with one scalar result: the result is received as if the jump were not (R80, R91). -/
theorem after_jump_scalar (hb : s.bundle = false) (lat : Nat) (d : BitVec 5) (v : Word) (c : Ctl) (b : Nat) :
    let t := (s.setSlot k ((s.slot k).setStream x { (s.slot k).stream x with ctl := c })).commit k x lat [.scalar d v]
    after s t k x h ((t.slot k).stream x).ctl b = after s (receives s k x lat d v) k x h c b := by
  cases e : (s.slot k).exposed with
  | true => simp [State.commit, receives, landing, e, after_setSlot, issuedStream, Slot.setStream, Tab.set_set, Slot.stream]
  | false =>
    have hr : after s (receives s k x lat d v) k x h c b =
        after s (s.setSlot k { s.slot k with regs := writeScalar (s.slot k).regs d v }) k x h c b := by
      rw [show receives s k x lat d v = received s k d v by simp [receives, e]]
      unfold received writeScalar
      split
      · exact (after_setSlot_slot (s := s) c b).symm
      · rfl
    rw [hr]
    simp [State.commit, hb, e, State.land, after_setSlot, issuedStream, Slot.setStream, Tab.set_set, Slot.stream]

theorem commit_nil_setSlot (v : Slot) (hb : s.bundle = false) (lat : Nat) : (s.setSlot k v).commit k x lat [] = s.setSlot k v := by
  simp [State.commit, hb]

/-- A shared word that traps (R80, R233). -/
theorem Issues.shared_trap (a : Issues s k x i h) {len skip : Nat} {f : View → SRes} {c : Nat} {u : Word}
    (hf : f ((s.slot k).view x) = .trap c u) :
    s.runShared i h len skip f = s.setSlot k ((s.slot k).takeTrap x ((s.slot k).stream x).ctl.pc c u false) := by
  unfold State.runShared
  rw [a.cur]
  simp only [a.issueStream, hf, State.trapAt, a.single]
  rfl

/-- A shared word that jumps, with no result. -/
theorem Issues.shared_jump (a : Issues s k x i h) {len skip : Nat} {f : View → SRes} {c : Ctl} (hf : f ((s.slot k).view x) = .jump c []) :
    s.runShared i h len skip f = after s s k x h c 1 := by
  unfold State.runShared
  rw [a.cur]
  simp only [a.issueStream, hf, State.modSlot_eq, commit_nil_setSlot _ a.single, Slot.modStream_eq, State.slot_setSlot,
    Slot.stream_setStream]
  exact after_setCtl c c 1

/-- A shared word that jumps and writes a scalar. -/
theorem Issues.shared_jump_scalar (a : Issues s k x i h) {len skip : Nat} {f : View → SRes} {c : Ctl} {d : BitVec 5} {v : Word}
    (hf : f ((s.slot k).view x) = .jump c [.scalar d v]) :
    s.runShared i h len skip f = after s (receives s k x (latencyOf i) d v) k x h c 1 := by
  unfold State.runShared
  rw [a.cur]
  simp only [a.issueStream, hf]
  exact after_jump_scalar a.single _ d v c 1

/-- A shared word that goes on at a place of its own. -/
theorem Issues.shared_goto (a : Issues s k x i h) {len skip : Nat} {f : View → SRes} {c : Ctl} (hf : f ((s.slot k).view x) = .goto c) :
    s.runShared i h len skip f = after s s k x h c 0 := by
  unfold State.runShared
  rw [a.cur]
  simp only [a.issueStream, hf, State.modSlot_eq, Slot.modStream_eq, State.slot_setSlot, Slot.stream_setStream]
  exact after_setCtl c c 0

/-! ## Transfers (R90, R91, R96) -/

theorem endingHere_eq (c : Ctl) : endingHere c = (c.loopEnding c.pc).map Loop.lc := by
  rw [endingHere, List.head?_map, List.head?_filter]
  rfl

theorem transfer_trap {v : View} {c : Ctl} {es : List PendEff} {n : Nat} (he : endingHere v.ctl = some n) :
    transfer v c es = .trap 3 (BitVec.ofNat 64 n) := by
  rw [endingHere_eq] at he
  obtain ⟨l, hl, rfl⟩ := Option.map_eq_some_iff.1 he
  simp only [transfer, hl]

theorem transfer_jump {v : View} {c : Ctl} {es : List PendEff} (he : endingHere v.ctl = none) : transfer v c es = .jump c es := by
  rw [endingHere_eq, Option.map_eq_none_iff] at he
  simp only [transfer, he]

theorem holds_iff (l : Loop) (t : Nat) : l.holds t = true ↔ inBody l t := decide_eq_true_iff

/-- R96: the loops that a BR or JMPR leaves. -/
theorem leftLoops_eq (depth t : Nat) (l : List Loop) : leftLoops depth t l = leaving depth t l := by
  induction l with
  | nil => rfl
  | cons e l ih =>
    have h : (e.depth = depth ∧ (!e.holds t ∨ (leaving depth t l).any fun o => o.holds e.word)) ↔
        (e.depth = depth ∧ (¬ inBody e t ∨ ∃ o ∈ leaving depth t l, inBody o ((e.start + 32767) % 32768))) := by
      simp only [Bool.not_eq_true', ← Bool.not_eq_true, List.any_eq_true, holds_iff]
      rfl
    simp only [leftLoops, leaving, ih, if_congr h rfl rfl]

/-- R96: the control state of a taken BR or JMPR to `t`. -/
theorem leaveLoops_leaves (c : Ctl) (t : Nat) : ∃ gone kept, Leaves c t gone kept ∧
    ({ c.leaveLoops t with pc := t } : Ctl) = { c with pc := t, loops := kept, counts := idled c.counts gone } := by
  refine ⟨_, _, ⟨rfl, rfl⟩, ?_⟩
  simp [Ctl.leaveLoops, Ctl.idle, leftLoops_eq, idled]

/-- R90, R96: a transfer word with no result, from its outcome at its place. -/
theorem Issues.transfers (a : Issues s k x i h) {f : View → SRes} {c : Ctl} (hx : exec i s = .next (s.runShared i h 1 0 f))
    (hf : f ((s.slot k).view x) = transfer ((s.slot k).view x) c []) :
    (∀ n, endingHere ((s.slot k).stream x).ctl = some n → Traps s k x i 3 (BitVec.ofNat 64 n)) ∧
      (endingHere ((s.slot k).stream x).ctl = none → exec i s = .next (after s s k x h c 1)) := by
  refine ⟨fun n hn => ?_, fun hn => ?_⟩
  · unfold Traps
    rw [hx, a.shared_trap (hf.trans (transfer_trap hn))]
  · rw [hx, a.shared_jump (hf.trans (transfer_jump hn))]

theorem exec_br (h : Hdr) (o : BitVec 19) (s : State) :
    exec (.br h o) s = .next (s.runShared (.br h o) h 1 0 fun v => brRes v o) := rfl

theorem exec_call (h : Hdr) (o : BitVec 19) (s : State) :
    exec (.call h o) s = .next (s.runShared (.call h o) h 1 0 fun v => callRes v o) := rfl

theorem exec_ret (h : Hdr) (s : State) : exec (.ret h) s = .next (s.runShared (.ret h) h 1 0 retRes) := rfl

theorem exec_jmpr (h : Hdr) (d a : BitVec 5) (s : State) :
    exec (.jmpr h d a) s = .next (s.runShared (.jmpr h d a) h 1 0 fun v => jmprRes v d a) := rfl

theorem view_after (sl : Slot) (n : Nat) : (sl.view x).after n = ((sl.stream x).ctl.pc + n) % 32768 := if_pos rfl

theorem view_target (sl : Slot) (o : BitVec 19) : (sl.view x).target o = targetOf (sl.stream x).ctl.pc o := by
  rw [View.target, if_pos (show (sl.view x).core = true from rfl)]
  rfl

/-- R64, R90: BR goes to its target on a control core. -/
theorem brRes_view (sl : Slot) (o : BitVec 19) : brRes (sl.view x) o = transfer (sl.view x)
    { (sl.stream x).ctl.leaveLoops (targetOf (sl.stream x).ctl.pc o) with pc := targetOf (sl.stream x).ctl.pc o } [] := by
  rw [brRes, view_target]
  rfl

/-- R90: CALL pushes the place after it. -/
theorem callRes_view (sl : Slot) (o : BitVec 19) (h4 : (sl.stream x).ctl.depth ≠ 4) : callRes (sl.view x) o = transfer (sl.view x)
    { (sl.stream x).ctl with
      pc := targetOf (sl.stream x).ctl.pc o
      rs := (sl.stream x).ctl.rs.set (sl.stream x).ctl.depth (((sl.stream x).ctl.pc + 1) % 32768)
      depth := (sl.stream x).ctl.depth + 1 } [] := by
  rw [callRes, if_neg (by exact h4), view_target, view_after]
  rfl

/-- R90, R96: RET pops, and the loops entered deeper are idle. -/
theorem retRes_view (sl : Slot) (h0 : (sl.stream x).ctl.depth ≠ 0) : retRes (sl.view x) = transfer (sl.view x)
    { (sl.stream x).ctl with
      pc := (sl.stream x).ctl.rs.get 0 ((sl.stream x).ctl.depth - 1)
      depth := (sl.stream x).ctl.depth - 1
      loops := (sl.stream x).ctl.loops.filter fun l => l.depth ≤ (sl.stream x).ctl.depth - 1
      counts := idled (sl.stream x).ctl.counts
        ((sl.stream x).ctl.loops.filter fun l => (sl.stream x).ctl.depth - 1 < l.depth) } [] := by
  rw [retRes, if_neg (by exact h0)]
  rfl

/-- R90, R91: JMPR goes where a scalar says, and writes the place after it. -/
theorem jmprRes_view (sl : Slot) (d a : BitVec 5) : jmprRes (sl.view x) d a = transfer (sl.view x)
    { (sl.stream x).ctl.leaveLoops ((readScalar sl.regs a).toNat % 2 ^ 15) with pc := (readScalar sl.regs a).toNat % 2 ^ 15 }
    [.scalar d (BitVec.ofNat 64 (((sl.stream x).ctl.pc + 1) % 32768))] := by
  rw [jmprRes, view_after]
  rfl

end

/-- Settles O15: each transfer word traps or jumps by what `transfer` gives, after the return-stack trap. -/
theorem transferWords : Obligations.TransferWords := by
  unfold Obligations.TransferWords
  intro s k x h o d a
  refine ⟨fun w => ?br, fun w => ?call, fun w => ?ret, fun w => ?jmpr⟩
  case br =>
    obtain ⟨traps, jumps⟩ := w.transfers (exec_br h o s) (brRes_view _ o)
    obtain ⟨gone, kept, left, hc⟩ := leaveLoops_leaves ((s.slot k).stream x).ctl (targetOf ((s.slot k).stream x).ctl.pc o)
    exact ⟨traps, fun hn => ⟨gone, kept, left, by rw [jumps hn, hc]⟩⟩
  case call =>
    have full : ((s.slot k).stream x).ctl.depth = 4 → callRes ((s.slot k).view x) o = .trap 2 0 := fun h4 => if_pos h4
    refine ⟨fun h4 => ?_, fun n h4 => ?_, fun h4 => ?_⟩
    · rw [Traps, exec_call, w.shared_trap (full h4)]
    · exact (w.transfers (exec_call h o s) (callRes_view _ o h4)).1 n
    · exact (w.transfers (exec_call h o s) (callRes_view _ o h4)).2
  case ret =>
    have empty : ((s.slot k).stream x).ctl.depth = 0 → retRes ((s.slot k).view x) = .trap 2 1 := fun h0 => if_pos h0
    refine ⟨fun h0 => ?_, fun n h0 => ?_, fun h0 => ?_⟩
    · rw [Traps, exec_ret, w.shared_trap (empty h0)]
    · exact (w.transfers (exec_ret h s) (retRes_view _ h0)).1 n
    · exact (w.transfers (exec_ret h s) (retRes_view _ h0)).2
  case jmpr =>
    obtain ⟨gone, kept, left, hc⟩ := leaveLoops_leaves ((s.slot k).stream x).ctl ((readScalar (s.slot k).regs a).toNat % 2 ^ 15)
    refine ⟨fun n hn => ?_, fun hn => ⟨gone, kept, left, ?_⟩⟩
    · rw [Traps, exec_jmpr, w.shared_trap ((jmprRes_view _ d a).trans (transfer_trap hn))]
    · rw [exec_jmpr, w.shared_jump_scalar ((jmprRes_view _ d a).trans (transfer_jump hn)), hc]
      rfl

/-! ## Loops (R92-R94) -/

section
variable {x : Nat}

/-- R92: the count of a loop, an immediate or the low half of a scalar. -/
theorem loopCount_view (sl : Slot) (r : BitVec 8) : loopCount (sl.view x) r =
    if 128 ≤ r.toNat then (readScalar sl.regs (BitVec.ofNat 5 r.toNat)).toNat % 2 ^ 32 else r.toNat := by
  have htop : r.getLsbD 7 = true ↔ 128 ≤ r.toNat := by
    have := r.isLt
    rw [BitVec.getLsbD, Nat.testBit_eq_decide_div_mod_eq, decide_eq_true_eq]
    omega
  unfold loopCount
  rw [if_congr htop rfl rfl]
  split
  · rw [lo_toNat', BitVec.ofNat_toNat]
    rfl
  · omega

/-- R93, R94: the counter of a LOOP is active, in the stream or behind a running handler. -/
def loopActive (v : View) (n : BitVec 2) : Prop := ∃ e ∈ v.ctl.loops ++ v.held, e.lc = n.toNat

/-- R94: a body that ends at `last` reaches past the end of the loop that the LOOP stands in. -/
def loopBeyond (v : View) (last : Nat) : Prop :=
  ∃ e, (v.ctl.loops.filter fun e => e.depth = v.ctl.depth ∧ e.holds v.ctl.pc).head? = some e ∧
    (e.last + 32768 - e.start) % 32768 < (last + 32768 - e.start) % 32768

/-- R94: what a LOOP under a true guard decides. -/
theorem loopRes_eq (v : View) (n : BitVec 2) (l : BitVec 9) (count : Nat) (isX : Bool) (g : BitVec 3) (ng : Bool) :
    (loopActive v n ∨ loopBeyond v (v.after l.toNat) → loopRes v n l count isX g ng = .trap 3 (n.setWidth 64)) ∧
      (¬ loopActive v n → ¬ loopBeyond v (v.after l.toNat) →
        loopRes v n l count isX g ng = loopRes.enter v n l count isX g ng (v.after l.toNat)) := by
  have hactive : ((v.ctl.loops ++ v.held).any fun e => e.lc == n.toNat) = true ↔ loopActive v n := by
    simp only [List.any_eq_true, beq_iff_eq, loopActive]
  unfold loopRes
  by_cases ha : loopActive v n
  · simp [hactive.2 ha, ha]
  · simp only [if_neg (hactive.not.2 ha), ha, false_or, not_false_eq_true, forall_const]
    unfold loopBeyond
    rw [List.head?_filter]
    cases he : v.ctl.loops.find? fun e => decide (e.depth = v.ctl.depth ∧ e.holds v.ctl.pc = true) with
    | none => simp
    | some e =>
      refine ⟨?_, ?_⟩
      · rintro ⟨e', he', hb⟩
        obtain rfl := Option.some.inj he'
        exact if_pos hb
      · intro hb
        exact if_neg fun h => hb ⟨e, rfl, h⟩

end

/-- R94: LOOP and LOOPX by what `loopRes` decides. -/
theorem loops_of {i : Instr} {h : Hdr} {n : BitVec 2} {l : BitVec 9} {r : BitVec 8} {isX : Bool}
    (hx : ∀ s, exec i s = .next (s.runShared i h 1 l.toNat fun v => loopRes v n l (loopCount v r) isX h.g h.n)) :
    Loops i h n l r isX := by
  intro s k x a
  obtain ⟨traps, enters⟩ := loopRes_eq ((s.slot k).view x) n l (loopCount ((s.slot k).view x) r) isX h.g h.n
  rw [view_after] at traps enters
  refine ⟨fun w => ?_, fun ha hb h0 => ?_, fun ha hb h0 => ?_⟩
  · rw [Traps, hx, a.shared_trap (traps w)]
  · rw [← loopCount_view] at h0
    rw [hx, a.shared_goto ((enters ha hb).trans (if_pos h0)), view_after]
    rfl
  · rw [← loopCount_view] at h0
    rw [hx, a.shared_goto ((enters ha hb).trans (if_neg h0)), view_after, loopCount_view]
    rfl

/-- Settles O16: both loop words run by `loopRes`. -/
theorem loopWords : Obligations.LoopWords := by
  unfold Obligations.LoopWords
  exact fun h n l x => ⟨loops_of fun _ => rfl, loops_of fun _ => rfl⟩

/-! ## The end of a stream (R86) -/

theorem exec_endStream_of {s : State} {k x : Nat} {h : Hdr} (a : Issues s k x (.endStream h) h) :
    exec (.endStream h) s = .next (after s (s.setSlot k ((s.slot k).endStream x)) k x h
      ((((s.slot k).endStream x).stream x).ctl) 0) := by
  have hx : exec (.endStream h) s = .next (s.issueStream k x (.endStream h) h.g h.n h.s 1 0 fun s _ =>
      .stay (s.modSlot k fun sl => sl.endStream x)) := by
    show execEndStream h s = _
    rw [execEndStream, a.cur]
  rw [hx, a.issueStream]
  simp only [State.modSlot_eq, State.slot_setSlot]

/-- R86: with another stream left the task goes on; the last end begins the task's. -/
theorem endStream_eq (sl : Slot) (x : Nat) :
    let st := sl.stream x
    let gone := sl.setStream x { st with ended := true, ctl := { st.ctl with loops := [] } }
    ((∃ y < 4, y ≠ x ∧ (sl.stream y).ended = false) → sl.endStream x = gone) ∧
      ((∀ y < 4, y ≠ x → (sl.stream y).ended = true) → sl.endStream x = { gone with phase := .ending, ending := some .endOk }) := by
  intro st gone
  have hends : ([0, 1, 2, 3].all fun y => (gone.stream y).ended) = true ↔ ∀ y < 4, y ≠ x → (sl.stream y).ended = true := by
    have hy : ∀ y, (gone.stream y).ended = true ↔ (y ≠ x → (sl.stream y).ended = true) := by
      intro y
      by_cases h : y = x
      · subst h
        simp [gone]
      · simp [gone, Slot.stream_setStream_ne _ _ _ _ h, h]
    simp only [List.all_eq_true, hy]
    refine ⟨fun h y h4 => h y (by simp; omega), fun h y hm => h y ?_⟩
    simp only [List.mem_cons, List.not_mem_nil, or_false] at hm
    omega
  have hif : sl.endStream x = if ([0, 1, 2, 3].all fun y => (gone.stream y).ended) = true then gone.beginEnding .endOk else gone := rfl
  rw [hif]
  refine ⟨fun ⟨y, h4, hne, hf⟩ => if_neg fun h => ?_, fun h => if_pos (hends.2 h)⟩
  exact Bool.noConfusion (hf.symm.trans (hends.1 h y h4 hne))

/-- Settles O17: the slot after `endStream`, by whether another stream is left. -/
theorem endOfAStream : Obligations.EndOfAStream := by
  unfold Obligations.EndOfAStream
  intro s k x h _ a
  obtain ⟨goesOn, ends⟩ := endStream_eq (s.slot k) x
  refine ⟨fun hy => ?_, fun hy => ?_⟩
  · rw [exec_endStream_of a, goesOn hy, Slot.stream_setStream]
  · rw [exec_endStream_of a, ends hy]
    simp [Slot.stream]

end Sys2Proof.Claims
end

section
/-! The divides (R107, R108), on a control core in both modes and on the engines (R84). -/

namespace Sys2Proof.Machine

/-! ## Programs of copy commands and queues (R84) -/

theorem lane0_lanesOf (b : Bool) : lane0 (lanesOf b) = b := by cases b <;> rfl

theorem Prog.view_guard (p : Prog) (g : BitVec 3) (n : Bool) : p.view.guard g n = (readBit p.preds g != n) := by
  rw [View.guard, Prog.view, lane0_lanesOf]

theorem State.runShared_command {s : State} {id : Nat} (hc : s.cur = .command id) (hb : (s.job id).busy = false) (i : Instr) (h : Hdr)
    (len skip : Nat) (f : View → SRes) : s.runShared i h len skip f =
      s.setJob id ((s.job id).after ((s.job id).prog.run (s.job id).len h.g h.n len skip f)) := by
  simp [State.runShared, State.runEngine, hc, hb]

theorem State.runShared_queue {s : State} {q : Nat} {p : Packet} (hc : s.cur = .queue q) (hp : (s.hqueue q).cur = some p)
    (hs : p.still = false) (i : Instr) (h : Hdr) (len skip : Nat) (f : View → SRes) : s.runShared i h len skip f =
      s.setHqueue q { s.hqueue q with cur := some (p.after (p.prog.run p.code.length h.g h.n len skip f)) } := by
  simp [State.runShared, State.runEngine, hc, hp, hs]

theorem Job.stop_of_idle {j : Job} (h : j.busy = false) : j.stop = none := by
  simp only [Job.busy, Bool.or_eq_false_iff] at h
  simpa using h.1.1.1.2

theorem Packet.ended_of_going {p : Packet} (h : p.still = false) : p.ended = none := by
  simp only [Packet.still, Bool.or_eq_false_iff] at h
  simpa using h.1.1.2

/-- A word that a copy command passes. -/
theorem Job.after_none (j : Job) (p : Prog) : j.after (p, none) = { j with prog := p } := rfl

/-- R213, R215: a word that ends a copy command is kept for its completion record. -/
theorem Job.after_stop {j : Job} (hb : j.busy = false) {st : Nat} (h0 : st ≠ 0) :
    j.after (j.prog, some st) = { j with stop := some st, badWord := j.prog.ctl.pc } := by
  simp [Job.after, Job.stop_of_idle hb, h0]

theorem Packet.after_none (q : Packet) (p : Prog) (hs : q.still = false) : q.after (p, none) = { q with prog := p, words := q.words + 1 } := by
  simp [Packet.after, Packet.ended_of_going hs]

theorem Packet.after_stop {q : Packet} (hs : q.still = false) (st : Nat) :
    q.after (q.prog, some st) = { q with ended := some st, words := q.words + 1 } := by
  simp [Packet.after, Packet.ended_of_going hs]

end Sys2Proof.Machine

namespace Sys2Proof.Claims
open Sys2Proof.Machine

/-! ## What becomes of a program's word (R84) -/

section
variable {p : Prog} {bound len skip : Nat} {g : BitVec 3} {n : Bool} {f : View → SRes}

theorem passedProg_eq (rs : Tab Word) (ps : Tab Bool) :
    ({ regs := rs, preds := ps
       ctl := p.ctl.advance (fun g => lane0 (p.view.pred g)) (p.ctl.pc + len - 1) (p.ctl.pc + len + 0) } : Prog) =
      passedProg p len rs ps := by
  simp only [passedProg, Prog.view, lane0_lanesOf]
  rfl

theorem progRun_skips (hg : (readBit p.preds g != n) = false) : p.run bound g n len 0 f = (passedProg p len p.regs p.preds, none) := by
  simp only [Prog.run, Prog.view_guard, hg, Bool.not_false, if_true]
  rw [passedProg_eq]

theorem progRun_scalar (hg : (readBit p.preds g != n) = true) {d : BitVec 5} {v : Word} (hf : f p.view = .ok [.scalar d v]) :
    p.run bound g n len skip f = (passedProg p len (if d = 0 then p.regs else p.regs.set d.toNat v) p.preds, none) := by
  simp only [Prog.run, Prog.view_guard, hg, Bool.not_true, Bool.false_eq_true, if_false, hf, List.foldl, Prog.write]
  rw [passedProg_eq]
  rfl

theorem progRun_trap (hg : (readBit p.preds g != n) = true) {c : Nat} {u : Word} (hf : f p.view = .trap c u) :
    p.run bound g n len skip f = (p, some (engineStatus c)) := by
  simp only [Prog.run, Prog.view_guard, hg, Bool.not_true, Bool.false_eq_true, if_false, hf]

end

/-! ## What a divide is to the model -/

/-- Word `i` is a divide of `dv` by `b` into `d`, with result `q`: shared, with scalar operands alone, and at its frozen latency
(R107, R108, R256). -/
structure IsDivide (i : Instr) (h : Hdr) (d : BitVec 5) (b : View → Int) (dv q : View → Word) : Prop where
  runs : ∀ s, exec i s = .next (s.runShared i h 1 0 fun v => divide (decide (b v = 0)) (dv v) d (q v))
  latency : latencyOf i = frozenLatency i
  queues : (usesOf i).q = []
  push : (usesOf i).push = none
  counter : (usesOf i).cls = none

theorem isDivide_of {i : Instr} {h : Hdr} {d : BitVec 5} {b : View → Int} {dv q : View → Word} (z : View → Bool) (e g : View → Word)
    (hz : ∀ v, z v = true ↔ b v = 0) (he : ∀ v, e v = dv v) (hg : ∀ v, g v = q v)
    (hx : ∀ s, exec i s = .next (s.runShared i h 1 0 fun v => divide (z v) (e v) d (g v)) := by exact fun _ => rfl)
    (hl : latencyOf i = frozenLatency i := by rfl) (hq : (usesOf i).q = [] := by rfl) (hp : (usesOf i).push = none := by rfl)
    (hc : (usesOf i).cls = none := by rfl) : IsDivide i h d b dv q := by
  obtain rfl : z = fun v => decide (b v = 0) := funext fun v => by rw [Bool.eq_iff_iff, hz, decide_eq_true_eq]
  obtain rfl : e = dv := funext he
  obtain rfl : g = q := funext hg
  exact ⟨hx, hl, hq, hp, hc⟩

theorem divideTable_mono {P Q : Instr → Hdr → BitVec 5 → (View → Int) → (View → Word) → (View → Word) → Prop}
    (h : ∀ {i h d b dv q}, P i h d b dv q → Q i h d b dv q) (t : divideTable P) : divideTable Q := by
  intro hd d a b
  obtain ⟨h1, h2, h3, h4, h5, h6, h7, h8⟩ := t hd d a b
  exact ⟨h h1, h h2, h h3, h h4, h h5, h h6, h h7, h h8⟩

/-! ## The numbers (R82, R107) -/

theorem eq_zero_iff_toInt {w : Nat} (v : BitVec w) : (v == 0) = true ↔ v.toInt = 0 := by simp [← BitVec.toInt_inj]

theorem eq_zero_iff_toNat {w : Nat} (v : BitVec w) : (v == 0) = true ↔ (v.toNat : Int) = 0 := by simp [← BitVec.toNat_inj]

theorem lo_toNat_int (v : Word) : ((lo v).toNat : Int) = (v.toNat : Int) % 2 ^ 32 := by
  rw [lo_toNat']
  rfl

theorem udiv_ofInt {w : Nat} (a b : BitVec w) : a / b = BitVec.ofInt w ((a.toNat : Int) / b.toNat) := by
  rw [← Int.natCast_ediv, BitVec.ofInt_natCast, ← BitVec.toNat_udiv, BitVec.ofNat_toNat, BitVec.setWidth_eq]

theorem umod_ofInt {w : Nat} (a b : BitVec w) : a % b = BitVec.ofInt w ((a.toNat : Int) % b.toNat) := by
  rw [← Int.natCast_mod, BitVec.ofInt_natCast, ← BitVec.toNat_umod, BitVec.ofNat_toNat, BitVec.setWidth_eq]

theorem lo_eq_zero_iff_low32 (v : Word) : (lo v == 0) = true ↔ low32 v = 0 := by rw [eq_zero_iff_toInt, low32_lo]

theorem lo_eq_zero_iff_mod (v : Word) : (lo v == 0) = true ↔ (v.toNat : Int) % 2 ^ 32 = 0 := by rw [eq_zero_iff_toNat, lo_toNat_int]

theorem wr_lo (v : Word) : wr (lo v) = word32 v.toNat := wr_of _ _ (lo_toNat v)

/-- R107, R108: each divide word of the table is one. -/
theorem divideTable_isDivide : divideTable IsDivide := fun h d a b =>
  ⟨isDivide_of (fun v => v.reg b == 0) (fun v => v.reg a) (fun v => divS (v.reg a) (v.reg b))
      (fun v => eq_zero_iff_toInt (v.reg b)) (fun _ => rfl) (fun _ => rfl),
    isDivide_of (fun v => lo (v.reg b) == 0) (fun v => wr (lo (v.reg a))) (fun v => wr (divS (lo (v.reg a)) (lo (v.reg b))))
      (fun v => lo_eq_zero_iff_low32 (v.reg b)) (fun v => wr_lo (v.reg a)) (fun _ => by simp only [low32_lo]; exact wr_ofInt _),
    isDivide_of (fun v => v.reg b == 0) (fun v => v.reg a) (fun v => v.reg a / v.reg b)
      (fun v => eq_zero_iff_toNat (v.reg b)) (fun _ => rfl) (fun _ => udiv_ofInt _ _),
    isDivide_of (fun v => lo (v.reg b) == 0) (fun v => wr (lo (v.reg a))) (fun v => wr (lo (v.reg a) / lo (v.reg b)))
      (fun v => lo_eq_zero_iff_mod (v.reg b)) (fun v => wr_lo (v.reg a))
      (fun _ => by rw [udiv_ofInt, wr_ofInt, lo_toNat_int, lo_toNat_int]),
    isDivide_of (fun v => v.reg b == 0) (fun v => v.reg a) (fun v => remS (v.reg a) (v.reg b))
      (fun v => eq_zero_iff_toInt (v.reg b)) (fun _ => rfl) (fun _ => rfl),
    isDivide_of (fun v => lo (v.reg b) == 0) (fun v => wr (lo (v.reg a))) (fun v => wr (remS (lo (v.reg a)) (lo (v.reg b))))
      (fun v => lo_eq_zero_iff_low32 (v.reg b)) (fun v => wr_lo (v.reg a)) (fun _ => by simp only [low32_lo]; exact wr_ofInt _),
    isDivide_of (fun v => v.reg b == 0) (fun v => v.reg a) (fun v => v.reg a % v.reg b)
      (fun v => eq_zero_iff_toNat (v.reg b)) (fun _ => rfl) (fun _ => umod_ofInt _ _),
    isDivide_of (fun v => lo (v.reg b) == 0) (fun v => wr (lo (v.reg a))) (fun v => wr (lo (v.reg a) % lo (v.reg b)))
      (fun v => lo_eq_zero_iff_mod (v.reg b)) (fun v => wr_lo (v.reg a))
      (fun _ => by rw [umod_ofInt, wr_ofInt, lo_toNat_int, lo_toNat_int])⟩

/-! ## The divides on a control core (R107, R108, R255) -/

section
variable {s : State} {k x : Nat} {i : Instr} {h : Hdr} {d : BitVec 5} {b : View → Int} {dv q : View → Word}

theorem divide_zero {v : View} (h0 : b v = 0) : divide (decide (b v = 0)) (dv v) d (q v) = .trap 4 (dv v) :=
  if_pos (decide_eq_true h0)

theorem divide_nonzero {v : View} (h0 : b v ≠ 0) : divide (decide (b v = 0)) (dv v) d (q v) = .ok [.scalar d (q v)] :=
  if_neg (by simpa using h0)

theorem IsDivide.divides (w : IsDivide i h d b dv q) : Divides i h d b dv q :=
  divides_of (fun v => decide (b v = 0)) dv q w.runs (fun _ => decide_eq_true_iff) (fun _ => rfl) fun _ => rfl

/-- A shared word with one scalar result lands it at its latency in exposed mode (R255). -/
theorem IssuesExposed.shared_scalar (a : IssuesExposed s k x i h) {len skip : Nat} {f : View → SRes} {v : Word}
    (hf : f ((s.slot k).view x) = .ok [.scalar d v]) :
    s.runShared i h len skip f = done s (landing s k x (latencyOf i) [.scalar d v]) k x h len := by
  unfold State.runShared
  rw [a.cur]
  simp only [a.issueStream, hf, State.commit, a.exposed, Bool.true_or, if_true, landing]

theorem IsDivide.dividesExposed (w : IsDivide i h d b dv q) : DividesExposed i h d b dv q := by
  intro s k x a
  refine ⟨fun h0 => ?_, fun h0 => ?_⟩
  · rw [Traps, w.runs, a.shared_trap (divide_zero h0)]
  · rw [w.runs, a.shared_scalar (divide_nonzero h0), w.latency]

/-! ## The divides on the engines (R84, R108) -/

theorem IsDivide.engineDivides (w : IsDivide i h d b dv q) : EngineDivides i h d b dv q := by
  refine ⟨fun s id hc hb hg => ⟨fun h0 => ?_, fun h0 => ?_⟩, fun s j p hc hp hs hg => ⟨fun h0 => ?_, fun h0 => ?_⟩⟩
  · rw [w.runs, State.runShared_command hc hb, progRun_trap hg (divide_zero h0), Job.after_stop hb (by decide)]
    rfl
  · rw [w.runs, State.runShared_command hc hb, progRun_scalar hg (divide_nonzero h0), Job.after_none]
  · rw [w.runs, State.runShared_queue hc hp hs, progRun_trap hg (divide_zero h0), Packet.after_stop hs]
    rfl
  · rw [w.runs, State.runShared_queue hc hp hs, progRun_scalar hg (divide_nonzero h0), Packet.after_none _ _ hs]

/-! ## Words of scalars that do not act or do not issue (R54, R254) -/

/-- R254: a word that waits for a load's register issues nothing. -/
theorem AtWord.waits (a : AtWord s k x i h) (hg : wordActive (usesOf i) ((s.slot k).view x) h.g h.n = true)
    (hw : s.interlock k x (usesOf i) (h.s && !(s.slot k).trap.inHandler) = .wait) (len skip : Nat) (body : State → View → WRes) :
    s.issueStream k x i h.g h.n h.s len skip body = s.queueWait k x (usesOf i) := by
  unfold State.issueStream
  simp only [a.mayIssue, a.alone.1, a.counter, hg, hw, Bool.not_true, Bool.false_eq_true, if_false, if_true]

/-- Where no queue is short, a wait changes at most the stream's queue wait. -/
theorem queueWait_unqueued (u : Uses) (hq : u.q = []) (hp : u.push = none) :
    s.queueWait k x u = s ∨ ∃ st, s.queueWait k x u = s.setSlot k ((s.slot k).setStream x st) := by
  have ht : (s.slot k).queueTrap u = none := by simp [Slot.queueTrap, hq, hp]
  simp only [State.queueWait, ht]
  split
  · exact .inr ⟨_, rfl⟩
  · exact .inl rfl

theorem interlock_unqueued (u : Uses) (rv : Bool) (hq : u.q = []) (hp : u.push = none) :
    s.interlock k x u rv = .go ∨ s.interlock k x u rv = .wait := by
  simp only [State.interlock, hq, State.pushBlock, hp]
  split
  · exact .inr rfl
  · exact .inl rfl

/-- A shared word without queues and without a counter does nothing under a false guard, never meets a full counter or a short queue,
and waits for its registers with nothing issued. -/
theorem skips_unqueued {len skip : Nat} {f : View → SRes} (hx : ∀ s, exec i s = .next (s.runShared i h len skip f))
    (hq : (usesOf i).q = []) (hp : (usesOf i).push = none) (hc : (usesOf i).cls = none) : Skips i h len skip := by
  have hstream : ∀ {s k x}, s.cur = .stream k x → ∃ body, exec i s = .next (s.issueStream k x i h.g h.n h.s len skip body) := by
    intro s k x hcur
    rw [hx]
    unfold State.runShared
    rw [hcur]
    exact ⟨_, rfl⟩
  refine ⟨fun s k x a hg => ?passed, fun s k x c _ he => ?counter, fun s k x a hg => ⟨fun _ => ?exposed, fun _ hi => ?guarded⟩⟩
  case passed =>
    obtain ⟨body, hb⟩ := hstream a.cur
    have hn : s.nullOp k x (usesOf i) = s := by simp only [State.nullOp, hc]
    rw [hb, a.falseGuard hg, hn]
    simp only [hc]
  case counter => exact absurd (hc.symm.trans he) (by simp)
  case exposed =>
    refine ⟨fun before o behind he => ?_, fun q _ he => ?_⟩
    · exact absurd (hq.symm.trans he) (by simp)
    · exact absurd (hp.symm.trans he) (by simp)
  case guarded =>
    obtain ⟨body, hb⟩ := hstream a.cur
    have hw := (interlock_unqueued (usesOf i) _ hq hp).resolve_left hi
    rw [Stands, hb, a.waits hg hw]
    rcases queueWait_unqueued (s := s) (k := k) (x := x) (usesOf i) hq hp with e | ⟨st, e⟩
    · rw [e]
      exact ⟨s, rfl, rfl, rfl, rfl, rfl, rfl, rfl⟩
    · rw [e]
      exact ⟨_, rfl, by simp⟩

/-- R54, R84: a divide whose guard is false passes on the engines. -/
theorem IsDivide.skips (w : IsDivide i h d b dv q) : Skips i h 1 0 ∧
    (∀ s id, s.cur = .command id → (s.job id).busy = false → (readBit (s.job id).prog.preds h.g != h.n) = false →
      let p := (s.job id).prog
      exec i s = .next (s.setJob id { s.job id with prog := passedProg p 1 p.regs p.preds })) ∧
    (∀ s j p, s.cur = .queue j → (s.hqueue j).cur = some p → p.still = false → (readBit p.prog.preds h.g != h.n) = false →
      exec i s = .next (s.setHqueue j { s.hqueue j with
        cur := some { p with prog := passedProg p.prog 1 p.prog.regs p.prog.preds, words := p.words + 1 } })) := by
  refine ⟨skips_unqueued w.runs w.queues w.push w.counter, fun s id hc hb hg => ?_, fun s j p hc hp hs hg => ?_⟩
  · rw [w.runs, State.runShared_command hc hb, progRun_skips hg, Job.after_none]
  · rw [w.runs, State.runShared_queue hc hp hs, progRun_skips hg, Packet.after_none _ _ hs]

end

/-- Settles O6: each table follows from what the divide words are to the model. -/
theorem divideWords : Obligations.DivideWords := by
  unfold Obligations.DivideWords
  exact ⟨divideTable_mono IsDivide.divides divideTable_isDivide, divideTable_mono IsDivide.dividesExposed divideTable_isDivide,
    divideTable_mono IsDivide.engineDivides divideTable_isDivide, divideTable_mono IsDivide.skips divideTable_isDivide⟩

end Sys2Proof.Claims
end

section
/-! What the front end's touch of a signal leaves (R351), and what a retirement does (R359, R370, R385, R440). -/

namespace Sys2Proof.Machine

/-! ## Translations brought in (R351) -/

/-- The unit of a die that renews what it holds of an address, unless it keeps it. -/
def State.renewed (s : State) (die asid va : Nat) : Die :=
  if Config.stillCached s.fresh then s.die die else { s.die die with
    charts := (s.die die).charts.filter fun p => !(p.1 == asid && p.2.holds va)
    pages := (s.die die).pages.filter fun p => !p.holds asid va }

/-- What a unit whose die is `d` takes in, by the chart lines and the page that it finds. -/
def State.takenIn (t : State) (die asid va : Nat) (d : Die) (hits : List ChartLine) (found : Nat ⊕ PageLine) : State :=
  match hits with
  | [l] => if d.charts.any fun p => p.1 == asid && p.2.loc == l.loc then t
           else t.modDie die fun d => { d with charts := ((asid, l) :: d.charts).take 512 }
  | _ :: _ => t
  | [] =>
    if d.pages.any fun p => p.holds asid va then t
    else match found with
      | .inl _ => t
      | .inr p => t.modDie die fun d => { d with pages := (p :: d.pages).take 4096 }

/-- What the unit takes in once it has renewed itself. -/
def State.afterRenewal (t : State) (die asid va : Nat) (d : Die) : State :=
  t.takenIn die asid va d (t.chartHits die asid va) (t.walk die asid va 5 (t.rootOf asid))

theorem State.touch_eq (s : State) (die asid va : Nat) : s.touch die asid va = if windowBase ≤ va then s else
    (({ s with fresh := s.fresh + 1 } : State).setDie die (s.renewed die asid va)).afterRenewal die asid va (s.renewed die asid va) := rfl

/-- States that differ in the dies' units and the number of the next choice alone. -/
def unitsOnly (a b : State) : Prop := ∃ d f, b = { a with dies := d, fresh := f }

theorem unitsOnly.refl (a : State) : unitsOnly a a := ⟨_, _, rfl⟩

theorem unitsOnly.trans {a b c : State} (h : unitsOnly a b) (h' : unitsOnly b c) : unitsOnly a c := by
  obtain ⟨_, _, rfl⟩ := h
  obtain ⟨d, f, rfl⟩ := h'
  exact ⟨d, f, rfl⟩

theorem State.takenIn_unitsOnly (t : State) (die asid va : Nat) (d : Die) (hits : List ChartLine) (found : Nat ⊕ PageLine) :
    unitsOnly t (t.takenIn die asid va d hits found) := by
  unfold State.takenIn
  split
  · split
    · exact .refl t
    · exact ⟨_, _, rfl⟩
  · exact .refl t
  · split
    · exact .refl t
    · split
      · exact .refl t
      · exact ⟨_, _, rfl⟩

theorem State.touch_unitsOnly (s : State) (die asid va : Nat) : unitsOnly s (s.touch die asid va) := by
  rw [State.touch_eq]
  split
  · exact .refl s
  · exact unitsOnly.trans ⟨_, _, rfl⟩ (State.takenIn_unitsOnly ..)

theorem State.touchAll_unitsOnly (s : State) (die asid : Nat) (vas : List Nat) : unitsOnly s (s.touchAll die asid vas) := by
  unfold State.touchAll
  induction (vas.map fun va => va / 4096 * 4096).eraseDups generalizing s with
  | nil => exact .refl s
  | cons va l ih => exact (s.touch_unitsOnly die asid va).trans (ih _)

theorem State.feTouch_unitsOnly (s : State) (q va n : Nat) : unitsOnly s (s.feTouch q va n) :=
  (s.touchAll_unitsOnly 0 (s.hqueue q).asid (spanOf va n)).trans ⟨_, _, rfl⟩

/-! ## No translation looks at the retirements that wait (R439) -/

section
variable (s : State) (r : List (Nat × Nat))

theorem State.walk_retiring (d asid va n tbl : Nat) : ({ s with retiring := r } : State).walk d asid va n tbl = s.walk d asid va n tbl := by
  induction n generalizing tbl with
  | zero => rfl
  | succ n ih =>
    unfold State.walk
    simp only [ih]
    rfl

theorem State.takenIn_retiring (die asid va : Nat) (d : Die) (hits : List ChartLine) (found : Nat ⊕ PageLine) :
    ({ s with retiring := r } : State).takenIn die asid va d hits found =
      { s.takenIn die asid va d hits found with retiring := r } := by
  unfold State.takenIn
  split
  · split <;> rfl
  · rfl
  · split
    · rfl
    · split <;> rfl

theorem State.afterRenewal_retiring (die asid va : Nat) (d : Die) : ({ s with retiring := r } : State).afterRenewal die asid va d =
    { s.afterRenewal die asid va d with retiring := r } := by
  unfold State.afterRenewal
  rw [State.takenIn_retiring, State.walk_retiring]
  rfl

theorem State.touch_retiring (die asid va : Nat) : ({ s with retiring := r } : State).touch die asid va =
    { s.touch die asid va with retiring := r } := by
  rw [State.touch_eq, State.touch_eq]
  split
  · rfl
  · exact State.afterRenewal_retiring (({ s with fresh := s.fresh + 1 } : State).setDie die (s.renewed die asid va)) r die asid va _

theorem State.touchAll_retiring (die asid : Nat) (vas : List Nat) : ({ s with retiring := r } : State).touchAll die asid vas =
    { s.touchAll die asid vas with retiring := r } := by
  unfold State.touchAll
  induction (vas.map fun va => va / 4096 * 4096).eraseDups generalizing s with
  | nil => rfl
  | cons va l ih =>
    rw [List.foldl_cons, State.touch_retiring, ih]
    rfl

theorem State.feTouch_retiring (q va n : Nat) : ({ s with retiring := r } : State).feTouch q va n =
    { s.feTouch q va n with retiring := r } := by
  unfold State.feTouch
  rw [show ({ s with retiring := r } : State).hqueue q = s.hqueue q from rfl, State.touchAll_retiring]

theorem State.feReach_retiring (q : Nat) (acc : Acc) (va n : Nat) : ({ s with retiring := r } : State).feReach q acc va n =
    s.feReach q acc va n := rfl

end

/-! ## Retirement (R359, R440) -/

theorem Tab.find_del {α : Type} (t : Tab α) (k : Nat) : (t.del k).find? k = none := by
  refine Tab.find_none_of_notMem _ k fun h => ?_
  obtain ⟨p, hp, rfl⟩ := List.mem_map.1 h
  simp [Tab.del] at hp

end Sys2Proof.Machine

namespace Sys2Proof.Claims
open Sys2Proof.Machine

/-! ## LAUNCH_RETIRE (R385) -/

/-- R373, R385: a chart written anew changes the memory and its marks, the dies' units and its ASID's entry, and nothing else. -/
theorem writeChart_eq (s : State) (asid : Nat) (lines : List (List Nat)) : ∃ mem marks dies, s.writeChart asid lines =
    { s with mem := mem, marks := marks, dies := dies
             asids := s.asids.set asid { s.asids.get {} asid with nchart := lines.length } } := ⟨_, _, _, rfl⟩

/-- R385: what the retirement of a launch does to the package's chart. -/
def chartClosed (s : State) (L : Launch) : State :=
  if L.lines.isEmpty then s else s.writeChart L.asid (L.lines.foldl List.erase (s.rawChart L.asid))

theorem chartClosed_keeps (s : State) (L : Launch) : (chartClosed s L).launches = s.launches ∧ (chartClosed s L).groups = s.groups ∧
    (chartClosed s L).slots = s.slots := by
  unfold chartClosed
  split
  · exact ⟨rfl, rfl, rfl⟩
  · exact ⟨rfl, rfl, rfl⟩

theorem chartClosed_nil (s : State) {L : Launch} (h : L.lines = []) : chartClosed s L = s := by simp [chartClosed, h]

theorem chartClosed_nchart (s : State) {L : Launch} (h : L.lines ≠ []) :
    ((chartClosed s L).asids.get {} L.asid).nchart = (L.lines.foldl List.erase (s.rawChart L.asid)).length := by
  have hw : chartClosed s L = s.writeChart L.asid (L.lines.foldl List.erase (s.rawChart L.asid)) :=
    if_neg (by simpa using h)
  obtain ⟨mem, marks, dies, e⟩ := writeChart_eq s L.asid (L.lines.foldl List.erase (s.rawChart L.asid))
  rw [hw, e]
  simp

/-- R385: a launch may retire. -/
def launchOver (s : State) (L : Launch) : Prop :=
  L.retired = false ∧ L.census = 0 ∧ ∃ p ∈ (s.hqueue L.queue).started, p.launch = some s.inp.id

/-- The state after a launch's retirement. -/
def launchRetired (s : State) (L : Launch) : State :=
  { chartClosed s L with
    groups := s.groups.filter fun (g : Nat × Group) => g.2.launch != s.inp.id
    launches := s.launches.set s.inp.id { L with retired := true } }

theorem launchOver_iff (s : State) (L : Launch) :
    (L.retired || L.census != 0 || !((s.hqueue L.queue).started.any fun p => p.launch == some s.inp.id)) = true ↔ ¬ launchOver s L := by
  have hany : ((s.hqueue L.queue).started.any fun p => p.launch == some s.inp.id) = true ↔
      ∃ p ∈ (s.hqueue L.queue).started, p.launch = some s.inp.id := by simp only [List.any_eq_true, beq_iff_eq]
  simp only [launchOver, ← hany, Bool.or_eq_true, bne_iff_ne, Bool.not_eq_true', not_and_or, Bool.not_eq_false, Bool.not_eq_true,
    or_assoc, ne_eq]

/-- R385: what becomes of a launch whose turn to retire it is. -/
def launchTurn (s : State) (L : Launch) : State :=
  if L.retired || L.census != 0 || !((s.hqueue L.queue).started.any fun p => p.launch == some s.inp.id) then s
  else ({ chartClosed s L with
    groups := (chartClosed s L).groups.filter fun (g : Nat × Group) => g.2.launch != s.inp.id } : State).modLaunch s.inp.id
      fun l => { l with retired := true }

theorem exec_launchRetire (s : State) :
    exec .launchRetire s = .next ((s.launches.find? s.inp.id).elim s (launchTurn s)) := by
  show Host.Outcome.next (match s.launches.find? s.inp.id with
    | none => s
    | some l => launchTurn s l) = _
  cases s.launches.find? s.inp.id <;> rfl

theorem launchRetire_retires {s : State} {L : Launch} (hL : s.launches.find? s.inp.id = some L) (h : launchOver s L) :
    exec .launchRetire s = .next (launchRetired s L) := by
  obtain ⟨hl, hg, -⟩ := chartClosed_keeps s L
  rw [exec_launchRetire, hL, Option.elim_some, launchTurn, if_neg ((launchOver_iff s L).not.2 (not_not_intro h)), State.modLaunch]
  simp only [hl, hL, hg]
  rfl

theorem launchRetire_waits {s : State} {L : Launch} (hL : s.launches.find? s.inp.id = some L) (h : ¬ launchOver s L) :
    exec .launchRetire s = .next s := by
  rw [exec_launchRetire, hL, Option.elim_some, launchTurn, if_pos ((launchOver_iff s L).2 h)]

/-! ## PACKET_RETIRE (R359, R370, R439) -/

/-- R370: the status of a packet, by its program's ending, its launch and whether that was aborted. -/
theorem packetStatus_eq (s : State) (p : Packet) : s.packetStatus p = packetStatus s p := by
  unfold State.packetStatus packetStatus
  rcases p.ended with _ | _ | e
  case some.succ => rfl
  all_goals
    cases p.launch with
    | none => rfl
    | some n => cases h : (s.launch n).aborted <;> simp [h]

/-- R370: an aborted packet's addend. -/
theorem addendOf_eq (s : State) (p : Packet) (a : Word) :
    (if s.packetAborted p then 2 ^ 64 - 2 ^ 31 else a.toNat) = addendOf s p a := by
  unfold State.packetAborted addendOf
  rcases p.ended with _ | _ | e
  case some.succ => simp
  all_goals
    cases p.launch with
    | none => simp
    | some n => cases h : (s.launch n).aborted <;> simp [h]

theorem mayRetire_iff (s : State) (q : Nat) (p : Packet) : s.mayRetire q p = true ↔ mayLeave s q p := by
  have hturn : (if (s.hqueue q).state = 3 then ((s.hqueue q).started.head?.map Packet.idx) == some p.idx
      else ((s.hqueue q).started.takeWhile fun e => e.idx != p.idx).all fun e => e.addFault.isNone) = true ↔
      ((s.hqueue q).state = 3 → ((s.hqueue q).started.head?.map Packet.idx) = some p.idx) ∧
      ((s.hqueue q).state ≠ 3 → ∀ e ∈ (s.hqueue q).started.takeWhile fun e => e.idx != p.idx, e.addFault = none) := by
    by_cases h : (s.hqueue q).state = 3
    · simp [h]
    · simp [h]
  unfold State.mayRetire mayLeave
  simp only [Bool.and_eq_true, hturn, Option.isNone_iff_eq_none, Bool.not_eq_true', and_assoc]
  cases p.launch with
  | none => simp
  | some n => simp

/-- States that differ in nothing that a retirement tells or takes away. -/
def besideRetirement (a b : State) : Prop := ∃ mem marks dies fresh retiring,
  b = { a with mem := mem, marks := marks, dies := dies, fresh := fresh, retiring := retiring }

theorem Retired.of_beside {a b t : State} {q status : Nat} {p : Packet} {applied : Bool} (h : besideRetirement a b)
    (r : Retired b t q p status applied) : Retired a t q p status applied := by
  obtain ⟨mem, marks, dies, fresh, retiring, rfl⟩ := h
  exact r

theorem completion_eq (s : State) (q : Nat) (p : Packet) (status : Nat) (applied : Bool) : s.completion q p status applied =
    leBytes 2 q ++ leBytes 1 status ++ leBytes 1 (((p.launch.map s.launch).getD {}).landed.toNat + if applied then 2 else 0) ++
      leBytes 4 p.idx ++ leBytes 8 (match p.comp with
        | some (_, _, w) => w.toNat
        | none => 0) ++
      leBytes 8 ((p.launch.map s.launch).getD {}).validity.toNat ++ leBytes 4 (p.launch.getD 0) ++ leBytes 4 0 ++
      leBytes 8 s.mtime.toNat ++ leBytes 8 0 := by
  unfold State.completion
  cases applied <;> cases p.comp <;> rfl

/-- What the retirement of a packet changes: the port, its queue and its launch. -/
theorem retire_eq (s : State) (q : Nat) (p : Packet) (status : Nat) (applied : Bool) : ∃ host, s.retire q p status applied =
    { s with
      host := host
      devOut := (s.send 0 4 (s.completion q p status applied)).devOut
      hqueues := s.hqueues.set q { s.hqueue q with started := (s.hqueue q).started.filter fun e => e.idx != p.idx }
      launches := match p.launch with
        | some n => s.launches.del n
        | none => s.launches } := by
  obtain ⟨o, host, e⟩ := s.send_portOnly 0 4 (s.completion q p status applied)
  refine ⟨host, ?_⟩
  unfold State.retire
  rw [e]
  cases p.launch <;> rfl

/-- R440: the packet that retires is gone and its COMPLETION sent. -/
theorem retire_retired (s : State) (q : Nat) (p : Packet) (status : Nat) (applied : Bool) :
    Retired s (s.retire q p status applied) q p status applied ∧ (s.retire q p status applied).mem = s.mem := by
  obtain ⟨host, e⟩ := retire_eq s q p status applied
  rw [e]
  refine ⟨⟨?_, fun n hn => ?_, ?_, rfl⟩, rfl⟩
  · exact congrArg HQueue.started (Tab.get_set ..)
  · simp only [hn]
    exact Tab.find_del ..
  · exact (congrArg DevStream.unacked (s.send_devOut 0 4 _)).trans (congrArg (fun d => (s.devOut.get {} 0).unacked ++ [({
      seq := (s.devOut.get {} 0).seq, type := 4, sent := s.mtime.toNat, data := d } : Msg)]) (completion_eq s q p status applied))

/-! ## The completion signal (R230, R453, R456) -/

theorem headD_mem {l : List Nat} (h : l ≠ []) : l.headD 0 ∈ l := by
  obtain ⟨a, l, rfl⟩ := List.exists_cons_of_ne_nil h
  exact List.mem_cons_self

section
variable {s : State} {q va addend : Nat} {p : Packet}

theorem addSignal_stop {e : Nat} (h : (s.feTouch q va 8).feReach q .both va 8 = .stop e) : s.addSignal q p va addend =
    (s.feTouch q va 8).retire q p (if s.packetStatus p = 0 then e else s.packetStatus p) false := by
  simp only [State.addSignal, h]

theorem addSignal_fault {v c k : Nat} (h : (s.feTouch q va 8).feReach q .both va 8 = .fault v c k) : s.addSignal q p va addend =
    ((s.feTouch q va 8).feRecord q v c k).modStarted q p.idx fun e => { e with addFault := some v } := by
  simp only [State.addSignal, h]

variable {locs : List Nat} (h : (s.feTouch q va 8).feReach q .both va 8 = .ok locs) (hne : locs ≠ [])
  (hnear : ∀ l ∈ locs, isRemote l = false)
include h hne hnear

/-- R453: a signal on a mark is not written. -/
theorem addSignal_marked (hm : ∃ l ∈ locs, (s.feTouch q va 8).marked l = true) :
    s.addSignal q p va addend = (s.feTouch q va 8).retire q p (s.packetStatus p) false := by
  have hl : isRemote (locs.headD 0) = false := hnear _ (headD_mem hne)
  have hany : locs.any (s.feTouch q va 8).marked = true := List.any_eq_true.2 hm
  simp only [State.addSignal, h, hl, hany, Bool.false_eq_true, if_false, if_true]

/-- R230: a signal gets its addend. -/
theorem addSignal_adds (hm : ∀ l ∈ locs, (s.feTouch q va 8).marked l = false) (hc : (s.feTouch q va 8).cairnHolders = []) :
    s.addSignal q p va addend = ((s.feTouch q va 8).rawLocs
      (locs.zip (leBytes 8 (leNat (locs.map (Memory.read (s.feTouch q va 8).mem)) + addend)))).retire q p (s.packetStatus p) true := by
  have hl : isRemote (locs.headD 0) = false := hnear _ (headD_mem hne)
  have hany : locs.any (s.feTouch q va 8).marked = false := by simpa using hm
  have hfault : (s.feTouch q va 8).cairnFault locs = none := by simp [State.cairnFault, hc]
  have hwrite : ∀ l, (s.feTouch q va 8).writeLocs l = (s.feTouch q va 8).rawLocs l := fun l => by simp [State.writeLocs, hc]
  simp only [State.addSignal, h, hl, hany, hfault, hwrite, Bool.false_eq_true, if_false]

end

/-! ## The packet's turn (R359, R439) -/

/-- R230, R370: the retirement of a packet that leaves its queue. -/
def leavesNow (s : State) (q : Nat) (p : Packet) : State :=
  match p.comp with
  | some (none, _, _) => s.retire q p (s.packetStatus p) false
  | some (some va, addend, _) =>
    if p.noAdd || p.added then s.retire q p (s.packetStatus p) p.added
    else s.addSignal q p va (if s.packetAborted p then 2 ^ 64 - 2 ^ 31 else addend.toNat)
  | none => s.retire q p (s.packetStatus p) false

/-- R439: the state in which a packet's retirement waits no more. -/
def waitsNoMore (s : State) (q : Nat) (p : Packet) : State := { s with retiring := s.retiring.filter fun e => e != (q, p.idx) }

/-- What becomes of a packet whose turn to retire it is. -/
def packetTurn (s : State) (q : Nat) (p : Packet) : State :=
  if !s.mayRetire q p then s
  else if !s.roomToRetire then (if s.retiring.contains (q, p.idx) then s else { s with retiring := s.retiring ++ [(q, p.idx)] })
  else if s.firstRetiring.any fun e => e != (q, p.idx) then s
  else leavesNow (waitsNoMore s q p) q p

theorem exec_packetRetire (s : State) : exec .packetRetire s =
    .next (((s.hqueue s.inp.unit).started.find? fun p => p.idx == s.inp.id).elim s (packetTurn s s.inp.unit)) := by
  show Host.Outcome.next (match (s.hqueue s.inp.unit).started.find? fun p => p.idx == s.inp.id with
    | none => s
    | some p => packetTurn s s.inp.unit p) = _
  cases (s.hqueue s.inp.unit).started.find? fun p => p.idx == s.inp.id <;> rfl

section
variable {s : State} {q : Nat} {p : Packet}

theorem packetTurn_held (h : ¬ mayLeave s q p) : packetTurn s q p = s :=
  if_pos (by rw [Bool.not_eq_true', ← Bool.not_eq_true, mayRetire_iff]; exact h)

theorem packetTurn_mayLeave (h : mayLeave s q p) : packetTurn s q p =
    if !s.roomToRetire then (if s.retiring.contains (q, p.idx) then s else { s with retiring := s.retiring ++ [(q, p.idx)] })
    else if s.firstRetiring.any fun e => e != (q, p.idx) then s
    else leavesNow (waitsNoMore s q p) q p :=
  if_neg (by rw [(mayRetire_iff s q p).2 h]; simp)

theorem roomToRetire_iff : s.roomToRetire = true ↔ roomLeft s := decide_eq_true_iff

/-- R439: without room on stream 0 the retirement waits. -/
theorem packetTurn_full (h : mayLeave s q p) (hr : ¬ roomLeft s) : packetTurn s q p =
    { s with retiring := if (q, p.idx) ∈ s.retiring then s.retiring else s.retiring ++ [(q, p.idx)] } := by
  rw [packetTurn_mayLeave h, if_pos (by rw [Bool.not_eq_true', ← Bool.not_eq_true, roomToRetire_iff]; exact hr)]
  by_cases hm : (q, p.idx) ∈ s.retiring
  · rw [if_pos (by simpa using hm), if_pos hm]
  · rw [if_neg (by simpa using hm), if_neg hm]

/-- R439: retirements that waited for room go in their order. -/
theorem packetTurn_behind (h : mayLeave s q p) (hr : roomLeft s) (hf : ∃ e, s.firstRetiring = some e ∧ e ≠ (q, p.idx)) :
    packetTurn s q p = s := by
  obtain ⟨e, he, hne⟩ := hf
  rw [packetTurn_mayLeave h, if_neg (by simp [roomToRetire_iff.2 hr]), if_pos (by simpa [he] using hne)]

theorem packetTurn_goes (h : mayLeave s q p) (hr : roomLeft s) (hf : ∀ e, s.firstRetiring = some e → e = (q, p.idx)) :
    packetTurn s q p = leavesNow (waitsNoMore s q p) q p := by
  rw [packetTurn_mayLeave h, if_neg (by simp [roomToRetire_iff.2 hr]), if_neg]
  cases e : s.firstRetiring with
  | none => simp
  | some e' => simp [hf e' e]

end

/-! ## What a packet that leaves is seen to do (R230, R359, R440) -/

/-- R440: a packet that retires in a state that differs from `s` beside the retirement. -/
theorem retires_beside {s u : State} (h : besideRetirement s u) (q : Nat) (p : Packet) (status : Nat) (applied : Bool) :
    Retired s (u.retire q p status applied) q p status applied ∧ (u.retire q p status applied).mem = u.mem := by
  obtain ⟨hr, hm⟩ := retire_retired u q p status applied
  exact ⟨hr.of_beside h, hm⟩

section
variable {s : State} {q : Nat} {p : Packet}

theorem waitsNoMore_beside (s : State) (q : Nat) (p : Packet) : besideRetirement s (waitsNoMore s q p) := ⟨_, _, _, _, _, rfl⟩

/-- R230: with no signal to give, the packet is gone. -/
theorem leavesNow_unsignalled (hc : p.comp = none ∨ ∃ a w, p.comp = some (none, a, w)) :
    leavesNow (waitsNoMore s q p) q p = (waitsNoMore s q p).retire q p (packetStatus s p) false := by
  rw [← packetStatus_eq]
  rcases hc with hc | ⟨a, w, hc⟩
  · simp only [leavesNow, hc]
    rfl
  · simp only [leavesNow, hc]
    rfl

/-- R422, R441: a signal that is given up after a fault, or that another package has given. -/
theorem leavesNow_given {va : Nat} {a w : Word} (hc : p.comp = some (some va, a, w)) (h : p.noAdd = true ∨ p.added = true) :
    leavesNow (waitsNoMore s q p) q p = (waitsNoMore s q p).retire q p (packetStatus s p) p.added := by
  have ht : (p.noAdd || p.added) = true := by simpa using h
  simp only [leavesNow, hc, ht, if_true, ← packetStatus_eq]
  rfl

theorem leavesNow_signals {va : Nat} {a w : Word} (hc : p.comp = some (some va, a, w)) (hn : p.noAdd = false) (ha : p.added = false) :
    leavesNow (waitsNoMore s q p) q p = (waitsNoMore s q p).addSignal q p va (addendOf s p a) := by
  simp only [leavesNow, hc, hn, ha, Bool.or_self, Bool.false_eq_true, if_false, ← addendOf_eq]
  rfl

/-- R456: a fault at the signal's address holds the packet where it is, with its record told on stream 1. -/
theorem held_at_fault (u : State) (v c k id : Nat) (hp : ((u.hqueue q).started.find? fun e => e.idx == id) = some p) :
    let t := (u.feRecord q v c k).modStarted q p.idx fun e => { e with addFault := some v }
    t.mem = u.mem ∧ (t.devOut.get {} 0).unacked = (u.devOut.get {} 0).unacked ∧
      ((t.hqueue q).started.find? fun e => e.idx == id) = some { p with addFault := some v } := by
  have hidx : p.idx = id := by simpa using List.find?_some hp
  have hkeep : ∀ e : Packet, (if (e.idx == p.idx) = true then { e with addFault := some v } else e).idx = e.idx := by
    intro e
    split <;> rfl
  have hq : (u.feRecord q v c k).hqueue q = u.hqueue q := State.hqueue_congr (State.faultRecord_hqueues ..) q
  refine ⟨(State.send_portOnly ..).frame.1, congrArg DevStream.unacked (State.send_devOut_ne _ 1 5 _ 0 (by decide)), ?_⟩
  rw [State.modStarted, State.modHqueue, State.hqueue_setHqueue, hq]
  simp only [updateWhere, List.find?_map, Function.comp_def, hkeep, hp, Option.map_some, beq_self_eq_true, if_true]

end

/-! ## The signal of a packet that leaves -/

section
variable (s : State) (q va : Nat) (p : Packet)

/-- The state that the access to a signal finds: its translations brought in, the packet's retirement waiting no more. -/
def signalState (s : State) (q va : Nat) (p : Packet) : State := (waitsNoMore s q p).feTouch q va 8

theorem signalState_eq : signalState s q va p = { s.feTouch q va 8 with retiring := s.retiring.filter fun e => e != (q, p.idx) } :=
  s.feTouch_retiring _ q va 8

theorem signalState_reach : (signalState s q va p).feReach q .both va 8 = (s.feTouch q va 8).feReach q .both va 8 := by
  rw [signalState_eq, State.feReach_retiring]

theorem signalState_marked (l : Nat) : (signalState s q va p).marked l = (s.feTouch q va 8).marked l := by
  rw [signalState_eq]
  rfl

theorem signalState_cairnHolders : (signalState s q va p).cairnHolders = (s.feTouch q va 8).cairnHolders := by
  rw [signalState_eq]
  rfl

theorem signalState_unitsOnly : unitsOnly (waitsNoMore s q p) (signalState s q va p) := State.feTouch_unitsOnly ..

theorem signalState_beside : besideRetirement s (signalState s q va p) := by
  obtain ⟨d, f, e⟩ := signalState_unitsOnly s q va p
  exact ⟨_, _, _, _, _, e⟩

theorem signalState_keeps : (signalState s q va p).mem = s.mem ∧ (signalState s q va p).hqueue q = s.hqueue q ∧
    (signalState s q va p).devOut = s.devOut := by
  obtain ⟨d, f, e⟩ := signalState_unitsOnly s q va p
  rw [e]
  exact ⟨rfl, rfl, rfl⟩

/-- R332: what the write of a signal makes of the memory. -/
theorem signalState_write (l : List (Nat × Byte)) : ((signalState s q va p).rawLocs l).mem = stored s l ∧
    besideRetirement s ((signalState s q va p).rawLocs l) := by
  obtain ⟨d, f, e⟩ := signalState_unitsOnly s q va p
  rw [e]
  exact ⟨rfl, _, _, _, _, _, rfl⟩

end

section
variable {s : State} {q va : Nat} {p : Packet} {a w : Word} (hc : p.comp = some (some va, a, w)) (hn : p.noAdd = false)
  (ha : p.added = false)
include hc hn ha

/-- R455: a hole under the signal shows in the status, where the packet has none of its own. -/
theorem signal_stops {e : Nat} (h : (s.feTouch q va 8).feReach q .both va 8 = .stop e) : ∃ t, leavesNow (waitsNoMore s q p) q p = t ∧
    Retired s t q p (if packetStatus s p = 0 then e else packetStatus s p) false ∧ t.mem = s.mem := by
  obtain ⟨hr, hm⟩ := retires_beside (signalState_beside s q va p) q p (if packetStatus s p = 0 then e else packetStatus s p) false
  refine ⟨_, ?_, hr, hm.trans (signalState_keeps s q va p).1⟩
  rw [leavesNow_signals hc hn ha, addSignal_stop ((signalState_reach s q va p).trans h), ← packetStatus_eq]
  rfl

theorem signal_faults {v c k id : Nat} (hp : ((s.hqueue q).started.find? fun e => e.idx == id) = some p)
    (h : (s.feTouch q va 8).feReach q .both va 8 = .fault v c k) : ∃ t, leavesNow (waitsNoMore s q p) q p = t ∧ t.mem = s.mem ∧
      (t.devOut.get {} 0).unacked = (s.devOut.get {} 0).unacked ∧
      ((t.hqueue q).started.find? fun e => e.idx == id) = some { p with addFault := some v } := by
  obtain ⟨hmem, hqueue, hout⟩ := signalState_keeps s q va p
  obtain ⟨tmem, tout, tfind⟩ := held_at_fault (signalState s q va p) v c k id (by rw [hqueue]; exact hp)
  refine ⟨_, ?_, tmem.trans hmem, tout.trans (by rw [hout]), tfind⟩
  rw [leavesNow_signals hc hn ha, addSignal_fault ((signalState_reach s q va p).trans h)]
  rfl

variable {locs : List Nat} (h : (s.feTouch q va 8).feReach q .both va 8 = .ok locs) (hne : locs ≠ [])
  (hnear : ∀ l ∈ locs, isRemote l = false)
include h hne hnear

/-- R453: a signal on a mark is not given. -/
theorem signal_marked (hm : ∃ l ∈ locs, (s.feTouch q va 8).marked l = true) : ∃ t, leavesNow (waitsNoMore s q p) q p = t ∧
    Retired s t q p (packetStatus s p) false ∧ t.mem = s.mem := by
  obtain ⟨hr, hmem⟩ := retires_beside (signalState_beside s q va p) q p (packetStatus s p) false
  have hmark : ∃ l ∈ locs, (signalState s q va p).marked l = true := by simpa only [signalState_marked] using hm
  refine ⟨_, ?_, hr, hmem.trans (signalState_keeps s q va p).1⟩
  rw [leavesNow_signals hc hn ha, addSignal_marked ((signalState_reach s q va p).trans h) hne hnear hmark, ← packetStatus_eq]
  rfl

/-- R230: the signal gets its addend. -/
theorem signal_adds (hm : ∀ l ∈ locs, (s.feTouch q va 8).marked l = false) (hcairn : (s.feTouch q va 8).cairnHolders = []) :
    ∃ t, leavesNow (waitsNoMore s q p) q p = t ∧ Retired s t q p (packetStatus s p) true ∧
      t.mem = stored s (locs.zip (leBytes 8 (leNat (locs.map (Memory.read s.mem)) + addendOf s p a))) := by
  obtain ⟨hmem, hbeside⟩ := signalState_write s q va p
    (locs.zip (leBytes 8 (leNat (locs.map (Memory.read s.mem)) + addendOf s p a)))
  obtain ⟨hr, hkeep⟩ := retires_beside hbeside q p (packetStatus s p) true
  have hclean : ∀ l ∈ locs, (signalState s q va p).marked l = false := by simpa only [signalState_marked] using hm
  refine ⟨_, ?_, hr, hkeep.trans hmem⟩
  rw [leavesNow_signals hc hn ha, addSignal_adds ((signalState_reach s q va p).trans h) hne hnear hclean
    ((signalState_cairnHolders s q va p).trans hcairn), ← packetStatus_eq,
    show ((waitsNoMore s q p).feTouch q va 8).mem = s.mem from (signalState_keeps s q va p).1]
  rfl

end

/-- Settles O53: each clause is the state that the launch's or the packet's turn leads to. -/
theorem retirementEvents : Obligations.RetirementEvents := by
  unfold Obligations.RetirementEvents
  intro s
  refine ⟨fun L hL => ⟨fun h => ?launch, launchRetire_waits hL⟩, fun hn => ?none, fun q p hq hp => ?packet⟩
  case launch =>
    obtain ⟨-, -, hslots⟩ := chartClosed_keeps s L
    refine ⟨launchRetired s L, launchRetire_retires hL h, Tab.find_set .., fun g hg => ?_, fun g hg hne => ?_, hslots, fun hl => ?_,
      fun hl => chartClosed_nchart s hl⟩
    · simpa using (List.mem_filter.1 hg).2
    · exact List.mem_filter.2 ⟨hg, by simpa using hne⟩
    · simp [launchRetired, chartClosed_nil s hl]
  case none => rw [exec_launchRetire, hn, Option.elim_none]
  case packet =>
    subst hq
    have hx : exec .packetRetire s = .next (packetTurn s s.inp.unit p) := by rw [exec_packetRetire, hp, Option.elim_some]
    refine ⟨fun h => ?_, fun h hr => ?_, fun h hr hf => ?_, fun h hr hf => ?_⟩
    · rw [hx, packetTurn_held h]
    · rw [hx, packetTurn_full h hr]
    · rw [hx, packetTurn_behind h hr hf]
    · rw [hx, packetTurn_goes h hr hf]
      have goes : ∀ status applied, ∃ t, Host.Outcome.next ((waitsNoMore s s.inp.unit p).retire s.inp.unit p status applied) =
          (.next t : Out) ∧ Retired s t s.inp.unit p status applied ∧ t.mem = s.mem := fun status applied =>
        ⟨_, rfl, retires_beside (waitsNoMore_beside s s.inp.unit p) s.inp.unit p status applied⟩
      refine ⟨fun hc => ?_, fun va a w hc hg => ?_, fun va a w hc hn ha => ?_⟩
      · rw [leavesNow_unsignalled hc]
        exact goes _ _
      · rw [leavesNow_given hc hg]
        exact goes _ _
      · simp only [Host.Outcome.next.injEq]
        exact ⟨fun locs hl hne hnear => ⟨signal_marked hc hn ha hl hne hnear, signal_adds hc hn ha hl hne hnear⟩,
          fun e => signal_stops hc hn ha, fun v c k => signal_faults hc hn ha hp⟩

end Sys2Proof.Claims
end

section
/-! The vector words that push an entry (R124-R140): their sources, their latencies, and what issue makes of them. -/

namespace Sys2Proof.Claims
open Sys2Proof.Machine

/-! ## Sources (R124) -/

/-- The queue operands of a word as the model lists them. -/
def operands (l : List (BitVec 4 × Nat × Bool)) : List (Nat × Nat × Bool) := l.map fun o => (o.1.toNat, o.2.1, o.2.2)

theorem qOne_eq (a : BitVec 4) (x : Bool) : qOne a x = operands (src1 a x) := rfl

theorem qTwo_eq (a : BitVec 4) (x : Bool) (b : BitVec 4) (y : Bool) : qTwo a x b y = operands (src2 a x b y) := by
  simp [qTwo, operands, src2]

/-- The pops of its own queue that come before an accumulator. -/
theorem pops_before (a : BitVec 4) (x : Bool) (b : BitVec 4) (y : Bool) (d : BitVec 4) :
    ((qTwo a x b y).filter fun o => o.1 = d.toNat ∧ o.2.2).length =
      (if a = d ∧ x = false then 1 else 0) + if b = d ∧ y = false then 1 else 0 := by
  simp only [qTwo, List.filter_cons, List.filter_nil, BitVec.toNat_inj, Bool.not_eq_true', decide_eq_true_eq]
  split <;> split <;> rfl

theorem qAcc_eq (a : BitVec 4) (x : Bool) (b : BitVec 4) (y : Bool) (d : BitVec 4) : qAcc a x b y d = operands (src3 a x b y d) := by
  rw [qAcc, pops_before, qTwo_eq, operands, operands, src3, List.map_append]
  rfl

/-! ## Latencies (R256) -/

/-- A float type is one of the first three. -/
theorem typedLatency (t : BitVec 4) : (if vecF t then 4 else 2) = if t.toNat ≤ 2 then 4 else 2 := by
  simp [vecF]

/-! ## The words -/

section
variable {i : Instr} {h : Hdr} {a b d : BitVec 4} {x y : Bool} {r : View → Rnd → List Entry → VRes}
  (hx : ∀ s, exec i s = .next (s.issueCore i h 1 fun k x s v => vecPush k x s i d.toNat (r v)))
  (hl : latencyOf i = frozenLatency i)
include hx hl

theorem pushes_one (hu : (usesOf i).q = qOne a x) : Pushes i h 1 d (src1 a x) r := pushes_of hx hl (hu.trans (qOne_eq a x))

theorem pushes_two (hu : (usesOf i).q = qTwo a x b y) : Pushes i h 1 d (src2 a x b y) r :=
  pushes_of hx hl (hu.trans (qTwo_eq a x b y))

theorem pushes_three (hu : (usesOf i).q = qAcc a x b y d) : Pushes i h 1 d (src3 a x b y d) r :=
  pushes_of hx hl (hu.trans (qAcc_eq a x b y d))

end

/-- Settles O22: each word is a push of the entry that its statement names, with the sources and the latency that it lists. -/
theorem vectorPushWords : Obligations.VectorPushWords := by
  unfold Obligations.VectorPushWords
  intro h d a b t k x y
  exact ⟨
    -- adds, subtracts, products, minima and maxima (R130)
    pushes_two (fun _ => rfl) (typedLatency t) rfl, pushes_two (fun _ => rfl) rfl rfl,
    pushes_two (fun _ => rfl) (typedLatency t) rfl, pushes_two (fun _ => rfl) rfl rfl, pushes_two (fun _ => rfl) rfl rfl,
    pushes_two (fun _ => rfl) rfl rfl, pushes_two (fun _ => rfl) (typedLatency t) rfl,
    pushes_two (fun _ => rfl) (typedLatency t) rfl,
    -- multiply-adds (R131)
    pushes_three (fun _ => rfl) rfl rfl, pushes_three (fun _ => rfl) rfl rfl, pushes_three (fun _ => rfl) rfl rfl,
    pushes_three (fun _ => rfl) rfl rfl,
    -- words of one source (R130-R135)
    pushes_one (fun _ => rfl) (typedLatency t) rfl, pushes_one (fun _ => rfl) (typedLatency t) rfl,
    pushes_one (fun _ => rfl) rfl rfl, pushes_one (fun _ => rfl) rfl rfl, pushes_one (fun _ => rfl) rfl rfl,
    pushes_one (fun _ => rfl) rfl rfl,
    -- selection and scaling (R134, R137)
    pushes_two (fun _ => rfl) rfl rfl, pushes_two (fun _ => rfl) rfl rfl, pushes_one (fun _ => rfl) rfl rfl,
    -- reductions (R139)
    pushes_one (fun _ => rfl) rfl rfl, pushes_one (fun _ => rfl) rfl rfl, pushes_one (fun _ => rfl) rfl rfl,
    pushes_one (fun _ => rfl) rfl rfl, pushes_one (fun _ => rfl) rfl rfl, pushes_one (fun _ => rfl) rfl rfl,
    -- permutations, broadcasts and lookups (R140)
    pushes_two (fun _ => rfl) rfl rfl, pushes_two (fun _ => rfl) rfl rfl, pushes_one (fun _ => rfl) rfl rfl,
    pushes_two (fun _ => rfl) rfl rfl, pushes_two (fun _ => rfl) rfl rfl, pushes_two (fun _ => rfl) rfl rfl,
    pushes_of (fun _ => rfl) rfl rfl, pushes_two (fun _ => rfl) rfl rfl,
    -- bitwise words and shifts (R135)
    pushes_two (fun _ => rfl) rfl rfl, pushes_two (fun _ => rfl) rfl rfl, pushes_two (fun _ => rfl) rfl rfl,
    pushes_two (fun _ => rfl) rfl rfl, pushes_two (fun _ => rfl) rfl rfl, pushes_two (fun _ => rfl) rfl rfl⟩

end Sys2Proof.Claims
end

section
/-! Entries and their elements (R122, R123, R126), and the integer results of the vector words (R128-R135). -/

namespace Sys2Proof.Machine

/-! ## Elements of an entry -/

/-- Digit `j` of the number that digits make, the lowest first. -/
theorem digit_foldr {B : Nat} (hB : 0 < B) (l : List Nat) (j : Nat) :
    l.foldr (fun c acc => c % B + B * acc) 0 / B ^ j % B = l.getD j 0 % B := by
  induction l generalizing j with
  | nil => simp
  | cons c l ih =>
    cases j with
    | zero => simp
    | succ j =>
      rw [List.foldr_cons, pow_succ', ← Nat.div_div_eq_div_mul, Nat.add_mul_div_left _ _ hB, Nat.div_eq_of_lt (Nat.mod_lt c hB),
        Nat.zero_add, ih, List.getD_cons_succ]

/-- Bits below the width of a number are not cut off. -/
theorem digit_ofNat (n : Nat) {a b c : Nat} (h : a + b ≤ c) : (BitVec.ofNat c n).toNat / 2 ^ a % 2 ^ b = n / 2 ^ a % 2 ^ b := by
  obtain ⟨r, rfl⟩ := Nat.exists_eq_add_of_le h
  rw [BitVec.toNat_ofNat, Nat.add_assoc, Nat.pow_add, Nat.mod_mul_right_div_self, Nat.mod_mod_of_dvd _ (pow_dvd_pow 2 (Nat.le_add_right _ r))]

/-- R122: an entry holds the elements that it is packed of; those past the last are zero. -/
theorem elem_packElems {b j : Nat} (l : List Nat) (hj : j < 128 / b) : elem b (packElems b l) j = l.getD j 0 % 2 ^ (8 * b) := by
  have hb : 0 < b := Nat.pos_of_ne_zero fun h => by simp [h] at hj
  have hlast : (j + 1) * b ≤ 128 := (Nat.le_div_iff_mul_le hb).1 hj
  have hfit : 8 * b * j + 8 * b ≤ 1024 := by nlinarith
  rw [elem, packElems, digit_ofNat _ hfit, Nat.pow_mul 2 (8 * b) j]
  exact digit_foldr (Nat.two_pow_pos _) l j

/-- The codes of results `g` of the elements below `n`. -/
theorem getD_codes (n : Nat) (g : Nat → Nat × BitVec 5) (j : Nat) :
    (((List.range n).map g).map Prod.fst).getD j 0 = if j < n then (g j).1 else 0 := by
  split <;> simp [*]

/-- Their flags (R127). -/
theorem flags_results {n j : Nat} (g : Nat → Nat × BitVec 5) (hj : j < n) :
    (((List.range n).map g).zipIdx.map fun p => (p.2, p.1.2))[j]? = some (j, (g j).2) := by
  simp [hj]

/-- R126: an active element takes its result, another the merge value. -/
theorem elem_vecMap (t : BitVec 4) (m : Lanes) (merge : Entry) (f : Nat → Nat × BitVec 5) {j : Nat} (hj : j < 128 / strideOf t) :
    elem (strideOf t) (vecMap t m merge f).entry j =
      if activeElem (strideOf t) m j then (f j).1 % 2 ^ (8 * strideOf t) else elem (strideOf t) merge j := by
  rw [vecMap, elem_packElems _ hj, getD_codes, if_pos (show j < elems t from hj)]
  split
  · rfl
  · exact Nat.mod_mod _ _

theorem flags_vecMap (t : BitVec 4) (m : Lanes) (merge : Entry) (f : Nat → Nat × BitVec 5) {j : Nat} (hj : j < 128 / strideOf t) :
    (vecMap t m merge f).flags[j]? = some (j, if activeElem (strideOf t) m j then (f j).2 else 0) := by
  rw [vecMap, flags_results _ (show j < elems t from hj)]
  split <;> rfl

theorem width_pos (t : BitVec 4) : 0 < width t := by
  unfold width strideOf
  split
  · decide
  · split <;> decide

/-- Past its width a shift leaves the sign alone. -/
theorem ediv_two_pow_min {w : Nat} (n : Nat) {z : Int} (hlo : -2 ^ w ≤ z) (hhi : z < 2 ^ w) : z / 2 ^ min n w = z / 2 ^ n := by
  rcases Nat.le_total n w with h | h
  · rw [Nat.min_eq_left h]
  · rw [Nat.min_eq_right h]
    have hpow : (2 : Int) ^ w ≤ 2 ^ n := pow_le_pow_right₀ (by decide) h
    by_cases hz : 0 ≤ z
    · rw [Int.ediv_eq_zero_of_lt hz hhi, Int.ediv_eq_zero_of_lt hz (hhi.trans_le hpow)]
    · have hneg : z < 0 := not_le.1 hz
      rw [Int.ediv_eq_neg_one_of_neg_of_le hneg (by omega), Int.ediv_eq_neg_one_of_neg_of_le hneg (by omega)]

end Sys2Proof.Machine

namespace Sys2Proof.Claims
open Sys2Proof.Machine

/-! ## Integer elements (R122, R128) -/

section
variable {t : BitVec 4}

theorem signedType_iff (t : BitVec 4) : signedType t = true ↔ t.toNat = 4 ∨ t.toNat = 5 ∨ t.toNat = 6 := by
  simp only [signedType, Bool.and_eq_true, decide_eq_true_eq]
  omega

theorem exactInt_eq (t : BitVec 4) (c : Nat) : exactInt t c = elemInt t c := by
  unfold exactInt fromCode elemInt
  simp only [Bool.and_eq_true, decide_eq_true_eq, signedType_iff, ite_and]

theorem intMin_eq (t : BitVec 4) : intMin (signedType t) (width t) = elemMin t := by
  simp only [intMin, elemMin, signedType_iff]

theorem intMax_eq (t : BitVec 4) : intMax (signedType t) (width t) = elemMax t := by
  simp only [intMax, elemMax, signedType_iff]

theorem wrapInt_eq (t : BitVec 4) (v : Int) : wrapInt t v = (elemCut t v, 0) := rfl

theorem clampInt_eq (t : BitVec 4) (v : Int) : clampInt t v = (elemCut t (max (elemMin t) (min (elemMax t) v)), 0) := by
  rw [clampInt, intMin_eq, intMax_eq]
  rfl

/-- An element is the cut of the number that it holds. -/
theorem elemCut_elemInt {x : Nat} (h : x < 2 ^ width t) : elemCut t (elemInt t x) = x := by
  have hcut : ((x : Int) % 2 ^ width t).toNat = x := by
    rw [Int.emod_eq_of_lt (by omega) (by exact_mod_cast h), Int.toNat_natCast]
  unfold elemCut elemInt
  split
  · split
    · rw [Int.sub_emod_right, hcut]
    · exact hcut
  · exact hcut

/-- An unsigned element holds no negative number. -/
theorem elemInt_nonneg {x : Nat} (h : ¬ signedType t = true) : 0 ≤ elemInt t x := by
  rw [signedType_iff] at h
  simp [elemInt, h]

theorem vecF_of_vecI (h : vecI t = true) : vecF t = false := by
  simp only [vecI, vecF, Bool.and_eq_true, decide_eq_true_eq, decide_eq_false_iff_not] at *
  omega

/-! ## Results of elements (R130-R135) -/

variable (rm : Rnd) {x y : Nat}

theorem minElem_eq (h : vecI t = true) (hx : x < 2 ^ width t) (hy : y < 2 ^ width t) :
    minElem t rm x y = (elemCut t (min (elemInt t x) (elemInt t y)), 0) := by
  rw [minElem, vecF_of_vecI h, exactInt_eq, exactInt_eq]
  by_cases c : elemInt t y < elemInt t x
  · simp [c, min_eq_right c.le, elemCut_elemInt hy]
  · simp [c, min_eq_left (not_lt.1 c), elemCut_elemInt hx]

theorem maxElem_eq (h : vecI t = true) (hx : x < 2 ^ width t) (hy : y < 2 ^ width t) :
    maxElem t rm x y = (elemCut t (max (elemInt t x) (elemInt t y)), 0) := by
  rw [maxElem, vecF_of_vecI h, exactInt_eq, exactInt_eq]
  by_cases c : elemInt t x < elemInt t y
  · simp [c, max_eq_right c.le, elemCut_elemInt hy]
  · simp [c, max_eq_left (not_lt.1 c), elemCut_elemInt hx]

theorem absElem_eq (h : vecI t = true) (hx : x < 2 ^ width t) :
    absElem t rm x = (elemCut t (if elemInt t x < 0 then -elemInt t x else elemInt t x), 0) := by
  rw [absElem, vecF_of_vecI h, exactInt_eq]
  by_cases c : signedType t = true
  · simp [c, wrapInt_eq]
  · simp [c, not_lt.2 (elemInt_nonneg c), elemCut_elemInt hx]

/-- R135: an arithmetic shift keeps the sign, whatever the count. -/
theorem sraElem_eq (hx : x < 2 ^ width t) (n : Nat) :
    sraElem t rm x n = (elemCut t ((if 2 ^ (width t - 1) ≤ x then (x : Int) - 2 ^ width t else x) / 2 ^ n), 0) := by
  obtain ⟨w, hw⟩ := Nat.exists_eq_add_of_lt (width_pos t)
  rw [Nat.zero_add] at hw
  have hsigned : (BitVec.ofNat (width t) x).toInt = if 2 ^ (width t - 1) ≤ x then (x : Int) - 2 ^ width t else x := by
    rw [BitVec.toInt_eq_toNat_cond, BitVec.toNat_ofNat, Nat.mod_eq_of_lt hx, hw, Nat.add_sub_cancel, Nat.pow_succ]
    push_cast [pow_succ]
    split <;> split <;> omega
  have hcast : (x : Int) < 2 ^ width t := by exact_mod_cast hx
  rw [sraElem, sra_word, hsigned, ediv_two_pow_min n (by split <;> omega) (by split <;> omega), BitVec.toNat_ofInt, elemCut]
  push_cast
  rfl

theorem popcElem_eq (x : Nat) : popcElem t rm x = (((List.range (width t)).filter fun j => x.testBit j).length, 0) := by
  rw [popcElem, popc, popcTo_eq]
  congr 2
  refine List.filter_congr fun j hj => ?_
  rw [BitVec.getLsbD_ofNat, decide_eq_true (List.mem_range.1 hj), Bool.true_and]

end

/-- Settles O23: an entry holds the elements that it is packed of, and integer results are exact before they are cut. -/
theorem vectorElements : Obligations.VectorElements := by
  unfold Obligations.VectorElements
  refine ⟨fun t m merge f j _ hj => ⟨elem_vecMap t m merge f hj, flags_vecMap t m merge f hj⟩, fun t rm x y c h hx hy _ => ?_⟩
  have hf := vecF_of_vecI h
  refine ⟨?add, ?addSat, ?sub, ?subSat, ?mul, ?mulHi, minElem_eq rm h hx hy, maxElem_eq rm h hx hy, ?mad, absElem_eq rm h hx, ?neg,
    rfl, rfl, sraElem_eq rm hx y, popcElem_eq rm x⟩
  case add => simp [addElem, hf, exactInt_eq, wrapInt_eq]
  case addSat => simp only [addSatElem, exactInt_eq, clampInt_eq]
  case sub => simp [subElem, hf, exactInt_eq, wrapInt_eq]
  case subSat => simp only [subSatElem, exactInt_eq, clampInt_eq]
  case mul => simp [mulElem, hf, exactInt_eq, wrapInt_eq]
  case mulHi => simp only [mulHiElem, exactInt_eq, wrapInt_eq]
  case mad => simp only [madElem, exactInt_eq, wrapInt_eq]
  case neg => simp [negElem, hf, exactInt_eq, wrapInt_eq]

end Sys2Proof.Claims
end

section
/-! A wide format holds what it reads: rounding a number of the format gives back its code (R127, R268). -/

namespace Sys2Proof.Machine

/-- R268: a code is its sign, its exponent and its fraction. -/
theorem WFmt.code_eq (f : WFmt) {c : Nat} (h : c < 2 ^ f.width) :
    f.signBit (c / 2 ^ (f.eb + f.mb) % 2 == 1) + (c / 2 ^ f.mb % 2 ^ f.eb * 2 ^ f.mb + c % 2 ^ f.mb) = c := by
  have htop : c / 2 ^ (f.eb + f.mb) < 2 := Nat.div_lt_of_lt_mul (by rwa [← Nat.pow_succ])
  have hsign : f.signBit (c / 2 ^ (f.eb + f.mb) % 2 == 1) = c / 2 ^ (f.eb + f.mb) * 2 ^ (f.eb + f.mb) := by
    rw [WFmt.signBit, Nat.mod_eq_of_lt htop]
    congr 1
    interval_cases c / 2 ^ (f.eb + f.mb) <;> rfl
  have hlow := Nat.div_add_mod' c (2 ^ f.mb)
  have hhigh := Nat.div_add_mod' (c / 2 ^ f.mb) (2 ^ f.eb)
  rw [Nat.div_div_eq_div_mul, ← Nat.pow_add, Nat.add_comm f.mb] at hhigh
  calc _ = (c / 2 ^ (f.eb + f.mb) * 2 ^ f.eb + c / 2 ^ f.mb % 2 ^ f.eb) * 2 ^ f.mb + c % 2 ^ f.mb := by rw [hsign]; ring
    _ = c := by rw [hhigh, hlow]

theorem WFmt.infCode_false (f : WFmt) : f.infCode false = (2 ^ f.eb - 1) * 2 ^ f.mb := by simp [WFmt.infCode, WFmt.signBit]

/-- R127: a number whose lowest bit lies on the grid of the format, in its range, is rounded to itself. -/
theorem WFmt.round_onGrid (f : WFmt) (rm : Rnd) (s : Bool) {m : Nat} {e : Int} {ex : Nat} (hm : m ≠ 0)
    (hgrid : max (log2Of m e) f.emin - f.mb = e) (hex : (e - (f.emin - f.mb)).toNat = ex)
    (hfits : ex * 2 ^ f.mb + m < (2 ^ f.eb - 1) * 2 ^ f.mb) : f.round rm s m e = (f.signBit s + (ex * 2 ^ f.mb + m), 0) := by
  have hround : gridRound rm s m e e = (m, false) := by simp [gridRound]
  simp only [WFmt.round, if_neg hm, hgrid, hround, hex, f.infCode_false, if_neg (not_le.2 hfits), Bool.and_false]
  rfl

/-- A subnormal number of the format (R268). -/
theorem WFmt.round_subnormal (f : WFmt) (rm : Rnd) (s : Bool) {m : Nat} (hm : m < 2 ^ f.mb) (heb : 2 ^ f.eb - 1 ≠ 0) :
    f.round rm s m (f.emin - f.mb) = (f.signBit s + m, 0) := by
  by_cases h0 : m = 0
  · simp [WFmt.round, h0, WFmt.zeroCode]
  · have hlog : Nat.log2 m < f.mb := (Nat.log2_lt h0).2 hm
    have hfits : 0 * 2 ^ f.mb + m < (2 ^ f.eb - 1) * 2 ^ f.mb := by
      rw [Nat.zero_mul, Nat.zero_add]
      exact hm.trans_le (Nat.le_mul_of_pos_left _ (Nat.pos_of_ne_zero heb))
    rw [f.round_onGrid rm s h0 ?_ (by omega : _ = 0) hfits, Nat.zero_mul, Nat.zero_add]
    have hsmall : log2Of m (f.emin - f.mb) ≤ f.emin := by
      simp only [log2Of, bitLen, if_neg h0]
      omega
    rw [max_eq_right hsmall]

/-- A normal number of the format (R268). -/
theorem WFmt.round_normal (f : WFmt) (rm : Rnd) (s : Bool) {fr ex : Nat} (hfr : fr < 2 ^ f.mb) (h0 : ex ≠ 0) (hex : ex < 2 ^ f.eb - 1) :
    f.round rm s (fr + 2 ^ f.mb) (f.emin - f.mb + (ex - 1)) = (f.signBit s + (ex * 2 ^ f.mb + fr), 0) := by
  obtain ⟨n, rfl⟩ := Nat.exists_eq_succ_of_ne_zero h0
  have hm : fr + 2 ^ f.mb ≠ 0 := by positivity
  have hlog : Nat.log2 (fr + 2 ^ f.mb) = f.mb := (Nat.log2_eq_iff hm).2 ⟨by omega, by rw [Nat.pow_succ]; omega⟩
  have hsum : n * 2 ^ f.mb + (fr + 2 ^ f.mb) = (n + 1) * 2 ^ f.mb + fr := by ring
  have hfits : n * 2 ^ f.mb + (fr + 2 ^ f.mb) < (2 ^ f.eb - 1) * 2 ^ f.mb := by
    have : (n + 2) * 2 ^ f.mb ≤ (2 ^ f.eb - 1) * 2 ^ f.mb := Nat.mul_le_mul_right _ hex
    linarith [(by ring : (n + 2) * 2 ^ f.mb = n * 2 ^ f.mb + 2 * 2 ^ f.mb)]
  rw [f.round_onGrid rm s hm ?_ (by push_cast; omega : _ = n) hfits, hsum]
  have hlarge : f.emin ≤ log2Of (fr + 2 ^ f.mb) (f.emin - f.mb + ((n + 1 : Nat) - 1)) := by
    simp only [log2Of, bitLen, if_neg hm, hlog]
    push_cast
    omega
  rw [max_eq_left hlarge]
  simp only [log2Of, bitLen, if_neg hm, hlog]
  push_cast
  omega

/-- R268: the numbers that a format reads, subnormal and normal. -/
theorem WFmt.read_num {f : WFmt} {c m : Nat} {sg : Bool} {e : Int} (h : f.read c = .num sg m e) :
    let ex := c / 2 ^ f.mb % 2 ^ f.eb
    let fr := c % 2 ^ f.mb
    sg = (c / 2 ^ (f.eb + f.mb) % 2 == 1) ∧ ex ≠ 2 ^ f.eb - 1 ∧
      (ex = 0 ∧ m = fr ∧ e = f.emin - f.mb ∨ ex ≠ 0 ∧ m = fr + 2 ^ f.mb ∧ e = f.emin - f.mb + (ex - 1)) := by
  unfold WFmt.read at h
  dsimp only at h ⊢
  split at h
  · split at h <;> cases h
  · next hfin =>
    split at h
    · next h0 =>
      cases h
      exact ⟨rfl, hfin, .inl ⟨h0, rfl, rfl⟩⟩
    · next h0 =>
      cases h
      exact ⟨rfl, hfin, .inr ⟨h0, rfl, rfl⟩⟩

/-- R127, R268: reading and rounding are inverse, for every format and rounding mode. -/
theorem WFmt.round_read (f : WFmt) (rm : Rnd) {c m : Nat} {sg : Bool} {e : Int} (hc : c < 2 ^ f.width) (h : f.read c = .num sg m e) :
    f.round rm sg m e = (c, 0) := by
  have hcode := f.code_eq hc
  have hfr : c % 2 ^ f.mb < 2 ^ f.mb := Nat.mod_lt _ (by positivity)
  have hlt : c / 2 ^ f.mb % 2 ^ f.eb < 2 ^ f.eb := Nat.mod_lt _ (by positivity)
  obtain ⟨rfl, hfin, ⟨h0, rfl, rfl⟩ | ⟨h0, rfl, rfl⟩⟩ := WFmt.read_num h
  · rw [f.round_subnormal rm _ hfr (by omega)]
    rw [h0, Nat.zero_mul, Nat.zero_add] at hcode
    rw [hcode]
  · rw [f.round_normal rm _ hfr h0 (by omega), hcode]

end Sys2Proof.Machine

namespace Sys2Proof.Claims
open Sys2Proof.Machine

/-- Settles O24: it holds of every format, the three wide ones among them. -/
theorem heldNumbersRoundToThemselves : Obligations.HeldNumbersRoundToThemselves := by
  unfold Obligations.HeldNumbersRoundToThemselves
  exact fun f rm c _ hc sg m e h => f.round_read rm hc h

end Sys2Proof.Claims
end

section
/-! VCVT (R138, R271): what it makes of the elements of an entry, and what becomes of it at issue. -/

namespace Sys2Proof.Machine

/-- R138: what VCVT makes of its source under format register `f`, where the lanes `m` are active. -/
def convertedEntry (f : BitVec 32) (ts td : BitVec 4) (m : Lanes) (rm : Rnd) (e : List Entry) : VRes :=
  let big := max (strideOf ts) (strideOf td)
  let r := (List.range (128 / big)).map fun j =>
    if activeElem big m j then convElem rm (NFmt.of f) ts td (elem (strideOf ts) (src e 0) j) else (0, 0)
  { entry := packElems (strideOf td) (r.map Prod.fst), flags := r.zipIdx.map fun p => (p.2, p.1.2) }

/-- R138, R271: VCVT is a push of what it converts, where its format register will do. -/
theorem vecConvert_eq (k x : Nat) (s : State) (i : Instr) (q : Nat) (ts td f : BitVec 4) (m : Lanes) :
    vecConvert k x s i q ts td f m =
      if (vecNF ts || vecNF td) && !fmtOk ((s.tile (k / 8)).fmt.get 0 f.toNat) then .trap 1 (wordsAux s.fetched)
      else vecPush k x s i q (convertedEntry ((s.tile (k / 8)).fmt.get 0 f.toNat) ts td m) := rfl

theorem elem_convertedEntry (f : BitVec 32) (ts td : BitVec 4) (m : Lanes) (rm : Rnd) (e : List Entry) {j : Nat}
    (hj : j < 128 / strideOf td) : elem (strideOf td) (convertedEntry f ts td m rm e).entry j =
      if j < 128 / max (strideOf ts) (strideOf td) ∧ activeElem (max (strideOf ts) (strideOf td)) m j = true then
        (convElem rm (NFmt.of f) ts td (elem (strideOf ts) (src e 0) j)).1 % 2 ^ (8 * strideOf td)
      else 0 := by
  rw [convertedEntry, elem_packElems _ hj, getD_codes, ite_and]
  split
  · split
    · rfl
    · exact Nat.zero_mod _
  · exact Nat.zero_mod _

theorem flags_convertedEntry (f : BitVec 32) (ts td : BitVec 4) (m : Lanes) (rm : Rnd) (e : List Entry) {j : Nat}
    (hj : j < 128 / max (strideOf ts) (strideOf td)) : (convertedEntry f ts td m rm e).flags[j]? =
      some (j, if activeElem (max (strideOf ts) (strideOf td)) m j = true then
        (convElem rm (NFmt.of f) ts td (elem (strideOf ts) (src e 0) j)).2 else 0) := by
  rw [convertedEntry, flags_results _ hj]
  split <;> rfl

/-- R123: the lanes of a guard make an element active by the lowest lane it covers. -/
theorem activeElem_lanes (v : View) (g : BitVec 3) (n : Bool) {b j : Nat} (hj : j < 128 / b) :
    activeElem b (v.lanes g n) j = ((v.pred g).getLsbD (j * b) != n) := by
  have hb : 0 < b := Nat.pos_of_ne_zero fun h => by simp [h] at hj
  have hlane : j * b < 128 := (Nat.mul_lt_mul_of_pos_right (Nat.lt_succ_self j) hb).trans_le ((Nat.le_div_iff_mul_le hb).1 hj)
  cases n <;> simp [activeElem, View.lanes, hlane]

end Sys2Proof.Machine

namespace Sys2Proof.Claims
open Sys2Proof.Machine

theorem orFlags_eq (l : List (Nat × BitVec 5)) : orFlags l = flagsTogether l := rfl

section
variable {s : State} {k x : Nat} {i : Instr} {h : Hdr} {srcs : List (BitVec 4 × Nat × Bool)}
  (hu : (usesOf i).q = operands srcs) (q : Nat) (f : Rnd → List Entry → VRes)
include hu

/-- R124-R127: a push none of whose flags is enabled. -/
theorem vecPush_pushes (a : Issues s k x i h)
    (h0 : flagsTogether (f (rmode (s.slot k).fpcsr) (srcs.map fun q => entryAt (s.slot k) q.1 q.2.1)).flags &&&
      trapEnables (s.slot k).fpcsr = 0) :
    let r := f (rmode (s.slot k).fpcsr) (srcs.map fun q => entryAt (s.slot k) q.1 q.2.1)
    vecPush k x s i q f =
      .done (pushed s k x (latencyOf i) q (leave (s.slot k).queues srcs) r.entry (flagsTogether r.flags)) := by
  rw [← sources_eq _ _ _ hu] at h0 ⊢
  unfold vecPush
  dsimp only
  rw [orFlags_eq, if_neg (by simpa using h0), hu, operands, popAll_queues, pushed_eq s k x _ _ _ _ _ a.single]

/-- R128: an enabled flag traps late, with nothing pushed. -/
theorem vecPush_traps
    (h0 : flagsTogether (f (rmode (s.slot k).fpcsr) (srcs.map fun q => entryAt (s.slot k) q.1 q.2.1)).flags &&&
      trapEnables (s.slot k).fpcsr ≠ 0) :
    vecPush k x s i q f = .done (s.setSlot k (trapsLater s k x (latencyOf i) 10 (flagTrapAux (trapEnables (s.slot k).fpcsr)
      (f (rmode (s.slot k).fpcsr) (srcs.map fun q => entryAt (s.slot k) q.1 q.2.1)).flags))) := by
  rw [← sources_eq _ _ _ hu] at h0 ⊢
  unfold vecPush
  dsimp only
  rw [orFlags_eq, if_pos (bne_iff_ne.2 h0), fpTrap_eq]
  rfl

end

/-- R60: a type is the narrow one by its number. -/
theorem vecNF_iff (t : BitVec 4) : vecNF t = true ↔ t.toNat = 3 := by
  rw [vecNF, beq_iff_eq, ← BitVec.toNat_inj]
  rfl

theorem badFormat_iff (ts td : BitVec 4) (f : BitVec 32) :
    ((vecNF ts || vecNF td) && !fmtOk f) = true ↔ (ts.toNat = 3 ∨ td.toNat = 3) ∧ fmtOk f = false := by
  simp [vecNF_iff]

/-- Settles O26: VCVT pushes the entry of its converted elements. -/
theorem conversionWord : Obligations.ConversionWord := by
  unfold Obligations.ConversionWord
  intro h d a ts td f x s k xx iss
  have hexec : exec (.vcvt h d a ts td x f) s = .next (s.issueCore (.vcvt h d a ts td x f) h 2 fun kk y s v =>
    vecConvert kk y s (.vcvt h d a ts td x f) d.toNat ts td f (v.lanes h.g h.n)) := rfl
  have hu : (usesOf (.vcvt h d a ts td x f)).q = operands (src1 a x) := qOne_eq a x
  refine ⟨fun hbad => ?_, fun hok => ?_⟩
  · rw [Traps, hexec, iss.issueCore, vecConvert_eq, if_pos ((badFormat_iff ..).2 hbad)]
    simp [State.trapAt, iss.single, wordsAux]
  · have hlanes := fun j => activeElem_lanes ((s.slot k).view xx) h.g h.n (b := max (strideOf ts) (strideOf td)) (j := j)
    refine ⟨fun _ => convertedEntry ((s.tile (k / 8)).fmt.get 0 f.toNat) ts td (((s.slot k).view xx).lanes h.g h.n),
      fun v rm e j hj => ?_, fun v rm e j hj => ?_, fun h0 => ?_, fun h0 => ?_⟩
    · refine (elem_convertedEntry _ ts td _ rm e hj).trans (if_congr (and_congr_right fun hb => ?_) rfl rfl)
      rw [hlanes j hb]
      rfl
    · rw [flags_convertedEntry _ ts td _ rm e hj, hlanes j hj]
      rfl
    · rw [hexec, iss.issueCore, vecConvert_eq, if_neg fun c => hok ((badFormat_iff ..).1 c),
        vecPush_pushes hu d.toNat _ iss h0]
      rfl
    · rw [hexec, iss.issueCore, vecConvert_eq, if_neg fun c => hok ((badFormat_iff ..).1 c),
        vecPush_traps hu d.toNat _ h0]
      rfl

end Sys2Proof.Claims
end

section
/-! The scalar loads and stores at issue (R111-R118): their addresses, and the answers of a word that issues. -/

namespace Sys2Proof.Machine

/-- R112: the effective address. -/
theorem scalarEa_eq (s : State) (k x : Nat) (a : BitVec 5) (i : BitVec 9) (size : Nat) :
    scalarEa ((s.slot k).view x) a i size = Claims.effective s k a (i.toInt * size) := by
  have hsum : readScalar (s.slot k).regs a + imm9 i * BitVec.ofNat 64 size =
      BitVec.ofInt 64 ((readScalar (s.slot k).regs a).toNat + i.toInt * size) := by
    rw [BitVec.ofInt_add, BitVec.ofInt_mul, BitVec.ofInt_natCast, BitVec.ofInt_natCast, BitVec.ofNat_toNat, BitVec.setWidth_eq]
    rfl
  have hmod : ∀ z : Int, ((BitVec.ofInt 64 z).toNat : Int) % 2 ^ 56 = z % 2 ^ 56 := fun z => by
    rw [BitVec.toNat_ofInt]
    omega
  have hpos : ∀ n : Nat, n % 2 ^ 56 = ((n : Int) % 2 ^ 56).toNat := fun n => by omega
  rw [Claims.effective, ← hmod, ← hpos, ← hsum]
  rfl

theorem State.trapAt_single (s : State) (k x c : Nat) (u : Word) (h : s.bundle = false) :
    s.trapAt k x c u = s.setSlot k ((s.slot k).takeTrap x ((s.slot k).stream x).ctl.pc c u false) := by
  simp [State.trapAt, h]

theorem unitsOnly.eq_cached {s u : State} (h : unitsOnly s u) : u = Claims.cached s u := by
  obtain ⟨d, f, rfl⟩ := h
  rfl

theorem unitsOnly.slot_eq {s u : State} (h : unitsOnly s u) (k : Nat) : u.slot k = s.slot k := by
  obtain ⟨d, f, rfl⟩ := h
  rfl

theorem unitsOnly.slotWho_eq {s u : State} (h : unitsOnly s u) (k : Nat) : u.slotWho k = s.slotWho k := by
  obtain ⟨d, f, rfl⟩ := h
  rfl

theorem portOnly.slot_eq {s u : State} (h : portOnly s u) (k : Nat) : u.slot k = s.slot k := by
  obtain ⟨o, p, rfl⟩ := h
  rfl

theorem portOnly.bundle_eq {s u : State} (h : portOnly s u) : u.bundle = s.bundle := by
  obtain ⟨o, p, rfl⟩ := h
  rfl

/-- R115, R142: an access that takes its counter, its translations brought in. -/
theorem unitsOnly.addOp {s u : State} (h : unitsOnly s u) (k : Nat) (o : Nat → Op) :
    u.addOp k o = Claims.outstanding (Claims.cached s u) k (o s.nextId) := by
  obtain ⟨d, f, rfl⟩ := h
  rfl

/-- R353: the record of a fault, told before or after the translations are brought in. -/
theorem unitsOnly.queueFault {s u : State} (h : unitsOnly s u) (k va c : Nat) (write : Bool) :
    u.queueFault k va c write = (Claims.cached s u).faultRecord
      { va := va, launch := (s.slot k).task.launch, asid := (s.slot k).task.asid, cause := c,
        access := if write then 1 else 0, agent := 0, who := k } := by
  rw [State.queueFault, h.slot_eq, ← h.eq_cached]

theorem State.queueFault_portOnly (s : State) (k va c : Nat) (write : Bool) : portOnly s (s.queueFault k va c write) :=
  State.send_portOnly ..

/-- R353, R356: an access that meets a translation fault: its record goes out, and the word waits or traps. -/
theorem State.slotFault_eq (u : State) (k x va c : Nat) (write : Bool) (aux : Word) :
    u.slotFault k x va c write aux = if (u.slot k).task.fsvc then
        .wait ((u.queueFault k va c write).setSlot k
          ((u.slot k).setStream x { (u.slot k).stream x with wait := some (.fault va write) }))
      else .trapIn (u.queueFault k va c write) 7 aux := by
  have hslot : (u.queueFault k va c write).slot k = u.slot k := (u.queueFault_portOnly k va c write).slot_eq k
  rw [← congrArg (fun sl : Slot => sl.setStream x { sl.stream x with wait := some (.fault va write) }) hslot]
  rfl

end Sys2Proof.Machine

namespace Sys2Proof.Claims
open Sys2Proof.Machine

/-! ## Answers of a word that issues -/

section
variable {s t u : State} {k x : Nat} {i : Instr} {h : Hdr} {len : Nat} {body : Nat → Nat → State → View → WRes}
  (iss : Issues s k x i h) (hx : exec i s = .next (s.issueCore i h len body))
include iss hx

theorem Issues.core_done (hb : body k x s ((s.slot k).view x) = .done t) : exec i s = .next (done s t k x h len) := by
  rw [hx, iss.issueCore, hb]

theorem Issues.core_traps {c : Nat} {aux : Word} (hb : body k x s ((s.slot k).view x) = .trap c aux) : Traps s k x i c aux := by
  rw [Traps, hx, iss.issueCore, hb]
  exact congrArg _ (s.trapAt_single k x c aux iss.single)

theorem Issues.core_faults {va c : Nat} {write : Bool} {aux : Word} (hu : unitsOnly s u)
    (hb : body k x s ((s.slot k).view x) = u.slotFault k x va c write aux) : Faults s u k x i va c write aux := by
  rw [State.slotFault_eq, hu.slot_eq] at hb
  have hport := u.queueFault_portOnly k va c write
  refine ⟨fun hf => ?_, fun hf => ?_⟩
  · rw [hx, iss.issueCore, hb, if_pos hf, hu.queueFault]
  · have hsingle : (u.queueFault k va c write).bundle = false := by
      rw [hport.bundle_eq, hu.eq_cached]
      exact iss.single
    rw [hx, iss.issueCore, hb, if_neg (by simp [hf]), ← hu.queueFault]
    dsimp only
    rw [State.trapAt_single _ k x 7 aux hsingle, hport.slot_eq, hu.slot_eq]

end

/-! ## Loads and stores -/

/-- R351: the state that an access of slot `k` at `ea` finds, its translations brought in. -/
def touched (s : State) (k ea size : Nat) : State := s.touchAll (dieOf k) (s.slot k).task.asid (spanOf ea size)

/-- What the bytes of such an access name. -/
def reached (s : State) (k : Nat) (acc : Acc) (ea size : Nat) : Reach :=
  (touched s k ea size).reach (s.slotWho k) coreParts acc (spanOf ea size)

theorem touched_unitsOnly (s : State) (k ea size : Nat) : unitsOnly s (touched s k ea size) := s.touchAll_unitsOnly ..

/-- R113-R118: what a load at `ea` answers, by what its bytes name. -/
def loadAnswer (s : State) (k x : Nat) (d : BitVec 5) (sgn acq : Bool) (ea size : Nat) : Reach → WRes
  | .hole _ => .trap 5 (BitVec.ofNat 64 ea)
  | .fault va c => (touched s k ea size).slotFault k x va c false (BitVec.ofNat 64 ea)
  | .ok locs => ((touched s k ea size).firstMarked k (spanOf ea size) locs).elim
      (.done (outstanding (cached s (touched s k ea size)) k
        { id := s.nextId, cls := 0, x := x, kind := .load d sgn ea locs acq, due := (s.slot k).cycle + 6,
          remote := locs.any fun p => isRemote p.1, vas := spanOf ea size }))
      fun va => .trap 8 (BitVec.ofNat 64 (va / 8 * 8))

/-- R113-R117: what a store at `ea` answers. -/
def storeAnswer (s : State) (k x : Nat) (d : BitVec 5) (rel : Bool) (ea size : Nat) : Reach → WRes
  | .hole _ => .trap 5 (BitVec.ofNat 64 ea)
  | .fault va c => (touched s k ea size).slotFault k x va c true (BitVec.ofNat 64 ea)
  | .ok locs => .done (outstanding (cached s (touched s k ea size)) k
      { id := s.nextId, cls := 1, x := x, kind := .store ea (leBytes size (readScalar (s.slot k).regs d).toNat) locs rel, due := 0,
        remote := locs.any fun p => isRemote p.1, vas := spanOf ea size })

section
variable (s : State) (k x : Nat) (d a : BitVec 5) (im : BitVec 9) (size : Nat) (sgn sync : Bool)

/-- R117: alignment comes first. -/
theorem loadWord_eq : loadWord k x s ((s.slot k).view x) d a im size sgn sync =
    if sync && effective s k a (im.toInt * size) % 8 != 0 then .trap 6 (BitVec.ofNat 64 (effective s k a (im.toInt * size)))
    else loadAnswer s k x d sgn sync (effective s k a (im.toInt * size)) size
      (reached s k .read (effective s k a (im.toInt * size)) size) := by
  have hu := touched_unitsOnly s k (effective s k a (im.toInt * size)) size
  rw [loadWord, scalarEa_eq, reached, ← hu.slotWho_eq]
  dsimp only [touched] at *
  congr 1
  cases State.reach _ _ _ _ _ with
  | hole va => rfl
  | fault va c => rfl
  | ok locs =>
    dsimp only [loadAnswer, touched]
    cases State.firstMarked _ _ _ _ with
    | none => rw [hu.addOp, hu.slot_eq]; rfl
    | some va => rfl

theorem storeWord_eq : storeWord k x s ((s.slot k).view x) d a im size sync =
    if sync && effective s k a (im.toInt * size) % 8 != 0 then .trap 6 (BitVec.ofNat 64 (effective s k a (im.toInt * size)))
    else storeAnswer s k x d sync (effective s k a (im.toInt * size)) size
      (reached s k .write (effective s k a (im.toInt * size)) size) := by
  have hu := touched_unitsOnly s k (effective s k a (im.toInt * size)) size
  rw [storeWord, scalarEa_eq, reached, ← hu.slotWho_eq]
  dsimp only [touched] at *
  congr 1
  cases State.reach _ _ _ _ _ with
  | hole va => rfl
  | fault va c => rfl
  | ok locs =>
    dsimp only [storeAnswer, touched]
    rw [hu.addOp]
    rfl

end

section
variable {i : Instr} {h : Hdr} {d a : BitVec 5} {im : BitVec 9} {size : Nat} {sgn sync : Bool}

theorem accesses_of_load (hx : ∀ s, exec i s = .next (s.issueCore i h 1 fun k x s v => loadWord k x s v d a im size sgn sync)) :
    Accesses i h d a im size sgn sync false := by
  intro s k x iss
  have hword := loadWord_eq s k x d a im size sgn sync
  refine ⟨fun hs ho => iss.core_traps (hx s) (hword.trans (if_pos (by simp [hs, ho]))), fun hal => ?_⟩
  rw [if_neg (by simpa using hal)] at hword
  have answers : ∀ r, reached s k .read (effective s k a (im.toInt * size)) size = r →
      loadWord k x s ((s.slot k).view x) d a im size sgn sync =
        loadAnswer s k x d sgn sync (effective s k a (im.toInt * size)) size r := fun r hr => hr ▸ hword
  exact ⟨fun _ hr => iss.core_traps (hx s) (answers _ hr), fun _ _ hr => iss.core_faults (hx s) (touched_unitsOnly ..) (answers _ hr),
    fun locs hr => ⟨fun va _ hm => iss.core_traps (hx s) ((answers _ hr).trans (congrArg (Option.elim · _ _) hm)),
      fun hm => iss.core_done (hx s) ((answers _ hr).trans (congrArg (Option.elim · _ _) (hm.resolve_left (by simp))))⟩⟩

theorem accesses_of_store (hx : ∀ s, exec i s = .next (s.issueCore i h 1 fun k x s v => storeWord k x s v d a im size sync)) :
    Accesses i h d a im size sgn sync true := by
  intro s k x iss
  have hword := storeWord_eq s k x d a im size sync
  refine ⟨fun hs ho => iss.core_traps (hx s) (hword.trans (if_pos (by simp [hs, ho]))), fun hal => ?_⟩
  rw [if_neg (by simpa using hal)] at hword
  have answers : ∀ r, reached s k .write (effective s k a (im.toInt * size)) size = r →
      storeWord k x s ((s.slot k).view x) d a im size sync =
        storeAnswer s k x d sync (effective s k a (im.toInt * size)) size r := fun r hr => hr ▸ hword
  exact ⟨fun _ hr => iss.core_traps (hx s) (answers _ hr), fun _ _ hr => iss.core_faults (hx s) (touched_unitsOnly ..) (answers _ hr),
    fun locs hr => ⟨fun _ hf => absurd hf (by decide), fun _ => iss.core_done (hx s) (answers _ hr)⟩⟩

end

/-- Settles O19: each word takes its counter, or traps or waits, by what its bytes name. -/
theorem scalarMemoryWords : Obligations.ScalarMemoryWords := by
  unfold Obligations.ScalarMemoryWords
  exact ⟨fun h d a i => ⟨accesses_of_load fun _ => rfl, accesses_of_load fun _ => rfl, accesses_of_load fun _ => rfl,
      accesses_of_load fun _ => rfl, accesses_of_load fun _ => rfl, accesses_of_load fun _ => rfl, accesses_of_load fun _ => rfl,
      accesses_of_load fun _ => rfl⟩,
    fun h d a i => ⟨accesses_of_store fun _ => rfl, accesses_of_store fun _ => rfl, accesses_of_store fun _ => rfl,
      accesses_of_store fun _ => rfl, accesses_of_store fun _ => rfl⟩⟩

end Sys2Proof.Claims
end

section
/-! The pieces of an outstanding access (R114, R343), what its bytes read, and what the slot is once it is done, lands or is undone. -/

namespace Sys2Proof.Claims
open Sys2Proof.Machine

/-! ## Pieces (R114, R343) -/

theorem isQrd_eq_false_iff (o : OpKind) : o.isQrd = false ↔ ∀ q m ea l, o ≠ .qrd q m ea l := by
  cases o <;> simp [OpKind.isQrd]

theorem joined_iff (o : Op) (i j : Nat) : o.joined i j = true ↔ together o i j := by
  simp only [Op.joined, together, Bool.or_eq_true, Bool.and_eq_true, Bool.not_eq_true', isQrd_eq_false_iff, or_assoc,
    and_comm (b := o.qwr = false), beq_eq_decide, decide_eq_true_eq]

/-- The places of a piece are those that the model picks. -/
theorem isPiece.piece_eq {o : Op} {i : Nat} {is : List Nat} (h : isPiece o i is) : o.piece i = is := by
  obtain ⟨hi, hleft, hrise, hmem⟩ := h
  have hpick : i < o.kind.locs.length ∧ (o.got.find? i).isNone = true := ⟨hi, by rw [hleft]; rfl⟩
  refine List.Pairwise.eq_of_mem_iff (r := (· < ·)) ?_ hrise fun j => ?_
  · rw [Op.piece, if_pos hpick]
    exact List.pairwise_lt_range.filter _
  · rw [Op.mem_piece, hmem, joined_iff]
    exact and_iff_right hpick

theorem isPiece.locs_ne {o : Op} {i : Nat} {is : List Nat} (h : isPiece o i is) : o.kind.locs.isEmpty = false := by
  obtain ⟨hi, -⟩ := h
  simpa using List.ne_nil_of_length_pos (Nat.zero_lt_of_lt hi)

/-- A place of an access is left to do when its byte is not done. -/
theorem mem_leftAt (o : Op) (p : Nat × Nat) (i : Nat) : (p, i) ∈ o.leftAt ↔ o.kind.locs[i]? = some p ∧ o.got.find? i = none := by
  rw [Op.leftAt, List.mem_filter, List.mem_zipIdx_iff_getElem?, Option.isNone_iff_eq_none]

theorem whole_iff (o : Op) : o.whole = true ↔ allDone o := by
  rw [Op.whole, Op.left, List.isEmpty_iff, List.map_eq_nil_iff, List.eq_nil_iff_forall_not_mem]
  refine ⟨fun h i hi hleft => h (o.kind.locs[i], i) ((mem_leftAt ..).2 ⟨List.getElem?_eq_getElem hi, hleft⟩), fun h p hp => ?_⟩
  obtain ⟨hloc, hleft⟩ := (mem_leftAt o p.1 p.2).1 hp
  exact h p.2 (List.getElem?_eq_some_iff.1 hloc).1 hleft

/-! ## What the bytes of a piece read -/

section
variable (s : State) (k : Nat) (o : Op) (is : List Nat)

/-- R336, R337: a pending store's bytes, those of another package, or memory's. -/
theorem loadBytes_eq (far : List Byte) : s.loadBytes k o is far = seenBytes s k o is far := by
  simp only [State.loadBytes, seenBytes, Op.locsAt]
  cases Slot.forwarder _ _ _ with
  | none => rfl
  | some a =>
    dsimp only [Option.map_some]
    cases a.kind <;> rfl

/-- R118, R151: the byte that comes with an uncorrectable error. -/
theorem badByte_eq : s.badByte k o is = spoilt s k o is := by
  simp only [State.badByte, spoilt, Slot.newest, Bool.not_eq_true', beq_eq_false_iff_ne, List.contains_iff_mem]
  rfl

end

/-- R111: the value of a load. -/
theorem loadValue_eq (bs : List Byte) (sgn : Bool) : loadValue bs sgn = extended bs sgn := by
  have hsign : 2 ^ (8 * bs.length) ≤ 2 * leNat bs ↔ 2 ^ (8 * bs.length - 1) ≤ leNat bs := by
    cases bs with
    | nil => simp [leNat]
    | cons b bs =>
      rw [show 8 * (b :: bs).length = (8 * (b :: bs).length - 1) + 1 by simp; omega, Nat.pow_succ, Nat.add_sub_cancel]
      omega
  simp only [loadValue, extended, Bool.and_eq_true, decide_eq_true_eq, hsign, ofNat_word]
  split <;> rfl

/-! ## The slot once an access is done, lands or is undone -/

theorem setOp_eq_withOp (s : State) (k : Nat) (o : Op) : s.setOp k o = withOp s k o := by
  simp only [State.setOp_eq, withOp, updateWhere, beq_iff_eq]

/-- R257: what the undoing of an access leaves. -/
theorem undo_eq (sl : Slot) (o : Op) : sl.undo o = undone sl o := by
  unfold Slot.undo undone
  cases o.popped <;> rfl

theorem refuse_eq (sl : Slot) (o : Op) (cause : Nat) (aux : Word) (late : Bool) :
    sl.refuse o cause aux late = takenBack (undone sl o) o.x o.ctl o.rv cause aux late := by
  rw [Slot.refuse, undo_eq]
  rfl

/-- The operations that stay once one is done are not those that were replaced by it. -/
theorem filter_replaced (o : Op) (ops : List Op) :
    ((ops.map fun p => if p.id = o.id then o else p).filter fun p => p.id != o.id) = ops.filter fun p => p.id != o.id := by
  induction ops with
  | nil => rfl
  | cons p ops ih =>
    by_cases h : p.id = o.id <;> simp [h, ih]

/-- The counter returns, whatever of the access was done before (R115, R116). -/
theorem retire_withOp (s : State) (k : Nat) (o : Op) : ((withOp s k o).slot k).retire o.id = returned (s.slot k) o := by
  simp only [Slot.retire, withOp, State.slot_setSlot, filter_replaced, returned]

/-- R244: a load of the statement lands in its turn. -/
theorem landsInTurn_of {s : State} {k x : Nat} {rs : List Nat} (h : (s.slot k).exposed = true ∨
    (∀ e ∈ s.issued ++ s.landed, e.1 = k → e.2 ≤ x) ∧ ∀ r ∈ rs, r ∉ (s.slot k).seen) : s.landsInTurn k x rs = true := by
  rcases h with h | ⟨hlast, hseen⟩
  · simp [State.landsInTurn, h]
  · have hl : ((s.issued ++ s.landed).any fun e => e.1 == k && decide (x < e.2)) = false := by
      rw [List.any_eq_false]
      intro e he
      simpa using fun hk => hlast e he hk
    have hs : rs.any (s.slot k).seen.contains = false := by
      rw [List.any_eq_false]
      intro r hr
      simpa using hseen r hr
    simp [State.landsInTurn, hl, hs]

/-- R255: a result that comes before its slot cycle waits for it. -/
theorem landAccess_early (s : State) (k : Nat) (o : Op) (e : PendEff) (hx : (s.slot k).exposed = true) (hd : (s.slot k).cycle < o.due) :
    s.landAccess k o e = heldBack s k o e := by
  simp [State.landAccess, hx, hd, heldBack, updateWhere]

theorem landAccess_now (s : State) (k : Nat) (o : Op) (e : PendEff) (h : (s.slot k).exposed = false ∨ o.due ≤ (s.slot k).cycle) :
    s.landAccess k o e = { (s.land k e).modSlot k fun sl => { sl with wrote := sl.wrote ++ o.kind.writes } with
      landed := s.landed ++ [(k, o.x)] } := by
  have hnot : ((s.slot k).exposed && decide ((s.slot k).cycle < o.due)) = false := by
    rcases h with h | h <;> simp [h]
  rw [State.landAccess]
  dsimp only
  rw [hnot]
  rfl

section
variable (s : State) (k : Nat) (o : Op)

@[simp] theorem withOp_regs : ((withOp s k o).slot k).regs = (s.slot k).regs := by
  rw [withOp, State.slot_setSlot]
@[simp] theorem withOp_preds : ((withOp s k o).slot k).preds = (s.slot k).preds := by
  rw [withOp, State.slot_setSlot]
@[simp] theorem withOp_queues : ((withOp s k o).slot k).queues = (s.slot k).queues := by
  rw [withOp, State.slot_setSlot]
@[simp] theorem withOp_exposed : ((withOp s k o).slot k).exposed = (s.slot k).exposed := by
  rw [withOp, State.slot_setSlot]
@[simp] theorem withOp_cycle : ((withOp s k o).slot k).cycle = (s.slot k).cycle := by
  rw [withOp, State.slot_setSlot]

/-- A result in time takes its place in the slot, and the stream is noted as one that has landed. -/
theorem landAccess_withOp (e : PendEff) (f : Slot → Slot) (hland : ∀ t : State, t.land k e = t.setSlot k (f (t.slot k)))
    (h : (s.slot k).exposed = false ∨ o.due ≤ (s.slot k).cycle) :
    (withOp s k o).landAccess k o e = { s with landed := s.landed ++ [(k, o.x)] }.setSlot k
      { f ((withOp s k o).slot k) with wrote := (f ((withOp s k o).slot k)).wrote ++ o.kind.writes } := by
  rw [landAccess_now _ _ _ _ (by simpa using h), hland, State.modSlot_eq, State.slot_setSlot, State.setSlot_setSlot]
  exact congrArg (fun t : State => { t with landed := s.landed ++ [(k, o.x)] }) (s.setSlot_setSlot k _ _)

/-- R116: the register of a load receives its value. -/
theorem landAccess_loaded (d : BitVec 5) (v : Word) (hw : o.kind.writes = if d = 0 then [] else [d.toNat])
    (h : (s.slot k).exposed = false ∨ o.due ≤ (s.slot k).cycle) :
    (withOp s k o).landAccess k o (.loaded o.id d v) =
      { s with landed := s.landed ++ [(k, o.x)] }.setSlot k { returned (s.slot k) o with
        regs := if d = 0 then (s.slot k).regs else (s.slot k).regs.set d.toNat v
        wrote := (s.slot k).wrote ++ if d = 0 then [] else [d.toNat] } := by
  rw [landAccess_withOp s k o _ (fun sl => { sl.retire o.id with regs := writeScalar sl.regs d v }) (fun _ => rfl) h, hw,
    retire_withOp, withOp_regs]
  rfl

/-- R125, R150: the entry of a QRD takes the place that its word reserved. -/
theorem landAccess_qloaded (q : Nat) (e : Entry) (hw : o.kind.writes = [])
    (h : (s.slot k).exposed = false ∨ o.due ≤ (s.slot k).cycle) :
    (withOp s k o).landAccess k o (.qloaded o.id q e) =
      { s with landed := s.landed ++ [(k, o.x)] }.setSlot k { returned (s.slot k) o with
        queues := (s.slot k).queues.set q (landEntry o.id e ((s.slot k).queues.get [] q)) } := by
  rw [landAccess_withOp s k o _ (fun sl => (sl.retire o.id).setQueue q (landEntry o.id e (sl.queue q))) (fun _ => rfl) h, hw,
    retire_withOp, List.append_nil, Slot.queue, withOp_queues]
  rfl

end

end Sys2Proof.Claims
end

section
/-! What the writing of a store's bytes leaves (R175, R332), and the bytes of a QRD's entry (R150). -/

namespace Sys2Proof.Machine

/-! ## Saves of cairns change cairns only (R175) -/

/-- A slot but for its cairns. -/
def Slot.uncairned (sl : Slot) : Slot := { sl with cairns := [] }

/-- What no save of a cairn changes: memory, the pseudo-channels that are lost, and all of a slot but its cairns. -/
def State.beneathCairns (s : State) : Memory × Tab Stack × (Nat → Slot) := (s.mem, s.hbm, fun k => (s.slot k).uncairned)

theorem State.cairnSaveIn_uncairned (s : State) (k n loc : Nat) (sl : Slot) : (s.cairnSaveIn k n loc sl).1.uncairned = sl.uncairned := by
  unfold State.cairnSaveIn
  split
  · rfl
  · split
    · rfl
    · split <;> rfl

/-- A slot that differs in its cairns alone. -/
theorem State.setSlot_beneathCairns (s : State) (k : Nat) (v : Slot) (h : v.uncairned = (s.slot k).uncairned) :
    (s.setSlot k v).beneathCairns = s.beneathCairns := by
  have hslots : (fun j => ((s.setSlot k v).slot j).uncairned) = fun j => (s.slot j).uncairned := by
    funext j
    by_cases hj : j = k
    · rw [hj, State.slot_setSlot, h]
    · rw [State.slot_setSlot_ne _ _ _ _ hj]
  rw [State.beneathCairns, hslots]
  rfl

theorem State.cairnSaveSlots_beneath (s : State) (n loc : Nat) : (s.cairnSaveSlots n loc).beneathCairns = s.beneathCairns := by
  unfold State.cairnSaveSlots
  refine foldl_keeps State.beneathCairns (fun t p => ?_) _ s
  dsimp only
  split
  · rfl
  · exact ((t.takeReserve p.1 _).setSlot_beneathCairns p.1 _ (t.cairnSaveIn_uncairned ..)).trans rfl

theorem State.cairnSaveSaved_beneath (s : State) (n loc : Nat) : (s.cairnSaveSaved n loc).beneathCairns = s.beneathCairns := by
  unfold State.cairnSaveSaved
  refine foldl_keeps State.beneathCairns (fun t p => ?_) _ s
  rfl

theorem State.cairnSave_beneath (s : State) (loc : Nat) : (s.cairnSave loc).beneathCairns = s.beneathCairns := by
  unfold State.cairnSave
  exact foldl_keeps State.beneathCairns (fun t n => (State.cairnSaveSaved_beneath ..).trans (t.cairnSaveSlots_beneath ..)) _ s

/-- Bytes put into memory one by one, those of lost locations left out (R332, R431). -/
def storedOver (lost : Nat → Bool) (m : Memory) (l : List (Nat × Byte)) : Memory :=
  l.foldl (fun m p => if lost p.1 then m else Memory.write m p.1 p.2) m

theorem stored_eq (s : State) (l : List (Nat × Byte)) : Claims.stored s l = storedOver s.brokenAt s.mem l := rfl

theorem State.rawLocs_mem (s : State) (l : List (Nat × Byte)) : (s.rawLocs l).mem = Claims.stored s l := rfl
theorem State.rawLocs_slot (s : State) (l : List (Nat × Byte)) (k : Nat) : (s.rawLocs l).slot k = s.slot k := rfl

/-- A write over states that no save tells apart. -/
theorem State.rawLocs_keeps {s t : State} (h : t.beneathCairns = s.beneathCairns) (l : List (Nat × Byte)) :
    (t.rawLocs l).mem = Claims.stored s l ∧ ∀ k, ((t.rawLocs l).slot k).uncairned = (s.slot k).uncairned := by
  obtain ⟨hmem, hrest⟩ := Prod.mk.inj h
  obtain ⟨hhbm, hslots⟩ := Prod.mk.inj hrest
  have hlost : t.brokenAt = s.brokenAt := funext fun a => by rw [State.brokenAt, hhbm, State.brokenAt]
  exact ⟨by rw [State.rawLocs_mem, stored_eq, stored_eq, hmem, hlost], fun k => congrFun hslots k⟩

/-- R175, R332: a write puts its bytes into memory, and leaves all of a slot but its cairns. -/
theorem State.writeLocs_keeps (s : State) (l : List (Nat × Byte)) : (s.writeLocs l).mem = Claims.stored s l ∧
    ∀ k, ((s.writeLocs l).slot k).uncairned = (s.slot k).uncairned := by
  unfold State.writeLocs
  refine State.rawLocs_keeps ?_ l
  split
  · rw [foldl_keeps State.beneathCairns fun t p => t.cairnSave_beneath _]
  · rfl

/-- R453: where no task holds a cairn, memory and marks alone change, and no mark is new. -/
theorem State.writeLocs_uncairned (s : State) (l : List (Nat × Byte)) (h : s.cairnHolders = []) :
    ∃ marks, (∀ m ∈ marks, m ∈ s.marks) ∧ s.writeLocs l = { s with mem := Claims.stored s l, marks := marks } := by
  refine ⟨if s.marks.isEmpty then [] else marksAfter s.marks (l.map Prod.fst), fun m hm => ?_, ?_⟩
  · split at hm
    · cases hm
    · exact List.mem_of_mem_filter hm
  · simp only [State.writeLocs, h, List.isEmpty_nil, Bool.not_true, Bool.false_eq_true, if_false]
    rfl

theorem State.cairnFault_uncairned (s : State) (locs : List Nat) (h : s.cairnHolders = []) : s.cairnFault locs = none := by
  rw [State.cairnFault, h]
  rfl

end Sys2Proof.Machine

namespace Sys2Proof.Claims
open Sys2Proof.Machine

/-! ## What is read back (R332) -/

theorem read_storedOver_out (lost : Nat → Bool) {a : Nat} (l : List (Nat × Byte)) (m : Memory) (h : a ∉ l.map Prod.fst) :
    Memory.read (storedOver lost m l) a = Memory.read m a := by
  induction l generalizing m with
  | nil => rfl
  | cons p l ih =>
    obtain ⟨hne, hl⟩ := not_or.1 (List.mem_cons.not.1 h)
    refine (ih _ hl).trans ?_
    dsimp only
    split
    · rfl
    · exact Memory.read_write_ne _ _ _ _ hne

theorem read_storedOver_zip (lost : Nat → Bool) (locs : List Nat) (vs : List Byte) (m : Memory) (hlen : locs.length = vs.length)
    (hnodup : locs.Nodup) (hkept : ∀ a ∈ locs, lost a = false) :
    locs.map (Memory.read (storedOver lost m (locs.zip vs))) = vs := by
  induction locs generalizing vs m with
  | nil => exact (List.length_eq_zero_iff.1 hlen.symm).symm
  | cons a locs ih =>
    obtain _ | ⟨v, vs⟩ := vs
    · cases hlen
    · obtain ⟨ha, hnodup⟩ := List.nodup_cons.1 hnodup
      have hlen : locs.length = vs.length := Nat.succ.inj hlen
      have hhead : storedOver lost m ((a, v) :: locs.zip vs) = storedOver lost (Memory.write m a v) (locs.zip vs) := by
        simp [storedOver, hkept a (List.mem_cons_self ..)]
      rw [List.zip_cons_cons, hhead, List.map_cons, ih vs _ hlen hnodup fun b hb => hkept b (List.mem_cons_of_mem _ hb),
        read_storedOver_out _ _ _ (by rwa [List.map_fst_zip hlen.le]), Memory.read_write]

/-! ## The entry of a QRD (R150) -/

/-- Bytes put side by side at their places. -/
def sideBySide (l : List (Nat × Byte)) : Nat := (l.map fun p => p.2.toNat * 256 ^ p.1).sum

theorem foldl_sideBySide (l : List (Nat × Byte)) (n : Nat) :
    l.foldl (fun n p => n + p.2.toNat * 2 ^ (8 * p.1)) n = n + sideBySide l := by
  induction l generalizing n with
  | nil => rfl
  | cons p l ih =>
    rw [List.foldl_cons, ih, Nat.pow_mul, Nat.add_assoc]
    rfl

theorem dvd_sideBySide {m : Nat} (l : List (Nat × Byte)) (h : ∀ p ∈ l, m ≤ p.1) : 256 ^ m ∣ sideBySide l := by
  refine List.dvd_sum fun x hx => ?_
  obtain ⟨p, hp, rfl⟩ := List.mem_map.1 hx
  exact Dvd.dvd.mul_left (pow_dvd_pow 256 (h p hp)) _

/-- Where the places rise, the byte of a place is the one put there. -/
theorem digit_sideBySide (l : List (Nat × Byte)) (h : l.Pairwise fun p q => p.1 < q.1) (j : Nat) :
    sideBySide l / 256 ^ j % 256 = ((l.find? fun p => p.1 == j).map fun p => p.2.toNat).getD 0 := by
  induction l with
  | nil => simp [sideBySide]
  | cons p l ih =>
    obtain ⟨hp, hl⟩ := List.pairwise_cons.1 h
    have hsum : sideBySide (p :: l) = p.2.toNat * 256 ^ p.1 + sideBySide l := rfl
    rcases Nat.lt_trichotomy j p.1 with hj | hj | hj
    · have hnone : ((p :: l).find? fun q => q.1 == j) = none := List.find?_eq_none.2 fun q hq => by
        rcases List.mem_cons.1 hq with rfl | hq
        · simpa using hj.ne'
        · simpa using (hj.trans (hp q hq)).ne'
      obtain ⟨c, hc⟩ := dvd_sideBySide (m := j + 1) (p :: l) fun q hq => by
        rcases List.mem_cons.1 hq with rfl | hq
        · exact hj
        · exact (hj.trans (hp q hq))
      rw [hnone, hc, Nat.pow_succ, Nat.mul_assoc, Nat.mul_div_cancel_left _ (by positivity), Nat.mul_mod_right]
      rfl
    · subst hj
      obtain ⟨c, hc⟩ := dvd_sideBySide (m := p.1 + 1) l hp
      rw [hsum, hc, Nat.pow_succ, Nat.mul_comm p.2.toNat, Nat.mul_assoc, ← Nat.mul_add, Nat.mul_div_cancel_left _ (by positivity),
        Nat.add_mul_mod_self_left, Nat.mod_eq_of_lt p.2.isLt]
      simp
    · obtain ⟨c, hc⟩ := dvd_sideBySide (m := p.1 + 1) l hp
      have hsmall : p.2.toNat * 256 ^ p.1 < 256 ^ (p.1 + 1) := by
        rw [Nat.pow_succ, Nat.mul_comm]
        exact Nat.mul_lt_mul_of_pos_left p.2.isLt (by positivity)
      obtain ⟨i, rfl⟩ := Nat.exists_eq_add_of_lt hj
      have hskip : sideBySide (p :: l) / 256 ^ (p.1 + i + 1) = sideBySide l / 256 ^ (p.1 + i + 1) := by
        rw [hsum, hc, show p.1 + i + 1 = p.1 + 1 + i by omega, Nat.pow_add _ (p.1 + 1), ← Nat.div_div_eq_div_mul,
          ← Nat.div_div_eq_div_mul, Nat.add_mul_div_left _ _ (by positivity), Nat.div_eq_of_lt hsmall, Nat.zero_add,
          Nat.mul_div_cancel_left _ (by positivity)]
      rw [hskip, ih hl, List.find?_cons_of_neg (by simpa using hj.ne)]

theorem pairwise_zip {l : List Nat} (h : l.Pairwise (· < ·)) (bs : List Byte) : (l.zip bs).Pairwise fun p q => p.1 < q.1 := by
  induction l generalizing bs with
  | nil => exact .nil
  | cons i l ih =>
    obtain ⟨hi, hl⟩ := List.pairwise_cons.1 h
    cases bs with
    | nil => exact .nil
    | cons b bs => exact List.pairwise_cons.2 ⟨fun q hq => hi _ (List.of_mem_zip hq).1, ih hl bs⟩

/-- R150: the bytes of the entry that a QRD lands. -/
theorem qrdEntry_has (m : Lanes) (bs : List Byte) : entryHas (qrdEntry m bs) ((List.range 128).filter fun j => m.getLsbD j) bs := by
  intro j hj
  have hdigit := digit_sideBySide _ (pairwise_zip (l := (List.range 128).filter fun j => m.getLsbD j) (List.pairwise_lt_range.filter _) bs) j
  apply BitVec.eq_of_toNat_eq
  rw [BitVec.extractLsb'_toNat, qrdEntry, foldl_sideBySide, Nat.zero_add, Nat.shiftRight_eq_div_pow, digit_ofNat _ (by omega),
    Nat.pow_mul]
  refine hdigit.trans ?_
  cases List.find? _ _ <;> rfl

end Sys2Proof.Claims
end

section
/-! The events that end accesses (R111-R118, R150, R151, R257, R454): each as one equation, and the clauses that follow from it. -/

namespace Sys2Proof.Claims
open Sys2Proof.Machine

section
variable {s : State} {o : Op} {is : List Nat} (hfind : (s.slot s.inp.unit).findOp s.inp.id = some o)

/-- The bytes of an access that is whole, in their order. -/
theorem gotBytes_withBytes {locs : List (Nat × Nat)} (hlocs : o.kind.locs = locs) (bs : List Byte) :
    (withBytes o is bs).gotBytes = (List.range locs.length).map fun i => (withBytes o is bs).got.get 0 i := by
  rw [← hlocs]
  rfl

/-! ## LOAD_DATA_RETURN (R116, R118) -/

section
variable {d : BitVec 5} {sgn acq : Bool} {ea : Nat} {locs : List (Nat × Nat)} (hkind : o.kind = .load d sgn ea locs acq)
  (hpiece : isPiece o s.inp.a is) (hmay : s.mayPerform s.inp.unit o is = true)
  (hfar : o.remote = true → s.inp.data.length = is.length)
  (hturn : s.landsInTurn s.inp.unit o.x o.kind.writes = true)
include hfind hkind hpiece hmay hfar hturn

theorem exec_loadDataReturn {o' : Op} (ho : withBytes o is (seenBytes s s.inp.unit o is s.inp.data) = o') :
    exec .loadDataReturn s = .next ((spoilt s s.inp.unit o is).elim
    (if o'.whole then (withOp s s.inp.unit o').landAccess s.inp.unit o'
      (.loaded o.id d (extended ((List.range locs.length).map fun i => o'.got.get 0 i) sgn))
     else withOp s s.inp.unit o')
    fun va => s.setSlot s.inp.unit
      (takenBack (undone (s.slot s.inp.unit) o) o.x o.ctl o.rv 8 (BitVec.ofNat 64 (va / 8 * 8)) false)) := by
  have hcome : (s.mayPerform s.inp.unit o is && (!o.remote || s.inp.data.length == is.length) &&
      s.landsInTurn s.inp.unit o.x o.kind.writes) = true := by
    cases hr : o.remote <;> simp [hmay, hturn, hfar, hr]
  rw [← ho, ← gotBytes_withBytes (locs := locs) (congrArg OpKind.locs hkind)]
  change execLoadDataReturn s = _
  rw [execLoadDataReturn]
  dsimp only
  rw [hfind]
  dsimp only
  rw [hkind] at hcome ⊢
  dsimp only
  rw [hpiece.piece_eq, if_pos hcome, badByte_eq]
  cases spoilt s s.inp.unit o is with
  | none =>
    dsimp only [Option.elim_none]
    rw [loadBytes_eq, setOp_eq_withOp, loadValue_eq]
    rfl
  | some va =>
    dsimp only [Option.elim_some]
    rw [State.modSlot_eq, refuse_eq]

end

/-! ## STORE_PERFORMED (R115, R175) -/

theorem storeDone_eq (t : State) (k : Nat) (o : Op) (is : List Nat) : t.storeDone k o is =
    if (withBytes o is (is.map fun _ => 0)).whole then { t.setSlot k (returned (t.slot k) o) with
      marks := if t.marks.isEmpty then [] else marksAfter t.marks (o.kind.locs.map Prod.fst) }
    else withOp t k (withBytes o is (is.map fun _ => 0)) := by
  rw [← setOp_eq_withOp]
  rfl

section
variable {ea : Nat} {bytes : List Byte} {locs : List (Nat × Nat)} {rel : Bool} (hkind : o.kind = .store ea bytes locs rel)
  (hpiece : isPiece o s.inp.a is) (hmay : s.mayPerform s.inp.unit o is = true) (hnear : o.remote = false)
  (hcairn : s.cairnFault (is.map fun i => (locs.getD i (0, 0)).1) = none)
include hfind hkind hpiece hmay hnear hcairn

theorem exec_storePerformed : exec .storePerformed s = .next ((s.writeLocs ((is.map fun i => (locs.getD i (0, 0)).1).zip
    (is.map fun i => bytes.getD i 0))).storeDone s.inp.unit o is) := by
  have hsome : locs.isEmpty = false := by simpa [hkind, OpKind.locs] using hpiece.locs_ne
  have hat : (o.locsAt is).map Prod.fst = is.map fun i => (locs.getD i (0, 0)).1 := by
    rw [Op.locsAt, hkind, List.map_map]
    rfl
  change execStorePerformed s = _
  rw [execStorePerformed]
  dsimp only
  rw [hfind]
  dsimp only
  rw [hkind]
  dsimp only
  rw [hsome, hpiece.piece_eq, hat, hcairn]
  simp only [hmay, hnear, Bool.false_and, Bool.not_true, Bool.false_eq_true, if_false]

end

/-! ## QRD_LANDING (R150, R151) -/

section
variable {q : Nat} {m : Lanes} {ea : Nat} {locs : List (Nat × Nat)} (hlate : (s.slot s.inp.unit).late = [])
  (hkind : o.kind = .qrd q m ea locs) (hpiece : isPiece o s.inp.a is) (hmay : s.mayPerform s.inp.unit o is = true)
  (hfar : o.remote = true → s.inp.data.length = is.length)
include hfind hlate hkind hpiece hmay hfar

theorem exec_qrdLanding {o' : Op} (ho : withBytes o is (seenBytes s s.inp.unit o is s.inp.data) = o') :
    exec .qrdLanding s = .next ((spoilt s s.inp.unit o is).elim
    (if o'.whole then (withOp s s.inp.unit o').landAccess s.inp.unit o'
      (.qloaded o.id q (qrdEntry m ((List.range locs.length).map fun i => o'.got.get 0 i)))
     else withOp s s.inp.unit o')
    fun va => s.setSlot s.inp.unit
      (takenLate (undone (s.slot s.inp.unit) o) o.x o.ctl o.rv 8 (BitVec.ofNat 64 (va / 8 * 8)))) := by
  have hsome : locs.isEmpty = false := by simpa [hkind, OpKind.locs] using hpiece.locs_ne
  have hcome : (s.mayPerform s.inp.unit o is && (!o.remote || s.inp.data.length == is.length)) = true := by
    cases hr : o.remote <;> simp [hmay, hfar, hr]
  rw [← ho, ← gotBytes_withBytes (locs := locs) (congrArg OpKind.locs hkind)]
  change execQrdLanding s = _
  rw [execQrdLanding]
  dsimp only
  rw [hlate]
  dsimp only [LateTrap.first]
  rw [hfind]
  dsimp only
  rw [hkind]
  dsimp only
  rw [hsome, hpiece.piece_eq, hcome, badByte_eq]
  simp only [Bool.false_and, Bool.not_true, Bool.false_eq_true, if_false]
  cases spoilt s s.inp.unit o is with
  | none =>
    dsimp only [Option.elim_none]
    rw [loadBytes_eq, setOp_eq_withOp]
    rfl
  | some va =>
    dsimp only [Option.elim_some]
    rw [State.modSlot_eq, refuse_eq]
    rfl

end

end

/-- R151, R257: a late trap that is due is taken. -/
theorem exec_qrdLanding_late {s : State} {t : LateTrap} (hlate : (s.slot s.inp.unit).late = [t])
    (hdue : t.due ≤ (s.slot s.inp.unit).cycle) : exec .qrdLanding s = .next (s.setSlot s.inp.unit
      (takenLate { s.slot s.inp.unit with late := [] } t.x t.ctl t.rv t.cause t.aux)) := by
  change execQrdLanding s = _
  rw [execQrdLanding]
  dsimp only
  rw [hlate]
  dsimp only [LateTrap.first]
  rw [if_pos hdue, Slot.takeLate, hlate]
  simp only [List.filter_cons, bne_self_eq_false, Bool.false_eq_true, if_false, List.filter_nil]
  rfl

/-- R454: what another package refuses traps late, with no effect. -/
theorem exec_lateAccessRefusal {s : State} {o : Op} (hfind : (s.slot s.inp.unit).findOp s.inp.id = some o) (hdone : o.done = false)
    (hnew : (s.slot s.inp.unit).last = some o.at_) {p : Nat × Nat} (hloc : o.kind.locs[s.inp.a]? = some p) (hfar : isRemote p.1 = true)
    (hleft : o.got.find? s.inp.a = none) : exec .lateAccessRefusal s = .next (s.setSlot s.inp.unit
      (takenLate (undone (s.slot s.inp.unit) o) o.x o.ctl o.rv 5
        (BitVec.ofNat 64 (o.kind.refusedAddr (o.vas.getD s.inp.a 0) o.qwr)))) := by
  have hrefused : (o.leftAt.any fun p => p.2 == s.inp.a && isRemote p.1.1) = true :=
    List.any_eq_true.2 ⟨(p, s.inp.a), (mem_leftAt ..).2 ⟨hloc, hleft⟩, by simp [hfar]⟩
  change execLateAccessRefusal s = _
  rw [execLateAccessRefusal]
  dsimp only
  rw [hfind]
  dsimp only
  rw [if_pos (by simp [hdone, Slot.newest, hnew, hrefused]), State.modSlot_eq, refuse_eq]
  rfl

end Sys2Proof.Claims
end

section
/-! How accesses end (R111-R118, R150, R151, R257, R454), by what has come of their bytes. -/

namespace Sys2Proof.Claims
open Sys2Proof.Machine

/-- What the end of a store's piece leaves of memory and of the slot. -/
theorem storeDone_keeps (t : State) (k : Nat) (o : Op) (is : List Nat) : (t.storeDone k o is).mem = t.mem ∧
    (allDone (withBytes o is (is.map fun _ => 0)) → ((t.storeDone k o is).slot k).ops = (returned (t.slot k) o).ops) ∧
    ((t.storeDone k o is).slot k).regs = (t.slot k).regs ∧ ((t.storeDone k o is).slot k).preds = (t.slot k).preds := by
  rw [storeDone_eq]
  by_cases hall : allDone (withBytes o is (is.map fun _ => 0))
  · rw [if_pos ((whole_iff _).2 hall)]
    have hslot : ∀ marks, ({ t.setSlot k (returned (t.slot k) o) with marks := marks } : State).slot k = returned (t.slot k) o :=
      fun _ => State.slot_setSlot ..
    rw [hslot]
    exact ⟨rfl, fun _ => rfl, rfl, rfl⟩
  · rw [if_neg (mt (whole_iff _).1 hall), withOp_regs, withOp_preds]
    exact ⟨rfl, fun h => absurd h hall, rfl, rfl⟩

section
variable {s : State} {o : Op} {is : List Nat} (hfind : (s.slot s.inp.unit).findOp s.inp.id = some o)

/-! ## Loads -/

section
variable {d : BitVec 5} {sgn acq : Bool} {ea : Nat} {locs : List (Nat × Nat)}

theorem writes_load (hkind : o.kind = .load d sgn ea locs acq) : o.kind.writes = if d = 0 then [] else [d.toNat] := by
  rw [hkind]
  rfl

/-- R244: the statement's premise on the streams of the cycle is the model's. -/
theorem load_landsInTurn {k : Nat} (hkind : o.kind = .load d sgn ea locs acq) (h : (s.slot k).exposed = true ∨
    (∀ e ∈ s.issued ++ s.landed, e.1 = k → e.2 ≤ o.x) ∧ (d = 0 ∨ d.toNat ∉ (s.slot k).seen)) :
    s.landsInTurn k o.x o.kind.writes = true := by
  refine landsInTurn_of (h.imp_right (And.imp_right fun hd r hr => ?_))
  rw [writes_load hkind] at hr
  split at hr
  · cases hr
  · next hne =>
    rw [List.mem_singleton.1 hr]
    exact hd.resolve_left hne

end

/-! ## Stores -/

section
variable {ea : Nat} {bytes : List Byte} {locs : List (Nat × Nat)} {rel : Bool} (hkind : o.kind = .store ea bytes locs rel)
  (hpiece : isPiece o s.inp.a is) (hmay : s.mayPerform s.inp.unit o is = true) (hnear : o.remote = false)
include hfind hkind hpiece hmay hnear

/-- R115, R332, R453: where no task holds a cairn, a store changes memory, its counter and marks. -/
theorem storePerformed_uncairned (hnone : s.cairnHolders = []) : ∃ marks, (∀ m ∈ marks, m ∈ s.marks) ∧
    let t : State := { s with
      mem := stored s ((is.map fun i => (locs.getD i (0, 0)).1).zip (is.map fun i => bytes.getD i 0)), marks := marks }
    (allDone (withBytes o is (is.map fun _ => 0)) →
      exec .storePerformed s = .next (t.setSlot s.inp.unit (returned (s.slot s.inp.unit) o))) ∧
    (¬ allDone (withBytes o is (is.map fun _ => 0)) →
      exec .storePerformed s = .next (withOp t s.inp.unit (withBytes o is (is.map fun _ => 0)))) := by
  have hx := exec_storePerformed hfind hkind hpiece hmay hnear (s.cairnFault_uncairned _ hnone)
  obtain ⟨marks, hmarks, hwrite⟩ := s.writeLocs_uncairned
    ((is.map fun i => (locs.getD i (0, 0)).1).zip (is.map fun i => bytes.getD i 0)) hnone
  rw [hwrite, storeDone_eq] at hx
  by_cases hall : allDone (withBytes o is (is.map fun _ => 0))
  · rw [if_pos ((whole_iff _).2 hall)] at hx
    refine ⟨if marks.isEmpty then [] else marksAfter marks (o.kind.locs.map Prod.fst), fun m hm => ?_, fun _ => hx,
      fun hn => absurd hall hn⟩
    split at hm
    · cases hm
    · exact hmarks m (List.mem_of_mem_filter hm)
  · rw [if_neg (mt (whole_iff _).1 hall)] at hx
    exact ⟨marks, hmarks, fun h => absurd h hall, fun _ => hx⟩

/-- R332, R431, R432: whatever cairns save, memory is written just so. -/
theorem storePerformed_saved (hcairn : s.cairnFault (is.map fun i => (locs.getD i (0, 0)).1) = none) :
    let at_ := is.map fun i => (locs.getD i (0, 0)).1
    ∃ t, exec .storePerformed s = .next t ∧ t.mem = stored s (at_.zip (is.map fun i => bytes.getD i 0)) ∧
      (∀ a, a ∉ at_ → Memory.read t.mem a = Memory.read s.mem a) ∧
      (at_.Nodup → (∀ a ∈ at_, s.brokenAt a = false) → at_.map (Memory.read t.mem) = is.map fun i => bytes.getD i 0) ∧
      (allDone (withBytes o is (is.map fun _ => 0)) → (t.slot s.inp.unit).ops = (returned (s.slot s.inp.unit) o).ops) ∧
      (t.slot s.inp.unit).regs = (s.slot s.inp.unit).regs ∧ (t.slot s.inp.unit).preds = (s.slot s.inp.unit).preds := by
  intro at_
  have hlen : at_.length = (is.map fun i => bytes.getD i 0).length := by simp [at_]
  obtain ⟨hwrote, hslots⟩ := s.writeLocs_keeps (at_.zip (is.map fun i => bytes.getD i 0))
  obtain ⟨hmem, hops, hregs, hpreds⟩ := storeDone_keeps (s.writeLocs (at_.zip (is.map fun i => bytes.getD i 0))) s.inp.unit o is
  have hslot := hslots s.inp.unit
  refine ⟨_, exec_storePerformed hfind hkind hpiece hmay hnear hcairn, hmem.trans hwrote, fun a ha => ?_, fun hnodup hkept => ?_,
    fun hall => (hops hall).trans ?_, hregs.trans (congrArg Slot.regs hslot :), hpreds.trans (congrArg Slot.preds hslot :)⟩
  · rw [hmem, hwrote, stored_eq]
    exact read_storedOver_out _ _ _ (by rwa [List.map_fst_zip hlen.le])
  · rw [hmem, hwrote, stored_eq]
    exact read_storedOver_zip _ _ _ _ hlen hnodup hkept
  · exact (congrArg (fun sl : Slot => retireNulls [] (sl.ops.filter fun p => p.id != o.id)) hslot :)

end

end

/-- Settles O21: each event is one equation by what the bytes of its piece are, and the clauses are the cases of it. -/
theorem memoryOperationsEnd : Obligations.MemoryOperationsEnd := by
  unfold Obligations.MemoryOperationsEnd
  refine ⟨?load, ?store, fun s => ⟨?qrd, fun t hlate hdue => exec_qrdLanding_late hlate hdue⟩, ?refusal⟩
  case load =>
    intro s o d sgn acq ea locs is k sl hfind hkind hpiece hmay hfar hturn o' v
    have hx := exec_loadDataReturn hfind hkind hpiece hmay hfar (load_landsInTurn hkind hturn) (o' := o') rfl
    have hwhole : o'.whole = true ↔ allDone o' := whole_iff o'
    refine ⟨fun va hs => ?_, fun hs hn => ?_, fun hs hd hin => ?_, fun hs hd he hlt => ?_⟩
    · rw [hx, hs]
      rfl
    · rw [hx, hs]
      exact congrArg _ (if_neg (mt hwhole.1 hn))
    · rw [hx, hs]
      exact congrArg _ ((if_pos (hwhole.2 hd)).trans (landAccess_loaded s k o' d v (writes_load hkind) hin))
    · rw [hx, hs]
      exact congrArg _ ((if_pos (hwhole.2 hd)).trans (landAccess_early _ k o' _ ((withOp_exposed ..).trans he)
        ((withOp_cycle ..).trans_lt hlt)))
  case store =>
    intro s o ea bytes locs rel is k at_ put o' hfind hkind hpiece hmay hnear
    exact ⟨storePerformed_uncairned hfind hkind hpiece hmay hnear, storePerformed_saved hfind hkind hpiece hmay hnear⟩
  case qrd =>
    intro o q m ea locs is hlate hfind hkind _ hpiece hmay hfar o'
    have hx := exec_qrdLanding hfind hlate hkind hpiece hmay hfar (o' := o') rfl
    have hwhole : o'.whole = true ↔ allDone o' := whole_iff o'
    refine ⟨fun va hs => ?_, fun hs hn => ?_, fun hs hd => ⟨_, qrdEntry_has m _, fun hin => ?_, fun he hlt => ?_⟩⟩
    · rw [hx, hs]
      rfl
    · rw [hx, hs]
      exact congrArg _ (if_neg (mt hwhole.1 hn))
    · rw [hx, hs]
      exact congrArg _ ((if_pos (hwhole.2 hd)).trans (landAccess_qloaded s s.inp.unit o' q _ (congrArg OpKind.writes hkind) hin))
    · rw [hx, hs]
      exact congrArg _ ((if_pos (hwhole.2 hd)).trans (landAccess_early _ s.inp.unit o' _ ((withOp_exposed ..).trans he)
        ((withOp_cycle ..).trans_lt hlt)))
  case refusal =>
    intro s o k sl hfind hdone hnew ⟨p, hloc, hfar⟩ hleft at_
    rw [exec_lateAccessRefusal hfind hdone hnew hloc hfar hleft]
    cases hkind : o.kind with
    | null => rw [hkind] at hloc; cases hloc
    | unit => rw [hkind] at hloc; cases hloc
    | load d sgn ea locs acq => simp only [at_, hkind]; rfl
    | store ea bytes locs rel => simp only [at_, hkind]; rfl
    | qrd q m ea locs => simp only [at_, hkind]; rfl

end Sys2Proof.Claims
end

section
/-! What a private word of a control core answers besides issuing (R80, R233), and the drain and fence conditions that the system
words share (R168, R173). -/

namespace Sys2Proof.Claims
open Sys2Proof.Machine

/-! ## Answers of a word of a control core -/

section
variable {s t : State} {k x : Nat} {i : Instr} {h : Hdr} {len : Nat} {body : Nat → Nat → State → View → WRes}
  (iss : Issues s k x i h) (hx : exec i s = .next (s.issueCore i h len body))
include iss hx

theorem Issues.core_waits (hb : body k x s ((s.slot k).view x) = .wait t) : exec i s = .next t := by
  rw [hx, iss.issueCore, hb]

theorem Issues.core_stays (hb : body k x s ((s.slot k).view x) = .stay t) :
    exec i s = .next (after s t k x h ((t.slot k).stream x).ctl 0) := by
  rw [hx, iss.issueCore, hb]

/-- A precise trap of a word that has changed its own slot first. -/
theorem Issues.core_trapsIn {v : Slot} {c : Nat} {aux : Word}
    (hb : body k x s ((s.slot k).view x) = .trapIn (s.setSlot k v) c aux) :
    exec i s = .next (s.setSlot k (v.takeTrap x (v.stream x).ctl.pc c aux false)) := by
  rw [hx, iss.issueCore, hb]
  dsimp only
  rw [State.trapAt_single (s.setSlot k v) k x c aux iss.single, State.slot_setSlot, State.setSlot_setSlot]

end

/-- A scalar result of a word that has written its slot (R255). -/
theorem commit_scalar_setSlot {s : State} (hb : s.bundle = false) (k x lat : Nat) (v : Slot) (d : BitVec 5) (w : Word) :
    (s.setSlot k v).commit k x lat [.scalar d w] = receives (s.setSlot k v) k x lat d w := by
  cases e : v.exposed with
  | true => simp [State.commit, receives, landing, e]
  | false =>
    have hc : (s.setSlot k v).commit k x lat [.scalar d w] = s.setSlot k { v with regs := writeScalar v.regs d w } := by
      rw [(s.setSlot k v).commit_guarded k x lat _ (by simpa using e) hb]
      simp [State.land]
    rw [hc, receives, State.slot_setSlot, if_neg (by simp [e]), received, writeScalar]
    split
    · rfl
    · simp

/-! ## Drained slots (R173) -/

theorem drained_iff (sl : Slot) :
    sl.drained = true ↔ sl.ops = [] ∧ ∀ q ∈ sl.queues, ∀ p ∈ q.2, p.val.isSome = true := by
  simp [Slot.drained, Slot.reservations, Option.isSome_iff_ne_none]

theorem modeReady_iff {s : State} {k : Nat} (ho : s.otherExposed k = false) (e : Bool) : s.modeReady k e = true ↔
    (s.slot k).ops = [] ∧ ∀ q ∈ (s.slot k).queues, ∀ p ∈ q.2, p.val.isSome = true := by
  rw [← drained_iff]
  simp [State.modeReady, ho]

theorem modeReady_guarded (s : State) (k : Nat) : s.modeReady k false = (s.slot k).drained := by simp [State.modeReady]

/-! ## Fences (R148, R168) -/

theorem fenceClear_iff (s : State) (k kind scope : Nat) : s.fenceClear k kind scope = true ↔ fenceFree s k kind scope := by
  have hops : ((s.slot k).ops.any fun o => s.awaits k o kind scope) = false ↔
      ∀ o ∈ (s.slot k).ops, o.awaited k kind scope = true → o.kind = .unit ∧ (s.jobs.find? o.id).isSome = true := by
    simp [State.awaits, Option.isSome_iff_ne_none]
  have hjobs : s.slotJobs k s.nextId (kind == 2) = false ↔ ∀ p ∈ s.jobs, p.1 < s.nextId → p.2.mac.isSome = true →
      p.2.owner = (s.slot k).task.loc → kind ≠ 2 ∧ s.looseJob p.2 = true := by
    simp [State.slotJobs, State.taskJobs]
  rw [fenceFree, ← hops, ← hjobs]
  simp [State.fenceClear, and_assoc]

/-- A fence that is satisfied changes nothing but the numbers given and the boundaries crossed (R333). -/
theorem fencePassed_eq (s : State) (k kind scope : Nat) :
    ∃ cr, s.fencePassed k kind scope = { s with nextId := s.nextId + 1, crossings := cr } := ⟨_, rfl⟩

end Sys2Proof.Claims
end

section
/-! Responses (R164), modes (R173), fences, WAITC and group barriers (R168-R170), and cairns (R174, R175) at issue. -/

namespace Sys2Proof.Claims
open Sys2Proof.Machine

/-! ## Responses (R145, R164) -/

section
variable {s : State} {k x : Nat} {i : Instr} {h : Hdr} {d : BitVec 5} {keep : Bool}

theorem respWord_ok {op a : Nat} {v : Word} {rest : List Resp} (hb : s.bundle = false)
    (hr : (s.slot k).resp = { op := op, val := some (0, v, a) } :: rest) : respWord k x s d keep =
      .done (receives (s.setSlot k { s.slot k with resp := if keep then (s.slot k).resp else rest }) k x 2 d v) := by
  cases keep with
  | true =>
    rw [← commit_scalar_setSlot hb, respWord]
    simp only [hr, if_true]
    rw [← hr]
  | false =>
    rw [← commit_scalar_setSlot hb]
    simp [respWord, hr]

/-- R164: both forms, by the head response. -/
theorem responds_of (hx : ∀ s, exec i s = .next (s.issueCore i h 1 fun k x s _ => respWord k x s d keep)) (iss : Issues s k x i h) :
    let sl := s.slot k
    (sl.resp = [] → Traps s k x i 11 16) ∧
    (∀ op rest, sl.resp = { op := op, val := none } :: rest → exec i s = .next s) ∧
    (∀ op v a rest, sl.resp = { op := op, val := some (0, v, a) } :: rest → exec i s = .next (done s
      (receives (s.setSlot k { sl with resp := if keep then sl.resp else rest }) k x 2 d v) k x h 1)) ∧
    (∀ op st v a rest, sl.resp = { op := op, val := some (st, v, a) } :: rest → st ≠ 0 →
      exec i s = .next (s.setSlot k (({ sl with resp := rest } : Slot).takeTrap x (sl.stream x).ctl.pc 8
        (BitVec.ofNat 64 (st * 2 ^ 56 + a % 2 ^ 56)) false))) := by
  refine ⟨fun hr => ?_, fun op rest hr => ?_, fun op v a rest hr => ?_, fun op st v a rest hr hst => ?_⟩
  · exact iss.core_traps (hx s) (by simp [respWord, hr])
  · exact iss.core_waits (hx s) (by simp [respWord, hr])
  · exact iss.core_done (hx s) (respWord_ok iss.single hr)
  · refine iss.core_trapsIn (hx s) (v := { s.slot k with resp := rest }) ?_
    simp [respWord, hr]

end

/-- Settles O32: both forms answer by the head response. -/
theorem responseWords : Obligations.ResponseWords := by
  unfold Obligations.ResponseWords
  intro h d keep s k x i sl iss
  cases keep with
  | true => exact responds_of (i := .respPk h d) (fun _ => rfl) iss
  | false => exact responds_of (i := .resp h d) (fun _ => rfl) iss

/-! ## Modes (R173) -/

section
variable {i : Instr} {h : Hdr} {mode : Bool}

theorem switches_of (hx : ∀ s, exec i s = .next (s.issueCore i h 1 fun k x s _ => modeWord k x s mode)) : Switches i h mode := by
  intro s k x iss
  have hready := modeReady_iff iss.slot.alone mode
  refine ⟨fun hd => iss.core_waits (hx s) ?_, fun hd => iss.core_done (hx s) ?_⟩
  · exact if_neg (mt hready.1 hd)
  · rw [modeWord, if_pos (hready.2 hd), iss.single]
    rfl

end

/-- Settles O29: each MODE word waits for the drain, and then enters its mode. -/
theorem modeWords : Obligations.ModeWords := by
  unfold Obligations.ModeWords
  exact fun g => ⟨switches_of fun _ => rfl, switches_of fun _ => rfl⟩

/-! ## Fences (R148, R168) -/

section
variable {s : State} {k x : Nat} {i : Instr} {h : Hdr}

theorem fences_of {kind : Nat} {e : BitVec 3} (hx : ∀ s, exec i s = .next (s.issueCore i h 1 fun k x s _ => fenceWord k x s kind e.toNat)) :
    Fences i h kind e := by
  intro s k x iss
  have hclear := fenceClear_iff s k kind e.toNat
  refine ⟨fun hf => iss.core_waits (hx s) (if_neg (mt hclear.1 hf)), fun hf => ?_⟩
  obtain ⟨cr, hpassed⟩ := fencePassed_eq s k kind e.toNat
  refine ⟨cr, iss.core_done (hx s) ?_⟩
  rw [fenceWord, if_pos (hclear.2 hf), hpassed]

/-! ## WAITC (R146, R169) -/

theorem outstanding_eq (sl : Slot) (cls : Nat) : sl.outstanding cls = countOf sl cls := by
  simp [Slot.outstanding, countOf]

theorem waitcMet_iff (sl : Slot) (a b c d : Nat) : waitcMet sl a b c d = true ↔
    countOf sl 0 ≤ a ∧ countOf sl 1 ≤ b ∧ countOf sl 2 ≤ c ∧ countOf sl 3 ≤ d := by
  simp [waitcMet, outstanding_eq, and_assoc]

/-- R146: WAITC with no copy-status record to look at. -/
theorem waitcWord_clear {a b c d : Nat} (hc : (s.slot k).copyStatus = none ∨ c < countOf (s.slot k) 2) :
    waitcWord k x s a b c d =
      if waitcMet (s.slot k) a b c d then .done s else .wait (waiting s k x (.waitc a b c d)) := by
  have hnone : (if (s.slot k).outstanding 2 ≤ c then (s.slot k).copyStatus else none) = none := by
    rw [outstanding_eq]
    rcases hc with hc | hc
    · simp [hc]
    · exact if_neg (by omega)
  rw [waitcWord, hnone]
  rfl

theorem waitcWord_status {a b c d st off : Nat} (hc : countOf (s.slot k) 2 ≤ c) (hst : (s.slot k).copyStatus = some (st, off)) :
    waitcWord k x s a b c d = .trapIn (s.setSlot k { s.slot k with copyStatus := none }) 18
      (BitVec.ofNat 64 (st * 2 ^ 56 + off % 2 ^ 56)) := by
  rw [waitcWord, outstanding_eq, if_pos hc, hst]

/-! ## Group barriers (R170) -/

/-- The arrival of a stream that stands at its barrier word. -/
theorem came_eq {pc g : Nat} (a : Option (Nat × Nat × Nat)) :
    (∀ b, a = some b → b.1 = pc ∧ b.2.1 = g → a.filter (fun a => a.1 == pc && a.2.1 == g) = some b) ∧
    ((∀ b, a = some b → ¬ (b.1 = pc ∧ b.2.1 = g)) → a.filter (fun a => a.1 == pc && a.2.1 == g) = none) := by
  refine ⟨fun b hb hcame => ?_, fun hno => ?_⟩
  · simp [hb, Option.filter, hcame]
  · cases a with
    | none => rfl
    | some b =>
      have := hno b rfl
      simp [Option.filter, this]

variable {g : Nat} {w : Bool}

theorem gbarWord_stranger (hg : groupOf s k g = none) : gbarWord k x s g w = .trap 19 (BitVec.ofNat 64 g) := by
  rw [groupOf] at hg
  simp only [gbarWord, tileOf, hg]

/-- R170: the stream has arrived, and its phase is over or is not. -/
theorem gbarWord_came {gr : Group} {a : Nat × Nat × Nat} (hg : groupOf s k g = some gr) (ha : ((s.slot k).stream x).arrived = some a)
    (hcame : a.1 = ((s.slot k).stream x).ctl.pc ∧ a.2.1 = g) : gbarWord k x s g w =
      if a.2.2 < gr.phase then .done (s.setSlot k ((s.slot k).setStream x { (s.slot k).stream x with arrived := none }))
      else .wait (waiting s k x .gbar) := by
  rw [groupOf] at hg
  simp only [gbarWord, tileOf, hg, (came_eq _).1 a ha hcame]
  rfl

/-- R170: the stream has not arrived. -/
theorem gbarWord_comes {gr : Group} (hg : groupOf s k g = some gr) (hcame : ∀ a, ((s.slot k).stream x).arrived = some a →
      ¬ (a.1 = ((s.slot k).stream x).ctl.pc ∧ a.2.1 = g)) : gbarWord k x s g w =
    if s.fenceClear k 1 5 then
      let t := { s.fencePassed k 1 5 with groups := s.groups.set g (arrivedAt gr (k / 8)) }
      if w then
        .wait (waiting (t.setSlot k ((s.slot k).setStream x { (s.slot k).stream x with
          arrived := some (((s.slot k).stream x).ctl.pc, g, gr.arrived.get 0 (k / 8) / max 1 gr.count) })) k x .gbar)
      else .done t
    else .wait (waiting s k x (.fence 1 5 0)) := by
  rw [groupOf] at hg
  simp only [gbarWord, tileOf, hg, (came_eq _).2 hcame]
  rfl

end

/-- Settles O28: the fences, WAITC and the group barrier each wait for their own condition. -/
theorem waitingWords : Obligations.WaitingWords := by
  unfold Obligations.WaitingWords
  refine ⟨fun h e => ⟨fences_of fun _ => rfl, fences_of fun _ => rfl, fences_of fun _ => rfl⟩, ?waitc, ?gbar⟩
  case waitc =>
    intro h a b c d e s k x iss i sl met clear
    have hmet := waitcMet_iff sl a.toNat b.toNat c.toNat d.toNat
    refine ⟨fun hm hc => iss.core_waits rfl ?_, fun hm hc => iss.core_done rfl ?_, fun st off hc hst => ?_⟩
    · exact (waitcWord_clear hc).trans (if_neg (mt hmet.1 hm))
    · exact (waitcWord_clear (.inl hc)).trans (if_pos (hmet.2 hm))
    · exact iss.core_trapsIn rfl (waitcWord_status hc hst)
  case gbar =>
    intro h g s k x sl st came
    have hclear := fenceClear_iff s k 1 5
    obtain ⟨cr, hpassed⟩ := fencePassed_eq s k 1 5
    refine ⟨fun iss => ⟨fun hg => iss.core_traps rfl (gbarWord_stranger hg), fun gr a hg ha hc => ⟨fun hp => ?_, fun hp => ?_⟩,
      fun gr hg hc => ⟨fun hf => ?_, fun hf => ?_⟩⟩, fun iss => ⟨fun hg => iss.core_traps rfl (gbarWord_stranger hg),
      fun gr hg hc hf => ⟨cr, iss.core_done rfl ?_⟩⟩⟩
    · exact iss.core_waits rfl ((gbarWord_came hg ha hc).trans (if_neg (by omega)))
    · exact iss.core_done rfl ((gbarWord_came hg ha hc).trans (if_pos hp))
    · exact iss.core_waits rfl ((gbarWord_comes hg hc).trans (if_neg (mt hclear.1 hf)))
    · refine ⟨_, iss.core_waits rfl ((gbarWord_comes hg hc).trans (if_pos (hclear.2 hf))), rfl, ?_, ?_, ?_, rfl⟩
      · simp [waiting, st, sl]
      · simp [waiting, sl, Slot.setStream]
      · simp [waiting, sl, Slot.setStream]
    · rw [gbarWord_comes hg hc, if_pos (hclear.2 hf), hpassed]
      rfl

/-! ## Cairns (R148, R174, R175) -/

/-- R174: the lowest free cairn. -/
theorem lowestFree_eq {t : Tab Cairn} {j : Nat} (hj : j < 4) (hfree : t.find? j = none) (hlow : ∀ m < j, (t.find? m).isSome = true) :
    (firstBelow 4 fun i => (t.find? i).isNone) = some j := by
  rw [firstBelow, List.find?_range_eq_some]
  refine ⟨by simp [hfree], by simpa using hj, fun m hm => ?_⟩
  simpa using hlow m hm

theorem noneFree_eq {t : Tab Cairn} (h : ∀ j < 4, (t.find? j).isSome = true) : (firstBelow 4 fun i => (t.find? i).isNone) = none := by
  rw [firstBelow, List.find?_range_eq_none]
  intro j hj
  simpa using h j hj

section
variable {s : State} {k x : Nat} {d : BitVec 5} {base len : Word}

/-- R174: a length that a cairn may have. -/
def cairnSized (n : Nat) : Prop := n % 256 = 0 ∧ 256 ≤ n ∧ n ≤ 2 ^ 30

/-- R174: a range that a cairn may cover. -/
def cairnInside (k va n : Nat) : Prop := va + n ≤ 0xFF000000000000 ∨ cairnWindow k va n = true

theorem cairnSized_iff (n : Nat) : (n % 256 != 0 || n < 256 || 2 ^ 30 < n) = false ↔ cairnSized n := by
  simp [cairnSized, and_assoc]

theorem cairnInside_iff (k va n : Nat) : (!(decide (va + n ≤ windowBase) || cairnWindow k va n)) = false ↔ cairnInside k va n := by
  rw [Bool.not_eq_false', Bool.or_eq_true, decide_eq_true_eq]
  rfl

theorem cairnSetWord_misaligned (h : base.toNat % 2 ^ 56 % 256 ≠ 0) :
    cairnSetWord k x s d base len = .trap 6 (BitVec.ofNat 64 (base.toNat % 2 ^ 56)) := if_pos (by simpa using h)

theorem cairnSetWord_unsized (h : base.toNat % 2 ^ 56 % 256 = 0) (hn : ¬ cairnSized len.toNat) :
    cairnSetWord k x s d base len = .trap 6 len := by
  rw [← cairnSized_iff, Bool.not_eq_false] at hn
  exact (if_neg (by simpa using h)).trans (if_pos hn)

theorem cairnSetWord_outside (h : base.toNat % 2 ^ 56 % 256 = 0) (hn : cairnSized len.toNat)
    (hr : ¬ cairnInside k (base.toNat % 2 ^ 56) len.toNat) :
    cairnSetWord k x s d base len = .trap 5 (BitVec.ofNat 64 (base.toNat % 2 ^ 56)) := by
  rw [← cairnSized_iff] at hn
  rw [← cairnInside_iff, Bool.not_eq_false] at hr
  exact (if_neg (by simpa using h)).trans ((if_neg (ne_true_of_eq_false hn)).trans (if_pos hr))

/-- R174: a legal range: the lowest free cairn, once its release is done. -/
theorem cairnSetWord_legal (h : base.toNat % 2 ^ 56 % 256 = 0) (hn : cairnSized len.toNat)
    (hr : cairnInside k (base.toNat % 2 ^ 56) len.toNat) : cairnSetWord k x s d base len =
      (firstBelow 4 fun i => ((s.slot k).cairns.find? i).isNone).elim (.trap 20 0) fun j =>
        if s.fenceClear k 1 5 then
          .done (((s.fencePassed k 1 5).setSlot k { s.slot k with
            cairns := (s.slot k).cairns.set j { base := base.toNat % 2 ^ 56, len := len.toNat } }).commit k x 1
              [.scalar d (BitVec.ofNat 64 j)])
        else .wait (waiting s k x (.fence 1 5 0)) := by
  rw [← cairnSized_iff] at hn
  rw [← cairnInside_iff] at hr
  refine (if_neg (by simpa using h)).trans ((if_neg (ne_true_of_eq_false hn)).trans ((if_neg (ne_true_of_eq_false hr)).trans ?_))
  cases firstBelow 4 fun i => ((s.slot k).cairns.find? i).isNone with
  | none => rfl
  | some j => rfl

end

/-- Settles O33: the checks of CAIRN.SET in their order, and CAIRN.DROP by whether the cairn is live. -/
theorem cairnWords : Obligations.CairnWords := by
  unfold Obligations.CairnWords
  intro h d a b s k x sl base len va n
  refine ⟨fun iss => ⟨fun hva => ?_, fun hva hn => ?_, fun hva hn hr => ?_, fun hva hn hr hall => ?_,
    fun j hj hva hn hr hfree hlow => ?_⟩, fun iss => ⟨fun hc => ?_, fun c hc => ?_⟩⟩
  · exact iss.core_traps rfl (cairnSetWord_misaligned hva)
  · exact iss.core_traps rfl (cairnSetWord_unsized hva hn)
  · exact iss.core_traps rfl (cairnSetWord_outside hva hn hr)
  · exact iss.core_traps rfl ((cairnSetWord_legal hva hn hr).trans (congrArg (Option.elim · _ _) (noneFree_eq hall)))
  · have hword := (cairnSetWord_legal (s := s) (x := x) (d := d) hva hn hr).trans
      (congrArg (Option.elim · _ _) (lowestFree_eq hj hfree hlow))
    have hclear := fenceClear_iff s k 1 5
    obtain ⟨cr, hpassed⟩ := fencePassed_eq s k 1 5
    refine ⟨fun hf => iss.core_waits rfl (hword.trans (if_neg (mt hclear.1 hf))), fun hf => ⟨cr, iss.core_done rfl ?_⟩⟩
    refine (hword.trans (if_pos (hclear.2 hf))).trans (congrArg _ ?_)
    rw [hpassed]
    exact commit_scalar_setSlot (s := { s with nextId := s.nextId + 1, crossings := cr }) iss.single ..
  · exact iss.core_traps rfl (by simp only [cairnDropWord, Slot.view]; rw [hc])
  · exact iss.core_done rfl (by simp only [cairnDropWord, Slot.view]; rw [hc]; rfl)

end Sys2Proof.Claims
end

section
/-! Software traps, breakpoints and ends (R176, R235), and the return from a handler with the collar traps that wait for it
(R200, R236, R292). -/

namespace Sys2Proof.Machine

/-! ## Streams -/

/-- What a map leaves of every entry, it leaves of the entry read. -/
theorem Tab.get_map_keeps {α β : Type} (d : α) (t : Tab α) (f : α → α) (k : Nat) (p : α → β) (h : ∀ v, p (f v) = p v) :
    p (Tab.get d (t.map fun q : Nat × α => (q.1, f q.2)) k) = p (t.get d k) := by
  unfold Tab.get
  rw [Tab.find_map]
  cases t.find? k with
  | none => rfl
  | some v => exact h v

/-- R255: counting the slot cycles anew moves no stream. -/
theorem restarted_ctl (l : Tab Stream) (y : Nat) : ((Claims.restarted l).get {} y).ctl = (l.get {} y).ctl :=
  Tab.get_map_keeps {} l (fun st => { st with next := 1 }) y Stream.ctl fun _ => rfl

theorem restarted_rvCount (l : Tab Stream) (y : Nat) : ((Claims.restarted l).get {} y).rvCount = (l.get {} y).rvCount :=
  Tab.get_map_keeps {} l (fun st => { st with next := 1 }) y Stream.rvCount fun _ => rfl

/-! ## Traps (R233) -/

theorem Slot.setBack_of_late_nil {sl : Slot} (h : sl.late = []) : sl.setBack = sl := by
  have e : ({ sl with late := [] } : Slot) = sl := by rw [← h]
  rw [Slot.setBack, h, List.foldl_nil, e]

section
variable {sl : Slot} {x pc cause : Nat} {aux : Word} {late : Bool} (hlate : sl.late = []) (hin : sl.trap.inHandler = false)
include hlate hin

/-- R233: a trap outside a handler: what is written of it, the mode, and the collar traps that still wait. -/
theorem Slot.takeTrap_outside : (sl.takeTrap x pc cause aux late).trap =
      { sl.trap with cause := BitVec.ofNat 8 cause, inHandler := true, late := late, xsave := sl.exposed,
                     stream := BitVec.ofNat 2 x, pc := pc, aux := aux, depth := (sl.stream x).ctl.depth, held := (sl.stream x).ctl.loops } ∧
    (sl.takeTrap x pc cause aux late).exposed = false ∧ (sl.takeTrap x pc cause aux late).collarTraps = sl.collarTraps := by
  rw [Slot.takeTrap, Slot.setBack_of_late_nil hlate]
  dsimp only
  rw [if_neg (by simp [hin])]
  cases sl.task.trapEntry.find? x with
  | none => exact ⟨rfl, rfl, rfl⟩
  | some e => exact ⟨rfl, rfl, rfl⟩

end

/-! ## Collar traps that wait (R200, R292) -/

/-- What waits in the segment that a collar trap names. -/
def State.heldAt (s : State) (e : Nat) : Option Held := ((s.tile (e / 4)).segs.get {} (e % 4)).trapped

/-- The collar trap that an entry of the slot's list names, of group `g`. -/
def State.trapOfGroup (s : State) (g e : Nat) : Option (Nat × Nat × Held) :=
  if e % 4 = g then (((s.tile (e / 4)).segs.get {} g).trapped.map fun h => (e / 4, g, h)) else none

theorem State.nextCollarTrap_eq (s : State) (k : Nat) :
    s.nextCollarTrap k = [0, 1, 2, 3].findSome? fun g => (s.slot k).collarTraps.findSome? (s.trapOfGroup g) := rfl

theorem State.trapOfGroup_self (s : State) (e : Nat) : s.trapOfGroup (e % 4) e = (s.heldAt e).map fun h => (e / 4, e % 4, h) := if_pos rfl

theorem State.trapOfGroup_eq_some {s : State} {g e : Nat} {a : Nat × Nat × Held} (h : s.trapOfGroup g e = some a) :
    e % 4 = g ∧ ∃ held, s.heldAt e = some held ∧ a = (e / 4, g, held) := by
  unfold State.trapOfGroup at h
  split at h
  · next hg =>
    subst hg
    obtain ⟨held, hheld, rfl⟩ := Option.map_eq_some_iff.1 h
    exact ⟨rfl, held, hheld, rfl⟩
  · exact absurd h (by simp)

theorem State.nextCollarTrap_eq_none_iff (s : State) (k : Nat) :
    s.nextCollarTrap k = none ↔ ∀ e ∈ (s.slot k).collarTraps, s.heldAt e = none := by
  simp only [State.nextCollarTrap_eq, List.findSome?_eq_none_iff]
  refine ⟨fun h e he => ?_, fun h g _ e he => ?_⟩
  · have hg : e % 4 ∈ [0, 1, 2, 3] := by
      simp only [List.mem_cons, List.not_mem_nil, or_false]
      omega
    simpa [s.trapOfGroup_self] using h _ hg e he
  · by_contra hne
    obtain ⟨a, ha⟩ := Option.ne_none_iff_exists'.1 hne
    obtain ⟨-, held, hheld, -⟩ := State.trapOfGroup_eq_some ha
    simp [h e he] at hheld

theorem State.nextCollarTrap_isSome_iff (s : State) (k : Nat) :
    (s.nextCollarTrap k).isSome = true ↔ ∃ e ∈ (s.slot k).collarTraps, (s.heldAt e).isSome = true := by
  simp only [Option.isSome_iff_ne_none, ne_eq, s.nextCollarTrap_eq_none_iff k]
  simp

/-- R200: the first in site order. -/
theorem State.nextCollarTrap_first {s : State} {k e : Nat} {held : Held} (he : e ∈ (s.slot k).collarTraps) (hheld : s.heldAt e = some held)
    (hfirst : ∀ f ∈ (s.slot k).collarTraps, (s.heldAt f).isSome = true → f ≠ e → e % 4 < f % 4) :
    s.nextCollarTrap k = some (e / 4, e % 4, held) := by
  have honly : ∀ g ≤ e % 4, ∀ f ∈ (s.slot k).collarTraps, ∀ a, s.trapOfGroup g f = some a → f = e := by
    intro g hg f hf a ha
    obtain ⟨rfl, h, hh, -⟩ := State.trapOfGroup_eq_some ha
    by_contra hfe
    have := hfirst f hf (by simp [hh]) hfe
    omega
  have hbelow : ∀ g < e % 4, (s.slot k).collarTraps.findSome? (s.trapOfGroup g) = none := by
    intro g hg
    rw [List.findSome?_eq_none_iff]
    intro f hf
    by_contra hne
    obtain ⟨a, ha⟩ := Option.ne_none_iff_exists'.1 hne
    obtain rfl := honly g hg.le f hf a ha
    have := (State.trapOfGroup_eq_some ha).1
    omega
  have hgroup : (s.slot k).collarTraps.findSome? (s.trapOfGroup (e % 4)) = some (e / 4, e % 4, held) := by
    have hself : s.trapOfGroup (e % 4) e = some (e / 4, e % 4, held) := by simp [s.trapOfGroup_self, hheld]
    obtain ⟨a, ha⟩ := Option.ne_none_iff_exists'.1 fun hnone : (s.slot k).collarTraps.findSome? (s.trapOfGroup (e % 4)) = none => by
      simpa [hself] using List.findSome?_eq_none_iff.1 hnone e he
    obtain ⟨f, hf, hfa⟩ := List.exists_of_findSome?_eq_some ha
    obtain rfl := honly _ le_rfl f hf a hfa
    rw [ha, ← hfa, hself]
  have h4 : e % 4 = 0 ∨ e % 4 = 1 ∨ e % 4 = 2 ∨ e % 4 = 3 := by omega
  rw [State.nextCollarTrap_eq]
  rcases h4 with h | h | h | h <;> rw [h] at hbelow hgroup ⊢ <;> simp [List.findSome?, hbelow, hgroup]

/-- R231: CPEND says whether a collar trap waits; nothing else of the slot changes. -/
theorem State.noteCpend_slot (s : State) (k : Nat) :
    (s.noteCpend k).slot k = { s.slot k with trap := { (s.slot k).trap with cpend := (s.nextCollarTrap k).isSome } } := by
  unfold State.noteCpend
  dsimp only
  split
  · next h => rw [← h]
  · simp

theorem State.noteCpend_mem (s : State) (k : Nat) : (s.noteCpend k).mem = s.mem := by
  unfold State.noteCpend
  dsimp only
  split <;> rfl

/-- A trap that is handed over still waits in its segment. -/
theorem State.heldAt_markDelivered (s : State) (t g f : Nat) :
    ((s.markDelivered t g).heldAt f).isSome = (s.heldAt f).isSome := by
  unfold State.heldAt State.markDelivered
  by_cases ht : f / 4 = t
  · subst ht
    by_cases hg : f % 4 = g
    · subst hg
      simp
    · simp [Tab.get_set_ne _ _ _ _ _ hg]
  · rw [State.modTile_eq, State.tile_setTile_ne _ _ _ _ ht]

section
variable {sl : Slot} {site t g seq : Nat} (hlate : sl.late = []) (hin : sl.trap.inHandler = false)
include hlate hin

/-- R200: a collar trap outside a handler, as it is delivered. -/
theorem Slot.collarTrap_outside : (sl.collarTrap site t g seq).trap =
      { sl.trap with cause := 26, inHandler := true, late := true, xsave := sl.exposed, stream := 2, pc := (sl.stream 2).ctl.pc,
                     aux := BitVec.ofNat 64 (site + g * 256 + seq * 65536), depth := (sl.stream 2).ctl.depth,
                     held := (sl.stream 2).ctl.loops } ∧
    (sl.collarTrap site t g seq).exposed = false ∧
    (sl.collarTrap site t g seq).collarTraps = sl.collarTraps.filter (· != 4 * t + g) := by
  rw [Slot.collarTrap, Slot.setBack_of_late_nil hlate]
  obtain ⟨htrap, hexposed, hcollar⟩ := Slot.takeTrap_outside (sl := (({ sl with
    phase := .running, ending := none, collarTraps := sl.collarTraps.filter (· != 4 * t + g) } : Slot).modStream 2 fun st =>
      { st with ended := false })) (x := 2) (pc := (sl.stream 2).ctl.pc) (cause := 26)
      (aux := BitVec.ofNat 64 (site + g * 256 + seq * 65536)) (late := true) hlate hin
  refine ⟨htrap.trans ?_, hexposed, hcollar⟩
  rw [Slot.modStream_eq, Slot.stream_setStream]
  rfl

omit hin in
theorem Slot.collarTrap_kept : (sl.collarTrap site t g seq).kept = sl.kept := by
  rw [Slot.collarTrap, Slot.setBack_of_late_nil hlate]
  exact Slot.takeTrap_kept ..

end

section
variable {s : State} {k e : Nat} {held : Held}

theorem State.deliverCollar_none (h : s.nextCollarTrap k = none) :
    (s.deliverCollar k).slot k = { s.slot k with trap := { (s.slot k).trap with cpend := false } } ∧
    (s.deliverCollar k).mem = s.mem := by
  rw [State.deliverCollar, h]
  refine ⟨(s.noteCpend_slot k).trans ?_, s.noteCpend_mem k⟩
  rw [h]
  rfl

/-- R200: the slot and the segment once the trap that `e` names has been handed over. -/
def State.handedOver (s : State) (k e : Nat) (held : Held) : State :=
  (s.setSlot k ((s.slot k).collarTrap held.site (e / 4) (e % 4) held.seq)).markDelivered (e / 4) (e % 4)

theorem State.handedOver_slot (s : State) (k e : Nat) (held : Held) :
    (s.handedOver k e held).slot k = (s.slot k).collarTrap held.site (e / 4) (e % 4) held.seq := State.slot_setSlot ..

theorem State.heldAt_handedOver (s : State) (k e : Nat) (held : Held) (f : Nat) :
    ((s.handedOver k e held).heldAt f).isSome = (s.heldAt f).isSome := State.heldAt_markDelivered ..

/-- R200, R292: the first collar trap is delivered, and CPEND says whether a further one waits. -/
theorem State.deliverCollar_some (h : s.nextCollarTrap k = some (e / 4, e % 4, held)) (hlate : (s.slot k).late = [])
    (hin : (s.slot k).trap.inHandler = false) :
    let v := (s.slot k).collarTrap held.site (e / 4) (e % 4) held.seq
    ∃ c : Bool, (s.deliverCollar k).slot k = { v with trap := { v.trap with cpend := c } } ∧
      (c = true ↔ ∃ f ∈ (s.slot k).collarTraps, f ≠ e ∧ (s.heldAt f).isSome = true) ∧ (s.deliverCollar k).mem = s.mem := by
  intro v
  have hdeliver : s.deliverCollar k = (s.handedOver k e held).noteCpend k := by
    rw [State.deliverCollar, h]
    rfl
  have hslot : (s.handedOver k e held).slot k = v := s.handedOver_slot k e held
  rw [hdeliver]
  refine ⟨((s.handedOver k e held).nextCollarTrap k).isSome, (State.noteCpend_slot ..).trans (by rw [hslot]), ?_, State.noteCpend_mem ..⟩
  have hcollar : v.collarTraps = (s.slot k).collarTraps.filter (· != e) := by
    rw [(Slot.collarTrap_outside hlate hin).2.2, Nat.div_add_mod]
  rw [State.nextCollarTrap_isSome_iff, hslot, hcollar]
  simp [s.heldAt_handedOver, and_assoc]

end

end Sys2Proof.Machine

namespace Sys2Proof.Claims
open Sys2Proof.Machine

/-! ## TRAP, BKPT, HALTX, LFDONE (R176, R235, R354) -/

theorem slot_after (s t : State) (k x : Nat) (h : Hdr) (c : Ctl) (b : Nat) : (after s t k x h c b).slot k =
    (t.slot k).setStream x (issuedStream s k h c b (t.slot k).cycle ((t.slot k).stream x)) := by
  simp [after]

section
variable {s : State} {k x : Nat}

/-- A word that leaves its stream where it stands, and writes its slot. -/
theorem Issues.core_stays_setSlot {i : Instr} {h : Hdr} {len : Nat} {body : Nat → Nat → State → View → WRes} {v : Slot}
    (iss : Issues s k x i h) (hx : exec i s = .next (s.issueCore i h len body))
    (hb : body k x s ((s.slot k).view x) = .stay (s.setSlot k v)) :
    exec i s = .next (after s (s.setSlot k v) k x h (v.stream x).ctl 0) := by
  rw [iss.core_stays hx hb, State.slot_setSlot]

/-- R234, R246: a word of a handler counts no rendezvous. -/
theorem issuedStream_rvCount (hin : (s.slot k).trap.inHandler = true) (h : Hdr) (c : Ctl) (b n : Nat) (st : Stream) :
    (issuedStream s k h c b n st).rvCount = st.rvCount := by
  simp [issuedStream, hin]

/-- R235: with debugging on the slot stops at its word, and the host is told. -/
theorem bkptWord_stops (hd : (s.slot k).debug = true) (n : BitVec 14) : ∃ t data, bkptWord k x s n = .wait t ∧
    t.slot k = { s.slot k with broke := true } ∧ t.mem = s.mem ∧
    (t.devOut.get {} 2).unacked = (s.devOut.get {} 2).unacked ++
      [{ seq := (s.devOut.get {} 2).seq, type := 6, data := data, sent := s.mtime.toNat }] := by
  have hport := State.send_portOnly (s.setSlot k { s.slot k with broke := true }) 2 6
    (leBytes 8 k ++ leBytes 8 x ++ leBytes 8 n.toNat)
  refine ⟨_, _, if_pos hd, ?_, hport.frame.1, congrArg DevStream.unacked (State.send_devOut _ 2 6 _)⟩
  exact (hport.slot_eq k).trans (State.slot_setSlot ..)

/-! ## ERET (R236) -/

/-- R236: the words that ERET skips: the trapped one, unless the trap was a collar trap. -/
def eretPast (s : State) (k : Nat) (skip : Bool) : Nat :=
  if skip && (s.slot k).trap.cause != 26 then (if twoWordCore (s.imemWord k (s.slot k).trap.pc) then 2 else 1) else 0

/-- R236: the slot in the mode that the trap left. -/
def backInMode (sl : Slot) : Slot := if sl.trap.xsave then sl.setMode true else sl

/-- R236: the slot out of its handler, before the collar traps that wait are looked at. -/
def eretSlot (s : State) (k x : Nat) (skip : Bool) : Slot :=
  let t := (s.slot k).trap
  let sl := backInMode (s.slot k)
  let st := sl.stream x
  ({ sl with trap := { t with inHandler := false, held := [] } } : Slot).setStream x { st with
    ctl := t.resume st.ctl (eretPast s k skip)
    rvCount := if skip && t.cause != 26 && rvWord (s.imemWord k t.pc) then st.rvCount + 1 else st.rvCount }

theorem eretPast_eq (skip : Bool) : eretPast s k skip =
    if skip = true ∧ (s.slot k).trap.cause ≠ 26 then (if twoWordCore (s.imemWord k (s.slot k).trap.pc) then 2 else 1) else 0 := by
  simp [eretPast]

theorem eretWord_returns {skip : Bool} (hin : (s.slot k).trap.inHandler = true)
    (hready : ((s.slot k).trap.xsave && !s.modeReady k true) = false) :
    eretWord k x s skip = .stay ((s.setSlot k (eretSlot s k x skip)).deliverCollar k) := by
  unfold eretWord
  simp only [hin, hready]
  rfl

/-- What the mode leaves of the slot as it was, and what the drain has counted anew (R255). -/
theorem backInMode_keeps (sl : Slot) :
    (backInMode sl).regs = sl.regs ∧ (backInMode sl).preds = sl.preds ∧ (backInMode sl).fpcsr = sl.fpcsr ∧
    (backInMode sl).queues = (if sl.trap.xsave = true then recounted sl else sl).queues ∧
    (backInMode sl).collarTraps = sl.collarTraps ∧
    (backInMode sl).exposed = (if sl.trap.xsave = true then true else sl.exposed) ∧
    (sl.late = [] → (backInMode sl).late = []) := by
  unfold backInMode
  split
  · exact ⟨rfl, rfl, rfl, rfl, rfl, rfl, fun h => by simp [Slot.setMode, Slot.rebase, h]⟩
  · exact ⟨rfl, rfl, rfl, rfl, rfl, rfl, id⟩

theorem backInMode_stream (sl : Slot) (y : Nat) : ((backInMode sl).stream y).ctl = (sl.stream y).ctl ∧
    ((backInMode sl).stream y).rvCount = (sl.stream y).rvCount := by
  unfold backInMode
  split
  · exact ⟨restarted_ctl .., restarted_rvCount ..⟩
  · exact ⟨rfl, rfl⟩

variable {skip : Bool}

theorem eretSlot_ctl : ((eretSlot s k x skip).stream x).ctl =
    (s.slot k).trap.resume ((s.slot k).stream x).ctl (eretPast s k skip) := by
  simp [eretSlot, (backInMode_stream ..).1]

theorem eretSlot_ctl_ne {y : Nat} (hy : y ≠ x) : ((eretSlot s k x skip).stream y).ctl = ((s.slot k).stream y).ctl := by
  rw [eretSlot, Slot.stream_setStream_ne _ _ _ _ hy]
  exact (backInMode_stream ..).1

theorem eretSlot_rvCount : ((eretSlot s k x skip).stream x).rvCount = ((s.slot k).stream x).rvCount +
    (if skip = true ∧ (s.slot k).trap.cause ≠ 26 ∧ rvWord (s.imemWord k (s.slot k).trap.pc) = true then 1 else 0) := by
  simp only [eretSlot, Slot.stream_setStream, (backInMode_stream ..).2, Bool.and_eq_true, bne_iff_ne, and_assoc]
  split <;> rfl

/-- R236: ERET with no collar trap that waits. -/
theorem eretSlot_quiet (h : ∀ e ∈ (s.slot k).collarTraps, s.heldAt e = none) :
    let r := (s.setSlot k (eretSlot s k x skip)).deliverCollar k
    r.slot k = { eretSlot s k x skip with trap := { (s.slot k).trap with inHandler := false, held := [], cpend := false } } ∧
    r.mem = s.mem := by
  have hnone : (s.setSlot k (eretSlot s k x skip)).nextCollarTrap k = none := by
    rw [State.nextCollarTrap_eq_none_iff, State.slot_setSlot]
    obtain ⟨-, -, -, -, hcollar, -, -⟩ := backInMode_keeps (s.slot k)
    exact hcollar ▸ h
  obtain ⟨hslot, hmem⟩ := State.deliverCollar_none hnone
  rw [State.slot_setSlot] at hslot
  exact ⟨hslot, hmem⟩

/-- R200, R236: ERET with a collar trap that waits: it is delivered at once. -/
theorem eretSlot_delivers {e : Nat} {held : Held} (hlate : (s.slot k).late = []) (he : e ∈ (s.slot k).collarTraps)
    (hheld : s.heldAt e = some held)
    (hfirst : ∀ f ∈ (s.slot k).collarTraps, (s.heldAt f).isSome = true → f ≠ e → e % 4 < f % 4) :
    let v := eretSlot s k x skip
    let w := v.collarTrap held.site (e / 4) (e % 4) held.seq
    let r := (s.setSlot k v).deliverCollar k
    ∃ c : Bool, r.slot k = { w with trap := { w.trap with cpend := c } } ∧
      (c = true ↔ ∃ f ∈ (s.slot k).collarTraps, f ≠ e ∧ (s.heldAt f).isSome = true) ∧ r.mem = s.mem := by
  intro v w r
  obtain ⟨-, -, -, -, hcollar, -, hl⟩ := backInMode_keeps (s.slot k)
  have hv : ((s.setSlot k v).slot k).collarTraps = (s.slot k).collarTraps := by
    rw [State.slot_setSlot]
    exact hcollar
  have hnext : (s.setSlot k v).nextCollarTrap k = some (e / 4, e % 4, held) :=
    State.nextCollarTrap_first (hv ▸ he) hheld (hv ▸ hfirst)
  obtain ⟨c, hslot, hc, hmem⟩ := State.deliverCollar_some hnext (by rw [State.slot_setSlot]; exact hl hlate)
    (by rw [State.slot_setSlot]; rfl)
  rw [State.slot_setSlot] at hslot
  rw [hv] at hc
  exact ⟨c, hslot, hc, hmem⟩

/-- R236: ERET out of a handler, once the slot is drained where the trap left exposed mode. -/
theorem Issues.eret_returns {h : Hdr} (iss : Issues s k x (.eret h skip) h) (hin : (s.slot k).trap.inHandler = true)
    (hd : (s.slot k).trap.xsave = true → (s.slot k).ops = [] ∧ ∀ q ∈ (s.slot k).queues, ∀ p ∈ q.2, p.val.isSome = true) :
    let r := (s.setSlot k (eretSlot s k x skip)).deliverCollar k
    exec (.eret h skip) s = .next (after s r k x h ((r.slot k).stream x).ctl 0) := by
  refine iss.core_stays rfl (eretWord_returns hin ?_)
  by_cases hx : (s.slot k).trap.xsave = true
  · simp [(modeReady_iff iss.slot.alone true).2 (hd hx)]
  · simp [hx]

theorem Issues.eret_waits {h : Hdr} (iss : Issues s k x (.eret h skip) h) (hin : (s.slot k).trap.inHandler = true)
    (hx : (s.slot k).trap.xsave = true)
    (hd : ¬ ((s.slot k).ops = [] ∧ ∀ q ∈ (s.slot k).queues, ∀ p ∈ q.2, p.val.isSome = true)) :
    exec (.eret h skip) s = .next (waiting s k x (.eret skip)) := by
  refine iss.core_waits rfl ((if_neg (by simpa using hin)).trans (if_pos ?_))
  have hno : s.modeReady k true = false := by simpa using mt (modeReady_iff iss.slot.alone true).1 hd
  simpa [hno] using hx

theorem Issues.eret_illegal {h : Hdr} (iss : Issues s k x (.eret h skip) h) (hin : (s.slot k).trap.inHandler = false) :
    Traps s k x (.eret h skip) 1 (BitVec.ofNat 64 s.fetched.1) :=
  iss.core_traps rfl (if_pos (by simpa using hin))

end

/-- Settles O31: the ending words by their flags, and ERET by whether a collar trap waits. -/
theorem trapAndEndWords : Obligations.TrapAndEndWords := by
  unfold Obligations.TrapAndEndWords
  refine ⟨fun h n d s k x => ?ends, fun h skip s k x iss => ?eret⟩
  case ends =>
    refine ⟨fun iss => iss.core_traps rfl (by rw [BitVec.ofNat_toNat]), fun iss => ⟨fun hd => ?_, fun hd => ?_⟩,
      fun iss => ?_, fun iss => ⟨fun hl => ?_, fun hl => ?_⟩⟩
    · exact iss.core_traps rfl ((if_neg (by simp [hd])).trans (by rw [BitVec.ofNat_toNat]))
    · obtain ⟨t, data, hword, hslot, hmem, hport⟩ := bkptWord_stops (x := x) hd n
      exact ⟨t, data, iss.core_waits rfl hword, hslot, hmem, hport⟩
    · refine (iss.core_stays_setSlot (v := (s.slot k).beginEnding (.haltx ((readScalar (s.slot k).regs d).setWidth 32))) rfl rfl).trans ?_
      rw [← BitVec.ofNat_toNat]
      rfl
    · exact iss.core_traps rfl (if_neg (by simp [hl]))
    · exact iss.core_stays_setSlot (v := { s.slot k with
        validity := some (readScalar (s.slot k).regs d), phase := .ending
        ending := some (.landed (readScalar (s.slot k).regs d)) }) rfl (if_pos hl)
  case eret =>
    intro i sl t st drained w past
    have hpast : eretPast s k skip = past := eretPast_eq skip
    refine ⟨iss.eret_illegal, iss.eret_waits, ?_⟩
    intro heldAt back mode
    obtain ⟨hregs, hpreds, hfpcsr, hqueues, -, hexposed, -⟩ := backInMode_keeps sl
    refine ⟨fun hin hd hnone => ?_, fun e h' hin hd hlate he hheld hfirst => ?_⟩
    · obtain ⟨hslot, hmem⟩ := eretSlot_quiet (x := x) (skip := skip) hnone
      refine ⟨_, iss.eret_returns hin hd, ?_⟩
      rw [slot_after, hslot]
      refine ⟨rfl, hexposed, ?_, ?_, fun y hy => ?_, hregs, hpreds, hqueues, hfpcsr, hmem⟩
      · rw [Slot.stream_setStream]
        refine eretSlot_ctl.trans ?_
        rw [hpast]
        rfl
      · rw [Slot.stream_setStream, issuedStream_rvCount hin]
        refine eretSlot_rvCount.trans ?_
        simp only [rvWord, flag_iff]
        rfl
      · rw [Slot.stream_setStream_ne _ _ _ _ hy]
        exact eretSlot_ctl_ne hy
    · obtain ⟨c, hslot, hc, hmem⟩ := eretSlot_delivers (x := x) (skip := skip) hlate he hheld hfirst
      obtain ⟨-, -, -, -, hcollar, -, hl⟩ := backInMode_keeps sl
      obtain ⟨htrap, hguarded, hleft⟩ := Slot.collarTrap_outside (sl := eretSlot s k x skip) (site := h'.site) (t := e / 4)
        (g := e % 4) (seq := h'.seq) (hl hlate) rfl
      have hkept := Slot.collarTrap_kept (sl := eretSlot s k x skip) (site := h'.site) (t := e / 4)
        (g := e % 4) (seq := h'.seq) (hl hlate)
      refine ⟨_, iss.eret_returns hin hd, ?_⟩
      rw [slot_after, hslot]
      refine ⟨congrArg TrapSt.inHandler htrap, congrArg TrapSt.late htrap, congrArg TrapSt.cause htrap, congrArg TrapSt.stream htrap,
        (congrArg TrapSt.xsave htrap).trans hexposed, (congrArg TrapSt.pc htrap).trans ?_, congrArg TrapSt.aux htrap, hc,
        hleft.trans ?_, hguarded, (congrArg Prod.fst hkept).trans hregs, (congrArg (fun a => a.2.1) hkept).trans hpreds,
        (congrArg (fun a => a.2.2.2.1) hkept).trans hqueues, hmem⟩
      · by_cases h2 : x = 2
        · subst h2
          rw [if_pos rfl, ← hpast]
          exact congrArg Ctl.pc eretSlot_ctl
        · rw [if_neg h2]
          exact congrArg Ctl.pc (eretSlot_ctl_ne (Ne.symm h2))
      · rw [Nat.div_add_mod]
        refine (congrArg (List.filter _) hcollar).trans (List.filter_congr fun f _ => ?_)
        by_cases hf : f = e <;> simp [hf]

end Sys2Proof.Claims
end

section
/-! The decoupled words at issue (R149-R151): their addresses and lanes, what they reserve and pop, and their late faults. -/

namespace Sys2Proof.Machine

theorem unitsOnly.nextId_eq {s u : State} (h : unitsOnly s u) : u.nextId = s.nextId := by
  obtain ⟨d, f, rfl⟩ := h
  rfl

theorem unitsOnly.cycle_eq {s u : State} (h : unitsOnly s u) : u.cycle = s.cycle := by
  obtain ⟨d, f, rfl⟩ := h
  rfl

theorem portOnly.nextId_eq {s u : State} (h : portOnly s u) : u.nextId = s.nextId := by
  obtain ⟨o, p, rfl⟩ := h
  rfl

theorem portOnly.cycle_eq {s u : State} (h : portOnly s u) : u.cycle = s.cycle := by
  obtain ⟨o, p, rfl⟩ := h
  rfl

/-! ## Addresses and lanes (R112, R150) -/

theorem decoupledEa_imm (s : State) (k x : Nat) (a : BitVec 5) (i : BitVec 9) :
    addr56 (((s.slot k).view x).reg a + imm9 i * 128) = Claims.effective s k a (i.toInt * 128) := scalarEa_eq s k x a i 128

theorem decoupledEa_reg (s : State) (k x : Nat) (a b : BitVec 5) :
    addr56 (((s.slot k).view x).reg a + ((s.slot k).view x).reg b) =
      Claims.effective s k a ((readScalar (s.slot k).regs b).toNat : Int) := by
  rw [addr56, BitVec.toNat_add, Claims.effective, Slot.view]
  dsimp only
  omega

theorem View.getLsbD_lanes (v : View) (g : BitVec 3) (n : Bool) {j : Nat} (hj : j < 128) :
    (v.lanes g n).getLsbD j = ((v.pred g).getLsbD j != n) := by
  cases n <;> simp [View.lanes, hj]

theorem filter_lanes (s : State) (k x : Nat) (h : Hdr) :
    ((List.range 128).filter fun j => (((s.slot k).view x).lanes h.g h.n).getLsbD j) = Claims.activeLanes s k h :=
  List.filter_congr fun _ hj => View.getLsbD_lanes _ _ _ (List.mem_range.1 hj)

end Sys2Proof.Machine

namespace Sys2Proof.Claims
open Sys2Proof.Machine

/-! ## What the slot is once the word has issued (R150) -/

/-- R150: a QRD's place is reserved and its operation outstanding. -/
def qrdIssued (s : State) (k x q : Nat) (m : Lanes) (ea : Nat) (vas : List Nat) (locs : List (Nat × Nat)) (fault : Option Nat) : Slot :=
  let sl := s.slot k
  { sl with
    queues := sl.queues.set q (sl.queues.get [] q ++ [{ op := s.nextId, val := none, due := if sl.exposed then sl.cycle + 8 else 0 }])
    ops := retireNulls [] (sl.ops ++ [{ id := s.nextId, cls := 0, x := x, kind := .qrd q m ea locs, due := sl.cycle + 8
                                        remote := locs.any fun p => isRemote p.1, vas := vas, fault := fault }]) }

/-- R150: a QWR's entry has left, unless it peeks, and its operation is outstanding. -/
def qwrIssued (s : State) (k x q : Nat) (peek : Bool) (rest : List QPlace) (lanes : List Nat) (ea : Nat) (e : Entry) (vas : List Nat)
    (locs : List (Nat × Nat)) (fault : Option Nat) : Slot :=
  let sl := s.slot k
  { sl with
    queues := if peek then sl.queues else sl.queues.set q rest
    ops := retireNulls [] (sl.ops ++ [{ id := s.nextId, cls := 1, x := x
                                        kind := .store ea (lanes.map fun j => e.extractLsb' (8 * j) 8) locs false
                                        due := 0, remote := locs.any fun p => isRemote p.1, vas := vas, fault := fault
                                        popped := if peek then none else some (q, e), qwr := true }]) }

/-- R115, R142: a slot that has been written takes a counter. -/
theorem addOp_setSlot (t : State) (k : Nat) (v : Slot) (o : Nat → Op) :
    (t.setSlot k v).addOp k o = ({ t with nextId := t.nextId + 1 } : State).setSlot k (v.addOp (o t.nextId)) := by
  have h := State.setSlot_setSlot t k (v.addOp (o t.nextId)) v
  simp only [State.addOp, State.modSlot_eq, State.slot_setSlot, State.setSlot_nextId, h]
  rfl

section
variable {s t : State} {k x : Nat} (hslot : t.slot k = s.slot k)
include hslot

theorem qrdOp_eq (hid : t.nextId = s.nextId) (q : Nat) (m : Lanes) (ea : Nat) (vas : List Nat) (locs : List (Nat × Nat))
    (fault : Option Nat) : t.qrdOp k x q m ea vas locs fault =
      ({ t with nextId := s.nextId + 1 } : State).setSlot k (qrdIssued s k x q m ea vas locs fault) := by
  rw [← hid, qrdIssued, ← hslot, ← hid, State.qrdOp, State.modSlot_eq]
  exact addOp_setSlot t k _ _

theorem qwrOp_eq (hid : t.nextId = s.nextId) {q : Nat} {p : QPlace} {rest : List QPlace} (hq : (s.slot k).queue q = p :: rest) (peek : Bool)
    (m : Lanes) (ea : Nat) (e : Entry) (vas : List Nat) (locs : List (Nat × Nat)) (fault : Option Nat) :
    t.qwrOp k x q peek m ea e vas locs fault = ({ t with nextId := s.nextId + 1 } : State).setSlot k
      (qwrIssued s k x q peek rest ((List.range 128).filter fun j => m.getLsbD j) ea e vas locs fault) := by
  have hrest : (t.slot k).queue q = p :: rest := hslot ▸ hq
  rw [← hid, qwrIssued, ← hslot, ← hid]
  cases peek with
  | true => rfl
  | false =>
    rw [State.qwrOp, if_neg (by decide), State.modSlot_eq, hrest]
    exact addOp_setSlot t k _ _

/-- R151, R257: the trap that is taken where the entry would land, told after the slot's port has spoken. -/
theorem trapsLater_congr (hcycle : t.cycle = s.cycle) (lat cause : Nat) (aux : Word) :
    trapsLater t k x lat cause aux = trapsLater s k x lat cause aux := by
  rw [trapsLater, trapsLater, hslot, hcycle]

end

/-! ## The words (R150, R151) -/

/-- R351: the state that the access of the bytes finds, its translations brought in. -/
def reachedFor (s : State) (k : Nat) (vas : List Nat) : State := s.touchAll (dieOf k) (s.slot k).task.asid vas

theorem reachedFor_unitsOnly (s : State) (k : Nat) (vas : List Nat) : unitsOnly s (reachedFor s k vas) := s.touchAll_unitsOnly ..

/-- R151, R356: what a decoupled word does with a fault at `va`: with fault service it issues as `issued`, without it the trap is
taken late. -/
def lateFault (u : State) (k x va c : Nat) (write : Bool) (issued : State → State) : WRes :=
  if (u.slot k).task.fsvc then .done (issued (u.queueFault k va c write))
  else .done ((u.queueFault k va c write).lateTrap k x 8 7 (BitVec.ofNat 64 va))

section
variable {s u : State} {k x : Nat} {i : Instr} {h : Hdr} {body : Nat → Nat → State → View → WRes}

theorem lateFaults_of (iss : Issues s k x i h) (hx : exec i s = .next (s.issueCore i h 1 body)) (hu : unitsOnly s u) {va c : Nat}
    {write : Bool} {held : Slot} {issued : State → State}
    (hissued : ∀ t : State, t.slot k = s.slot k → t.nextId = s.nextId →
      issued t = ({ t with nextId := s.nextId + 1 } : State).setSlot k held)
    (hb : body k x s ((s.slot k).view x) = lateFault u k x va c write issued) : LateFaults s u k x i h va c write held := by
  have hport := u.queueFault_portOnly k va c write
  have hslot : (u.queueFault k va c write).slot k = s.slot k := (hport.slot_eq k).trans (hu.slot_eq k)
  have hcycle : (u.queueFault k va c write).cycle = s.cycle := hport.cycle_eq.trans hu.cycle_eq
  have hid : (u.queueFault k va c write).nextId = s.nextId := hport.nextId_eq.trans hu.nextId_eq
  rw [lateFault, hu.slot_eq] at hb
  refine ⟨fun hf => ?_, fun hf => ?_⟩
  · rw [if_pos hf, hissued _ hslot hid] at hb
    rw [← hu.queueFault]
    exact iss.core_done hx hb
  · rw [if_neg (by simp [hf]), lateTrap_eq, trapsLater_congr hslot hcycle] at hb
    rw [← hu.queueFault]
    exact iss.core_done hx hb

end

section
variable (s : State) (k x q : Nat) (m : Lanes) (ea : Nat) (vas : List Nat)

/-- R150, R151: what an aligned QRD answers, by what its bytes name. -/
def qrdAnswer : Reach → WRes
  | .hole va => .trap 5 (BitVec.ofNat 64 va)
  | .fault va c => lateFault (reachedFor s k vas) k x va c false fun t => t.qrdOp k x q m ea vas [] (some va)
  | .ok locs => .done ((reachedFor s k vas).qrdOp k x q m ea vas locs none)

/-- R150, R151: what an aligned QWR of the entry at the head of its queue answers. -/
def qwrAnswer (peek : Bool) (e : Entry) : Reach → WRes
  | .hole va => .trap 5 (BitVec.ofNat 64 va)
  | .fault va c => lateFault (reachedFor s k vas) k x va c true fun t => t.qwrOp k x q peek m ea e vas [] (some va)
  | .ok locs => .done ((reachedFor s k vas).qwrOp k x q peek m ea e vas locs none)

end

section
variable {s : State} {k x q ea : Nat} {m : Lanes} {vas : List Nat}

theorem qrdWord_misaligned (h : ea % 64 ≠ 0) : qrdWord k x s q m ea = .trap 6 (BitVec.ofNat 64 ea) := if_pos (by simpa using h)

theorem qwrWord_misaligned {peek : Bool} (h : ea % 64 ≠ 0) : qwrWord k x s q peek m ea = .trap 6 (BitVec.ofNat 64 ea) :=
  if_pos (by simpa using h)

variable (hal : ea % 64 = 0) (hvas : laneAddrs ea m = vas)
include hal hvas

theorem qrdWord_aligned :
    qrdWord k x s q m ea = qrdAnswer s k x q m ea vas ((reachedFor s k vas).reach (s.slotWho k) coreParts .read vas) := by
  subst hvas
  rw [← (reachedFor_unitsOnly s k (laneAddrs ea m)).slotWho_eq]
  exact if_neg (by simpa using hal)

/-- R150: bytes that the slot may not write trap, whatever the queue holds. -/
theorem qwrWord_hole {peek : Bool} {va : Nat} (hr : (reachedFor s k vas).reach (s.slotWho k) coreParts .write vas = .hole va) :
    qwrWord k x s q peek m ea = .trap 5 (BitVec.ofNat 64 va) := by
  subst hvas
  rw [← (reachedFor_unitsOnly s k (laneAddrs ea m)).slotWho_eq, reachedFor] at hr
  refine (if_neg (by simpa using hal)).trans ?_
  dsimp only
  rw [hr]

theorem qwrWord_head {peek : Bool} {p : QPlace} {rest : List QPlace} {e : Entry}
    (hq : (s.slot k).queue q = p :: rest) (hp : p.val = some e) : qwrWord k x s q peek m ea =
      qwrAnswer s k x q m ea vas peek e ((reachedFor s k vas).reach (s.slotWho k) coreParts .write vas) := by
  subst hvas
  have hu := reachedFor_unitsOnly s k (laneAddrs ea m)
  have hhead : ((reachedFor s k (laneAddrs ea m)).slot k).queue q = p :: rest := by rw [hu.slot_eq, hq]
  obtain ⟨op, val, due, aft⟩ := p
  obtain rfl : val = some e := hp
  refine (if_neg (by simpa using hal)).trans ?_
  rw [← hu.slotWho_eq]
  unfold reachedFor at hhead ⊢
  dsimp only
  rw [hhead]
  cases State.reach _ _ _ _ _ with
  | hole va => rfl
  | fault va c => rfl
  | ok locs => rfl

end

section
variable {i : Instr} {h : Hdr} {q : BitVec 4} {a : BitVec 5} {off : State → Nat → Int} {ea : View → Nat}
  (hea : ∀ s k x, ea ((s.slot k).view x) = effective s k a (off s k))
include hea

theorem reads_of
    (hx : ∀ s, exec i s = .next (s.issueCore i h 1 fun k x s v => qrdWord k x s q.toNat (v.lanes h.g h.n) (ea v))) :
    Reads i h q a off := by
  intro s k x iss sl ea' bytes u r issued
  have hu : unitsOnly s u := reachedFor_unitsOnly s k bytes
  have hvas : laneAddrs ea' (((s.slot k).view x).lanes h.g h.n) = bytes := by rw [laneAddrs, filter_lanes]
  have hop : ∀ (t : State) locs fault, t.slot k = s.slot k → t.nextId = s.nextId →
      t.qrdOp k x q.toNat (((s.slot k).view x).lanes h.g h.n) ea' bytes locs fault =
        ({ t with nextId := s.nextId + 1 } : State).setSlot k (issued locs fault) :=
    fun t locs fault hslot hid => qrdOp_eq hslot hid ..
  refine ⟨fun ho => iss.core_traps (hx s) ?_, fun hal => ?_⟩
  · rw [hea]
    exact qrdWord_misaligned ho
  · have answers : ∀ r', r = r' → qrdWord k x s q.toNat (((s.slot k).view x).lanes h.g h.n) (ea ((s.slot k).view x)) =
        qrdAnswer s k x q.toNat (((s.slot k).view x).lanes h.g h.n) ea' bytes r' := by
      rintro r' rfl
      rw [hea]
      exact qrdWord_aligned hal hvas
    refine ⟨fun va hr => iss.core_traps (hx s) (answers _ hr), fun va c hr => ?_, fun locs hr => iss.core_done (hx s) ?_⟩
    · exact lateFaults_of iss (hx s) hu (fun t => hop t [] (some va)) (answers _ hr)
    · rw [answers _ hr, ← hu.eq_cached]
      exact congrArg WRes.done (hop u locs none (hu.slot_eq k) hu.nextId_eq)

theorem writesBack_of {peek : Bool}
    (hx : ∀ s, exec i s = .next (s.issueCore i h 1 fun k x s v => qwrWord k x s q.toNat peek (v.lanes h.g h.n) (ea v))) :
    WritesBack i h peek q a off := by
  intro s k x iss sl ea' bytes u r issued
  have hu : unitsOnly s u := reachedFor_unitsOnly s k bytes
  have hvas : laneAddrs ea' (((s.slot k).view x).lanes h.g h.n) = bytes := by rw [laneAddrs, filter_lanes]
  refine ⟨fun ho => iss.core_traps (hx s) ?_, fun hal => ⟨fun va hr => iss.core_traps (hx s) ?_, fun p e rest hq hp => ?_⟩⟩
  · rw [hea]
    exact qwrWord_misaligned ho
  · rw [hea]
    exact qwrWord_hole hal hvas hr
  · have hop : ∀ (t : State) locs fault, t.slot k = s.slot k → t.nextId = s.nextId →
        t.qwrOp k x q.toNat peek (((s.slot k).view x).lanes h.g h.n) ea' e bytes locs fault =
          ({ t with nextId := s.nextId + 1 } : State).setSlot k (issued e rest locs fault) := by
      intro t locs fault hslot hid
      rw [qwrOp_eq hslot hid hq, filter_lanes]
      rfl
    have answers : ∀ r', r = r' → qwrWord k x s q.toNat peek (((s.slot k).view x).lanes h.g h.n) (ea ((s.slot k).view x)) =
        qwrAnswer s k x q.toNat (((s.slot k).view x).lanes h.g h.n) ea' bytes peek e r' := by
      rintro r' rfl
      rw [hea]
      exact qwrWord_head hal hvas hq hp
    refine ⟨fun va c hr => ?_, fun locs hr => iss.core_done (hx s) ?_⟩
    · exact lateFaults_of iss (hx s) hu (fun t => hop t [] (some va)) (answers _ hr)
    · rw [answers _ hr, ← hu.eq_cached]
      exact congrArg WRes.done (hop u locs none (hu.slot_eq k) hu.nextId_eq)

end

/-- Settles O20: both address forms of QRD and of QWR, by what their bytes name. -/
theorem decoupledWords : Obligations.DecoupledWords := by
  unfold Obligations.DecoupledWords
  intro h p q a b i
  exact ⟨reads_of (fun s k x => decoupledEa_imm s k x a i) fun _ => rfl, reads_of (fun s k x => decoupledEa_reg s k x a b) fun _ => rfl,
    writesBack_of (fun s k x => decoupledEa_imm s k x a i) fun _ => rfl,
    writesBack_of (fun s k x => decoupledEa_reg s k x a b) fun _ => rfl⟩

end Sys2Proof.Claims
end

section
/-! Words that hand a command to the tile copy engine (R142-R147): the checks they share, the hand-over, and each word of R156-R163,
R171, R172 and R175. -/

namespace Sys2Proof.Claims
open Sys2Proof.Machine

/-- R154, R157, R188: what an owner's word finds. -/
theorem ownerCheck_eq (s : State) (k h : Nat) : s.ownerCheck k h =
    if (entryOf s k h).owner != k % 8 then some (.trap 15 (BitVec.ofNat 64 h))
    else if s.heldByStep (k / 8) h then some (.wait s)
    else if (entryOf s k h).state = 1 ∨ (entryOf s k h).state = 3 then some (.trap 14 (BitVec.ofNat 64 h))
    else none := rfl

/-! ## The hand-over (R142-R145) -/

/-- What a word's family does beside the hand-over, once that is made. -/
def onDone (edit : State → State) : WRes → WRes
  | .done t => .done (edit t)
  | r => r

section
variable {s : State} {k x cls word : Nat} {m : Macro} {w : Option Work}

/-- R144, R145: the word finds no place. -/
theorem macroWord_full (h : 32 ≤ s.queued (k / 8) m.queue ∨ m = .returning ∧ 16 ≤ (s.slot k).resp.length) :
    macroWord k x s cls m w word = .wait s := by
  unfold macroWord
  by_cases hq : 32 ≤ s.queued (k / 8) m.queue
  · exact if_pos hq
  · exact (if_neg hq).trans (if_pos (h.resolve_left hq))

theorem macroWord_handed (h : ¬ (32 ≤ s.queued (k / 8) m.queue ∨ m = .returning ∧ 16 ≤ (s.slot k).resp.length)) :
    macroWord k x s cls m w word = .done (handed s k x cls m w word) := by
  obtain ⟨hq, hr⟩ := not_or.1 h
  unfold macroWord
  refine (if_neg hq).trans ((if_neg hr).trans ?_)
  unfold handed
  by_cases hm : m = .returning
  · simp only [if_pos hm]
    rfl
  · simp only [if_neg hm]
    rfl

variable {i : Instr} {hd : Hdr} {body : Nat → Nat → State → View → WRes} (iss : Issues s k x i hd)
  (hx : exec i s = .next (s.issueCore i hd 1 body))
include iss hx

/-- A word that hands over a command, and then does what its family does beside. -/
theorem hands_edited {edit : State → State}
    (hb : body k x s ((s.slot k).view x) = onDone edit (macroWord k x s cls m w word)) : Hands i hd s k x cls m w word edit := by
  exact ⟨fun hf => iss.core_waits hx (hb.trans (congrArg (onDone edit) (macroWord_full hf))),
    fun hf => iss.core_done hx (hb.trans (congrArg (onDone edit) (macroWord_handed hf)))⟩

theorem hands_of (hb : body k x s ((s.slot k).view x) = macroWord k x s cls m w word) : Hands i hd s k x cls m w word id :=
  ⟨fun hf => iss.core_waits hx (hb.trans (macroWord_full hf)), fun hf => iss.core_done hx (hb.trans (macroWord_handed hf))⟩

/-! ## Checks that words share (R154, R156) -/

theorem ownerStops_of {h : Nat} (hb : ∀ r, s.ownerCheck k h = some r → body k x s ((s.slot k).view x) = r) : OwnerStops i s k x h := by
  refine ⟨fun ho => ?_, fun ho hh => ?_, fun ho hh hs => ?_⟩
  · exact iss.core_traps hx (hb _ ((ownerCheck_eq ..).trans (if_pos (by simpa using ho))))
  · exact iss.core_waits hx (hb _ ((ownerCheck_eq ..).trans ((if_neg (by simpa using ho)).trans (if_pos hh))))
  · exact iss.core_traps hx (hb _ ((ownerCheck_eq ..).trans ((if_neg (by simpa using ho)).trans ((if_neg (by simpa using hh)).trans (if_pos hs)))))

theorem pairStops_of {va mp : Word} (hb : ∀ a, pairRefused va mp = some a → body k x s ((s.slot k).view x) = .trap 6 a) :
    PairStops i s k x va mp := by
  refine ⟨fun ha => ?_, fun ha hm => ?_⟩
  · exact iss.core_traps hx (hb _ (if_pos (by simpa using ha)))
  · exact iss.core_traps hx (hb _ ((if_neg (by simpa using ha)).trans (if_pos (by simpa using hm))))

end

theorem PairFits.pairRefused {va mp : Word} (h : PairFits va mp) : pairRefused va mp = none :=
  (if_neg (by simpa using h.1)).trans (if_neg (by simpa using h.2))

section
variable {s : State} {k h : Nat}

theorem Owns.ownerCheck (ho : Owns s k h) : s.ownerCheck k h = none := by
  obtain ⟨howner, hheld, hfill, hdrain⟩ := ho
  exact (ownerCheck_eq ..).trans ((if_neg (by simpa using howner)).trans ((if_neg (by simpa using hheld)).trans
    (if_neg (by simp [hfill, hdrain]))))

/-! ## CPL, CPS and TMOV (R156-R159) -/

theorem copyChecks_empty {source : Bool} (he : (entryOf s k h).state = 0) :
    s.copyChecks k h source = some (.trap 14 (BitVec.ofNat 64 h)) := if_pos he

theorem copyChecks_owner {source : Bool} {r : WRes} (he : (entryOf s k h).state ≠ 0) (hr : s.ownerCheck k h = some r) :
    s.copyChecks k h source = some r := by
  refine (if_neg he).trans ?_
  rw [hr]

theorem copyChecks_owns {source : Bool} (he : (entryOf s k h).state ≠ 0) (ho : Owns s k h) : s.copyChecks k h source =
    if source && (entryOf s k h).fault then some (.trap 8 (BitVec.ofNat 64 h)) else none := by
  refine (if_neg he).trans ?_
  rw [ho.ownerCheck]
  rfl

end

/-- R156-R158: what a copy of a whole entry in the right layout answers, by the check of its address and pitch. -/
def tileCopyAnswer (s : State) (k x h : Nat) (load reint : Bool) (layout : Nat) (va mp : Word) : Option Word → WRes
  | some w => .trap 6 w
  | none =>
    let e := entryOf s k h
    let units := e.units (if reint then layout else e.layout)
    if reint && decide (65536 < e.base + units * e.pitch) then .trap 13 (BitVec.ofNat 64 h)
    else onDone (fun t => withEntry t k h { e with state := if load then 1 else 3, pending := units * e.pitch * 64 })
      (macroWord k x s 2 (if load then .cpl h else .cps h) (some (.tile load h { e with layout := layout }
        (va.toNat % 2 ^ 56) (if mp = 0 then e.pitch * 64 else mp.toNat) units)) 0)

section
variable {s : State} {k x h layout : Nat} {load reint : Bool} {va mp : Word}

theorem tileCopyWord_stops {r : WRes} (hc : s.copyChecks k h false = some r) : tileCopyWord k x s load h va mp reint layout = r := by
  rw [tileCopyWord, hc]

variable (hc : s.copyChecks k h false = none)
include hc

theorem tileCopyWord_layout (hl : ¬ (reint = true ∨ layout = (entryOf s k h).layout)) :
    tileCopyWord k x s load h va mp reint layout = .trap 16 (BitVec.ofNat 64 layout) := by
  rw [tileCopyWord, hc]
  have hb : (!reint && layout != (entryOf s k h).layout) = true := by simpa using hl
  exact if_pos hb

variable (hl : reint = true ∨ layout = (entryOf s k h).layout)
include hl

theorem tileCopyWord_fault (hw : ¬ (load = true ∨ (entryOf s k h).fault = false)) :
    tileCopyWord k x s load h va mp reint layout = .trap 8 (BitVec.ofNat 64 h) := by
  rw [tileCopyWord, hc]
  have hb : ¬ (!reint && layout != (entryOf s k h).layout) = true := by simpa [imp_iff_not_or] using hl
  have hf : (!load && (entryOf s k h).fault) = true := by simpa using hw
  exact (if_neg hb).trans (if_pos hf)

variable (hw : load = true ∨ (entryOf s k h).fault = false)
include hw

/-- R157: the layout and the fault let the word pass. -/
theorem tileCopyWord_whole :
    tileCopyWord k x s load h va mp reint layout = tileCopyAnswer s k x h load reint layout va mp (pairRefused va mp) := by
  rw [tileCopyWord, hc]
  have hb : ¬ (!reint && layout != (entryOf s k h).layout) = true := by simpa [imp_iff_not_or] using hl
  have hf : ¬ (!load && (entryOf s k h).fault) = true := by simpa [imp_iff_not_or] using hw
  refine (if_neg hb).trans ((if_neg hf).trans ?_)
  cases pairRefused va mp with
  | none => rfl
  | some w => rfl

end

/-- R157: CPL and CPS, by the checks in R157's order. -/
theorem tileCopies_of {i : Instr} {hd : Hdr} {load reint : Bool} {u : BitVec 6} {a : BitVec 5} {l : BitVec 2}
    (hx : ∀ s, exec i s = .next (s.issueCore i hd 1 fun k x s v =>
      tileCopyWord k x s load u.toNat (v.reg a) (v.reg (a + 1)) reint l.toNat)) : TileCopies i hd load u a reint l := by
  intro s k x iss h e va mp units layoutOk whole fits
  refine ⟨fun he => iss.core_traps (hx s) (tileCopyWord_stops (copyChecks_empty he)),
    fun he => ownerStops_of iss (hx s) fun r hr => tileCopyWord_stops (copyChecks_owner he hr), fun he ho => ?_⟩
  have hc : s.copyChecks k h false = none := copyChecks_owns he ho
  have answers : layoutOk → whole → ∀ p, pairRefused va mp = p →
      tileCopyWord k x s load h va mp reint l.toNat = tileCopyAnswer s k x h load reint l.toNat va mp p :=
    fun hl hw p hp => hp ▸ tileCopyWord_whole hc hl hw
  refine ⟨fun hl => iss.core_traps (hx s) (tileCopyWord_layout hc hl), fun hl hw => iss.core_traps (hx s) (tileCopyWord_fault hc hl hw),
    fun hl hw => pairStops_of iss (hx s) fun w hp => answers hl hw _ hp, fun hl hw hp hf => iss.core_traps (hx s) ?_, fun hl hw hp hf => ?_⟩
  · exact (answers hl hw _ hp.pairRefused).trans (if_pos (by simpa [fits] using hf))
  · exact hands_edited iss (hx s) ((answers hl hw _ hp.pairRefused).trans (if_neg (by simpa [fits] using hf)))

/-! ## TMOV (R157-R159, R271) -/

theorem tmovRefused_iff (fmt : Tab (BitVec 32)) (ts td layout : Nat) : tmovRefused fmt ts td layout = true ↔
    (ts ≠ td ∧ (tyInt ts = true ∨ tyInt td = true)) ∨ (layout = 2 ∧ bptType td = false) ∨ tyUnset fmt ts = true ∨ tyUnset fmt td = true := by
  simp [tmovRefused, or_assoc]

section
variable {s : State} {k x h type layout : Nat} {keep : Bool} {va mp : Word}

/-- R158, R159: what a TMOV of a whole entry answers, by the check of its address and pitch. -/
def tmovAnswer (s : State) (k x h : Nat) (keep : Bool) (type layout : Nat) (va mp : Word) : Option Word → WRes
  | some w => .trap 6 w
  | none =>
    let e := entryOf s k h
    let fmt := (s.tile (k / 8)).fmt
    if tmovRefused fmt e.type type layout then .trap 13 (BitVec.ofNat 64 h)
    else onDone (fun t => withEntry t k h { e with state := 3, pending := e.extent * 64 })
      (macroWord k x s 3 (.tmov h keep) (some (.tmov e (va.toNat % 2 ^ 56) mp.toNat type layout fmt)) 0)

theorem tmovWord_stops {r : WRes} (hc : s.copyChecks k h true = some r) : tmovWord k x s keep h va mp type layout = r := by
  rw [tmovWord, hc]

theorem tmovWord_whole (hc : s.copyChecks k h true = none) :
    tmovWord k x s keep h va mp type layout = tmovAnswer s k x h keep type layout va mp (pairRefused va mp) := by
  rw [tmovWord, hc]
  cases pairRefused va mp with
  | none => rfl
  | some w => rfl

end

theorem tileMoves_of {i : Instr} {hd : Hdr} {keep : Bool} {u : BitVec 6} {a : BitVec 5} {l : BitVec 2} {ty : BitVec 5}
    (hx : ∀ s, exec i s = .next (s.issueCore i hd 1 fun k x s v =>
      tmovWord k x s keep u.toNat (v.reg a) (v.reg (a + 1)) ty.toNat l.toNat)) : TileMoves i hd keep u a l ty := by
  intro s k x iss h e fmt va mp refused
  refine ⟨fun he => iss.core_traps (hx s) (tmovWord_stops (copyChecks_empty he)),
    fun he => ownerStops_of iss (hx s) fun r hr => tmovWord_stops (copyChecks_owner he hr), fun he ho => ?_⟩
  have hc : s.copyChecks k h true = if e.fault then some (.trap 8 (BitVec.ofNat 64 h)) else none := copyChecks_owns he ho
  have hrefused : tmovRefused fmt e.type ty.toNat l.toNat = true ↔ refused := tmovRefused_iff ..
  have answers : e.fault = false → ∀ p, pairRefused va mp = p →
      tmovWord k x s keep h va mp ty.toNat l.toNat = tmovAnswer s k x h keep ty.toNat l.toNat va mp p :=
    fun hf p hp => hp ▸ tmovWord_whole (hc.trans (if_neg (by simp [hf])))
  refine ⟨fun hf => iss.core_traps (hx s) (tmovWord_stops (hc.trans (if_pos hf))),
    fun hf => pairStops_of iss (hx s) fun w hp => answers hf _ hp, fun hf hp hr => iss.core_traps (hx s) ?_, fun hf hp hr => ?_⟩
  · exact (answers hf _ hp.pairRefused).trans (if_pos (hrefused.2 hr))
  · exact hands_edited iss (hx s) ((answers hf _ hp.pairRefused).trans (if_neg (mt hrefused.1 hr)))

/-- Settles O35: the copies and the moves of tile entries, each by its checks in their order. -/
theorem tileCopyWords : Obligations.TileCopyWords := by
  unfold Obligations.TileCopyWords
  exact fun hd u a r l ty => ⟨tileCopies_of fun _ => rfl, tileCopies_of fun _ => rfl, tileMoves_of fun _ => rfl, tileMoves_of fun _ => rfl⟩

/-! ## CPMETA and CPMC (R156, R160, R161) -/

section
variable {hd : Hdr} {u : BitVec 6} {a : BitVec 5} {s : State} {k x : Nat}

theorem cpmeta_answers {o : BitVec 8} (iss : Issues s k x (.cpmeta hd u a o) hd) :
    let h := u.toNat
    let e := entryOf s k h
    let va := readScalar (s.slot k).regs a
    let n := (e.rows * e.cols + 511) / 512 * 64
    let i := Instr.cpmeta hd u a o
    (e.state = 0 → Traps s k x i 14 (BitVec.ofNat 64 h)) ∧
    (e.state ≠ 0 → va.toNat % 64 ≠ 0 → Traps s k x i 6 (BitVec.ofNat 64 (va.toNat % 2 ^ 56))) ∧
    (e.state ≠ 0 → va.toNat % 64 = 0 → e.state ≠ 2 → exec i s = .next s) ∧
    (va.toNat % 64 = 0 → e.state = 2 → 262144 < o.toNat * 1024 + n → Traps s k x i 13 (BitVec.ofNat 64 h)) ∧
    (va.toNat % 64 = 0 → e.state = 2 → o.toNat * 1024 + n ≤ 262144 →
      Hands i hd s k x 2 (.cpmeta h)
        (some (.copy (tileBase (k / 8) + 0x500000 + o.toNat * 1024) (va.toNat % 2 ^ 56) n 1 1 0 0 0 0)) 0 id) := by
  intro h e va n i
  have hword : cpmetaWord k x s h o.toNat va =
      if e.state = 0 then .trap 14 (BitVec.ofNat 64 h)
      else if va.toNat % 64 != 0 then .trap 6 (BitVec.ofNat 64 (va.toNat % 2 ^ 56))
      else if e.state ≠ 2 then .wait s
      else if 262144 < o.toNat * 1024 + n then .trap 13 (BitVec.ofNat 64 h)
      else macroWord k x s 2 (.cpmeta h)
        (some (.copy (tileBase (k / 8) + 0x500000 + o.toNat * 1024) (va.toNat % 2 ^ 56) n 1 1 0 0 0 0)) 0 := rfl
  refine ⟨fun he => iss.core_traps rfl (hword.trans ?_), fun he ha => iss.core_traps rfl (hword.trans ?_),
    fun he ha hs => iss.core_waits rfl (hword.trans ?_), fun ha hs hl => iss.core_traps rfl (hword.trans ?_),
    fun ha hs hl => hands_of iss rfl (hword.trans ?_)⟩
  · simp [he]
  · simp [he, ha]
  · simp [he, ha, hs]
  · simp [ha, hs, hl]
  · simp [ha, hs, Nat.not_lt.2 hl]

theorem cpmc_answers {m : BitVec 8} (iss : Issues s k x (.cpmc hd u a m) hd) :
    let h := u.toNat
    let va := readScalar (s.slot k).regs a
    let mp := readScalar (s.slot k).regs (a + 1)
    let i := Instr.cpmc hd u a m
    PairStops i s k x va mp ∧
    (PairFits va mp → s.heldByStep (k / 8) h = true → exec i s = .next s) ∧
    (PairFits va mp → s.heldByStep (k / 8) h = false →
      Hands i hd s k x 2 (.cpmc h m.toNat) (some (.cpmc (va.toNat % 2 ^ 56) mp.toNat h {} [])) 0 id) := by
  intro h va mp i
  have fits : PairFits va mp → cpmcWord k x s h m.toNat va mp = if s.heldByStep (k / 8) h then .wait s
      else macroWord k x s 2 (.cpmc h m.toNat) (some (.cpmc (va.toNat % 2 ^ 56) mp.toNat h {} [])) 0 := by
    intro hp
    rw [cpmcWord, hp.pairRefused]
    rfl
  refine ⟨pairStops_of iss rfl fun w hp => ?_, fun hp hh => iss.core_waits rfl ((fits hp).trans (if_pos hh)),
    fun hp hh => hands_of iss rfl ((fits hp).trans (if_neg (by simp [hh])))⟩
  have hword : cpmcWord k x s h m.toNat va mp = .trap 6 w := by rw [cpmcWord, hp]
  exact hword

end

/-! ## CPACC, CPACCR, CPCAS and SIGNAL (R162, R163, R171) -/

section
variable {hd : Hdr} {d a b : BitVec 5} {o : BitVec 4} {s : State} {k x : Nat}

theorem cpacc_answers (iss : Issues s k x (.cpacc hd d a b o) hd) :
    let z := elementBytes o.toNat
    let dst := (readScalar (s.slot k).regs d).toNat
    let src := (readScalar (s.slot k).regs a).toNat
    let n := (readScalar (s.slot k).regs b).toNat
    let i := Instr.cpacc hd d a b o
    (dst % z ≠ 0 → Traps s k x i 6 (BitVec.ofNat 64 (dst % 2 ^ 56))) ∧
    (dst % z = 0 → src % z ≠ 0 → Traps s k x i 6 (BitVec.ofNat 64 (src % 2 ^ 56))) ∧
    (dst % z = 0 → src % z = 0 → n % z ≠ 0 ∨ 2 ^ 24 < n → Traps s k x i 6 (BitVec.ofNat 64 n)) ∧
    (dst % z = 0 → src % z = 0 → n % z = 0 → n ≤ 2 ^ 24 →
      Hands i hd s k x 2 .cpacc (if n = 0 then none else some (.acc o.toNat (dst % 2 ^ 56) (src % 2 ^ 56) n)) 0 id) := by
  intro z dst src n i
  have hword : cpaccWord k x s o.toNat (readScalar (s.slot k).regs d) (readScalar (s.slot k).regs a) (readScalar (s.slot k).regs b) =
      if dst % z != 0 then .trap 6 (BitVec.ofNat 64 (dst % 2 ^ 56))
      else if src % z != 0 then .trap 6 (BitVec.ofNat 64 (src % 2 ^ 56))
      else if n % z != 0 || decide (2 ^ 24 < n) then .trap 6 (BitVec.ofNat 64 n)
      else macroWord k x s 2 .cpacc (if n = 0 then none else some (.acc o.toNat (dst % 2 ^ 56) (src % 2 ^ 56) n)) 0 := by
    rw [BitVec.ofNat_toNat, BitVec.setWidth_eq]
    have hzero : readScalar (s.slot k).regs b = 0 ↔ n = 0 := BitVec.toNat_eq.trans Iff.rfl
    simp only [cpaccWord, hzero]
    rfl
  refine ⟨fun hd => iss.core_traps rfl (hword.trans ?_), fun hd ha => iss.core_traps rfl (hword.trans ?_),
    fun hd ha hn => iss.core_traps rfl (hword.trans ?_), fun hd ha hn hl => hands_of iss rfl (hword.trans ?_)⟩
  · simp [hd]
  · simp [hd, ha]
  · have : (n % z != 0 || decide (2 ^ 24 < n)) = true := by simpa using hn
    rw [this]
    simp [hd, ha]
  · have : (n % z != 0 || decide (2 ^ 24 < n)) = false := by simpa using And.intro hn hl
    rw [this]
    simp [hd, ha]

end

/-- R162, R171: a word on one element that `word` gives: misaligned, it traps; else it hands over. -/
theorem oneElement_of {i : Instr} {hd : Hdr} {d : BitVec 5} {size : Nat} {m : Macro} {wake : Bool} {q : State → Nat → Rmw}
    (word : Nat → Nat → State → Word → Rmw → WRes) (r : View → Rmw)
    (hx : ∀ s, exec i s = .next (s.issueCore i hd 1 fun k x s v => word k x s (v.reg d) (r v)))
    (hword : ∀ k x s a r, word k x s a r = if a.toNat % r.size != 0 then .trap 6 (addrWord a)
      else macroWord k x s 2 m (some (.rmw (addr56 a) r wake)) 0)
    (hr : ∀ s k x, r ((s.slot k).view x) = q s k) (hsize : ∀ s k, (q s k).size = size) : OneElement i hd m d q size wake := by
  intro s k x iss a
  have hbody := hword k x s a (r ((s.slot k).view x))
  rw [hr, hsize] at hbody
  refine ⟨fun ha => iss.core_traps (hx s) ?_, fun ha => hands_of iss (hx s) ?_⟩
  · rw [hr]
    exact hbody.trans (if_pos (by simpa using ha))
  · rw [hr]
    exact hbody.trans (if_neg (by simpa using ha))

theorem returningWord_eq (k x : Nat) (s : State) (a : Word) (r : Rmw) : returningWord k x s a r =
    if a.toNat % r.size != 0 then .trap 6 (addrWord a) else macroWord k x s 2 .returning (some (.rmw (addr56 a) r false)) 0 := rfl

theorem signalWord_eq (wake : Bool) (k x : Nat) (s : State) (a : Word) (r : Rmw) : signalWord k x s a r wake =
    if a.toNat % r.size != 0 then .trap 6 (addrWord a) else macroWord k x s 2 .signal (some (.rmw (addr56 a) r wake)) 0 := rfl

/-! ## SPAWN and CAIRN.ROLL (R172, R175) -/

section
variable {hd : Hdr} {d a : BitVec 5} {s : State} {k x : Nat}

theorem spawn_answers (iss : Issues s k x (.spawn hd d a) hd) :
    let dst := readScalar (s.slot k).regs d
    let src := readScalar (s.slot k).regs a
    let task := (s.slot k).task
    let i := Instr.spawn hd d a
    (src.toNat % 128 ≠ 0 → Traps s k x i 6 (BitVec.ofNat 64 (src.toNat % 2 ^ 56))) ∧
    (src.toNat % 128 = 0 → dst.toNat % 128 ≠ 0 → Traps s k x i 6 (BitVec.ofNat 64 (dst.toNat % 2 ^ 56))) ∧
    (src.toNat % 128 = 0 → dst.toNat % 128 = 0 →
      Hands i hd s k x 2 .spawn (some (.spawn (dst.toNat % 2 ^ 56) (src.toNat % 2 ^ 56))) task.deadline.toNat
        fun t => t.raiseCensus task.launch 1) := by
  intro dst src task i
  have hword : spawnWord k x s dst src = if src.toNat % 128 != 0 then .trap 6 (BitVec.ofNat 64 (src.toNat % 2 ^ 56))
      else if dst.toNat % 128 != 0 then .trap 6 (BitVec.ofNat 64 (dst.toNat % 2 ^ 56))
      else onDone (fun t => t.raiseCensus task.launch 1)
        (macroWord k x s 2 .spawn (some (.spawn (dst.toNat % 2 ^ 56) (src.toNat % 2 ^ 56))) task.deadline.toNat) := rfl
  refine ⟨fun ha => iss.core_traps rfl (hword.trans ?_), fun ha hd => iss.core_traps rfl (hword.trans ?_),
    fun ha hd => hands_edited iss rfl (hword.trans ?_)⟩
  · simp [ha]
  · simp [ha, hd]
  · simp [ha, hd]

theorem cairnRoll_answers (iss : Issues s k x (.cairnRoll hd a) hd) :
    let n := (readScalar (s.slot k).regs a).toNat
    let i := Instr.cairnRoll hd a
    ((s.slot k).cairns.find? n = none → Traps s k x i 20 1) ∧
    (∀ c, (s.slot k).cairns.find? n = some c → c.lost = true → Traps s k x i 20 2) ∧
    (∀ c, (s.slot k).cairns.find? n = some c → c.lost = false → Hands i hd s k x 2 (.roll n) (some (.roll [] 0)) 0 id) := by
  intro n i
  have live : ∀ c, (s.slot k).cairns.find? n = some c → cairnRollWord k x s (readScalar (s.slot k).regs a) =
      if c.lost then .trap 20 2 else macroWord k x s 2 (.roll n) (some (.roll [] 0)) 0 := by
    intro c hc
    rw [cairnRollWord, hc]
  refine ⟨fun hc => ?_, fun c hc hl => iss.core_traps rfl ((live c hc).trans (if_pos hl)),
    fun c hc hl => hands_of iss rfl ((live c hc).trans (if_neg (by simp [hl])))⟩
  have hword : cairnRollWord k x s (readScalar (s.slot k).regs a) = .trap 20 1 := by rw [cairnRollWord, hc]
  exact iss.core_traps rfl hword

end

/-- Settles O36: each word answers by its checks, and hands its command over. -/
theorem tileCommandWords : Obligations.TileCommandWords := by
  unfold Obligations.TileCommandWords
  refine ⟨fun hd u a o m s k x => ⟨cpmeta_answers, cpmc_answers⟩, fun hd d a b o => ⟨fun s k x => cpacc_answers, ?_⟩,
    fun hd d a s k x => ⟨spawn_answers, cairnRoll_answers⟩⟩
  exact ⟨oneElement_of returningWord (fun v => .op o.toNat (opSize o.toNat) ((v.reg a).toNat % 2 ^ (8 * opSize o.toNat))) (fun _ => rfl)
      returningWord_eq (fun _ _ _ => rfl) fun _ _ => rfl,
    oneElement_of returningWord (fun v => .cas 4 (v.reg a).toNat (v.reg b).toNat) (fun _ => rfl) returningWord_eq
      (fun _ _ _ => rfl) fun _ _ => rfl,
    oneElement_of returningWord (fun v => .cas 8 (v.reg a).toNat (v.reg b).toNat) (fun _ => rfl) returningWord_eq
      (fun _ _ _ => rfl) fun _ _ => rfl,
    oneElement_of (signalWord · · · · · false) (fun v => .add64 (v.reg a).toNat) (fun _ => rfl) (signalWord_eq false)
      (fun _ _ _ => rfl) fun _ _ => rfl,
    oneElement_of (signalWord · · · · · true) (fun v => .op 0 4 ((v.reg a).toNat % 4294967296)) (fun _ => rfl) (signalWord_eq true)
      (fun _ _ _ => rfl) fun _ _ => rfl⟩

end Sys2Proof.Claims
end

section
/-! What ends a wait of a stream (R168, R169, R173, R236, R251, R258, R356, R388): the event runs the waiting word again. -/

namespace Sys2Proof.Claims
open Sys2Proof.Machine

/-! ## The word run again -/

section
variable {s : State} {i : Instr}

/-- R241: away from a rendezvous the stream's own word runs. -/
theorem again_eq (hnext : s.streamNext s.inp.unit s.inp.x = some i) (hrv : ¬ atRendezvous s s.inp.unit s.inp.x) :
    s.again = s.runAs s.inp.unit s.inp.x i := by
  have hno : ((s.slot s.inp.unit).gathered && ((s.slot s.inp.unit).rvStreams.contains s.inp.x)) = false := by
    simpa [atRendezvous] using hrv
  unfold State.again
  dsimp only
  rw [hnext]
  exact if_neg (ne_true_of_eq_false hno)

/-! ## Queue waits (R251) -/

theorem overdue_eq {st : Stream} {n : Nat} (hq : st.qsince = some n) (now : Nat) : st.overdue now = decide (4096 ≤ now - n) := by
  rw [Stream.overdue, hq]
  rfl

theorem queueWaitTimeout_over {n : Nat} (hq : ((s.slot s.inp.unit).stream s.inp.x).qsince = some n) (hn : 4096 ≤ s.cycle - n) :
    exec .queueWaitTimeout s = .next s.again :=
  congrArg Host.Outcome.next (if_pos ((overdue_eq hq _).trans (decide_eq_true hn)))

theorem queueWaitTimeout_early {n : Nat} (hq : ((s.slot s.inp.unit).stream s.inp.x).qsince = some n) (hn : s.cycle - n < 4096) :
    exec .queueWaitTimeout s = .next s :=
  congrArg Host.Outcome.next (if_neg (ne_true_of_eq_false ((overdue_eq hq _).trans (decide_eq_false (Nat.not_le.2 hn)))))

/-! ## Drains (R173, R236, R258, R388) -/

theorem modeDrainDone_mode {e : Bool} (hr : (s.slot s.inp.unit).reenter = false)
    (hw : ((s.slot s.inp.unit).stream s.inp.x).wait = some (.mode e)) (hd : s.modeReady s.inp.unit e = true) :
    exec .modeDrainDone s = .next s.again := by
  refine congrArg Host.Outcome.next ((if_neg (ne_true_of_eq_false hr)).trans ?_)
  rw [hw]
  exact if_pos hd

theorem modeDrainDone_eret {b : Bool} (hr : (s.slot s.inp.unit).reenter = false)
    (hw : ((s.slot s.inp.unit).stream s.inp.x).wait = some (.eret b)) (hd : s.modeReady s.inp.unit true = true) :
    exec .modeDrainDone s = .next s.again := by
  refine congrArg Host.Outcome.next ((if_neg (ne_true_of_eq_false hr)).trans ?_)
  rw [hw]
  exact if_pos hd

/-- R388: a restored exposed slot re-enters its mode. -/
theorem modeDrainDone_reenters (hr : (s.slot s.inp.unit).reenter = true) (hd : s.modeReady s.inp.unit true = true) :
    exec .modeDrainDone s = .next (s.modSlot s.inp.unit fun sl => { sl.setMode true with reenter := false }) :=
  congrArg Host.Outcome.next ((if_pos hr).trans (if_pos hd))

/-! ## Translation faults (R356) -/

/-- A slot that no fault has met yet. -/
theorem faulted_eq_false {sl : Slot} {x : Nat} (hs : (sl.stream x).serviced = false) (hin : sl.trap.inHandler = false) (hlate : sl.late = [])
    (hops : ∀ o ∈ sl.ops, o.fault = none) : sl.faulted x = false := by
  simpa [Slot.faulted, hs, hin, hlate] using hops

theorem slotTranslationFault_meets {t : State} (hrun : s.again = t) (hno : (s.slot s.inp.unit).faulted s.inp.x = false)
    (hmeets : (t.slot s.inp.unit).faulted s.inp.x = true) : exec .slotTranslationFault s = .next t := by
  subst hrun
  exact congrArg Host.Outcome.next (if_pos (by simp [hno, hmeets]))

theorem faulted_of_serviced {sl : Slot} {x : Nat} (h : (sl.stream x).serviced = true) : sl.faulted x = true := by
  simp [Slot.faulted, h]

/-- R233, R356: a slot that has taken the translation-fault trap. -/
theorem takeTrap_faulted {sl : Slot} (hlate : sl.late = []) (hin : sl.trap.inHandler = false) (x y pc : Nat) (aux : Word) :
    (sl.takeTrap x pc 7 aux false).faulted y = true := by
  have htrap := (Slot.takeTrap_outside (x := x) (pc := pc) (cause := 7) (aux := aux) (late := false) hlate hin).1
  simp [Slot.faulted, htrap]

end

section
variable {s : State} {k x : Nat}

theorem runAs_eq {i : Instr} {t : State} (h : runWord i (turnOf s k x) = .next t) : s.runAs k x i = t := by
  unfold turnOf at h
  rw [State.runAs, h]

/-- R353, R356: LD.D that meets a fault, by what an access does with it. -/
theorem slotTranslationFault_load {h : Hdr} {d a : BitVec 5} {im : BitVec 9} {u : State} {va c : Nat} {aux : Word}
    (hk : s.inp.unit = k) (hx : s.inp.x = x) (hnext : s.streamNext k x = some (.ldD h d a im)) (hrv : ¬ atRendezvous s k x)
    (iss : Issues (turnOf s k x) k x (.ldD h d a im) h) (hin : (s.slot k).trap.inHandler = false) (hlate : (s.slot k).late = [])
    (hops : ∀ o ∈ (s.slot k).ops, o.fault = none) (hfaults : Faults (turnOf s k x) u k x (.ldD h d a im) va c false aux) :
    let sl := s.slot k
    let t := (cached (turnOf s k x) u).faultRecord
      { va := va, launch := sl.task.launch, asid := sl.task.asid, cause := c, access := 0, agent := 0, who := k }
    (sl.task.fsvc = true → exec .slotTranslationFault s =
      .next (t.setSlot k (sl.setStream x { sl.stream x with wait := some (.fault va false) }))) ∧
    (sl.task.fsvc = false → exec .slotTranslationFault s = .next (t.setSlot k (sl.takeTrap x (sl.stream x).ctl.pc 7 aux false))) := by
  intro sl t
  subst hk hx
  obtain ⟨hserved, htrapped⟩ := hfaults
  have hno : sl.faulted s.inp.x = false := faulted_eq_false iss.served hin hlate hops
  refine ⟨fun hf => ?_, fun hf => ?_⟩
  · refine slotTranslationFault_meets ((again_eq hnext hrv).trans (runAs_eq (hserved hf))) hno (faulted_of_serviced ?_)
    rw [State.slot_setSlot, Slot.stream_setStream]
    rfl
  · refine slotTranslationFault_meets ((again_eq hnext hrv).trans (runAs_eq (htrapped hf))) hno ?_
    rw [State.slot_setSlot]
    exact takeTrap_faulted hlate hin ..

/-! ## FENCE.REL before its accesses are performed (R329, R341) -/

/-- R333: what crosses a boundary together does not depend on whose turn it is. -/
theorem crossWith_turnOf (j y scope : Nat) : ∀ n l, (turnOf s j y).crossWith scope n l = s.crossWith scope n l
  | 0, _ => rfl
  | n + 1, l => by
    rw [State.crossWith, State.crossWith]
    simp only [crossWith_turnOf j y scope n]
    rfl

theorem crossHeld_turnOf (j y k kind scope : Nat) : (turnOf s j y).crossHeld k kind scope = s.crossHeld k kind scope := by
  rw [State.crossHeld, State.crossers, crossWith_turnOf]
  rfl

/-- R341: the release is kept, to hold later stores and copies. -/
theorem fenceEarly_passes {scope : Nat} (h : s.crossHeld k 1 scope = false) : ∃ rels cr, fenceEarly k s scope =
    .done (({ s with nextId := s.nextId + 1, crossings := cr } : State).setSlot k
      { s.slot k with rels := rels ++ [(scope, s.nextId)] }) := ⟨_, _, if_neg (ne_true_of_eq_false h)⟩

theorem fenceRel_early {h : Hdr} {e : BitVec 3} (ha : s.inp.a ≠ 0) {n p u : Nat}
    (hw : ((s.slot s.inp.unit).stream s.inp.x).wait = some (.fence n p u))
    (hnext : s.streamNext s.inp.unit s.inp.x = some (.fenceRel h e))
    (iss : Issues (turnOf s s.inp.unit s.inp.x) s.inp.unit s.inp.x (.fenceRel h e) h)
    (hheld : s.crossHeld s.inp.unit 1 e.toNat = false) : ∃ t, exec .fenceComplete s = .next t ∧
      (t.slot s.inp.unit).regs = (s.slot s.inp.unit).regs ∧
      (t.slot s.inp.unit).rels.getLast? = some (e.toNat, s.nextId) ∧
      ((t.slot s.inp.unit).stream s.inp.x).wait = none ∧ t.mem = s.mem := by
  have hrun : exec .fenceComplete s =
      .next ((turnOf s s.inp.unit s.inp.x).issueCore (.fenceRel h e) h 1 fun kk _ s _ => fenceEarly kk s e.toNat) := by
    change execFenceComplete s = _
    rw [execFenceComplete, hw, hnext]
    exact if_neg ha
  obtain ⟨rels, cr, hword⟩ := fenceEarly_passes (s := turnOf s s.inp.unit s.inp.x) (k := s.inp.unit) (scope := e.toNat)
    ((crossHeld_turnOf ..).trans hheld)
  rw [iss.issueCore, hword] at hrun
  dsimp only at hrun
  refine ⟨_, hrun, ?_⟩
  rw [done, slot_after, State.slot_setSlot]
  refine ⟨rfl, List.getLast?_concat .., ?_, rfl⟩
  rw [Slot.stream_setStream]
  rfl

end

/-- Settles O44: each event runs the word that waits, or leaves the state as it is. -/
theorem waitsEnd : Obligations.WaitsEnd := by
  unfold Obligations.WaitsEnd
  intro s k x sl st drained
  have hmode : s.otherExposed k = false → ∀ e, s.modeReady k e = true ↔ drained := fun ho e => modeReady_iff ho e
  refine ⟨fun i hnext hrv => ?word, ?load, fun hr hd ho => modeDrainDone_reenters hr ((hmode ho true).2 hd), ?waitc, ?early, ?fence⟩
  case word =>
    have hagain : s.again = s.runAs k x i := again_eq hnext hrv
    refine ⟨fun n hq hn => ?_, fun n hq hn => queueWaitTimeout_early hq hn, fun hr hw hd => ?_, fun hr hw hd ho => ?_,
      fun b hr hw hd ho => ?_, fun hin hlate hops hs hserved => ?_⟩
    · exact (queueWaitTimeout_over hq hn).trans (congrArg _ hagain)
    · exact (modeDrainDone_mode hr hw ((modeReady_guarded s k).trans ((drained_iff sl).2 hd))).trans (congrArg _ hagain)
    · exact (modeDrainDone_mode hr hw ((hmode ho true).2 hd)).trans (congrArg _ hagain)
    · exact (modeDrainDone_eret hr hw ((hmode ho true).2 hd)).trans (congrArg _ hagain)
    · exact slotTranslationFault_meets hagain (faulted_eq_false hs hin hlate hops) (faulted_of_serviced hserved)
  case load =>
    intro h d a im va c i at_ ea bytes u hnext hrv iss hin hlate hops hr t
    obtain ⟨-, hclear⟩ := accesses_of_load (i := i) (sgn := false) (sync := false) (fun _ => rfl) at_ k x iss
    obtain ⟨-, hfault, -⟩ := hclear (by simp)
    exact slotTranslationFault_load rfl rfl hnext hrv iss hin hlate hops (hfault va c hr)
  case waitc =>
    intro l1 l2 l3 l4 h a b c d e hw hnext
    refine ⟨_, ?_, rfl⟩
    change execWaitcComplete s = _
    rw [execWaitcComplete, hw, hnext]
    rfl
  case early =>
    rintro h e ha ⟨n, p, u, hw⟩ hnext iss hheld
    exact fenceRel_early ha hw hnext iss hheld
  case fence =>
    intro n p u h e i ha hw hi hnext
    rcases hi with rfl | rfl | rfl
    · refine ⟨_, ?_, rfl⟩
      change execFenceComplete s = _
      rw [execFenceComplete, hw, hnext]
      rfl
    · refine ⟨_, ?_, rfl⟩
      change execFenceComplete s = _
      rw [execFenceComplete, hw, hnext]
      exact if_pos ha
    · refine ⟨_, ?_, rfl⟩
      change execFenceComplete s = _
      rw [execFenceComplete, hw, hnext]
      rfl

end Sys2Proof.Claims
end

section
/-! TSTEP and SCACC at issue (R180, R183-R189, R192-R194, R271): checks made one after another, and what arming a step leaves. -/

namespace Sys2Proof.Machine

theorem fld_zero (w n : Nat) : fld w 0 n = w % 2 ^ n := by rw [fld_eq, Nat.pow_zero, Nat.div_one]

/-- Two changes of one tile are one. -/
theorem State.modTile_modTile (s : State) (t : Nat) (f g : Tile → Tile) : (s.modTile t f).modTile t g = s.modTile t (g ∘ f) := by
  simp [State.modTile]

/-! ## What arming touches -/

section
variable (s : State) (n t : Nat)

/-- A census goes up or down in the launch table alone. -/
theorem State.modLaunch_eq (f : Launch → Launch) : ∃ l, s.modLaunch n f = { s with launches := l } := by
  unfold State.modLaunch
  split
  · exact ⟨_, rfl⟩
  · exact ⟨s.launches, rfl⟩

@[simp] theorem State.slot_modLaunch (f : Launch → Launch) (k : Nat) : (s.modLaunch n f).slot k = s.slot k := by
  obtain ⟨l, h⟩ := s.modLaunch_eq n f
  rw [h]
  rfl

@[simp] theorem State.tile_modLaunch (f : Launch → Launch) (j : Nat) : (s.modLaunch n f).tile j = s.tile j := by
  obtain ⟨l, h⟩ := s.modLaunch_eq n f
  rw [h]
  rfl

@[simp] theorem State.modLaunch_mem (f : Launch → Launch) : (s.modLaunch n f).mem = s.mem := by
  obtain ⟨l, h⟩ := s.modLaunch_eq n f
  rw [h]

@[simp] theorem State.slot_raiseCensus (c k : Nat) : (s.raiseCensus n c).slot k = s.slot k := State.slot_modLaunch ..
@[simp] theorem State.tile_raiseCensus (c j : Nat) : (s.raiseCensus n c).tile j = s.tile j := State.tile_modLaunch ..
@[simp] theorem State.raiseCensus_mem (c : Nat) : (s.raiseCensus n c).mem = s.mem := State.modLaunch_mem ..

/-- R190: a step once its preload may have started. -/
def State.preloading (p : Step) : Step :=
  if p.preload.isNone && ((s.tile t).before p).all fun q => q.rowsIn == q.rows then { p with preload := some s.cycle } else p

theorem State.tile_startPreloads : (s.startPreloads t).tile t = { s.tile t with steps := (s.tile t).steps.map (s.preloading t) } :=
  State.tile_setTile ..

theorem State.preloading_id (p : Step) : (s.preloading t p).id = p.id := by
  unfold State.preloading
  split <;> rfl

end

end Sys2Proof.Machine

namespace Sys2Proof.Claims
open Sys2Proof.Machine

theorem bare_preloading (s : State) (t : Nat) (p : Step) : bare (s.preloading t p) = bare p := by
  unfold State.preloading
  split <;> rfl

/-! ## Checks in their order -/

section
variable {s : State} {k x : Nat} {i : Instr} {hd : Hdr} {len : Nat} {body : Nat → Nat → State → View → WRes}
  (iss : Issues s k x i hd) (hx : exec i s = .next (s.issueCore i hd len body))
include iss hx

/-- A check of the word that stands first in the list. -/
theorem checks_cons {bad q ok : Prop} [Decidable q] {c : Nat} {aux : Word} {rest : List (Prop × Nat × Word)} {r : WRes}
    (hq : q ↔ bad) (hb : body k x s ((s.slot k).view x) = if q then .trap c aux else r)
    (hrest : body k x s ((s.slot k).view x) = r → Checks s k x i rest ok) : Checks s k x i ((bad, c, aux) :: rest) ok :=
  ⟨fun h => iss.core_traps hx (hb.trans (if_pos (hq.2 h))), fun h => hrest (hb.trans (if_neg (mt hq.1 h)))⟩

/-- A check that answers the number of what is wrong. -/
theorem checks_some {ok : Prop} {m : Option Nat} {c : Nat} {rest : List (Prop × Nat × Word)} {r : WRes}
    (hb : body k x s ((s.slot k).view x) = match m with
      | some n => .trap c (BitVec.ofNat 64 n)
      | none => r)
    (hrest : body k x s ((s.slot k).view x) = r → Checks s k x i rest ok) :
    Checks s k x i ((m.isSome = true, c, BitVec.ofNat 64 (m.getD 0)) :: rest) ok := by
  cases m with
  | none => exact ⟨fun h => (Bool.false_ne_true h).elim, fun _ => hrest hb⟩
  | some n => exact ⟨fun _ => iss.core_traps hx hb, fun h => (h rfl).elim⟩

/-- A check that looks for the first bad handle of a list. -/
theorem checks_first {ok : Prop} {p : TileEntry → Prop} [DecidablePred p] {b : Nat → Bool} {hs : List Nat} {c : Nat}
    {rest : List (Prop × Nat × Word)} {r : WRes} (hp : ∀ h, b h = decide (p (entryOf s k h)))
    (hb : body k x s ((s.slot k).view x) = match hs.find? b with
      | some h => .trap c (BitVec.ofNat 64 h)
      | none => r)
    (hrest : body k x s ((s.slot k).view x) = r → Checks s k x i rest ok) :
    Checks s k x i ((∃ h ∈ hs, p (entryOf s k h), c, BitVec.ofNat 64 (firstHandle s k p hs)) :: rest) ok := by
  rw [funext hp] at hb
  have hbad : (∃ h ∈ hs, p (entryOf s k h)) ↔ (hs.find? fun h => p (entryOf s k h)).isSome = true := by simp
  obtain ⟨htrap, hgood⟩ := checks_some iss hx (ok := ok) hb hrest
  exact ⟨fun h => htrap (hbad.1 h), fun h => hgood (mt hbad.2 h)⟩

end

theorem not_iff_false (b : Bool) : (!b) = true ↔ b = false := by rw [Bool.not_eq_true']

/-- R154: the entry fills or drains. -/
theorem moving_iff (e : TileEntry) : e.moving = true ↔ e.state = 1 ∨ e.state = 3 := by simp [TileEntry.moving]

/-! ## SCACC (R192-R194) -/

theorem scaccDesc_eq (w : Word) : scaccDesc w = scaleFields w := by
  have hsrc : fld w.toNat 53 11 = w.toNat / 2 ^ 53 := fld_top w.isLt
  have hrsv : fld w.toNat 0 15 = w.toNat % 2 ^ 15 := fld_zero ..
  unfold scaccDesc
  dsimp only
  rw [hsrc, hrsv]
  rfl

/-- R193: the words that SCACC answers, by its checks. -/
theorem scaccWord_eq (s : State) (k x kind u : Nat) (w : Word) (set : Bool) :
    let ti := s.tile (k / 8)
    let d := scaleFields w
    let e := entryOf s k u
    scaccWord k x s kind u w set =
      if (!d.formed kind) = true then .trap 23 w else if e.state = 0 then .trap 14 (BitVec.ofNat 64 u)
      else if (!d.fits kind ti.fmt e) = true then .trap 23 w else if e.fault = true then .trap 8 (BitVec.ofNat 64 u)
      else if e.moving = true then .wait s else .done
        ((({ s with nextId := s.nextId + 1 } : State).setSlot k (withTl s k x)).setTile (k / 8) { ti with scaccs := ti.scaccs ++
          [{ id := s.nextId, k := k, ent := e, fmt := ti.fmt.get 0 e.type, src := d.src, dst := d.dst, nrows := d.nrows,
             ncols := d.ncols, br := d.br, bc := d.bc, set := set, kind := kind }] }) := by
  intro ti d e
  unfold scaccWord
  rw [scaccDesc_eq]
  rfl

theorem scales_of {i : Instr} {hd : Hdr} {kind : Nat} {u : BitVec 6} {a : BitVec 5} {set : Bool}
    (hx : ∀ s, exec i s = .next (s.issueCore i hd 1 fun k x s v => scaccWord k x s kind u.toNat (v.reg a) set)) :
    Scales i hd kind u a set := by
  intro s k x iss w ti d e
  refine checks_cons iss (hx s) (not_iff_false _) (scaccWord_eq s k x kind u.toNat w set) fun hb =>
    checks_cons iss (hx s) Iff.rfl hb fun hb => checks_cons iss (hx s) (not_iff_false _) hb fun hb =>
    checks_cons iss (hx s) Iff.rfl hb fun hb => ⟨fun hm => ?_, fun hm => ?_⟩
  · exact iss.core_waits (hx s) (hb.trans (if_pos ((moving_iff _).2 hm)))
  · exact iss.core_done (hx s) (hb.trans (if_neg (mt (moving_iff _).1 hm)))

/-! ## TSTEP (R183-R189) -/

theorem stepDesc_eq (w : Word) : stepDesc w = stepFields w := by
  have hbh : fld w.toNat 58 6 = w.toNat / 2 ^ 58 := fld_top w.isLt
  have hrsv : fld w.toNat 0 7 = w.toNat % 2 ^ 7 := fld_zero ..
  unfold stepDesc
  dsimp only
  rw [hbh, hrsv]
  rfl

/-- R36: SHARE gives both cores windows, or one. -/
theorem sharesArray_iff (s : State) (k : Nat) : (s.tile (k / 8)).sharesArray (coreOf k) = true ↔ holdsWindows s k := by
  have hfld : fld (s.tile (k / 8)).ashare.toNat 0 2 = (s.tile (k / 8)).ashare.toNat % 4 := fld_zero ..
  have hcore : k / 4 % 2 = 0 ∨ k / 4 % 2 = 1 := by omega
  unfold Tile.sharesArray holdsWindows coreOf
  rw [hfld]
  obtain h | h | h | h : (s.tile (k / 8)).ashare.toNat % 4 = 0 ∨ (s.tile (k / 8)).ashare.toNat % 4 = 1 ∨
      (s.tile (k / 8)).ashare.toNat % 4 = 2 ∨ (s.tile (k / 8)).ashare.toNat % 4 = 3 := by omega
  all_goals rcases hcore with hc | hc <;> simp [h, hc]

theorem noWindows_iff (s : State) (k : Nat) : (!(s.tile (k / 8)).sharesArray (coreOf k)) = true ↔ ¬ holdsWindows s k := by
  rw [← sharesArray_iff, Bool.not_eq_true', Bool.not_eq_true]

/-- R188: the step that a TSTEP arms. -/
def armedStep (s : State) (k ta : Nat) (sp acc emit : Bool) (d : StepDesc) (as : List TileEntry) (b o : TileEntry) : Step :=
  let ti := s.tile (k / 8)
  let task := (s.slot k).task
  let south := (ti.segs.get {} 2).planned
  { id := s.nextId, k := k, owner := task.loc, seq := ti.stepSeq, launch := task.launch, ta := ta, cnt := d.cnt, bh := d.bh,
    oh := if emit then some d.oh else none, aty := d.aty, bty := d.bty, accbase := d.accbase, acclen := d.acclen, moff := d.moff,
    sp := sp, acc := acc, fmt := ti.fmt, aEnts := as, bEnt := b, ohEnt := if emit then some o else none,
    sound := if south.valid then some south.soundRec else none,
    southTurn := (ti.segs.get {} 2).turns + (ti.segs.get {} 2).swaps.length }

/-- R188: the tile's table once OH fills. -/
def opened (emit : Bool) (h : Nat) (o : TileEntry) (tb : Tab TileEntry) : Tab TileEntry :=
  if emit then tb.set h { o with state := 1, pending := o.extent * 64 } else tb

theorem get_opened (emit : Bool) (h : Nat) (o : TileEntry) (tb : Tab TileEntry) (j : Nat) : (opened emit h o tb).get {} j =
    if emit = true ∧ j = h then { o with state := 1, pending := o.extent * 64 } else tb.get {} j := by
  cases emit with
  | false => simp [opened]
  | true =>
    by_cases hj : j = h
    · simp [opened, hj]
    · simp [opened, hj, Tab.get_set_ne]

/-- R180, R188: the step is in its place, and OH fills; the census and the preloads are still to come. -/
def stepAdded (s : State) (k x h : Nat) (emit : Bool) (o : TileEntry) (p : Step) : State :=
  let ti := s.tile (k / 8)
  (({ s with nextId := s.nextId + 1 } : State).setSlot k (withTl s k x)).setTile (k / 8)
    { ti with stepSeq := (ti.stepSeq + 1) % 65536, steps := ti.steps ++ [p], table := opened emit h o ti.table }

section
variable (s : State) (k x h : Nat) (emit : Bool) (o : TileEntry) (p : Step)

theorem tile_stepAdded : (stepAdded s k x h emit o p).tile (k / 8) = { s.tile (k / 8) with
    stepSeq := ((s.tile (k / 8)).stepSeq + 1) % 65536, steps := (s.tile (k / 8)).steps ++ [p],
    table := opened emit h o (s.tile (k / 8)).table } := State.tile_setTile ..

theorem slot_stepAdded : (stepAdded s k x h emit o p).slot k = withTl s k x := State.slot_setSlot ..

end

section
variable (s : State) (k x ta : Nat) (sp acc emit : Bool) (d : StepDesc) (as : List TileEntry) (b o : TileEntry)

theorem armStep_eq : s.armStep k x ta sp acc emit d as b o =
    ((stepAdded s k x d.oh emit o (armedStep s k ta sp acc emit d as b o)).raiseCensus (s.slot k).task.launch 1).startPreloads (k / 8) := by
  cases emit with
  | false => rfl
  | true =>
    refine congrArg (fun u : State => (u.raiseCensus (s.slot k).task.launch 1).startPreloads (k / 8)) ((if_pos rfl).trans ?_)
    exact (State.modTile_modTile ..).trans rfl

/-- R190: preloads that start when the step is armed set its tile's steps apart from before, and nothing else does. -/
theorem armStep_tile : ∃ f : Step → Step, (∀ p, bare (f p) = bare p) ∧ (s.armStep k x ta sp acc emit d as b o).tile (k / 8) =
    { s.tile (k / 8) with
      stepSeq := ((s.tile (k / 8)).stepSeq + 1) % 65536, table := opened emit d.oh o (s.tile (k / 8)).table
      steps := ((s.tile (k / 8)).steps ++ [armedStep s k ta sp acc emit d as b o]).map f } := by
  rw [armStep_eq, State.tile_startPreloads, State.tile_raiseCensus, tile_stepAdded]
  exact ⟨_, bare_preloading _ _, rfl⟩

/-- R180, R188: what arming leaves of the tile and of the slot. -/
theorem armStep_arms :
    let t := s.armStep k x ta sp acc emit d as b o
    let ti := s.tile (k / 8)
    (t.tile (k / 8)).steps.map bare = ti.steps.map bare ++ [armedStep s k ta sp acc emit d as b o] ∧
    (t.tile (k / 8)).stepSeq = (ti.stepSeq + 1) % 65536 ∧
    (∀ h, entryOf t k h = if emit = true ∧ h = d.oh then { o with state := 1, pending := o.extent * 64 } else entryOf s k h) ∧
    t.slot k = withTl s k x ∧ t.mem = s.mem := by
  intro t ti
  obtain ⟨f, hf, htile⟩ : ∃ f : Step → Step, _ := armStep_tile s k x ta sp acc emit d as b o
  change t.tile (k / 8) = _ at htile
  rw [htile]
  refine ⟨?_, rfl, fun h => ?_, ?_, ?_⟩
  · have hbare : bare ∘ f = bare := funext hf
    rw [List.map_map, hbare, List.map_append]
    rfl
  · rw [entryOf, htile]
    exact get_opened ..
  · exact (congrArg (State.slot · k) (armStep_eq ..)).trans ((State.slot_raiseCensus ..).trans (slot_stepAdded ..))
  · exact (congrArg State.mem (armStep_eq ..)).trans (State.raiseCensus_mem ..)

end

section
variable (s : State) (k x ta : Nat) (sp emit acc : Bool) (w : Word)

/-- R186: the words that TSTEP answers, by its checks. -/
theorem tstepWord_eq :
    let ti := s.tile (k / 8)
    let d := stepFields w
    let hs := (List.range (d.cnt + 1)).map (ta + ·)
    let as := hs.map (entryOf s k)
    let b := entryOf s k d.bh
    let o := entryOf s k d.oh
    tstepWord k x s sp ta w emit acc =
      if (!ti.sharesArray (coreOf k)) = true then .trap 22 0 else if (!d.formed ta sp emit ti.fmt) = true then .trap 23 w
      else match (hs ++ [d.bh] ++ if emit then [d.oh] else []).find? fun h => (entryOf s k h).state == 0 with
      | some h => .trap 14 (BitVec.ofNat 64 h)
      | none =>
        if (emit && o.owner != k % 8) = true then .trap 15 (BitVec.ofNat 64 d.oh)
        else if (!d.fits ta sp emit ti.fmt as b o) = true then .trap 23 w
        else match ti.planBit d emit as b o with
        | some m => .trap 24 (BitVec.ofNat 64 m)
        | none => match (hs ++ [d.bh]).find? fun h => (entryOf s k h).fault with
          | some h => .trap 8 (BitVec.ofNat 64 h)
          | none =>
            if (as.any TileEntry.moving || b.moving || (emit && o.moving)) = true then .wait s
            else if 2 ≤ (ti.steps.filter fun q => coreKey q.k == coreKey k).length then .wait s
            else .done (s.armStep k x ta sp acc emit d as b o) := by
  intro ti d hs as b o
  unfold tstepWord
  rw [stepDesc_eq]
  rfl

end

theorem arms_of {i : Instr} {hd : Hdr} {sp : Bool} {u : BitVec 6} {a : BitVec 5} {emit acc : Bool}
    (hx : ∀ s, exec i s = .next (s.issueCore i hd 1 fun k x s v => tstepWord k x s sp u.toNat (v.reg a) emit acc)) :
    Arms i hd sp u a emit acc := by
  intro s k x iss w ti d ta hs as b o named moving task south p waits
  let full := 2 ≤ (ti.steps.filter fun q => coreKey q.k == coreKey k).length
  have hwaits : waits ↔ (as.any TileEntry.moving || b.moving || (emit && o.moving)) = true ∨ full := by
    simp only [Bool.or_eq_true, Bool.and_eq_true, List.any_eq_true, moving_iff, or_assoc, waits, moving, full]
  have howner : (emit && o.owner != k % 8) = true ↔ emit = true ∧ o.owner ≠ k % 8 := by simp
  refine checks_cons iss (hx s) (noWindows_iff s k) (tstepWord_eq s k x ta sp emit acc w) fun hb =>
    checks_cons iss (hx s) (not_iff_false _) hb fun hb =>
    checks_first iss (hx s) (p := fun e => e.state = 0) (fun _ => rfl) hb fun hb =>
    checks_cons iss (hx s) howner hb fun hb => checks_cons iss (hx s) (not_iff_false _) hb fun hb =>
    checks_some iss (hx s) hb fun hb =>
    checks_first iss (hx s) (p := fun e => e.fault = true) (fun _ => by simp) hb fun hb => ⟨fun hw => ?_, fun hw => ?_⟩
  · refine iss.core_waits (hx s) (hb.trans ?_)
    rcases em ((as.any TileEntry.moving || b.moving || (emit && o.moving)) = true) with hm | hm
    · exact if_pos hm
    · exact (if_neg hm).trans (if_pos ((hwaits.1 hw).resolve_left hm))
  · obtain ⟨hm, hf⟩ := not_or.1 (mt hwaits.2 hw)
    exact ⟨_, iss.core_done (hx s) (hb.trans ((if_neg hm).trans (if_neg hf))), armStep_arms ..⟩

/-- Settles O37: each word makes its checks in their order, and then waits or takes effect. -/
theorem stepAndScaleWords : Obligations.StepAndScaleWords := by
  unfold Obligations.StepAndScaleWords
  exact ⟨fun hd u a emit acc => ⟨arms_of fun _ => rfl, arms_of fun _ => rfl⟩,
    fun hd u a set => ⟨scales_of fun _ => rfl, scales_of fun _ => rfl, scales_of fun _ => rfl⟩⟩

end Sys2Proof.Claims
end

section
/-! The plane words at issue (R181, R195-R199): segments that a mask names, edited one after another. -/

namespace Sys2Proof.Machine

/-! ## Segments -/

section
variable (s : State) (t g : Nat) (f : Seg → Seg)

@[simp] theorem State.seg_modSeg : (s.modSeg t g f).seg t g = f (s.seg t g) := by simp [State.modSeg, State.modTile, State.seg]

theorem State.seg_modSeg_ne {j : Nat} (h : j ≠ g) : (s.modSeg t g f).seg t j = s.seg t j := by
  simp [State.modSeg, State.modTile, State.seg, Tab.get_set_ne _ _ _ _ _ h]

@[simp] theorem State.slot_modSeg (k : Nat) : (s.modSeg t g f).slot k = s.slot k := rfl
@[simp] theorem State.modSeg_mem : (s.modSeg t g f).mem = s.mem := rfl

end

/-- R181: each segment that the mask names is changed, in order. -/
def State.editSegs (s : State) (t : Nat) (m : BitVec 4) (f : Nat → Seg → Seg) : State :=
  (maskSegs m).foldl (fun st g => st.modSeg t g (f g)) s

section
variable (s : State) (t : Nat) (m : BitVec 4) (f : Nat → Seg → Seg)

@[simp] theorem State.slot_editSegs (k : Nat) : (s.editSegs t m f).slot k = s.slot k := 
  foldl_keeps (State.slot · k) (f := fun st g => st.modSeg t g (f g)) (fun _ _ => rfl) _ s
@[simp] theorem State.editSegs_mem : (s.editSegs t m f).mem = s.mem := 
  foldl_keeps State.mem (f := fun st g => st.modSeg t g (f g)) (fun _ _ => rfl) _ s

theorem State.seg_foldl_modSeg (l : List Nat) (hl : l.Nodup) (s : State) (g : Nat) :
    (l.foldl (fun st g => st.modSeg t g (f g)) s).seg t g = if g ∈ l then f g (s.seg t g) else s.seg t g := by
  induction l generalizing s with
  | nil => rfl
  | cons a l ih =>
    obtain ⟨ha, hl⟩ := List.nodup_cons.1 hl
    rw [List.foldl_cons, ih hl]
    by_cases hg : g = a
    · subst hg
      simp [ha]
    · simp [hg, State.seg_modSeg_ne]

theorem maskSegs_eq : maskSegs m = (List.range 4).filter fun g => m.getLsbD g := rfl

theorem mem_maskSegs (g : Nat) : g ∈ maskSegs m ↔ g < 4 ∧ m.getLsbD g = true := by
  rw [maskSegs_eq, List.mem_filter, List.mem_range]

theorem nodup_maskSegs : (maskSegs m).Nodup := (List.nodup_range (n := 4)).filter _

theorem State.seg_editSegs {g : Nat} (h4 : g < 4) (hg : m.getLsbD g = true) : (s.editSegs t m f).seg t g = f g (s.seg t g) :=
  (s.seg_foldl_modSeg t f _ (nodup_maskSegs m) g).trans (if_pos ((mem_maskSegs m g).2 ⟨h4, hg⟩))

theorem State.seg_editSegs_unnamed {g : Nat} (hg : ¬ m.getLsbD g = true) : (s.editSegs t m f).seg t g = s.seg t g :=
  (s.seg_foldl_modSeg t f _ (nodup_maskSegs m) g).trans (if_neg fun h => hg ((mem_maskSegs m g).1 h).2)

end

end Sys2Proof.Machine

namespace Sys2Proof.Claims
open Sys2Proof.Machine

/-! ## Masks (R181) -/

theorem any_maskSegs (m : BitVec 4) (p : Nat → Bool) : (maskSegs m).any p = true ↔ ∃ g < 4, names m g ∧ p g = true := by
  simp [mem_maskSegs, names, and_assoc]

/-- R195: the place of a segment in the walk of a mask. -/
theorem zipIdx_maskSegs (m : BitVec 4) : (maskSegs m).zipIdx.map (fun q => (q.1, q.2 + 1)) = (maskSegs m).map fun g => (g, turn m g) := by
  revert m
  decide

/-- R199: a segment of the mask has no place for another plane word. -/
theorem crowded_iff (s : State) (k : Nat) (m : BitVec 4) :
    ((maskSegs m).any fun g => decide (2 ≤ (s.seg (k / 8) g).pendingWords)) = true ↔ crowded s k m := by
  rw [any_maskSegs]
  simp only [decide_eq_true_eq]
  rfl

theorem anyCrowded_iff (s : State) (k : Nat) (m : BitVec 4) {p : Nat → Bool} {q : Nat → Prop} (hp : ∀ g, p g = true ↔ q g) :
    ((maskSegs m).any fun g => p g || decide (2 ≤ (s.seg (k / 8) g).pendingWords)) = true ↔
      (∃ g < 4, names m g ∧ q g) ∨ crowded s k m := by
  rw [any_maskSegs, ← crowded_iff, any_maskSegs]
  simp only [Bool.or_eq_true, and_or_left, exists_or, hp]

theorem notEmpty_iff {α : Type} (l : List α) : (!l.isEmpty) = true ↔ l ≠ [] := by simp

/-- R196: the first segment of the mask, from the west on, that a test picks. -/
theorem find_maskSegs_eq_some {m : BitVec 4} {p : Nat → Bool} {g : Nat} (h4 : g < 4) (hg : names m g ∧ p g = true)
    (hlow : ∀ j < g, ¬ (names m j ∧ p j = true)) : (maskSegs m).find? p = some g := by
  rw [maskSegs_eq, List.find?_filter, List.find?_range_eq_some]
  refine ⟨by simpa [names] using hg, List.mem_range.2 h4, fun j hj => ?_⟩
  simpa [names, imp_iff_not_or] using hlow j hj

theorem find_maskSegs_eq_none {m : BitVec 4} {p : Nat → Bool} (h : ∀ g < 4, ¬ (names m g ∧ p g = true)) : (maskSegs m).find? p = none := by
  rw [List.find?_eq_none]
  exact fun g hg hp => h g ((mem_maskSegs m g).1 hg).1 ⟨((mem_maskSegs m g).1 hg).2, hp⟩

/-! ## The words -/

/-- R195, R197: the state after a plane word that has changed its segments alone. -/
theorem planned_editSegs (s : State) (k x : Nat) (m : BitVec 4) (f : Nat → Seg → Seg) :
    Planned s ((s.planeOp k x).editSegs (k / 8) m f) k x m f := by
  refine ⟨?_, fun g h4 hg => State.seg_editSegs _ _ _ _ h4 hg, fun g h4 hg => State.seg_editSegs_unnamed _ _ _ _ hg, State.editSegs_mem ..⟩
  rw [State.slot_editSegs]
  exact State.slot_setSlot ..

section
variable (s : State) (k x : Nat) (m : BitVec 4)

theorem tcfgWord_eq (img : Nat) : tcfgWord k x s m img =
    if ((maskSegs m).any fun g => !(s.seg (k / 8) g).swaps.isEmpty || decide (2 ≤ (s.seg (k / 8) g).pendingWords)) = true then .wait s
    else .done ((s.planeOp k x).editSegs (k / 8) m fun g sg =>
      { sg with shadow := { sg.shadow with valid := false }, loads := sg.loads ++ [(s.nextId, img, s.cycle + 16 * turn m g)] }) := by
  let load : State → Nat × Nat → State := fun st q => st.modSeg (k / 8) q.1 fun sg =>
    { sg with shadow := { sg.shadow with valid := false }, loads := sg.loads ++ [(s.nextId, img, s.cycle + 16 * q.2)] }
  have hwalk : (maskSegs m).zipIdx.foldl (fun st q => load st (q.1, q.2 + 1)) (s.planeOp k x) =
      (maskSegs m).foldl (fun st g => load st (g, turn m g)) (s.planeOp k x) := by
    rw [← List.foldl_map, zipIdx_maskSegs, List.foldl_map]
  exact if_congr Iff.rfl rfl (congrArg WRes.done hwalk)

/-- R196: the shadow plane of the segment holds no image, and none is on its way. -/
def noShadow (s : State) (k g : Nat) : Bool := !(s.seg (k / 8) g).shadow.valid && (s.seg (k / 8) g).loads.isEmpty

theorem noShadow_iff (g : Nat) : noShadow s k g = true ↔ (segOf s k g).shadow.valid = false ∧ (segOf s k g).loads = [] := by
  rw [noShadow, Bool.and_eq_true, Bool.not_eq_true', List.isEmpty_iff]
  rfl

theorem tswapWord_empty {g : Nat} (h : (maskSegs m).find? (noShadow s k) = some g) :
    tswapWord k x s m = .trap 24 (BitVec.ofNat 64 (2 ^ g)) := by
  unfold noShadow at h
  unfold tswapWord tileOf
  dsimp only
  rw [h]

theorem tswapWord_shadowed (h : (maskSegs m).find? (noShadow s k) = none) : tswapWord k x s m =
    if ((maskSegs m).any fun g => !(s.seg (k / 8) g).loads.isEmpty || decide (2 ≤ (s.seg (k / 8) g).pendingWords)) = true then .wait s
    else .done (((s.planeOp k x).editSegs (k / 8) m fun g sg =>
      { sg with swaps := sg.swaps ++ [{ q := (s.tile (k / 8)).stepSeq, op := s.nextId, late := sg.mode == 1 }],
                mode := if sg.mode = 2 ∧ s.segHeld (k / 8) g = false then 0 else sg.mode }).switchAll (k / 8)) := by
  have hmode : ∀ (g : Nat) (sg : Seg), (if (sg.mode = 2 && !s.segHeld (k / 8) g) = true then 0 else sg.mode) =
      if sg.mode = 2 ∧ s.segHeld (k / 8) g = false then 0 else sg.mode := fun g sg => if_congr (by simp) rfl rfl
  unfold noShadow at h
  unfold tswapWord tileOf
  dsimp only
  rw [h]
  simp only [hmode]
  rfl

/-- R197, R198: what a TDRAIN makes of a segment that it names. -/
theorem tdrainWord_eq (o : Bool) : tdrainWord k x s m o =
    if ((maskSegs m).any fun g => decide (2 ≤ (s.seg (k / 8) g).pendingWords)) = true then .wait s
    else .done (((s.planeOp k x).editSegs (k / 8) m fun g sg =>
      let more := { sg with drains := sg.drains ++ [{ open_ := o, op := s.nextId }] }
      if sg.mode = 1 then more
      else if o then { sg with mode := if s.segHeld (k / 8) g then sg.mode else 0 }
      else if sg.mode = 0 then { more with mode := 1 } else sg).planeDone (k / 8) s.nextId) := by
  cases o <;> rfl

end

/-- Settles O38: each word waits for its segments, and then edits those that its mask names. -/
theorem planeWords : Obligations.PlaneWords := by
  unfold Obligations.PlaneWords
  intro hd m n o s k x seg held
  refine ⟨?tcfg, ?tswap, ?tdrain⟩
  case tcfg =>
    intro iss i waits
    have hwaits := anyCrowded_iff s k m fun g => notEmpty_iff (s.seg (k / 8) g).swaps
    exact ⟨fun h => iss.core_waits rfl ((tcfgWord_eq ..).trans (if_pos (hwaits.2 h))),
      fun h => ⟨_, iss.core_done rfl ((tcfgWord_eq ..).trans (if_neg (mt hwaits.1 h))), planned_editSegs ..⟩⟩
  case tswap =>
    intro iss i empty waits
    have hempty : ∀ g, empty g ↔ names m g ∧ noShadow s k g = true := fun g => and_congr_right' (noShadow_iff s k g).symm
    have hwaits := anyCrowded_iff s k m fun g => notEmpty_iff (s.seg (k / 8) g).loads
    have shadowed : (∀ g < 4, ¬ empty g) → _ := fun hs =>
      tswapWord_shadowed s k x m (find_maskSegs_eq_none fun g h4 => mt (hempty g).2 (hs g h4))
    refine ⟨fun g h4 hg hlow => iss.core_traps rfl (tswapWord_empty s k x m ?_),
      fun hs h => iss.core_waits rfl ((shadowed hs).trans (if_pos (hwaits.2 h))),
      fun hs h => ⟨_, iss.core_done rfl ((shadowed hs).trans (if_neg (mt hwaits.1 h))), planned_editSegs ..⟩⟩
    exact find_maskSegs_eq_some h4 ((hempty g).1 hg) fun j hj => mt (hempty j).2 (hlow j hj)
  case tdrain =>
    intro iss i
    exact ⟨fun h => iss.core_waits rfl ((tdrainWord_eq ..).trans (if_pos ((crowded_iff s k m).2 h))),
      fun h => ⟨_, iss.core_done rfl ((tdrainWord_eq ..).trans (if_neg (mt (crowded_iff s k m).1 h))), planned_editSegs ..⟩⟩

end Sys2Proof.Claims
end

section
/-! TRESUME, TCBK and TSOUND at issue (R201-R206, R317, R318). -/

namespace Sys2Proof.Claims
open Sys2Proof.Machine

/-! ## TRESUME (R201, R202) -/

section
variable {s : State} {k x : Nat} {v : Word}

/-- R201: the segment has a trapped site of a step of the slot's own task. -/
def ownTrap (s : State) (k g : Nat) : Prop :=
  ∃ h p, (segOf s k g).trapped = some h ∧ (s.tile (k / 8)).stepOf h.seq = some p ∧ p.owner = (s.slot k).task.loc

theorem resumeSeg_own (hv : v.toNat < 4) (ho : ownTrap s k v.toNat) : s.resumeSeg k v = some v.toNat := by
  obtain ⟨h, p, htrap, hstep, howner⟩ := ho
  have htrap : (s.seg (tileOf k) v.toNat).trapped = some h := htrap
  have hstep : (s.tile (tileOf k)).stepOf h.seq = some p := hstep
  unfold State.resumeSeg
  simp only [Nat.mod_eq_of_lt hv, htrap, hstep, howner, if_neg (Nat.not_le.2 hv), if_true]

theorem resumeSeg_other (ho : ¬ (v.toNat < 4 ∧ ownTrap s k v.toNat)) : s.resumeSeg k v = none := by
  unfold State.resumeSeg
  dsimp only
  split
  · rfl
  · next hv =>
    have hv : v.toNat < 4 := Nat.not_le.1 hv
    rw [Nat.mod_eq_of_lt hv]
    split
    · rfl
    · next h htrap =>
      split
      · next p hstep => exact if_neg fun howner => ho ⟨hv, h, p, htrap, hstep, howner⟩
      · rfl

/-- R201, R202: a form of TRESUME traps, or resolves the segment as `f` says. -/
theorem resumes_of {i : Instr} {hd : Hdr} {a : BitVec 5} {f : View → State → Nat → Nat → State} (iss : Issues s k x i hd)
    (hx : exec i s = .next (s.issueCore i hd 1 fun kk _ s v => tresumeWord kk s (v.reg a) (f v))) :
    let v := readScalar (s.slot k).regs a
    (¬ (v.toNat < 4 ∧ ownTrap s k v.toNat) → Traps s k x i 25 v) ∧
    (v.toNat < 4 → ownTrap s k v.toNat → exec i s = .next (done s (f ((s.slot k).view x) s (k / 8) v.toNat) k x hd 1)) := by
  intro v
  refine ⟨fun h => iss.core_traps hx ?_, fun hv ho => iss.core_done hx ?_⟩
  · rw [tresumeWord, show s.resumeSeg k (((s.slot k).view x).reg a) = none from resumeSeg_other h]
    rfl
  · rw [tresumeWord, show s.resumeSeg k (((s.slot k).view x).reg a) = some v.toNat from resumeSeg_own hv ho]
    rfl

end

/-! ## TCBK (R204, R205) -/

section
variable {s : State} {k x : Nat}

theorem tcbkWord_eq (u : Nat) (v : Word) (site : Nat) :
    let T := k / 8
    let ti := s.tile T
    let e := entryOf s k u
    let north := (segOf s k 1).active
    tcbkWord k s u v site =
      if v = 0 ∨ 65535 < v.toNat then .trap 23 v else if e.state = 0 then .trap 14 (BitVec.ofNat 64 u)
      else if e.rows ≠ 1 ∨ e.cols = 0 ∨ 16 < e.cols ∨ (!(tyNarrow e.type || tyWide e.type)) = true ∨ tyUnset ti.fmt e.type = true then .trap 23 v
      else if (!north.valid || (north.site site).kind != 2) = true then .trap 24 2
      else if (e.fault || (List.range e.cols).any fun j => (elemAddrs ti.fmt T e 0 j).any s.marked) = true then .trap 8 (BitVec.ofNat 64 u)
      else if (e.moving || !s.slotStored k s.nextId || decide (4 ≤ (ti.codebooks.get [] site).length)) = true then .wait s
      else .done (s.setTile T { ti with codebooks := ti.codebooks.set site (ti.codebooks.get [] site ++
        [{ vals := (List.range e.cols).map fun j => s.elemAt T ti.fmt e 0 j, type := e.type, blocks := v.toNat }]) }) := rfl

theorem tcbk_answers {hd : Hdr} {u : BitVec 6} {a c : BitVec 5} (iss : Issues s k x (.tcbk hd u a c) hd) :
    let T := k / 8
    let ti := s.tile T
    let v := readScalar (s.slot k).regs a
    let e := entryOf s k u.toNat
    let site := c.toNat + 24
    let codebooks := fun n => ti.codebooks.get [] n
    let i := Instr.tcbk hd u a c
    let waits := e.state = 1 ∨ e.state = 3 ∨ s.slotStored k s.nextId = false ∨ 4 ≤ (codebooks site).length
    Checks s k x i
      [(v = 0 ∨ 65535 < v.toNat, 23, v), (e.state = 0, 14, BitVec.ofNat 64 u.toNat),
        (e.rows ≠ 1 ∨ e.cols = 0 ∨ 16 < e.cols ∨ (tyNarrow e.type = false ∧ tyWide e.type = false) ∨ tyUnset ti.fmt e.type = true, 23, v),
        ((segOf s k 1).active.valid = false ∨ ((segOf s k 1).active.site site).kind ≠ 2, 24, 2),
        (e.fault = true ∨ (∃ j < e.cols, ∃ l ∈ elemAddrs ti.fmt T e 0 j, s.marked l = true), 8, BitVec.ofNat 64 u.toNat)]
      ((waits → exec i s = .next s) ∧
        (¬ waits → exec i s = .next (done s (s.setTile T { ti with codebooks := ti.codebooks.set site (codebooks site ++
          [{ vals := (List.range e.cols).map fun j => s.elemAt T ti.fmt e 0 j, type := e.type, blocks := v.toNat }]) }) k x hd 1))) := by
  intro T ti v e site codebooks i waits
  have hshape : (e.rows ≠ 1 ∨ e.cols = 0 ∨ 16 < e.cols ∨ (!(tyNarrow e.type || tyWide e.type)) = true ∨ tyUnset ti.fmt e.type = true) ↔
      (e.rows ≠ 1 ∨ e.cols = 0 ∨ 16 < e.cols ∨ (tyNarrow e.type = false ∧ tyWide e.type = false) ∨ tyUnset ti.fmt e.type = true) := by
    rw [Bool.not_eq_true', Bool.or_eq_false_iff]
  have hplane : (!(segOf s k 1).active.valid || ((segOf s k 1).active.site site).kind != 2) = true ↔
      (segOf s k 1).active.valid = false ∨ ((segOf s k 1).active.site site).kind ≠ 2 := by simp
  have hfault : (e.fault || (List.range e.cols).any fun j => (elemAddrs ti.fmt T e 0 j).any s.marked) = true ↔
      e.fault = true ∨ (∃ j < e.cols, ∃ l ∈ elemAddrs ti.fmt T e 0 j, s.marked l = true) := by simp
  have hwaits : (e.moving || !s.slotStored k s.nextId || decide (4 ≤ (codebooks site).length)) = true ↔ waits := by
    simp only [Bool.or_eq_true, moving_iff, Bool.not_eq_true', decide_eq_true_eq, or_assoc, waits]
  exact checks_cons iss rfl Iff.rfl (tcbkWord_eq u.toNat v site) fun hb => checks_cons iss rfl Iff.rfl hb fun hb =>
    checks_cons iss rfl hshape hb fun hb => checks_cons iss rfl hplane hb fun hb => checks_cons iss rfl hfault hb fun hb =>
    ⟨fun h => iss.core_waits rfl (hb.trans (if_pos (hwaits.2 h))), fun h => iss.core_done rfl (hb.trans (if_neg (mt hwaits.1 h)))⟩

/-! ## TSOUND (R206, R318) -/

theorem tsoundNow_answers {hd : Hdr} (iss : Issues s k x (.tsoundNow hd) hd) :
    let T := k / 8
    let sound := (s.tile T).sound
    ((segOf s k 2).active.valid = false → exec (.tsoundNow hd) s = .next (done s s k x hd 1)) ∧
    ((segOf s k 2).active.valid = true →
      let t := s.writeRun (scratchAddr T (segOf s k 2).active.soundRec) (sound.bytes s.mtime)
      exec (.tsoundNow hd) s = .next (done s (t.setTile T { t.tile T with sound := { on := sound.on, since := sound.since } }) k x hd 1)) := by
  intro T sound
  exact ⟨fun h => iss.core_done rfl (congrArg WRes.done (if_neg (ne_true_of_eq_false h))),
    fun h => iss.core_done rfl (congrArg WRes.done (if_pos h))⟩

end

/-- Settles O39: TRESUME by whose trap it names, TCBK by its checks, TSOUND by whether a plane serves. -/
theorem collarWords : Obligations.CollarWords := by
  unfold Obligations.CollarWords
  refine ⟨fun hd a b s k x => ⟨fun iss => ?_, fun iss => ?_, fun iss => ?_⟩,
    fun hd u a c s k x => ⟨tcbk_answers, fun iss => iss.core_done rfl rfl, fun iss => iss.core_done rfl rfl, tsoundNow_answers⟩⟩
  · exact resumes_of (f := fun v s t g => s.resolveTrap t g (some (v.reg b).toNat)) iss rfl
  · exact resumes_of (f := fun _ s t g => s.resolveTrap t g none) iss rfl
  · exact resumes_of (f := fun _ => State.abortSeg) iss rfl

end Sys2Proof.Claims
end

section
/-! What the array's events leave of tiles, counters and launches (R142, R175, R190, R191, R385). -/

namespace Sys2Proof.Machine

/-! ## Writes to memory leave tiles and launches -/

/-- What a save of a cairn and a write to memory leave as it is. -/
def State.beyondMemory (s : State) : Tab Tile × Tab Launch := (s.tiles, s.launches)

section
variable (s : State)

theorem State.cairnSaveSlots_beyond (n loc : Nat) : (s.cairnSaveSlots n loc).beyondMemory = s.beyondMemory := by
  unfold State.cairnSaveSlots
  refine foldl_keeps State.beyondMemory (fun t p => ?_) _ s
  dsimp only
  split <;> rfl

theorem State.cairnSaveSaved_beyond (n loc : Nat) : (s.cairnSaveSaved n loc).beyondMemory = s.beyondMemory := by
  unfold State.cairnSaveSaved
  refine foldl_keeps State.beyondMemory (fun t p => ?_) _ s
  rfl

theorem State.cairnSave_beyond (loc : Nat) : (s.cairnSave loc).beyondMemory = s.beyondMemory := by
  unfold State.cairnSave
  exact foldl_keeps State.beyondMemory (fun t n => (State.cairnSaveSaved_beyond ..).trans (t.cairnSaveSlots_beyond ..)) _ s

theorem State.writeLocs_beyond (l : List (Nat × Byte)) : (s.writeLocs l).beyondMemory = s.beyondMemory := by
  unfold State.writeLocs
  refine Eq.trans (b := State.beyondMemory (if _ then _ else _)) rfl ?_
  split
  · exact foldl_keeps State.beyondMemory (fun t p => t.cairnSave_beyond _) l s
  · rfl

@[simp] theorem State.tile_writeRun (a : Nat) (bs : List Byte) (t : Nat) : (s.writeRun a bs).tile t = s.tile t := by
  have htiles : (s.writeRun a bs).tiles = s.tiles := congrArg Prod.fst (s.writeLocs_beyond _)
  unfold State.tile
  rw [htiles]

@[simp] theorem State.writeRun_launches (a : Nat) (bs : List Byte) : (s.writeRun a bs).launches = s.launches :=
  congrArg Prod.snd (s.writeLocs_beyond _)

@[simp] theorem State.tile_modTile (t : Nat) (f : Tile → Tile) : (s.modTile t f).tile t = f (s.tile t) := State.tile_setTile ..
@[simp] theorem State.modTile_launches (t : Nat) (f : Tile → Tile) : (s.modTile t f).launches = s.launches := rfl

/-! ## Counters and traps of tasks (R142, R231) -/

@[simp] theorem State.tile_modTask (owner : Nat) (f : Slot → Slot) (t : Nat) : (s.modTask owner f).tile t = s.tile t := by
  unfold State.modTask
  split <;> rfl

@[simp] theorem State.tile_noteTrap (t g seq : Nat) (on : Bool) (j : Nat) : (s.noteTrap t g seq on).tile j = s.tile j := by
  unfold State.noteTrap
  split
  · exact State.tile_modTask ..
  · rfl

@[simp] theorem State.tile_retireOp (id j : Nat) : (s.retireOp id).tile j = s.tile j := rfl

@[simp] theorem State.tile_planeDone (t op j : Nat) : (s.planeDone t op).tile j = s.tile j := by
  unfold State.planeDone
  split <;> rfl

theorem State.slot_modOp (id : Nat) (f : Slot → Slot) (k : Nat) :
    (s.modOp id f).slot k = if ((s.slot k).ops.any fun o => o.id == id) = true then f (s.slot k) else s.slot k := by
  have hmap : (fun p : Nat × Slot => if (p.2.ops.any fun o => o.id == id) = true then (p.1, f p.2) else p) =
      fun p => (p.1, if (p.2.ops.any fun o => o.id == id) = true then f p.2 else p.2) := by
    funext p
    split <;> rfl
  exact (congrArg (fun g => Tab.get ({} : Slot) (s.slots.map g) k) hmap).trans
    (Tab.get_map _ _ (fun sl : Slot => if (sl.ops.any fun o => o.id == id) = true then f sl else sl) k rfl)

theorem mem_of_mem_retireNulls {o : Op} : ∀ {seen : List Nat} {l : List Op}, o ∈ retireNulls seen l → o ∈ l
  | _, [], h => h
  | seen, a :: l, h => by
    unfold retireNulls at h
    split at h
    · exact List.mem_cons_of_mem _ (mem_of_mem_retireNulls h)
    · rcases List.mem_cons.1 h with rfl | h
      · exact List.mem_cons_self ..
      · exact List.mem_cons_of_mem _ (mem_of_mem_retireNulls h)

theorem Slot.mem_retire {sl : Slot} {id : Nat} {o : Op} (h : o ∈ (sl.retire id).ops) : o.id ≠ id := by
  have hmem : o ∈ sl.ops.filter fun o => o.id != id := mem_of_mem_retireNulls h
  simpa using (List.mem_filter.1 hmem).2

/-- R385: one item less. -/
theorem State.launch_lowerCensus {n c : Nat} {L : Launch} (h : s.launches.find? n = some L) :
    (s.lowerCensus n c).launch n = { L with census := L.census - 1, status := worse L.status c } := by
  unfold State.lowerCensus State.modLaunch
  rw [h]
  exact Tab.get_set ..

@[simp] theorem State.tile_lowerCensus (n c j : Nat) : (s.lowerCensus n c).tile j = s.tile j := State.tile_modLaunch ..
@[simp] theorem State.slot_lowerCensus (n c k : Nat) : (s.lowerCensus n c).slot k = s.slot k := State.slot_modLaunch ..

/-! ## Steps of a tile (R188, R190) -/

variable {s} {t id : Nat} {p : Step}

theorem State.stepAt_id (h : s.stepAt t id = some p) : p.id = id := by
  simpa using List.find?_some h

theorem State.stepAt_modStep (h : s.stepAt t id = some p) {f : Step → Step} (hf : ∀ q, (f q).id = q.id) :
    (s.modStep t p.id f).stepAt t id = some (f p) := by
  have hid := State.stepAt_id h
  have hkeep : ∀ q : Step, (if (q.id == p.id) = true then f q else q).id = q.id := fun q => by split <;> simp [hf]
  have htile : (s.modStep t p.id f).tile t = _ := State.tile_setTile ..
  unfold State.stepAt at h ⊢
  rw [htile]
  simp only [updateWhere, List.find?_map, Function.comp_def, hkeep, h, Option.map_some, beq_self_eq_true, if_true]

theorem State.stepAt_startPreloads (s : State) (t id : Nat) :
    (s.startPreloads t).stepAt t id = (s.stepAt t id).map (s.preloading t) := by
  unfold State.stepAt
  rw [State.tile_startPreloads]
  simp only [List.find?_map, Function.comp_def, State.preloading_id]

@[simp] theorem State.slot_startPreloads (s : State) (t k : Nat) : (s.startPreloads t).slot k = s.slot k := rfl

/-- R190: a step differs in its preload alone once that may have started. -/
theorem State.preloading_eq (s : State) (t : Nat) (p : Step) : ∃ c, s.preloading t p = { p with preload := c } := by
  unfold State.preloading
  split
  · exact ⟨_, rfl⟩
  · exact ⟨p.preload, rfl⟩

/-! ## Accumulator rows and soundings (R191, R206) -/

theorem State.steps_setAcc (s : State) (t n code : Nat) (o : Option Nat) : ((s.setAcc t n code o).tile t).steps = (s.tile t).steps := by
  have hsteps : ∀ (u : State) (f : Tile → Tab Nat), ((u.modTile t fun ti => { ti with origins := f ti }).tile t).steps = (u.tile t).steps :=
    fun u f => by rw [State.tile_modTile]
  have hrun : ((s.writeRun (accAddr t n) (leBytes 4 code)).tile t).steps = (s.tile t).steps := by rw [State.tile_writeRun]
  unfold State.setAcc
  cases o with
  | none => exact (hsteps _ _).trans hrun
  | some g => exact (hsteps _ _).trans hrun

theorem State.steps_writeRow (s : State) (t : Nat) (p : Step) (tr : Transit) : ((s.writeRow t p tr).tile t).steps = (s.tile t).steps := by
  unfold State.writeRow
  refine foldl_keeps (fun u : State => (u.tile t).steps) (fun u q => ?_) _ s
  dsimp only
  split <;> exact State.steps_setAcc ..

theorem State.writeSound_launches (s : State) (t off : Nat) : (s.writeSound t off).launches = s.launches := by
  unfold State.writeSound
  rw [State.modTile_launches, State.writeRun_launches]

theorem State.soundEnd_launches (s : State) (t : Nat) (p : Step) : (s.soundEnd t p).launches = s.launches := by
  unfold State.soundEnd
  dsimp only
  split
  · split
    · rw [State.writeSound_launches, State.modTile_launches]
    · rfl
  · rfl

end

end Sys2Proof.Machine
end

section
/-! The array's events (R188-R200, R260, R292, R297-R312): steps, planes and sites at work. -/

namespace Sys2Proof.Claims
open Sys2Proof.Machine

/-! ## Steps (R188, R190) -/

theorem returnedOp_retireOp (s : State) (id : Nat) : returnedOp (s.retireOp id) id := by
  intro k o ho
  unfold State.retireOp at ho
  rw [State.slot_modOp] at ho
  split at ho
  · exact Slot.mem_retire ho
  · next hnone => exact fun he => hnone (List.any_eq_true.2 ⟨o, ho, by simpa using he⟩)

section
variable {s : State} {p : Step}

theorem stepArm_eq {i : Instr} (h : s.streamNext s.inp.unit s.inp.x = some i) (hi : (∃ h u a e c, i = .tstep h u a e c) ∨
    ∃ h u a e c, i = .tstepSp h u a e c) : ∃ t, exec .stepArm s = .next t ∧ exec i (turnOf s s.inp.unit s.inp.x) = .next t := by
  rcases hi with ⟨_, _, _, _, _, rfl⟩ | ⟨_, _, _, _, _, rfl⟩
  all_goals
    refine ⟨_, ?_, rfl⟩
    change execStepArm s = _
    rw [execStepArm, h]
    rfl

variable (hp : s.stepAt s.inp.unit s.inp.id = some p)
include hp

theorem stepPreloadDone_over (h : s.preloadOver s.inp.unit p = true) : ∃ t, exec .stepPreloadDone s = .next t ∧
    t.stepAt s.inp.unit s.inp.id = some { p with loaded := true } ∧ t.mem = s.mem := by
  refine ⟨s.modStep s.inp.unit p.id fun q => { q with loaded := true }, ?_, ?_, rfl⟩
  · change execStepPreloadDone s = _
    rw [execStepPreloadDone, hp]
    exact congrArg _ (if_pos h)
  · exact State.stepAt_modStep hp fun _ => rfl

/-- R188, R190: the row at the edge on its way through the array. -/
def rowEntered (s : State) (p : Step) : State :=
  let tr : Transit := { row := p.rowsIn, due := s.cycle + 136, sums := s.rowSums s.inp.unit p }
  ({ s with fresh := s.fresh + p.bEnt.cols } : State).modStep s.inp.unit p.id fun q =>
    { q with rowsIn := q.rowsIn + 1, transit := q.transit ++ [tr], edge := [], edgeFull := false, lastCycle := some s.cycle }

theorem stepRowEnters_turn : exec .stepRowEnters s =
    .next (if (!s.rowReady s.inp.unit p) = true then s else (rowEntered s p).startPreloads s.inp.unit) := by
  change execStepRowEnters s = _
  rw [execStepRowEnters, hp]
  rfl

theorem stepRowEnters_ready (h : s.rowReady s.inp.unit p = true) : ∃ t q, exec .stepRowEnters s = .next t ∧
    t.stepAt s.inp.unit s.inp.id = some q ∧ q.rowsIn = p.rowsIn + 1 ∧
    q.transit = p.transit ++ [{ row := p.rowsIn, due := s.cycle + 136, sums := s.rowSums s.inp.unit p }] ∧ q.edge = [] ∧
    q.edgeFull = false ∧ q.lastCycle = some s.cycle ∧ t.mem = s.mem := by
  have hentered : (rowEntered s p).stepAt s.inp.unit s.inp.id = _ := State.stepAt_modStep hp fun _ => rfl
  have hstep := ((rowEntered s p).stepAt_startPreloads s.inp.unit s.inp.id).trans (congrArg _ hentered)
  refine ⟨_, _, (stepRowEnters_turn hp).trans (congrArg _ (if_neg (by simp [h]))), hstep, ?_⟩
  obtain ⟨c, hc⟩ := (rowEntered s p).preloading_eq s.inp.unit _
  rw [hc]
  exact ⟨rfl, rfl, rfl, rfl, rfl, rfl⟩

theorem stepRowEnters_waits (h : s.rowReady s.inp.unit p = false) : exec .stepRowEnters s = .next s :=
  (stepRowEnters_turn hp).trans (congrArg _ (if_pos (by simp [h])))

section
variable {tr : Transit} {rest : List Transit} (htr : p.transit = tr :: rest)
include htr

theorem stepRowWritten_turn : exec .stepRowWritten s =
    .next (if (decide (tr.due ≤ s.cycle) && s.rowFree s.inp.unit p.id (p.accRow tr.row)) = true then
      (s.writeRow s.inp.unit p tr).modStep s.inp.unit p.id fun q => { q with transit := rest, rowsOut := q.rowsOut + 1 } else s) := by
  change execStepRowWritten s = _
  rw [execStepRowWritten, hp]
  dsimp only
  rw [htr]

theorem stepRowWritten_due (hdue : tr.due ≤ s.cycle) (hfree : s.rowFree s.inp.unit p.id (p.accRow tr.row) = true) :
    ∃ t, exec .stepRowWritten s = .next t ∧
      t.stepAt s.inp.unit s.inp.id = some { p with transit := rest, rowsOut := p.rowsOut + 1 } := by
  refine ⟨_, (stepRowWritten_turn hp htr).trans (congrArg _ (if_pos (by simp [hdue, hfree]))), ?_⟩
  refine State.stepAt_modStep ?_ fun _ => rfl
  unfold State.stepAt
  rw [State.steps_writeRow]
  exact hp

theorem stepRowWritten_early (hdue : s.cycle < tr.due) : exec .stepRowWritten s = .next s :=
  (stepRowWritten_turn hp htr).trans (congrArg _ (if_neg (by simp [Nat.not_le.2 hdue])))

end

/-- R190: the tile without the step, its sounding record written. -/
def stepGone (s : State) (p : Step) : State :=
  (s.soundEnd s.inp.unit p).modTile s.inp.unit fun ti => { ti with steps := ti.steps.filter fun q => q.id != p.id }

theorem stepComplete_turn : exec .stepComplete s = .next (if (!s.stepOver s.inp.unit p) = true then s
    else (((stepGone s p).retireOp p.id).lowerCensus p.launch 0).startPreloads s.inp.unit) := by
  change execStepComplete s = _
  rw [execStepComplete, hp]
  rfl

theorem stepComplete_over (h : s.stepOver s.inp.unit p = true) : ∃ t, exec .stepComplete s = .next t ∧
    t.stepAt s.inp.unit s.inp.id = none ∧ returnedOp t s.inp.id ∧ itemEnded s t p.launch := by
  have hid := State.stepAt_id hp
  refine ⟨_, (stepComplete_turn hp).trans (congrArg _ (if_neg (by simp [h]))), ?_, fun k o ho => ?_, fun L hL => ?_⟩
  · have hgone : (stepGone s p).stepAt s.inp.unit s.inp.id = none := by
      unfold State.stepAt stepGone
      rw [State.tile_modTile, List.find?_eq_none, hid]
      exact fun q hq => by simpa using (List.mem_filter.1 hq).2
    have hsame : (((stepGone s p).retireOp p.id).lowerCensus p.launch 0).stepAt s.inp.unit s.inp.id = none := by
      unfold State.stepAt at hgone ⊢
      rw [State.tile_lowerCensus, State.tile_retireOp, hgone]
    rw [State.stepAt_startPreloads, hsame]
    rfl
  · rw [State.slot_startPreloads, State.slot_lowerCensus] at ho
    exact hid ▸ returnedOp_retireOp _ _ k o ho
  · have hlaunches : ((stepGone s p).retireOp p.id).launches = s.launches := s.soundEnd_launches _ _
    exact congrArg Launch.census (State.launch_lowerCensus _ ((congrArg (Tab.find? · p.launch) hlaunches).trans hL))

theorem stepComplete_waits (h : s.stepOver s.inp.unit p = false) : exec .stepComplete s = .next s :=
  (stepComplete_turn hp).trans (congrArg _ (if_pos (by simp [h])))

end

/-! ## Scale-accumulate (R191, R194) -/

section
variable {s : State}

/-- R194: the walk of an SCACC, and the tile without it. -/
def scaccGone (s : State) (a : Scacc) : State :=
  (s.scaccWalk s.inp.unit a).modTile s.inp.unit fun ti => { ti with scaccs := ti.scaccs.filter fun b => b.id != a.id }

theorem scaccDone_free {a : Scacc} (ha : ((s.tile s.inp.unit).scaccs.find? fun a => a.id == s.inp.id) = some a)
    (hstored : s.slotStored a.k a.id = true)
    (hfree : ∀ r < a.nrows, s.rowFree s.inp.unit a.id ((a.src + r) % 2048) = true ∧ s.rowFree s.inp.unit a.id ((a.dst + r) % 2048) = true) :
    ∃ t, exec .scaccDone s = .next t ∧ (∀ b ∈ (t.tile s.inp.unit).scaccs, b.id ≠ s.inp.id) ∧ returnedOp t s.inp.id := by
  have hid : a.id = s.inp.id := by simpa using List.find?_some ha
  have hrows : ((List.range a.nrows).all fun r => s.rowFree s.inp.unit a.id ((a.src + r) % 2048) &&
      s.rowFree s.inp.unit a.id ((a.dst + r) % 2048)) = true := by simpa using hfree
  refine ⟨(scaccGone s a).retireOp a.id, ?_, fun b hb => ?_, hid ▸ returnedOp_retireOp _ _⟩
  · change execScaccDone s = _
    rw [execScaccDone]
    dsimp only
    rw [ha]
    exact congrArg _ (if_pos (by rw [hstored, hrows]; rfl))
  · have hgone : (scaccGone s a).tile s.inp.unit = _ := State.tile_modTile ..
    rw [State.tile_retireOp, hgone] at hb
    simpa [hid] using (List.mem_filter.1 hb).2

/-! ## Planes (R195-R198) -/

theorem tcfgLoadDone_turn {op img due : Nat} {rest : List (Nat × Nat × Nat)}
    (h : (s.seg s.inp.unit s.inp.x).loads = (op, img, due) :: rest) : exec .tcfgLoadDone s =
      .next (if s.cycle < due then s else (s.modSeg s.inp.unit s.inp.x fun sg => { sg with
        shadow := (s.loadPlane s.inp.unit img s.inp.x).getD { valid := false, img := img }, loads := rest }).planeDone s.inp.unit op) := by
  change execTcfgLoadDone s = _
  rw [execTcfgLoadDone]
  dsimp only
  rw [h]

theorem segmentSwitch_ready {w : Swap} {rest : List Swap} (hw : (s.seg s.inp.unit s.inp.x).swaps = w :: rest)
    (h : s.switchReady s.inp.unit s.inp.x = true) :
    exec .segmentSwitch s = .next ((s.modSeg s.inp.unit s.inp.x Seg.swapped).planeDone s.inp.unit w.op) := by
  refine congrArg Host.Outcome.next ((if_pos h).trans ?_)
  rw [hw]

theorem swapped_eq {sg : Seg} {w : Swap} {rest : List Swap} (h : sg.swaps = w :: rest) : sg.swapped =
    ({ sg with active := sg.shadow, shadow := sg.active, swaps := rest, turns := sg.turns + 1 } : Seg).settle := by
  rw [Seg.swapped, h]
  rfl

/-- R197, R198: the segment once its drain is over. -/
def drainOver (sg : Seg) : Seg :=
  { sg with mode := if ((sg.drains.any fun d => d.open_) || sg.swaps.any fun w => w.late) = true then 0 else 2, drains := [],
            swaps := sg.swaps.map fun w => { w with late := false } }

section
variable {sg : Seg} (hsg : s.seg s.inp.unit s.inp.x = sg) (hmode : sg.mode = 1)
include hsg hmode

theorem drainEmpty_over (htokens : sg.tokens = []) (hreplay : sg.replay = []) (htrap : sg.trapped = none)
    (hheld : s.segHeld s.inp.unit s.inp.x = false) :
    ∃ t : State, exec .drainEmpty s = .next (t.switchAll s.inp.unit) ∧ t.seg s.inp.unit s.inp.x = drainOver sg := by
  subst hsg
  refine ⟨(s.seg s.inp.unit s.inp.x).drains.foldl (fun u d => u.planeDone s.inp.unit d.op) (s.modSeg s.inp.unit s.inp.x drainOver),
    congrArg Host.Outcome.next ((if_neg ?_).trans ?_), ?_⟩
  · simp [hmode, Seg.empty, htokens, hreplay, htrap]
  · rw [hheld, Bool.not_false, Bool.and_true]
    rfl
  · have hkeeps := foldl_keeps (State.tile · s.inp.unit) (fun (u : State) (d : SegWord) => u.tile_planeDone s.inp.unit d.op s.inp.unit)
      (s.seg s.inp.unit s.inp.x).drains (s.modSeg s.inp.unit s.inp.x drainOver)
    exact (congrArg (fun ti : Tile => Tab.get ({} : Seg) ti.segs s.inp.x) hkeeps).trans (State.seg_modSeg ..)

theorem drainEmpty_full (htokens : sg.tokens ≠ []) : exec .drainEmpty s = .next s := by
  subst hsg
  exact congrArg Host.Outcome.next (if_pos (by simp [hmode, Seg.empty, htokens]))

end

/-! ## Sites and exits (R297-R305) -/

theorem siteFire_site (ha : s.inp.a < 96) (hs : isSite s.inp.x s.inp.a = true) :
    exec .siteFire s = .next ((s.fireSite s.inp.unit s.inp.x s.inp.a).switchAll s.inp.unit) :=
  congrArg (fun t : State => Host.Outcome.next (t.switchAll s.inp.unit)) ((if_pos ha).trans (if_pos hs))

theorem siteFire_enters (ha : s.inp.a = 96) :
    exec .siteFire s = .next ((s.enterSeg s.inp.unit s.inp.x s.inp.b).switchAll s.inp.unit) :=
  congrArg (fun t : State => Host.Outcome.next (t.switchAll s.inp.unit)) ((if_neg (by omega)).trans (if_pos ha))

theorem siteFire_exits (ha : 96 < s.inp.a) (he : s.inp.a ∈ segExits s.inp.x) :
    exec .siteFire s = .next ((s.exitSeg s.inp.unit s.inp.x s.inp.a).switchAll s.inp.unit) :=
  congrArg (fun t : State => Host.Outcome.next (t.switchAll s.inp.unit))
    ((if_neg (by omega)).trans ((if_neg (by omega)).trans (if_pos (List.contains_iff_mem.2 he))))

section
variable {t g site : Nat} {f : Firing}

/-- R200, R305: nothing keeps the site of a loaded plane from firing. -/
def siteFree (s : State) (t g site : Nat) : Prop :=
  (!(s.seg t g).active.valid || ((s.seg t g).waiting.any fun w => w.1 == site) || (s.seg t g).trapped.any fun h => h.site == site) = false

theorem siteFree_of (hvalid : (s.seg t g).active.valid = true) (hwaiting : site ∉ (s.seg t g).waiting.map Prod.fst)
    (htrap : (s.seg t g).trapped = none) : siteFree s t g site := by
  have hany : ((s.seg t g).waiting.any fun w => w.1 == site) = false := by
    rw [← Bool.not_eq_true, List.any_eq_true]
    rintro ⟨w, hw, he⟩
    exact hwaiting (List.mem_map.2 ⟨w, hw, by simpa using he⟩)
  simp [siteFree, hvalid, hany, htrap]

variable (hfree : siteFree s t g site) (hf : s.firing t g site = some f)
include hfree hf

theorem fireSite_full (hr : (s.seg t g).room site f = false) : s.fireSite t g site = s := by
  refine (if_neg (ne_true_of_eq_false hfree)).trans ?_
  rw [hf]
  exact if_pos (by simp [hr])

variable (hr : (s.seg t g).room site f = true)
include hr

theorem fireSite_plain (hc : f.cause = 0) : s.fireSite t g site = s.fireWith t g site f f.result f.tally := by
  refine (if_neg (ne_true_of_eq_false hfree)).trans ?_
  rw [hf]
  exact (if_neg (by simp [hr])).trans (if_pos hc)

variable (hc : f.cause ≠ 0)
include hc

theorem fireSite_poisons (hm : ((s.seg t g).active.site site).mode = 0) : s.fireSite t g site =
    s.fireWith t g site f (f.result.map fun e => (e.1, { e.2 with poison := true, origin := site })) f.tally := by
  refine (if_neg (ne_true_of_eq_false hfree)).trans ?_
  rw [hf]
  refine (if_neg (by simp [hr])).trans ((if_neg hc).trans ?_)
  generalize ((s.seg t g).active.site site).mode = m at hm ⊢
  subst hm
  rfl

theorem fireSite_saturates (hm : ((s.seg t g).active.site site).mode = 1) : s.fireSite t g site =
    let fmt := (s.tile t).fmtOf ((f.result.map Prod.snd).getD {}).seq
    let tout := ((s.seg t g).active.site site).tout
    s.fireWith t g site f (f.result.map fun e => (e.1, { e.2 with val := satCode fmt tout f.cause f.neg })) .sat := by
  refine (if_neg (ne_true_of_eq_false hfree)).trans ?_
  rw [hf]
  refine (if_neg (by simp [hr])).trans ((if_neg hc).trans ?_)
  generalize ((s.seg t g).active.site site).mode = m at hm ⊢
  subst hm
  rfl

theorem fireSite_holds (hm : 2 ≤ ((s.seg t g).active.site site).mode) :
    s.fireSite t g site = s.holdSite t g site f s.mtime.toNat := by
  refine (if_neg (ne_true_of_eq_false hfree)).trans ?_
  rw [hf]
  refine (if_neg (by simp [hr])).trans ((if_neg hc).trans ?_)
  generalize ((s.seg t g).active.site site).mode = m at hm ⊢
  obtain ⟨n, rfl⟩ := Nat.exists_eq_add_of_le' hm
  rfl

end

/-- R200, R305: the first trapped site of its segment. -/
theorem seg_holdSite {t g site n : Nat} {f : Firing} (htrap : (s.seg t g).trapped = none) : (s.holdSite t g site f n).seg t g =
    { s.seg t g with trapped := some { site := site, seq := ((f.result.map Prod.snd).getD {}).seq } } := by
  unfold State.holdSite
  dsimp only
  rw [htrap, if_neg (by simp)]
  unfold State.seg
  rw [State.tile_noteTrap]
  refine (State.seg_modSeg ..).trans ?_
  unfold State.seg
  rw [State.tile_writeRun]

end

/-- Settles O50: each event is its turn's equation, by whether what it waits for is there. -/
theorem arrayEvents : Obligations.ArrayEvents := by
  unfold Obligations.ArrayEvents
  intro s T ti id g sg withSeg step
  refine ⟨fun h u a e c hi => stepArm_eq hi (.inl ⟨_, _, _, _, _, rfl⟩), fun h u a e c hi => stepArm_eq hi (.inr ⟨_, _, _, _, _, rfl⟩),
    fun p hp => ⟨stepPreloadDone_over hp, stepRowEnters_ready hp, stepRowEnters_waits hp, fun tr rest => stepRowWritten_due hp,
      fun tr rest => stepRowWritten_early hp, stepComplete_over hp, stepComplete_waits hp⟩,
    fun a ha hs hr => scaccDone_free ha hs hr, ?load, ?switch, ?drain, fun hm ht => drainEmpty_full rfl hm ht, ?fire, siteFire_enters,
    siteFire_exits, fun h => congrArg Host.Outcome.next (if_neg (ne_true_of_eq_false h)), fun h => congrArg Host.Outcome.next (if_pos h)⟩
  case load =>
    intro op img due rest h
    exact ⟨fun hd => (tcfgLoadDone_turn h).trans (congrArg _ (if_pos hd)),
      fun hd => (tcfgLoadDone_turn h).trans (congrArg _ (if_neg (Nat.not_lt.2 hd)))⟩
  case switch =>
    intro w rest hw
    refine ⟨fun h => ?_, fun h => congrArg Host.Outcome.next (if_neg (ne_true_of_eq_false h))⟩
    rw [← swapped_eq hw]
    exact segmentSwitch_ready hw h
  case drain =>
    intro hmode htokens hreplay htrap hheld
    obtain ⟨t, hexec, hseg⟩ := drainEmpty_over rfl hmode htokens hreplay htrap hheld
    refine ⟨t, hexec, hseg.trans (congrArg (fun m => ({ sg with mode := m, drains := [], swaps := _ } : Seg)) ?_)⟩
    exact if_congr ((Bool.or_eq_true ..).to_iff.trans (or_congr List.any_eq_true List.any_eq_true)) rfl rfl
  case fire =>
    intro f ha hsite hvalid hwaiting htrap hf r site
    have hfree := siteFree_of hvalid hwaiting htrap
    have hturn : ∀ t, s.fireSite T g site = t → exec .siteFire s = .next (t.switchAll T) :=
      fun t ht => ht ▸ siteFire_site ha hsite
    refine ⟨fun hr => hturn _ (fireSite_full hfree hf hr), fun hr hc => hturn _ (fireSite_plain hfree hf hr hc),
      fun hr hc hm => hturn _ (fireSite_poisons hfree hf hr hc hm), fun hr hc hm => hturn _ (fireSite_saturates hfree hf hr hc hm),
      fun hr hc hm => ⟨_, hturn _ (fireSite_holds hfree hf hr hc hm), ?_⟩⟩
    have hseg := seg_holdSite (f := f) (site := site) (n := s.mtime.toNat) htrap
    exact ⟨congrArg Seg.trapped hseg, (congrArg Seg.inq hseg :)⟩

end Sys2Proof.Claims
end

section
/-! Trap entry (R233, R234, R245). -/

namespace Sys2Proof.Machine

/-! ## The words of the cycle that were to trap late (R233) -/

/-- The control state before the first of some late words of a stream, `c` where the stream has none: the words are set back
in the order they issued, so the last one set back stands. -/
def ctlSetBack (l : List LateTrap) (y : Nat) (c : Ctl) : Ctl :=
  match l.reverse.find? fun u => u.x == y with
  | some u => u.ctl
  | none => c

theorem ctlSetBack_nil (y : Nat) (c : Ctl) : ctlSetBack [] y c = c := rfl

theorem ctlSetBack_cons (u : LateTrap) (l : List LateTrap) (y : Nat) (c : Ctl) :
    ctlSetBack (u :: l) y c = ctlSetBack l y (if u.x = y then u.ctl else c) := by
  unfold ctlSetBack
  rw [List.reverse_cons, List.find?_append]
  cases l.reverse.find? fun u => u.x == y with
  | some v => rfl
  | none => by_cases h : u.x = y <;> simp [h]

/-- Setting one late word back. -/
def Slot.setBackOne (sl : Slot) (u : LateTrap) : Slot := sl.modStream u.x fun st => { st with ctl := u.ctl, rvCount := u.rv }

theorem Slot.setBackOne_ctl (sl : Slot) (u : LateTrap) (y : Nat) :
    ((sl.setBackOne u).stream y).ctl = if u.x = y then u.ctl else (sl.stream y).ctl := by
  rw [Slot.setBackOne, Slot.modStream_eq]
  by_cases h : u.x = y
  · subst h
    simp
  · rw [Slot.stream_setStream_ne _ _ _ _ (Ne.symm h), if_neg h]

theorem Slot.setBackOne_ended (sl : Slot) (u : LateTrap) (y : Nat) : ((sl.setBackOne u).stream y).ended = (sl.stream y).ended := by
  rw [Slot.setBackOne, Slot.modStream_eq]
  by_cases h : y = u.x
  · subst h
    rw [Slot.stream_setStream]
  · rw [Slot.stream_setStream_ne _ _ _ _ h]

/-- Setting late words back moves streams only: each to before its first late word. -/
theorem Slot.foldl_setBackOne : ∀ (l : List LateTrap) (sl : Slot),
    (∃ streams, l.foldl Slot.setBackOne sl = { sl with streams := streams }) ∧
    ∀ y, ((l.foldl Slot.setBackOne sl).stream y).ctl = ctlSetBack l y (sl.stream y).ctl ∧
      ((l.foldl Slot.setBackOne sl).stream y).ended = (sl.stream y).ended
  | [], sl => ⟨⟨sl.streams, rfl⟩, fun _ => ⟨rfl, rfl⟩⟩
  | u :: l, sl => by
    obtain ⟨⟨streams, hrest⟩, hstream⟩ := Slot.foldl_setBackOne l (sl.setBackOne u)
    refine ⟨⟨streams, hrest⟩, fun y => ?_⟩
    obtain ⟨hctl, hended⟩ := hstream y
    rw [List.foldl_cons]
    exact ⟨by rw [hctl, setBackOne_ctl, ctlSetBack_cons], hended.trans (sl.setBackOne_ended u y)⟩

theorem Slot.setBack_eq (sl : Slot) : ∃ streams, sl.setBack = { sl with late := [], streams := streams } :=
  (Slot.foldl_setBackOne sl.late { sl with late := [] }).1

theorem Slot.setBack_ctl (sl : Slot) (y : Nat) : (sl.setBack.stream y).ctl = ctlSetBack sl.late y (sl.stream y).ctl :=
  ((Slot.foldl_setBackOne sl.late { sl with late := [] }).2 y).1

theorem Slot.setBack_ended (sl : Slot) (y : Nat) : (sl.setBack.stream y).ended = (sl.stream y).ended :=
  ((Slot.foldl_setBackOne sl.late { sl with late := [] }).2 y).2

/-! ## Taking the trap -/

/-- The slot with every stream standing at its word afresh (R245). -/
def Slot.afresh (sl : Slot) : Slot := { sl with streams := sl.streams.map fun p : Nat × Stream => (p.1, p.2.afresh) }

theorem Slot.afresh_ctl (sl : Slot) (y : Nat) : (sl.afresh.stream y).ctl = (sl.stream y).ctl :=
  Tab.get_map_keeps ({} : Stream) sl.streams Stream.afresh y Stream.ctl fun _ => rfl

theorem Slot.afresh_ended (sl : Slot) (y : Nat) : (sl.afresh.stream y).ended = (sl.stream y).ended :=
  Tab.get_map_keeps ({} : Stream) sl.streams Stream.afresh y Stream.ended fun _ => rfl

theorem Slot.afresh_presented (sl : Slot) (y : Nat) : (sl.afresh.stream y).presented = false := by
  unfold Slot.afresh Slot.stream Tab.get
  rw [Tab.find_map]
  cases sl.streams.find? y <;> rfl

section
variable (sl : Slot) (x pc cause : Nat) (aux : Word) (late : Bool)

/-- R234: the slot that a trap inside a handler leaves. -/
theorem Slot.takeTrap_inside (h : sl.trap.inHandler = true) : ∃ streams, sl.takeTrap x pc cause aux late =
    { sl with late := [], streams := streams, phase := .ending, ending := some .doubleTrap
              trap := { sl.trap with cause := BitVec.ofNat 8 cause, stream := BitVec.ofNat 2 x, pc := pc, aux := aux, late := late } } ∧
    streams = sl.setBack.streams := by
  obtain ⟨streams, hback⟩ := sl.setBack_eq
  refine ⟨streams, ?_, by rw [hback]⟩
  unfold Slot.takeTrap
  rw [hback]
  dsimp only
  rw [if_pos h]
  rfl

/-- R233: the slot that a trap outside a handler leaves, before its stream goes to the trap entry. -/
def Slot.trapped : Slot :=
  { sl with
    late := [], streams := sl.setBack.afresh.streams, exposed := false, last := none, rvSince := none
    trap := { sl.trap with cause := BitVec.ofNat 8 cause, inHandler := true, late := late, xsave := sl.exposed
                           stream := BitVec.ofNat 2 x, pc := pc, aux := aux
                           depth := (sl.setBack.stream x).ctl.depth, held := (sl.setBack.stream x).ctl.loops } }

theorem Slot.trapped_stream (y : Nat) : (sl.trapped x pc cause aux late).stream y = sl.setBack.afresh.stream y := rfl

theorem Slot.takeTrap_eq_trapped (h : sl.trap.inHandler = false) : sl.takeTrap x pc cause aux late =
    match sl.task.trapEntry.find? x with
    | none => (sl.trapped x pc cause aux late).beginEnding .faulted
    | some e => (sl.trapped x pc cause aux late).modStream x fun st => { st with ctl := { st.ctl with pc := e, loops := [] }, wait := none } := by
  obtain ⟨streams, hback⟩ := sl.setBack_eq
  unfold Slot.takeTrap Slot.trapped
  rw [hback]
  dsimp only
  rw [if_neg (by simp [h])]
  rfl

/-- R233: the entry is absent. -/
theorem Slot.takeTrap_absent (h : sl.trap.inHandler = false) (he : sl.task.trapEntry.find? x = none) :
    sl.takeTrap x pc cause aux late = (sl.trapped x pc cause aux late).beginEnding .faulted := by
  rw [sl.takeTrap_eq_trapped x pc cause aux late h, he]

/-- R233: the stream goes to its entry. -/
theorem Slot.takeTrap_entered (h : sl.trap.inHandler = false) {e : Nat} (he : sl.task.trapEntry.find? x = some e) :
    sl.takeTrap x pc cause aux late = (sl.trapped x pc cause aux late).setStream x { sl.setBack.afresh.stream x with
      ctl := { (sl.setBack.stream x).ctl with pc := e, loops := [] }, wait := none } := by
  rw [sl.takeTrap_eq_trapped x pc cause aux late h, he, ← sl.setBack.afresh_ctl]
  rfl

end

end Sys2Proof.Machine

namespace Sys2Proof.Claims
open Sys2Proof.Machine

/-- Settles O30: the late words of the cycle are set back, then the stream goes to its trap entry or the task ends. -/
theorem trapEntry : Obligations.TrapEntry := by
  unfold Obligations.TrapEntry
  intro sl x pc cause aux late hx hcause t frame before
  have hbefore : ∀ y, (sl.setBack.stream y).ctl = before y := sl.setBack_ctl
  have hc : (BitVec.ofNat 8 cause).toNat = cause := Nat.mod_eq_of_lt hcause
  have hs : (BitVec.ofNat 2 x).toNat = x := Nat.mod_eq_of_lt hx
  have hafresh : ∀ y, (sl.setBack.afresh.stream y).ctl = before y ∧ (sl.setBack.afresh.stream y).ended = (sl.stream y).ended := fun y =>
    ⟨(sl.setBack.afresh_ctl y).trans (hbefore y), (sl.setBack.afresh_ended y).trans (sl.setBack_ended y)⟩
  cases hin : sl.trap.inHandler with
  | true =>
    obtain ⟨streams, ht, hstreams⟩ := sl.takeTrap_inside x pc cause aux late hin
    have hstream : ∀ y, t.stream y = sl.setBack.stream y := fun y => by simp only [t, ht, hstreams]; rfl
    simp only [hstream, hbefore, sl.setBack_ended]
    simp [frame, t, ht, hc, hs, hin]
  | false =>
    cases he : sl.task.trapEntry.find? x with
    | none =>
      have ht : t = (sl.trapped x pc cause aux late).beginEnding .faulted := sl.takeTrap_absent x pc cause aux late hin he
      have hstream : ∀ y, t.stream y = sl.setBack.afresh.stream y := fun y => by rw [ht]; rfl
      simp only [hstream, hafresh]
      simp [frame, ht, Slot.beginEnding, Slot.trapped, hc, hs, hbefore]
    | some e =>
      have ht : t = (sl.trapped x pc cause aux late).setStream x _ := sl.takeTrap_entered x pc cause aux late hin he
      have hstream : ∀ y, y ≠ x → t.stream y = sl.setBack.afresh.stream y := fun y hy => by
        rw [ht, Slot.stream_setStream_ne _ _ _ _ hy, Slot.trapped_stream]
      have hothers : ∀ y, y ≠ x → (t.stream y).ctl = before y ∧ (t.stream y).ended = (sl.stream y).ended := fun y hy =>
        hstream y hy ▸ hafresh y
      refine ⟨?_, ?_, ?_, ?_, ?_, ?_, ?_, ?_, hothers, ?_⟩
      all_goals simp [frame, ht, Slot.trapped, hc, hs, hbefore, Slot.afresh_presented]

end Sys2Proof.Claims
end

section
/-! The words of copy-engine command programs (R208, R217-R223). -/

namespace Sys2Proof.Machine

/-! ## What a word of a command program leaves of its command (R54, R208, R213) -/

/-- A command that passes a word goes on as any program that is not a control core's. -/
theorem Job.pass_eq (j : Job) (len : Nat) :
    j.pass len = { j with prog := Claims.passedProg j.prog len j.prog.regs j.prog.preds } := by
  have hview : (fun g => lane0 (j.prog.view.pred g)) = fun g => readBit j.prog.preds g := funext fun _ => lane0_lanesOf _
  unfold Job.pass
  dsimp only
  rw [hview]
  rfl

theorem State.copyWord_command {s : State} {id : Nat} (hc : s.cur = .command id) (hb : (s.job id).busy = false) (h : Grd) (len : Nat)
    (f : State → Job → View → CRes) : s.copyWord h len f = s.setJob id ((s.job id).copyWord h len (f s)) := by
  have hs : (s.job id).started = true := by
    simp only [Job.busy, Bool.or_eq_false_iff, Bool.not_eq_false'] at hb
    exact hb.1.1.1.1
  simp [State.copyWord, hc, hb, hs]

theorem Job.copyWord_skips {j : Job} {h : Grd} (hg : (readBit j.prog.preds h.g != h.n) = false) (len : Nat) (f : Job → View → CRes) :
    j.copyWord h len f = { j with prog := Claims.passedProg j.prog len j.prog.regs j.prog.preds } := by
  rw [Job.copyWord, Prog.view_guard, hg, Job.pass_eq]
  rfl

end Sys2Proof.Machine

namespace Sys2Proof.Claims
open Sys2Proof.Machine

/-- The model's answer for what a word of a copy command does. -/
def Moves.res : Moves → CRes
  | .none => .ok []
  | .data w old => .fly w old
  | .link b n => .link b n
  | .unlinks => .unlink
  | .fails st => .fail st

theorem Moves.res_ite (p : Prop) [Decidable p] (m n : Moves) : (if p then m else n).res = if p then m.res else n.res :=
  apply_ite Moves.res p m n

/-- The command that a word of `len` words leaves (R208, R213, R223). -/
def Moves.leaves (j : Job) (len : Nat) : Moves → Job
  | .none => { j with prog := passedProg j.prog len j.prog.regs j.prog.preds }
  | .data w old => { j with prog := passedProg j.prog len j.prog.regs j.prog.preds
                            flights := j.flights ++ [{ word := j.prog.ctl.pc, work := w, reg := old }] }
  | .link b n => { j with prog := passedProg j.prog len j.prog.regs j.prog.preds, link := some (b, n) }
  | .unlinks => { j with stop := some 5, badWord := j.prog.ctl.pc, badOff := 0, link := Option.none }
  | .fails st => { j with stop := some st, badWord := j.prog.ctl.pc, badOff := 0 }

/-- A word that answers as `m` says leaves the command as `m` says. -/
theorem copyWord_res {j : Job} {h : Grd} (hg : (readBit j.prog.preds h.g != h.n) = true) (len : Nat) (f : Job → View → CRes) (m : Moves)
    (hf : f j j.prog.view = m.res) : j.copyWord h len f = m.leaves j len := by
  rw [Job.copyWord, Prog.view_guard, hg, hf, Job.pass_eq]
  cases m <;> rfl

theorem copyRuns_of {i : Instr} {g : Grd} {len : Nat} {f : State → Job → View → CRes} {mv : State → Job → (BitVec 5 → Word) → Moves}
    (hx : ∀ s, exec i s = .next (s.copyWord g len f)) (hf : ∀ s j (v : View), f s j v = (mv s j v.reg).res) : CopyRuns i g len mv := by
  intro s id hc hb
  have hrun : exec i s = .next (s.setJob id ((s.job id).copyWord g len (f s))) := by rw [hx, State.copyWord_command hc hb]
  refine ⟨fun hg => ?passed, fun hg => ?active⟩
  case passed => rw [hrun, Job.copyWord_skips (Bool.eq_false_of_not_eq_true hg)]
  case active =>
    rw [hrun, copyWord_res hg len (f s) (mv s (s.job id) (readScalar (s.job id).prog.regs)) (hf _ _ _)]
    cases mv s (s.job id) (readScalar (s.job id).prog.regs) <;> rfl

/-! ## The answer of each word (R217-R223) -/

theorem pitches_eq (v : Word) : pitches v = (sourcePitch v, targetPitch v) := by
  have code : ∀ u : BitVec 32, fromCode true 32 u.toNat = u.toInt := fun u => by
    rw [fromCode, BitVec.toInt_eq_msb_cond, BitVec.msb_eq_decide]
    rfl
  have low : fld v.toNat 0 32 = (v.extractLsb' 0 32).toNat := by
    rw [fld_eq, BitVec.extractLsb'_toNat, Nat.shiftRight_eq_div_pow]
  have high : fld v.toNat 32 32 = (v.extractLsb' 32 32).toNat := by
    rw [fld_eq, BitVec.extractLsb'_toNat, Nat.shiftRight_eq_div_pow]
  rw [pitches, low, high, code, code]
  rfl

theorem cpyRes_eq (d a n : Word) (rows planes : Nat) (row plane : Word) :
    cpyRes d a n rows planes row plane = (copies d a n rows planes row plane).res := by
  simp only [cpyRes, copies, pitches_eq, Moves.res_ite]
  rfl

theorem fillRes_eq (d n : Word) (z : Nat) (pattern : Word) (c : BitVec 5) (v p : Word) :
    fillRes d n z pattern (c == 0) v p = (fills d n z pattern (c = 0) v p).res := by
  simp only [fillRes, fills, pitches_eq, Moves.res_ite, Bool.or_eq_true, bne_iff_ne, beq_iff_eq, fld_eq, pow_zero, Nat.div_one]
  rfl

theorem rmwRes_eq (d : Word) (r : Rmw) (wake : Bool) (old : Option (BitVec 5)) :
    rmwRes d r wake old = (element d r r.size wake old).res := by
  simp only [rmwRes, element, Moves.res_ite, bne_iff_ne]
  rfl

theorem gatherRes_eq (scatter wide : Bool) (d a b : Word) (z : Nat) (c : Word) :
    gatherRes scatter wide d a b z c = (gathers scatter wide d a b z c).res := by
  simp only [gatherRes, gathers, Moves.res_ite, Bool.or_eq_true, bne_iff_ne, fld_eq, pow_zero, Nat.div_one, or_assoc]
  rfl

theorem accRes_eq (op : Nat) (d a n : Word) : accRes op d a n =
    (if d.toNat % elementBytes op ≠ 0 ∨ a.toNat % elementBytes op ≠ 0 ∨ n.toNat % elementBytes op ≠ 0 ∨ 2 ^ 24 < n.toNat then Moves.fails 2
      else if n = 0 then .none else .data (.acc op (va56 d) (va56 a) n.toNat) none).res := by
  simp only [accRes, Moves.res_ite, Bool.or_eq_true, bne_iff_ne, decide_eq_true_eq, or_assoc]
  rfl

theorem members_eq (s : State) (g : Nat) : s.members g = membersOf s g := by
  unfold State.members membersOf
  cases s.groups.find? g <;> rfl

theorem castFits_iff (o a n : Nat) : ¬ castFits o a n ↔
    (o % 64 != 0 || a % 64 != 0 || n % 64 != 0 || decide (0x1000000 ≤ o) || (tilePart o).isNone ||
      (n != 0 && tilePart (o + n - 1) != tilePart o) || decide (0x1000000 < o + n)) = true := by
  simp only [castFits, Bool.or_eq_true, Bool.and_eq_true, bne_iff_ne, decide_eq_true_eq, not_and_or, Classical.not_imp, not_le, not_lt,
    Option.isNone_iff_eq_none, Option.not_isSome_iff_eq_none, or_assoc, ne_eq]

theorem mcastRes_eq (s : State) (d a n : Word) (g : Nat) : mcastRes s d a n g =
    (if ¬ castFits d.toNat a.toNat n.toNat then Moves.fails 2 else if membersOf s g = [] then .fails 7 else if n = 0 then .none
      else .data (.mcast (va56 a) n.toNat d.toNat (membersOf s g)) none).res := by
  have hn : (n != 0) = (n.toNat != 0) := by
    rw [Bool.eq_iff_iff, bne_iff_ne, bne_iff_ne, ne_eq, ne_eq, BitVec.toNat_eq]
    rfl
  simp only [mcastRes, Moves.res_ite, castFits_iff, hn, members_eq, List.isEmpty_iff]
  rfl

theorem linkRes_eq (j : Job) (d : Word) (n : Nat) : linkRes j d n =
    (if j.mac.isSome = true ∨ d.toNat % 128 ≠ 0 ∨ ¬ ringSize n then Moves.unlinks else .link (va56 d) n).res := by
  have hring : (!(List.range 13).any fun i => n == 2 ^ (i + 4)) = true ↔ ¬ ringSize n := by
    simp [ringSize]
  simp only [linkRes, Moves.res_ite, Bool.or_eq_true, bne_iff_ne, hring, or_assoc]
  rfl

/-- R223: SEQ writes the sequence with which the command completes. -/
theorem seq_writes {s : State} {id : Nat} (g : Grd) (d : BitVec 5) (hc : s.cur = .command id) (hb : (s.job id).busy = false)
    (hg : (readBit (s.job id).prog.preds g.g != g.n) = true) :
    let j := s.job id
    let regs := if d = 0 then j.prog.regs else j.prog.regs.set d.toNat (BitVec.ofNat 64 j.seq)
    exec (.seq g d) s = .next (s.setJob id { j with prog := passedProg j.prog 1 regs j.prog.preds }) := by
  change Host.Outcome.next (s.copyWord g 1 _) = _
  rw [State.copyWord_command hc hb, Job.copyWord, Prog.view_guard, hg, Job.pass_eq]
  rfl

/-- Settles O41: each word answers as its table entry says. -/
theorem copyProgramWords : Obligations.CopyProgramWords := by
  unfold Obligations.CopyProgramWords
  intro g d a b c p z o x m n
  refine ⟨copyRuns_of (fun _ => rfl) fun _ _ _ => cpyRes_eq .., copyRuns_of (fun _ => rfl) fun _ _ _ => ?cpy2d,
    copyRuns_of (fun _ => rfl) fun _ _ v => ?cpy3d, copyRuns_of (fun _ => rfl) fun _ _ _ => fillRes_eq ..,
    copyRuns_of (fun _ => rfl) fun _ _ _ => fillRes_eq .., copyRuns_of (fun _ => rfl) fun _ _ _ => accRes_eq ..,
    copyRuns_of (fun _ => rfl) fun _ _ _ => rmwRes_eq .., copyRuns_of (fun _ => rfl) fun _ _ _ => rmwRes_eq ..,
    copyRuns_of (fun _ => rfl) fun _ _ _ => rmwRes_eq .., copyRuns_of (fun _ => rfl) fun _ _ _ => gatherRes_eq ..,
    copyRuns_of (fun _ => rfl) fun _ _ _ => gatherRes_eq .., copyRuns_of (fun _ => rfl) fun _ _ _ => mcastRes_eq ..,
    copyRuns_of (fun _ => rfl) fun _ _ _ => rmwRes_eq .., copyRuns_of (fun _ => rfl) fun _ _ _ => linkRes_eq ..,
    fun _ _ => seq_writes g d⟩
  case cpy2d => rw [cpyRes_eq, Moves.res_ite]; rfl
  case cpy3d v =>
    have hplanes : fld (v.reg c).toNat 32 32 = (v.reg c).toNat / 2 ^ 32 := fld_top (v.reg c).isLt
    rw [cpyRes_eq, hplanes, fld_eq, pow_zero, Nat.div_one]

end Sys2Proof.Claims
end

section
/-! Chains: registration, entry reads and completions in order (R208-R213, R223, R456). -/

namespace Sys2Proof.Machine

/-! ## What a write to memory leaves (R175, R332) -/

/-- States that differ in the memory, its marks, and what cairns have saved alone. -/
def memoryOnly (a b : State) : Prop :=
  ∃ mem marks slots saved free, b = { a with mem := mem, marks := marks, slots := slots, saved := saved, cairnFree := free }

theorem memoryOnly.refl (a : State) : memoryOnly a a := ⟨_, _, _, _, _, rfl⟩

theorem memoryOnly.trans {a b c : State} (h : memoryOnly a b) (h' : memoryOnly b c) : memoryOnly a c := by
  obtain ⟨_, _, _, _, _, rfl⟩ := h
  obtain ⟨mem, marks, slots, saved, free, rfl⟩ := h'
  exact ⟨mem, marks, slots, saved, free, rfl⟩

theorem memoryOnly.foldl {α : Type} {f : State → α → State} (h : ∀ s e, memoryOnly s (f s e)) (l : List α) (s : State) :
    memoryOnly s (l.foldl f s) := by
  induction l generalizing s with
  | nil => exact .refl s
  | cons e l ih => exact (h s e).trans (ih _)

theorem State.cairnSave_memoryOnly (s : State) (loc : Nat) : memoryOnly s (s.cairnSave loc) := by
  refine memoryOnly.foldl (fun t n => memoryOnly.trans (b := t.cairnSaveSlots n loc) ?slots ?saved) _ s
  case slots =>
    refine memoryOnly.foldl (fun u p => ?_) _ t
    dsimp only
    split
    · exact .refl u
    · exact ⟨_, _, _, _, _, rfl⟩
  case saved => exact memoryOnly.foldl (fun u p => ⟨_, _, _, _, _, rfl⟩) _ _

theorem State.rawLocs_memoryOnly (s : State) (l : List (Nat × Byte)) : memoryOnly s (s.rawLocs l) := ⟨_, _, _, _, _, rfl⟩

/-- R175: a state whose cairns have saved what a write is about to change. -/
def State.savedFor (s : State) (l : List (Nat × Byte)) : State :=
  if !s.cairnHolders.isEmpty then l.foldl (fun s p => s.cairnSave p.1) s else s

theorem State.writeLocs_eq (s : State) (l : List (Nat × Byte)) : s.writeLocs l = (s.savedFor l).rawLocs l := rfl

theorem State.writeLocs_memoryOnly (s : State) (l : List (Nat × Byte)) : memoryOnly s (s.writeLocs l) := by
  have hsaved : memoryOnly s (s.savedFor l) := by
    unfold State.savedFor
    split
    · refine memoryOnly.foldl (fun t p => ?_) l s
      exact t.cairnSave_memoryOnly p.1
    · exact .refl s
  rw [State.writeLocs_eq]
  exact hsaved.trans ((s.savedFor l).rawLocs_memoryOnly l)

section
variable (s : State)

@[simp] theorem State.writeRun_jobs (a : Nat) (bs : List Byte) : (s.writeRun a bs).jobs = s.jobs := by
  obtain ⟨_, _, _, _, _, h⟩ := s.writeLocs_memoryOnly (bs.zipIdx.map fun p => (a + p.2, p.1))
  rw [State.writeRun, h]

@[simp] theorem State.writeRun_chains (a : Nat) (bs : List Byte) : (s.writeRun a bs).chains = s.chains := by
  obtain ⟨_, _, _, _, _, h⟩ := s.writeLocs_memoryOnly (bs.zipIdx.map fun p => (a + p.2, p.1))
  rw [State.writeRun, h]

@[simp] theorem State.modLaunch_jobs (n : Nat) (f : Launch → Launch) : (s.modLaunch n f).jobs = s.jobs := by
  obtain ⟨l, h⟩ := s.modLaunch_eq n f
  rw [h]

@[simp] theorem State.modLaunch_chains (n : Nat) (f : Launch → Launch) : (s.modLaunch n f).chains = s.chains := by
  obtain ⟨l, h⟩ := s.modLaunch_eq n f
  rw [h]

@[simp] theorem State.raiseCensus_jobs (n k : Nat) : (s.raiseCensus n k).jobs = s.jobs := s.modLaunch_jobs ..
@[simp] theorem State.raiseCensus_chains (n k : Nat) : (s.raiseCensus n k).chains = s.chains := s.modLaunch_chains ..
@[simp] theorem State.lowerCensus_jobs (n k : Nat) : (s.lowerCensus n k).jobs = s.jobs := s.modLaunch_jobs ..
@[simp] theorem State.lowerCensus_chains (n k : Nat) : (s.lowerCensus n k).chains = s.chains := s.modLaunch_chains ..

@[simp] theorem State.send_jobs (i type : Nat) (d : List Byte) : (s.send i type d).jobs = s.jobs := by
  obtain ⟨o, h, e⟩ := s.send_portOnly i type d
  rw [e]

@[simp] theorem State.send_chains (i type : Nat) (d : List Byte) : (s.send i type d).chains = s.chains := by
  obtain ⟨o, h, e⟩ := s.send_portOnly i type d
  rw [e]

@[simp] theorem State.send_mem (i type : Nat) (d : List Byte) : (s.send i type d).mem = s.mem := by
  obtain ⟨o, h, e⟩ := s.send_portOnly i type d
  rw [e]

@[simp] theorem State.event_jobs (d : List Byte) : (s.event d).jobs = s.jobs := s.send_jobs ..
@[simp] theorem State.event_chains (d : List Byte) : (s.event d).chains = s.chains := s.send_chains ..
@[simp] theorem State.tell_jobs (ws : List Nat) : (s.tell ws).jobs = s.jobs := rfl
@[simp] theorem State.tell_chains (ws : List Nat) : (s.tell ws).chains = s.chains := rfl

theorem State.jobTouch_unitsOnly (j : Job) (vas : List Nat) : unitsOnly s (s.jobTouch j vas) := by
  unfold State.jobTouch
  split
  · exact .refl s
  · exact s.touchAll_unitsOnly ..

end

/-! ## Registration (R211) -/

/-- The chain that the pilot is asked to register, in one record. -/
theorem State.askedChain_eq (s : State) : s.askedChain = { ccb := s.inp.a, engine := s.inp.unit, pilot := s.inp.x == 1
                                                           launch := if s.inp.x = 0 then s.inp.c else 0
                                                           asid := if s.inp.x = 0 then (s.launch s.inp.c).asid
                                                             else if s.inp.x = 1 then s.inp.b % 256 else (s.hqueue s.inp.c).asid } := by
  unfold State.askedChain
  dsimp only
  split
  · next h => simp [h]
  · split
    · next h => simp [h]
    · next h' => simp [h']

/-- R211: a control block in one piece of this package. -/
theorem State.blockAt_ok {s : State} {id l n : Nat} {c : Chain} {rest : List (Nat × Nat)}
    (hreach : s.jobReach (c.job id) .both (spanOf c.ccb 64) = .ok ((l, n) :: rest)) (hnear : isRemote l = false)
    (hrun : ((l, n) :: rest).map Prod.fst = (List.range 64).map (l + ·)) : s.blockAt id c = .ok ((l, n) :: rest) := by
  unfold State.blockAt
  rw [hreach]
  simp only [List.headD_cons, hnear, hrun, Bool.false_or, bne_self_eq_false, Bool.false_eq_true, if_false]

/-! ## Entries (R209, R212) -/

/-- What an engine that reads no other package's bytes reads: whatever comes with the event does not matter. -/
theorem State.jobReadFrom_near {s : State} {j : Job} {vas : List Nat} {locs : List (Nat × Nat)} (hreach : s.jobReach j .read vas = .ok locs)
    (hnear : ∀ p ∈ locs, isRemote p.1 = false) (far far' : List Byte) : s.jobReadFrom j far vas = s.jobReadFrom j far' vas := by
  have hany : (locs.any fun p => isRemote p.1) = false := by simpa using hnear
  simp only [State.jobReadFrom, hreach, hany, Bool.false_eq_true, if_false]

section
variable (s : State) (id : Nat) (c : Chain)

/-- R212: starting the command of an entry moves the head and adds one command. -/
theorem State.entryStarts_chains (j : Job) :
    (s.entryStarts id c j).chains = s.chains.set id { c with head := (c.head + 1) % 2 ^ 32 } := by
  unfold State.entryStarts
  rw [State.raiseCensus_chains, State.writeRun_chains]
  rfl

theorem State.entryStarts_job (j : Job) : (s.entryStarts id c j).job s.nextId = j := by
  unfold State.entryStarts State.job
  rw [State.raiseCensus_jobs, State.writeRun_jobs]
  exact Tab.get_set ..

/-- R353, R456: a chain that waits for service has its record sent, and nothing else changes. -/
theorem State.chainWaits_keeps (seq va cause acc asid : Nat) :
    (s.chainWaits id c seq va cause acc asid).chains = s.chains.set id { c with wait := some va } ∧
    (s.chainWaits id c seq va cause acc asid).jobs = s.jobs ∧ (s.chainWaits id c seq va cause acc asid).mem = s.mem := by
  unfold State.chainWaits
  exact ⟨congrArg (fun t : Tab Chain => t.set id _) (s.send_chains ..), s.send_jobs .., s.send_mem ..⟩

end

/-! ## Completions (R213, R223) -/

/-- The chain once its command `j` has completed: DONE is its sequence, and a LINK has moved the ring. -/
def Chain.completed (c : Chain) (j : Job) : Chain :=
  match j.link with
  | some (b, n) => { c with base := b, size := n, bias := (j.index + 1) % 2 ^ 32, done := j.seq }
  | none => { c with done := j.seq }

theorem State.chainDone_keeps (s : State) (id : Nat) (c : Chain) (j : Job) (written : Bool) :
    (s.chainDone id c j written).chains = s.chains.set j.chain (c.completed j) ∧ (s.chainDone id c j written).jobs = s.jobs.del id := by
  unfold State.chainDone Chain.completed
  simp only [State.lowerCensus_chains, State.lowerCensus_jobs, apply_ite State.chains, apply_ite State.jobs, State.tell_chains,
    State.tell_jobs, State.event_chains, State.event_jobs, ite_self, State.writeRun_chains, State.writeRun_jobs]
  cases j.link with
  | none => exact ⟨rfl, rfl⟩
  | some p => exact ⟨by simp, by simp⟩

end Sys2Proof.Machine

namespace Sys2Proof.Claims
open Sys2Proof.Machine

section
variable {s : State}

/-- R211: a refused block, and one that is registered. -/
theorem chainRegister_refuses {l n : Nat} {rest : List (Nat × Nat)} (hblock : s.blockAt s.inp.id s.askedChain = .ok ((l, n) :: rest))
    (h : (s.chains.find? s.inp.id).isSome = true ∨ ccbRefused (Memory.readLe s.mem (l + 0) 8) (Memory.readLe s.mem (l + 8) 4)
      (Memory.readLe s.mem (l + 24) 8) (Memory.readLe s.mem (l + 42) 22) = true) :
    exec .chainRegister s = .next { s with refusals := s.refusals ++ [(s.inp.x, s.inp.c, s.inp.a)] } := by
  change Host.Outcome.next _ = _
  simp only [hblock, List.headD_cons, Bool.or_eq_true, if_pos h]

theorem chainRegister_registers {l n : Nat} {rest : List (Nat × Nat)} (hblock : s.blockAt s.inp.id s.askedChain = .ok ((l, n) :: rest))
    (h : ¬ ((s.chains.find? s.inp.id).isSome = true ∨ ccbRefused (Memory.readLe s.mem (l + 0) 8) (Memory.readLe s.mem (l + 8) 4)
      (Memory.readLe s.mem (l + 24) 8) (Memory.readLe s.mem (l + 42) 22) = true)) :
    exec .chainRegister s = .next { s.writeRun (l + 40) [BitVec.ofNat 8 s.askedChain.asid, BitVec.ofNat 8 s.askedChain.pilot.toNat] with
      chains := s.chains.set s.inp.id { s.askedChain with
        base := Memory.readLe s.mem (l + 0) 8, size := Memory.readLe s.mem (l + 8) 4, tail := Memory.readLe s.mem (l + 32) 4
        head := Memory.readLe s.mem (l + 32) 4, bias := Memory.readLe s.mem (l + 36) 4, done := Memory.readLe s.mem (l + 16) 8
        loc := l } } := by
  change Host.Outcome.next _ = _
  simp only [hblock, List.headD_cons, Bool.or_eq_true, if_neg h]

/-- R212: the engine, at a block that it reaches, looks at TAIL and goes to the next entry. -/
theorem chainEntryRead_eq {c : Chain} {locs : List (Nat × Nat)} (hc : s.chains.find? s.inp.id = some c) (hwait : c.wait = none)
    (hlink : s.linking s.inp.id = false)
    (hblock : (s.jobTouch (c.job s.inp.id) [c.ccb, c.entryAt c.head]).blockAt s.inp.id c = .ok locs) :
    let u := s.jobTouch (c.job s.inp.id) [c.ccb, c.entryAt c.head]
    let c' := u.seenTail c (locs.headD (0, 0)).1
    exec .chainEntryRead s = .next (({ u with chains := u.chains.set s.inp.id c' } : State).nextEntry s.inp.id c'
      (c.done + (s.chainJobs s.inp.id).length + 1)) := by
  intro u c'
  change Host.Outcome.next _ = _
  simp only [hc, hwait, hlink, hblock, Option.isSome_none, Bool.or_self, Bool.false_eq_true, if_false]
  rfl

/-- R209, R210, R456: an entry that can be read: its command starts, or its chain waits for the program's page. -/
theorem readEntry_keeps {id : Nat} {c : Chain} {locs : List (Nat × Nat)} {entry : List Byte} (seq : Nat)
    (hreach : s.jobReach (c.job id) .read (spanOf (c.entryAt c.head) 72) = .ok locs) (hnear : ∀ p ∈ locs, isRemote p.1 = false)
    (hentry : s.jobRead (c.job id) (spanOf (c.entryAt c.head) 72) = .ok entry) :
    let code := s.chainCode (c.job id) (c.entryAt c.head) entry s.inp.data
    let t := s.readEntry id c seq
    let next := { c with head := (c.head + 1) % 2 ^ 32 }
    (∀ bs, code = .ok bs → t.chains = s.chains.set id next ∧ t.job s.nextId = c.command id seq entry (.inl bs)) ∧
    (∀ st, code = .other (.fail st) → t.chains = s.chains.set id next ∧ t.job s.nextId = c.command id seq entry (.inr st)) ∧
    (∀ v f a asid, code = .other (.fault v f a asid) →
      t.chains = s.chains.set id { c with wait := some v } ∧ t.jobs = s.jobs ∧ t.mem = s.mem) := by
  intro code t next
  have hread : s.jobReadFrom (c.job id) (s.inp.data.take 72) (spanOf (c.entryAt c.head) 72) = .ok entry :=
    (State.jobReadFrom_near hreach hnear _ s.inp.data).trans hentry
  have hany : (locs.any fun p => isRemote p.1) = false := by simpa using hnear
  refine ⟨fun bs hcode => ?_, fun st hcode => ?_, fun v f a asid hcode => ?_⟩
  all_goals
    simp only [code] at hcode
    simp only [t, State.readEntry, hread, hreach, hany, hcode, Bool.false_eq_true, if_false]
  · exact ⟨State.entryStarts_chains .., State.entryStarts_job ..⟩
  · exact ⟨State.entryStarts_chains .., State.entryStarts_job ..⟩
  · exact State.chainWaits_keeps ..

section
variable {c : Chain} {n : Nat} {j : Job} (hc : s.chains.find? s.inp.id = some c)
  (hj : ((s.chainJobs s.inp.id).find? fun p => p.2.seq == c.done + 1) = some (n, j))

/-- R213: the next command to complete is one of the chain, with the sequence after DONE. -/
theorem nextCommand_of (id : Nat) (h : ((s.chainJobs id).find? fun p => p.2.seq == c.done + 1) = some (n, j)) :
    j.chain = id ∧ j.seq = c.done + 1 := by
  have hmem : (n, j) ∈ s.chainJobs id := List.mem_of_find?_eq_some h
  simp only [State.chainJobs, List.mem_filter, Bool.and_eq_true, beq_iff_eq] at hmem
  exact ⟨hmem.2.2, by simpa using List.find?_some h⟩

include hc hj

/-- R213: nothing happens before the command has finished; then, with its record handed over, it completes. -/
theorem chainCommandComplete_at : (s.finished j = false → exec .chainCommandComplete s = .next s) ∧
    ∀ locs, s.finished j = true → j.recorded = true → s.blockAt s.inp.id c = .ok locs → exec .chainCommandComplete s =
      .next (s.chainDone n { c with loc := (locs.headD (0, 0)).1 } j (!j.flights.isEmpty)) := by
  change (_ → execChainCommandComplete s = _) ∧ ∀ locs, _ → _ → _ → execChainCommandComplete s = _
  unfold execChainCommandComplete
  split
  · next h => cases h.symm.trans hc
  next c' hc' =>
  obtain rfl : c' = c := Option.some.inj (hc'.symm.trans hc)
  split
  · next h => cases h.symm.trans hj
  next n' j' hj' =>
  obtain ⟨rfl, rfl⟩ : n' = n ∧ j' = j := by simpa using hj'.symm.trans hj
  refine ⟨fun hfin => by rw [if_pos (by simp [hfin])], fun locs hfin hrec hblock => ?_⟩
  rw [if_neg (by simp [hfin])]
  split
  · next h => cases h.symm.trans hblock
  · next h => cases h.symm.trans hblock
  next locs' h =>
  obtain rfl : locs' = locs := Reach.ok.inj (h.symm.trans hblock)
  exact congrArg Host.Outcome.next (if_pos hrec)

end

end

/-- Settles O49: what registers, what an entry starts, and what the next command's completion writes. -/
theorem chainEvents : Obligations.ChainEvents := by
  unfold Obligations.ChainEvents
  intro s id
  refine ⟨?register, ?entry, ?complete, fun c n j hc hj => (chainCommandComplete_at hc hj).1⟩
  case register =>
    intro l n rest i c rd refused hreach hnear hrun
    have hc : s.askedChain = c := s.askedChain_eq
    have hblock : s.blockAt id s.askedChain = .ok ((l, n) :: rest) := State.blockAt_ok (hc ▸ hreach) hnear hrun
    exact ⟨fun h => ⟨_, chainRegister_registers hblock h, by rw [← hc]⟩, fun h => chainRegister_refuses hblock h⟩
  case entry =>
    intro c l n rest entry locs hc hwait hlink u c' s' va next seq hblock htail hreach hnear hentry code
    obtain ⟨d, f, hu⟩ := s.jobTouch_unitsOnly (c.job id) [c.ccb, c.entryAt c.head]
    have hseen : u.seenTail c l = c' := by simp only [State.seenTail, u, hu, c']
    have hstate : ({ u with chains := u.chains.set id c' } : State) = s' := by simp only [s', u, hu]
    have hsame : s'.inp = s.inp ∧ s'.nextId = s.nextId ∧ s'.jobs = s.jobs ∧ s'.mem = s.mem := by simp only [s', u, hu, and_self]
    obtain ⟨hinp, hnext, hjobs, hmem⟩ := hsame
    have hchains : ∀ v, s'.chains.set id v = s.chains.set id v := fun v => Tab.set_set ..
    have hrun : exec .chainEntryRead s = .next (s'.readEntry id c' seq) := by
      rw [chainEntryRead_eq hc hwait hlink hblock, State.nextEntry, List.headD_cons, hseen, hstate, if_neg (by simpa using htail)]
    have hkeeps := readEntry_keeps seq hreach hnear hentry
    rw [hinp, hnext, hjobs, hmem] at hkeeps
    simp only [hchains] at hkeeps
    obtain ⟨hread, hfailed, hfault⟩ := hkeeps
    exact ⟨fun bs h => ⟨_, hrun, hread bs h⟩, fun st h => ⟨_, hrun, hfailed st h⟩, fun v f a asid h => ⟨_, hrun, hfault v f a asid h⟩⟩
  case complete =>
    intro c n j locs hc hj hfin hrec hblock
    obtain ⟨hchain, hseq⟩ := nextCommand_of id hj
    obtain ⟨hchains, hjobs⟩ := s.chainDone_keeps n { c with loc := (locs.headD (0, 0)).1 } j (!j.flights.isEmpty)
    refine ⟨_, (chainCommandComplete_at hc hj).2 locs hfin hrec hblock, by rw [hjobs, Tab.find_del], ?_⟩
    rw [hchains, hchain, Tab.get_set, ← hseq]
    unfold Chain.completed
    cases j.link with
    | none => simp
    | some p => exact ⟨rfl, fun b z h => by simp_all, by simp⟩

end Sys2Proof.Claims
end

section
/-! What a collar trap of a segment touches once it is resolved (R200, R202, R305), and the timeout of a delta (R376). -/

namespace Sys2Proof.Machine

/-! ## The trap of a segment -/

/-- R200, R305: what holds a segment: its trapped site, and the sites that wait behind it. -/
def Seg.stuck (g : Seg) : Option Held × List (Nat × Nat) := (g.trapped, g.waiting)

@[simp] theorem Seg.settle_stuck (g : Seg) : g.settle.stuck = g.stuck := by
  refine (foldl_keeps Seg.stuck (fun sg r => ?_) g.active.routes g :)
  unfold Seg.flowRoute
  dsimp only
  split <;> rfl

@[simp] theorem Seg.swapped_stuck (g : Seg) : g.swapped.stuck = g.stuck := Seg.settle_stuck _

theorem Seg.emit_stuck (g : Seg) (site : Nat) (e : Nat × Tok) : (g.emit site e).stuck = g.stuck := by
  unfold Seg.emit
  split <;> rfl

/-- The tokens that a firing takes from its inputs, and what its site owes and has been paid. -/
theorem Seg.moved_stuck (g : Seg) (site : Nat) (f : Firing) :
    (f.owed.foldl (fun g e => { g with owe := g.owe.set (4 * site + e.1) (g.owe.get [] (4 * site + e.1) ++ [e.2]) })
      (f.paid.foldl (fun g i => { g with owe := g.owe.set (4 * site + i) ((g.owe.get [] (4 * site + i)).drop 1) })
        (f.pops.foldl (fun g i => { g with inq := g.inq.set (4 * site + i) ((g.inAt site i).drop 1) }) g))).stuck = g.stuck := by
  refine (foldl_keeps Seg.stuck ?_ _ _).trans ((foldl_keeps Seg.stuck ?_ _ _).trans (foldl_keeps Seg.stuck ?_ _ _))
  all_goals exact fun _ _ => rfl

/-- R298: a firing moves tokens, and holds and frees nothing. -/
theorem Seg.fire_stuck (g : Seg) (site : Nat) (f : Firing) (r : Option (Nat × Tok)) : (g.fire site f r).stuck = g.stuck := by
  refine (Seg.settle_stuck _).trans ((foldl_keeps Seg.stuck (fun sg e => sg.emit_stuck site e) _ _).trans ?_)
  cases f.red with
  | none => exact g.moved_stuck site f
  | some a => exact g.moved_stuck site f

/-! ## What the resolution of a trap leaves (R202, R305) -/

/-- What a slot keeps while traps of segments come and go. -/
def Slot.handling (sl : Slot) : Phase × Option Ending × Bool × BitVec 8 × Word :=
  (sl.phase, sl.ending, sl.trap.inHandler, sl.trap.cause, sl.trap.aux)

/-- A slot that at most has a note of the trap `e` more, or less. -/
def Slot.noted (e : Nat) (a b : Slot) : Prop := b.handling = a.handling ∧ ∀ x ∈ b.collarTraps, x ∈ a.collarTraps ∨ x = e

theorem Slot.noted.refl (e : Nat) (a : Slot) : a.noted e a := ⟨rfl, fun _ h => .inl h⟩

/-- States between which the trap of segment `g` of tile `t` alone may have come or gone. -/
structure collarOnly (t g : Nat) (a b : State) : Prop where
  slots : ∀ k, (a.slot k).noted (4 * t + g) (b.slot k)
  others : ∀ j, j ≠ g → (b.seg t j).stuck = (a.seg t j).stuck

theorem collarOnly.refl (t g : Nat) (a : State) : collarOnly t g a a := ⟨fun _ => .refl .., fun _ _ => rfl⟩

theorem collarOnly.trans {t g : Nat} {a b c : State} (h : collarOnly t g a b) (h' : collarOnly t g b c) : collarOnly t g a c where
  slots k := ⟨(h'.slots k).1.trans (h.slots k).1, fun e he => ((h'.slots k).2 e he).elim ((h.slots k).2 e) .inr⟩
  others j hj := (h'.others j hj).trans (h.others j hj)

theorem collarOnly.foldl {t g : Nat} {α : Type} {f : State → α → State} (h : ∀ s e, collarOnly t g s (f s e)) (l : List α) (s : State) :
    collarOnly t g s (l.foldl f s) := by
  induction l generalizing s with
  | nil => exact .refl t g s
  | cons e l ih => exact (h s e).trans (ih _)

section
variable (s : State) (t g : Nat)

theorem State.modSeg_collarOnly (f : Seg → Seg) : collarOnly t g s (s.modSeg t g f) :=
  ⟨fun _ => .refl .., fun _ hj => by rw [State.seg_modSeg_ne s t g f hj]⟩

/-- States with the same slots whose segments of the tile are held alike. -/
theorem collarOnly.of_stuck {a b : State} (hslots : b.slots = a.slots) (hstuck : ∀ j, (b.seg t j).stuck = (a.seg t j).stuck) :
    collarOnly t g a b := by
  have hslot : ∀ k, b.slot k = a.slot k := fun k => by unfold State.slot; rw [hslots]
  exact ⟨fun k => hslot k ▸ .refl .., fun j _ => hstuck j⟩

/-- A change of a task reaches at most one slot. -/
theorem State.slot_modTask (o : Nat) (f : Slot → Slot) (k : Nat) :
    (s.modTask o f).slot k = s.slot k ∨ (s.modTask o f).slot k = f (s.slot k) := by
  unfold State.modTask
  split
  · next i _ =>
    by_cases hk : k = i
    · subst hk
      exact .inr (State.slot_setSlot ..)
    · exact .inl (State.slot_setSlot_ne _ _ _ _ hk)
  · exact .inl rfl

/-- R231: a task loses or gets the note of the segment's trap. -/
theorem State.noteTrap_collarOnly (seq : Nat) (on : Bool) : collarOnly t g s (s.noteTrap t g seq on) := by
  refine ⟨fun k => ?_, fun j _ => by unfold State.seg; rw [State.tile_noteTrap]⟩
  unfold State.noteTrap
  split
  · next p _ =>
    obtain h | h := s.slot_modTask p.owner _ k
    · rw [h]
      exact .refl ..
    · rw [h]
      refine ⟨rfl, fun x hx => ?_⟩
      cases on <;> simp at hx <;> tauto
  · exact .refl ..

theorem State.writeRun_collarOnly (a : Nat) (bs : List Byte) : collarOnly t g s (s.writeRun a bs) := by
  have hslot := (s.writeLocs_keeps (bs.zipIdx.map fun p => (a + p.2, p.1))).2
  have htraps : ∀ k, ((s.writeRun a bs).slot k).collarTraps = (s.slot k).collarTraps := fun k => (congrArg Slot.collarTraps (hslot k) :)
  refine ⟨fun k => ⟨(congrArg Slot.handling (hslot k) :), fun e he => .inl (htraps k ▸ he)⟩, fun j _ => ?_⟩
  unfold State.seg
  rw [State.tile_writeRun]

theorem State.fireWith_stuck (site : Nat) (f : Firing) (r : Option (Nat × Tok)) (y : Tally) (j : Nat) :
    ((s.fireWith t g site f r y).seg t j).stuck = (s.seg t j).stuck := by
  have hseg : (s.fireWith t g site f r y).seg t j = (s.modSeg t g fun sg => sg.fire site f r).seg t j := by
    unfold State.fireWith State.seg
    dsimp only
    rw [State.tile_modTile]
  rw [hseg]
  by_cases hj : j = g
  · subst hj
    rw [State.seg_modSeg, Seg.fire_stuck]
  · rw [State.seg_modSeg_ne s t g _ hj]

theorem State.fireWith_collarOnly (site : Nat) (f : Firing) (r : Option (Nat × Tok)) (y : Tally) :
    collarOnly t g s (s.fireWith t g site f r y) :=
  collarOnly.of_stuck t g rfl fun j => s.fireWith_stuck t g site f r y j

theorem State.holdSite_collarOnly (site : Nat) (f : Firing) (n : Nat) : collarOnly t g s (s.holdSite t g site f n) := by
  unfold State.holdSite
  dsimp only
  split
  · exact s.modSeg_collarOnly t g _
  · exact ((s.writeRun_collarOnly t g _ _).trans (State.modSeg_collarOnly _ t g _)).trans (State.noteTrap_collarOnly ..)

theorem State.nextHeld_collarOnly : collarOnly t g s (s.nextHeld t g) := by
  unfold State.nextHeld
  split
  · exact s.modSeg_collarOnly t g _
  · dsimp only
    split
    · exact (s.modSeg_collarOnly t g _).trans (State.holdSite_collarOnly ..)
    · exact s.modSeg_collarOnly t g _

theorem State.planeDone_noted (op e k : Nat) : (s.slot k).noted e ((s.planeDone t op).slot k) := by
  unfold State.planeDone
  split
  · exact .refl ..
  · rw [State.retireOp, State.slot_modOp]
    split <;> exact .refl ..

theorem State.switchSeg_stuck (g j : Nat) : ((s.switchSeg t g).seg t j).stuck = (s.seg t j).stuck := by
  have hswap : ((s.modSeg t g Seg.swapped).seg t j).stuck = (s.seg t j).stuck := by
    by_cases hj : j = g
    · subst hj
      rw [State.seg_modSeg, Seg.swapped_stuck]
    · rw [State.seg_modSeg_ne s t g _ hj]
  unfold State.switchSeg
  split
  · split
    · unfold State.seg at *
      rw [State.tile_planeDone, hswap]
    · rfl
  · rfl

theorem State.switchSeg_collarOnly (i : Nat) : collarOnly t g s (s.switchSeg t i) := by
  refine ⟨fun k => ?_, fun j _ => s.switchSeg_stuck t i j⟩
  unfold State.switchSeg
  split
  · split
    · exact State.planeDone_noted _ t _ _ k
    · exact .refl ..
  · exact .refl ..

theorem State.switchAll_stuck (j : Nat) : ((s.switchAll t).seg t j).stuck = (s.seg t j).stuck :=
  foldl_keeps (fun u : State => (u.seg t j).stuck) (fun u i => u.switchSeg_stuck t i j) _ s

theorem State.switchAll_collarOnly : collarOnly t g s (s.switchAll t) :=
  collarOnly.foldl (fun u i => u.switchSeg_collarOnly t g i) _ s

/-- R202: the resolution of a segment's trap. -/
theorem State.resolveTrap_collarOnly (r : Option Nat) : collarOnly t g s (s.resolveTrap t g r) := by
  unfold State.resolveTrap
  split
  · exact .refl t g s
  next h _ =>
  have hfree : collarOnly t g s ((s.noteTrap t g h.seq false).modSeg t g fun sg => { sg with trapped := none }) :=
    (s.noteTrap_collarOnly t g _ _).trans (State.modSeg_collarOnly ..)
  have hgoes : ∀ u : State, collarOnly t g u ((u.nextHeld t g).switchAll t) := fun u =>
    (u.nextHeld_collarOnly t g).trans (State.switchAll_collarOnly _ t g)
  dsimp only
  generalize (s.noteTrap t g h.seq false).modSeg t g (fun sg => { sg with trapped := none }) = u at hfree ⊢
  split
  · exact hfree.trans (hgoes u)
  · exact (hfree.trans (u.fireWith_collarOnly t g ..)).trans (hgoes _)

theorem State.nextHeld_none (hwait : (s.seg t g).waiting = []) : s.nextHeld t g = s.modSeg t g fun sg => { sg with waiting := [] } := by
  unfold State.nextHeld
  rw [hwait]
  rfl

/-- R305: with no site waiting behind it, the segment is free once its trap is resolved. -/
theorem State.resolveTrap_frees (r : Option Nat) (hwait : (s.seg t g).waiting = []) : ((s.resolveTrap t g r).seg t g).trapped = none := by
  have hnext : ∀ u : State, (u.seg t g).stuck = (none, []) → (((u.nextHeld t g).switchAll t).seg t g).trapped = none := by
    intro u hu
    obtain ⟨htrap, hw⟩ := Prod.mk.inj hu
    have hswitch := (Prod.mk.inj ((u.nextHeld t g).switchAll_stuck t g)).1
    rw [hswitch, u.nextHeld_none t g hw, State.seg_modSeg]
    exact htrap
  unfold State.resolveTrap
  split
  · assumption
  next h _ =>
  have hfree : (((s.noteTrap t g h.seq false).modSeg t g fun sg => { sg with trapped := none }).seg t g).stuck = (none, []) := by
    rw [State.seg_modSeg]
    refine congrArg (Prod.mk none) (Eq.trans ?_ hwait)
    unfold State.seg
    rw [State.tile_noteTrap]
  dsimp only
  generalize (s.noteTrap t g h.seq false).modSeg t g (fun sg => { sg with trapped := none }) = u at hfree ⊢
  split
  · exact hnext u hfree
  · exact hnext _ ((u.fireWith_stuck t g ..).trans hfree)

end

end Sys2Proof.Machine
end

section
/-! The timeout of a delta (R376). -/

namespace Sys2Proof.Machine

/-! ## A segment of the delta whose trap outlasts its time -/

/-- R376: the trap that a handler of the segment runs for, as the handler reads it. -/
def State.trapAux (s : State) (t g : Nat) : Option Nat :=
  (s.seg t g).trapped.bind fun h => if h.delivered then some (h.site + g * 256 + h.seq * 65536) else none

/-- The slot runs the handler of the collar trap `aux`. -/
def Slot.handles (sl : Slot) (aux : Option Nat) : Bool :=
  sl.phase == .running && sl.trap.inHandler && sl.trap.cause == 26 && aux == some sl.trap.aux.toNat

/-- R376: slot `k` ends FAULTED if it runs the handler of the trap `aux`. -/
def State.faultHandler (s : State) (aux : Option Nat) (k : Nat) : State :=
  if (s.slot k).handles aux then s.setSlot k ((s.slot k).beginEnding .faulted) else s

def State.faultHandlers (s : State) (aux : Option Nat) (t : Nat) (l : List Nat) : State :=
  l.foldl (fun s i => s.faultHandler aux (8 * t + i)) s

/-- R376: segment `g` of tile `t`, when the time of its trap is over. -/
def State.timeoutSeg (s : State) (t g : Nat) : State :=
  if (s.seg t g).trapped.isNone then s else (s.feDisc t g).faultHandlers (s.trapAux t g) t (List.range 8)

theorem execCfgTrapTimeout_eq (s : State) : execCfgTrapTimeout s =
    .next (match ((s.hqueue s.inp.unit).cur.bind Packet.wait) with
      | some (.delta _ _ (t :: _) (some since)) =>
        if s.mtime.toNat < since + 100000 then s else ((s.tile t).halted.getD []).foldl (fun s g => s.timeoutSeg t g) s
      | _ => s) := rfl

/-! ## Slots that end FAULTED -/

/-- The slot's task is ending FAULTED. -/
def Slot.endsFaulted (sl : Slot) : Prop := sl.phase = .ending ∧ sl.ending = some .faulted

/-- A slot that has at most begun to end FAULTED. -/
def Slot.sameOrFaulted (a b : Slot) : Prop := b = a ∨ b = a.beginEnding .faulted

theorem Slot.sameOrFaulted.trans {a b c : Slot} (h : a.sameOrFaulted b) (h' : b.sameOrFaulted c) : a.sameOrFaulted c := by
  obtain rfl | rfl := h
  · exact h'
  · obtain rfl | rfl := h' <;> exact .inr rfl

theorem Slot.endsFaulted_of_handling {a b : Slot} (h : b.handling = a.handling) (ha : a.endsFaulted) : b.endsFaulted := by
  simp only [Slot.handling, Prod.mk.injEq] at h
  obtain ⟨hphase, hending, _⟩ := h
  exact ⟨hphase.trans ha.1, hending.trans ha.2⟩

theorem Slot.handles_of_handling {a b : Slot} (h : b.handling = a.handling) (aux : Option Nat) : b.handles aux = a.handles aux := by
  simp only [Slot.handling, Prod.mk.injEq] at h
  obtain ⟨hphase, hending, hin, hcause, haux⟩ := h
  rw [Slot.handles, Slot.handles, hphase, hin, hcause, haux]

section
variable (s : State) (aux : Option Nat) (t g : Nat)

theorem State.slot_faultHandler (k j : Nat) : (s.slot j).sameOrFaulted ((s.faultHandler aux k).slot j) := by
  unfold State.faultHandler
  split
  · by_cases hj : j = k
    · subst hj
      exact .inr (State.slot_setSlot ..)
    · exact .inl (State.slot_setSlot_ne _ _ _ _ hj)
  · exact .inl rfl

theorem State.slot_faultHandler_ne {k j : Nat} (h : j ≠ k) : (s.faultHandler aux k).slot j = s.slot j := by
  unfold State.faultHandler
  split
  · exact State.slot_setSlot_ne _ _ _ _ h
  · rfl

@[simp] theorem State.tile_faultHandler (k j : Nat) : (s.faultHandler aux k).tile j = s.tile j := by
  unfold State.faultHandler
  split <;> rfl

theorem State.slot_faultHandlers (l : List Nat) (k : Nat) : (s.slot k).sameOrFaulted ((s.faultHandlers aux t l).slot k) := by
  induction l generalizing s with
  | nil => exact .inl rfl
  | cons i l ih => exact (s.slot_faultHandler aux _ k).trans (ih _)

theorem State.tile_faultHandlers (l : List Nat) (j : Nat) : (s.faultHandlers aux t l).tile j = s.tile j :=
  foldl_keeps (State.tile · j) (fun (u : State) _ => u.tile_faultHandler aux _ j) l s

/-- Each slot of the tile that runs the handler ends FAULTED. -/
theorem State.faultHandlers_faults {l : List Nat} {i : Nat} (hi : i ∈ l) (h : (s.slot (8 * t + i)).handles aux = true) :
    ((s.faultHandlers aux t l).slot (8 * t + i)).endsFaulted := by
  induction l generalizing s with
  | nil => cases hi
  | cons j l ih =>
    by_cases hj : i = j
    · subst hj
      have hnow : (s.faultHandler aux (8 * t + i)).slot (8 * t + i) = (s.slot (8 * t + i)).beginEnding .faulted := by
        rw [State.faultHandler, if_pos h, State.slot_setSlot]
      obtain hl | hl := (s.faultHandler aux (8 * t + i)).slot_faultHandlers aux t l (8 * t + i)
      all_goals
        rw [hnow] at hl
        exact (congrArg Slot.endsFaulted hl).mpr ⟨rfl, rfl⟩
    · refine ih (s.faultHandler aux (8 * t + j)) ((List.mem_cons.1 hi).resolve_left hj) ?_
      rw [State.slot_faultHandler_ne _ _ (by omega)]
      exact h

/-! ## The segments one after another -/

theorem State.slot_feDisc (k : Nat) : (s.feDisc t g).slot k =
    { (s.resolveTrap t g none).slot k with collarTraps := ((s.resolveTrap t g none).slot k).collarTraps.filter (· != 4 * t + g) } :=
  Tab.get_map _ _ (fun sl : Slot => { sl with collarTraps := sl.collarTraps.filter (· != 4 * t + g) }) k rfl

/-- R376: what the timeout of a segment leaves of a slot: its handler, unless it ends FAULTED, and no note of another trap. -/
theorem State.timeoutSeg_slot (k : Nat) :
    (((s.timeoutSeg t g).slot k).handling = (s.slot k).handling ∨ ((s.timeoutSeg t g).slot k).endsFaulted) ∧
    ∀ e ∈ ((s.timeoutSeg t g).slot k).collarTraps, e ∈ (s.slot k).collarTraps ∧ ((s.seg t g).trapped.isSome = true → e ≠ 4 * t + g) := by
  unfold State.timeoutSeg
  split
  · next h => exact ⟨.inl rfl, fun e he => ⟨he, fun hsome => by simp_all⟩⟩
  have hdisc := s.slot_feDisc t g k
  obtain ⟨hhandling, htraps⟩ := (s.resolveTrap_collarOnly t g none).slots k
  have hkept : ((s.feDisc t g).slot k).handling = (s.slot k).handling ∧
      ∀ e ∈ ((s.feDisc t g).slot k).collarTraps, e ∈ (s.slot k).collarTraps ∧ e ≠ 4 * t + g := by
    rw [hdisc]
    refine ⟨hhandling, fun e he => ?_⟩
    obtain ⟨he, hne⟩ := List.mem_filter.1 he
    have hne : e ≠ 4 * t + g := by simpa using hne
    exact ⟨(htraps e he).resolve_right hne, hne⟩
  obtain h | h := (s.feDisc t g).slot_faultHandlers (s.trapAux t g) t (List.range 8) k
  · rw [h]
    exact ⟨.inl hkept.1, fun e he => ⟨(hkept.2 e he).1, fun _ => (hkept.2 e he).2⟩⟩
  · rw [h]
    exact ⟨.inr ⟨rfl, rfl⟩, fun e he => ⟨(hkept.2 e he).1, fun _ => (hkept.2 e he).2⟩⟩

theorem State.seg_timeoutSeg (j : Nat) : (s.timeoutSeg t g).seg t j =
    if (s.seg t g).trapped.isNone = true then s.seg t j else (s.resolveTrap t g none).seg t j := by
  unfold State.timeoutSeg
  split
  · rfl
  · rw [State.seg, State.tile_faultHandlers]
    rfl

/-- The timeout of one segment leaves the trap of another. -/
theorem State.timeoutSeg_others {j : Nat} (h : j ≠ g) : ((s.timeoutSeg t g).seg t j).trapped = (s.seg t j).trapped := by
  rw [State.seg_timeoutSeg]
  split
  · rfl
  · exact (Prod.mk.inj ((s.resolveTrap_collarOnly t g none).others j h)).1

theorem State.timeoutSeg_frees (hwait : (s.seg t g).waiting = []) : ((s.timeoutSeg t g).seg t g).trapped = none := by
  rw [State.seg_timeoutSeg]
  split
  · next h => exact Option.isNone_iff_eq_none.1 h
  · exact s.resolveTrap_frees t g none hwait

/-- R376: a slot of the tile that runs the handler of the segment's trap ends FAULTED. -/
theorem State.timeoutSeg_faults {i : Nat} (hi : i < 8) (htrap : (s.seg t g).trapped.isSome = true)
    (h : (s.slot (8 * t + i)).handles (s.trapAux t g) = true) : ((s.timeoutSeg t g).slot (8 * t + i)).endsFaulted := by
  unfold State.timeoutSeg
  rw [if_neg (by simp [Option.isNone_iff_eq_none, Option.isSome_iff_ne_none.1 htrap])]
  refine State.faultHandlers_faults _ _ t (List.mem_range.2 hi) ?_
  rw [State.slot_feDisc]
  exact (Slot.handles_of_handling ((s.resolveTrap_collarOnly t g none).slots _).1 _).trans h

variable {g}

/-- R376: once the segments of a delta have been resolved, no slot holds the trap of one. -/
theorem State.timeoutSegs_collarTraps {l : List Nat} (hg : g ∈ l) (htrap : (s.seg t g).trapped.isSome = true) (k : Nat) :
    4 * t + g ∉ ((l.foldl (fun s g => s.timeoutSeg t g) s).slot k).collarTraps := by
  have hrest : ∀ (l : List Nat) (u : State), 4 * t + g ∉ (u.slot k).collarTraps →
      4 * t + g ∉ ((l.foldl (fun s g => s.timeoutSeg t g) u).slot k).collarTraps := by
    intro l
    induction l with
    | nil => exact fun _ h => h
    | cons j l ih => exact fun u h => ih _ fun hm => h (((u.timeoutSeg_slot t j k).2 _ hm).1)
  induction l generalizing s with
  | nil => cases hg
  | cons j l ih =>
    by_cases hj : g = j
    · subst hj
      exact hrest l _ fun hm => ((s.timeoutSeg_slot t g k).2 _ hm).2 htrap rfl
    · refine ih (s.timeoutSeg t j) ((List.mem_cons.1 hg).resolve_left hj) ?_
      rw [s.timeoutSeg_others t j hj]
      exact htrap

/-- R376: and each slot that ran the handler of one ends FAULTED. -/
theorem State.timeoutSegs_faults {l : List Nat} (hg : g ∈ l) {i : Nat} (hi : i < 8) (htrap : (s.seg t g).trapped.isSome = true)
    (h : (s.slot (8 * t + i)).handles (s.trapAux t g) = true) :
    ((l.foldl (fun s g => s.timeoutSeg t g) s).slot (8 * t + i)).endsFaulted := by
  have hstays : ∀ (j : Nat) (u : State), (u.slot (8 * t + i)).endsFaulted → ((u.timeoutSeg t j).slot (8 * t + i)).endsFaulted :=
    fun j u hu => (u.timeoutSeg_slot t j _).1.elim (fun e => Slot.endsFaulted_of_handling e hu) id
  have hrest : ∀ (l : List Nat) (u : State), (u.slot (8 * t + i)).endsFaulted →
      ((l.foldl (fun s g => s.timeoutSeg t g) u).slot (8 * t + i)).endsFaulted := by
    intro l
    induction l with
    | nil => exact fun _ h => h
    | cons j l ih => exact fun u hu => ih _ (hstays j u hu)
  induction l generalizing s with
  | nil => cases hg
  | cons j l ih =>
    by_cases hj : g = j
    · subst hj
      exact hrest l _ (s.timeoutSeg_faults t g hi htrap h)
    obtain hsame | hfaulted := (s.timeoutSeg_slot t j (8 * t + i)).1
    · have htrapped : ((s.timeoutSeg t j).seg t g).trapped = (s.seg t g).trapped := s.timeoutSeg_others t j hj
      refine ih (s.timeoutSeg t j) ((List.mem_cons.1 hg).resolve_left hj) (by rw [htrapped]; exact htrap) ?_
      rw [Slot.handles_of_handling hsame, State.trapAux, htrapped]
      exact h
    · exact hrest l _ hfaulted

end

end Sys2Proof.Machine
end

section
/-! A queue's front end: packets start, wait and run out (R224, R229, R333, R359, R369, R373, R376). -/

namespace Sys2Proof.Machine

/-! ## What a touch of the front end leaves (R351) -/

section
variable (s : State) (q va n : Nat)

@[simp] theorem State.feTouch_hqueue (j : Nat) : (s.feTouch q va n).hqueue j = s.hqueue j := by
  obtain ⟨d, f, h⟩ := s.feTouch_unitsOnly q va n
  rw [h]
  rfl

@[simp] theorem State.feTouch_progs : (s.feTouch q va n).progs = s.progs := by
  obtain ⟨d, f, h⟩ := s.feTouch_unitsOnly q va n
  rw [h]

theorem State.modPacket_eq (f : Packet → Packet) :
    s.modPacket q f = s.setHqueue q { s.hqueue q with cur := (s.hqueue q).cur.map f } := rfl

end

end Sys2Proof.Machine

namespace Sys2Proof.Claims
open Sys2Proof.Machine

/-! ## Reading a packet (R224, R369) -/

/-- R369: what becomes of the packet that is read. -/
theorem readPacket_reads (s : State) (q idx : Nat) :
    let hq := s.hqueue q
    let va := hq.ring + idx % hq.size * 256
    let u := s.feTouch q va 256
    let code := s.progs.get [] hq.prog
    (∀ bs, u.feRead q va 256 = .ok bs →
      let t := u.setHqueue q { hq with cur := hq.cur.map fun p => { p with bytes := bs, code := code, wait := none } }
      s.readPacket q idx = if leNat (bs.take 8) ≠ idx ∨ code = [] then t.endPacket q 5 else t) ∧
    (∀ st, u.feRead q va 256 = .stop st → s.readPacket q idx = u.endPacket q st) ∧
    (u.feRead q va 256 = .hold → s.readPacket q idx = u) ∧
    (∀ v c k, u.feRead q va 256 = .fault v c k → s.readPacket q idx = faulting u q v c k) := by
  dsimp only
  refine ⟨fun bs h => ?read, fun st h => ?stop, fun h => ?hold, fun v c k h => ?fault⟩
  all_goals
    unfold State.readPacket
    simp only [h]
  case read =>
    simp only [State.feTouch_progs, State.modPacket_eq, State.feTouch_hqueue, List.isEmpty_iff]
    rfl
  case fault => rfl

/-- R224, R369: the queue whose packet's program does not run takes the next packet, or none. -/
theorem packetStart_next {s : State} (hcur : (s.hqueue s.inp.unit).cur = none) : exec .packetStart s =
    .next (if (s.hqueue s.inp.unit).mayStart = true then
      (s.setHqueue s.inp.unit { s.hqueue s.inp.unit with
        cur := some { idx := (s.hqueue s.inp.unit).head }, head := ((s.hqueue s.inp.unit).head + 1) % 2 ^ 32, state := 1 }).readPacket
          s.inp.unit (s.hqueue s.inp.unit).head else s) := by
  change Host.Outcome.next _ = _
  simp only [hcur]

theorem packetStart_again {s : State} {p : Packet} (hcur : (s.hqueue s.inp.unit).cur = some p) : exec .packetStart s =
    .next (if (p.bytes.isEmpty && p.ended.isNone && p.wait.isNone) = true then s.readPacket s.inp.unit p.idx else s) := by
  change Host.Outcome.next _ = _
  simp only [hcur]

theorem mayStart_iff (hq : HQueue) : hq.mayStart = true ↔
    hq.state ≠ 3 ∧ hq.head ≠ hq.tail ∧ hq.started.length < 64 ∧ ∀ p ∈ hq.started, p.launch ≠ none ∧ p.barrier = false := by
  simp only [HQueue.mayStart, Bool.and_eq_true, bne_iff_ne, decide_eq_true_eq, List.all_eq_true, Bool.not_eq_true', and_assoc,
    Option.isSome_iff_ne_none]

/-- R224: the budget of the packet at the queue whose turn it is. -/
theorem packetBudget_eq {s : State} {r : Nat} {p : Packet} (hr : s.cur = .queue r ∨ (∀ e, s.cur ≠ .queue e) ∧ r = s.inp.unit)
    (hp : (s.hqueue r).cur = some p) (hended : p.ended = none) (hwait : p.wait = none) :
    exec .packetBudget s = .next (if 512 ≤ p.words then s.endPacket r 9 else s) := by
  change Host.Outcome.next _ = _
  obtain hcur | ⟨hcur, rfl⟩ := hr
  · simp [hcur, hp, hended, hwait]
  · generalize s.cur = agent at hcur ⊢
    cases agent with
    | queue e => exact absurd rfl (hcur e)
    | _ => simp [hp, hended, hwait]

/-! ## Words that run again (R229, R373) -/

section
variable {s : State} {p : Packet} (hcur : (s.hqueue s.inp.unit).cur = some p)
include hcur

/-- The turn at which the word that the packet waits at runs again. -/
abbrev againAt (s : State) (p : Packet) : State :=
  { s with cur := .queue s.inp.unit, fetched := (p.code.getD p.prog.ctl.pc 0, p.code.getD (p.prog.ctl.pc + 1) 0) }

theorem sigwaitReread_runs {i : Instr} {va : Nat} (hi : frontDecode p.code p.prog.ctl.pc = some i) (hw : p.wait = some (.signal va))
    (h : (∃ g d a, i = .sigwaitLe g d a) ∨ (∃ g d a, i = .sigwaitLt g d a) ∨ (∃ g d a, i = .sigwaitEq g d a) ∨
      (∃ g d a, i = .sigwaitNe g d a)) : ∃ t, exec .sigwaitReread s = .next t ∧ exec i (againAt s p) = .next t := by
  change ∃ t, execSigwaitReread s = .next t ∧ _
  unfold execSigwaitReread
  simp only [hcur, hw, hi]
  obtain ⟨g, d, a, rfl⟩ | ⟨g, d, a, rfl⟩ | ⟨g, d, a, rfl⟩ | ⟨g, d, a, rfl⟩ := h
  all_goals exact ⟨_, rfl, rfl⟩

theorem emlaunchGroupsFree_runs {i : Instr} (hi : frontDecode p.code p.prog.ctl.pc = some i) (hw : p.wait = some .groups)
    (h : (∃ g d a, i = .emlaunch g d a) ∨ (∃ g d a b, i = .emlaunchCfg g d a b)) :
    ∃ t, exec .emlaunchGroupsFree s = .next t ∧ exec i (againAt s p) = .next t := by
  change ∃ t, execEmlaunchGroupsFree s = .next t ∧ _
  unfold execEmlaunchGroupsFree
  simp only [hcur, hw, hi]
  obtain ⟨g, d, a, rfl⟩ | ⟨g, d, a, b, rfl⟩ := h
  all_goals exact ⟨_, rfl, rfl⟩

theorem reread_idle (hw : p.wait = none) : exec .sigwaitReread s = .next s ∧ exec .emlaunchGroupsFree s = .next s := by
  change execSigwaitReread s = _ ∧ execEmlaunchGroupsFree s = _
  unfold execSigwaitReread execEmlaunchGroupsFree
  constructor <;> simp only [hcur, hw]

/-! ## The timeout of a delta (R376) -/

variable {ps : List Patch} {img T since : Nat} {rest : List Nat} (hw : p.wait = some (.delta ps img (T :: rest) (some since)))
include hw

theorem cfgTrapTimeout_eq : exec .cfgTrapTimeout s = .next (if s.mtime.toNat < since + 100000 then s else
    ((s.tile T).halted.getD []).foldl (fun s g => s.timeoutSeg T g) s) := by
  have hwait : (s.hqueue s.inp.unit).cur.bind Packet.wait = some (.delta ps img (T :: rest) (some since)) := by
    rw [hcur]
    exact hw
  change execCfgTrapTimeout s = _
  rw [execCfgTrapTimeout_eq, hwait]

end

/-- Settles O52: what each event of the front end makes of the packet at hand. -/
theorem frontEvents : Obligations.FrontEvents := by
  unfold Obligations.FrontEvents
  intro s q hq
  refine ⟨?start, ?again, fun p hcur hbytes => ?read, ?budget, ?reread, ?timeout⟩
  case start =>
    intro may j va u
    have hmay : hq.mayStart = true ↔ may := mayStart_iff hq
    refine ⟨fun hcur hnot => ?_, fun hcur hmayStart => ?_⟩
    · rw [packetStart_next hcur, if_neg fun h => hnot (hmay.1 h)]
    · have hread := readPacket_reads (s.setHqueue q { hq with cur := some { idx := j }, head := (j + 1) % 2 ^ 32, state := 1 }) q j
      dsimp only at hread
      simp only [State.hqueue_setHqueue, State.setHqueue_progs, Option.map_some] at hread
      obtain ⟨hok, hstop, hhold, hfault⟩ := hread
      rw [packetStart_next hcur, if_pos (hmay.2 hmayStart)]
      refine ⟨?_, fun st hst => by rw [hstop st hst], fun h => by rw [hhold h], fun v c k h => by rw [hfault v c k h]⟩
      intro bs hbs code t
      rw [hok bs hbs]
      exact ⟨fun hidx hcode => by rw [if_neg (by tauto)], fun h => by rw [if_pos h]⟩
  case again =>
    intro p hcur hbytes hended hwait va u bs hread hidx hcode
    rw [packetStart_again hcur, if_pos (by simp [hbytes, hended, hwait]), (readPacket_reads s q p.idx).1 bs hread, if_neg (by tauto)]
    simp only [show (s.hqueue q).cur = some p from hcur, Option.map_some, ← hwait]
    rfl
  case read => rw [packetStart_again hcur, if_neg (by simp [hbytes])]
  case budget =>
    intro r p hr hp hended hwait
    rw [packetBudget_eq hr hp hended hwait]
    exact ⟨fun h => by rw [if_pos h], fun h => by rw [if_neg (by omega)]⟩
  case reread =>
    exact fun p i hcur hi => ⟨fun va hw h => sigwaitReread_runs hcur hi hw h, fun hw h => emlaunchGroupsFree_runs hcur hi hw h,
      fun hw => reread_idle hcur hw⟩
  case timeout =>
    intro p ps img T rest since hcur hw
    rw [cfgTrapTimeout_eq hcur hw]
    refine ⟨fun h => by rw [if_pos h], fun h => ⟨_, by rw [if_neg (by omega)], ?_, ?_⟩⟩
    · intro g h hhalted _ hwaiting
      rw [hhalted]
      exact s.timeoutSeg_frees T g hwaiting
    · intro g hg htrap
      refine ⟨s.timeoutSegs_collarTraps T hg htrap, ?_⟩
      intro i hi sl h hh hdelivered hphase hin hcause haux
      refine s.timeoutSegs_faults T hg hi htrap ?_
      have haux : s.trapAux T g = some sl.trap.aux.toNat := by
        rw [haux, State.trapAux, show (s.seg T g).trapped = some h from hh]
        simp [hdelivered]
      rw [Slot.handles, haux]
      simp [sl, hphase, hin, hcause]

end Sys2Proof.Claims
end

section
/-! The words of queue programs that open launches and emit records (R227, R228, R333, R373, R376, R378, R390). -/

namespace Sys2Proof.Machine

/-! ## No save of a cairn looks at the launches (R175, R432) -/

section
variable (s : State) (ls : Tab Launch)

theorem State.walk_launches (d asid va n tbl : Nat) : ({ s with launches := ls } : State).walk d asid va n tbl = s.walk d asid va n tbl := by
  induction n generalizing tbl with
  | zero => rfl
  | succ n ih =>
    unfold State.walk
    simp only [ih]
    rfl

theorem State.translate_launches (d asid va : Nat) (acc : Acc) (c : Bool) :
    ({ s with launches := ls } : State).translate d asid va acc c = s.translate d asid va acc c := by
  unfold State.translate
  simp only [State.walk_launches]
  rfl

theorem State.cairnNeeds_launches (k asid : Nat) (c : Cairn) (loc : Nat) :
    ({ s with launches := ls } : State).cairnNeeds k asid c loc = s.cairnNeeds k asid c loc := by
  unfold State.cairnNeeds State.cairnHit
  simp only [State.translate_launches]

theorem State.cairnFault_launches (l : List Nat) : ({ s with launches := ls } : State).cairnFault l = s.cairnFault l := by
  unfold State.cairnFault
  simp only [State.cairnNeeds_launches]
  rfl

end

end Sys2Proof.Machine

namespace Sys2Proof.Claims
open Sys2Proof.Machine

/-! ## What a word of a queue program leaves (R54, R84, R224) -/

/-- R84: a packet's program goes on, with a register written. -/
theorem frontPass_write (t : State) (q : Nat) (d : BitVec 5) (v : Word) : t.frontPass q [.scalar d v] = wentOn t q (some (d, v)) := by
  have hrun : ∀ p : Packet, p.prog.run p.code.length 0 false 1 0 (fun _ => .ok [.scalar d v]) =
      (passedProg p.prog 1 (if d = 0 then p.prog.regs else p.prog.regs.set d.toNat v) p.prog.preds, none) := fun p =>
    progRun_scalar rfl rfl
  simp only [State.frontPass, State.feState, State.modHqueue, State.modPacket, hrun, Packet.after, Option.or_none, State.hqueue_setHqueue,
    State.setHqueue_setHqueue]
  rfl

theorem progRun_nothing (p : Prog) (bound : Nat) : p.run bound 0 false 1 0 (fun _ => .ok []) = (passedProg p 1 p.regs p.preds, none) := by
  have hguard : (readBit p.preds 0 != false) = true := rfl
  simp only [Prog.run, Prog.view_guard, hguard, Bool.not_true, Bool.false_eq_true, if_false, List.foldl_nil]
  rw [passedProg_eq]

theorem frontPass_nil (t : State) (q : Nat) : t.frontPass q [] = wentOn t q none := by
  simp only [State.frontPass, State.feState, State.modHqueue, State.modPacket, progRun_nothing, Packet.after, Option.or_none,
    State.hqueue_setHqueue, State.setHqueue_setHqueue]
  rfl

/-- R224: the state that a word's outcome leaves. -/
def leavesFront (q : Nat) : FRes → State
  | .ok t es => t.frontPass q es
  | .stop t st => (counted t q).endPacket q st
  | .fault t v c a => faulting t q v c a
  | .wait t w => suspended t q w
  | .hold t => t

section
variable {s : State} {q : Nat} {p : Packet} (a : AtFront s q p) {g : Grd}
include a

theorem frontWord_runs (hg : active p g.g g.n) (f : State → Nat → HQueue → Packet → View → FRes) :
    s.frontWord g f = leavesFront q (f s q (s.hqueue q) p p.prog.view) := by
  have hguard : p.prog.view.guard g.g g.n = true := (Prog.view_guard ..).trans hg
  unfold State.frontWord
  simp only [a.cur, a.packet, a.runs, hguard, Bool.not_true, Bool.false_eq_true, if_false]
  cases f s q (s.hqueue q) p p.prog.view with
  | wait t w =>
    simp only [State.feState, State.modHqueue, State.modPacket, State.hqueue_setHqueue, State.setHqueue_setHqueue]
    rfl
  | _ => rfl

theorem frontWord_skips (hg : ¬ active p g.g g.n) (f : State → Nat → HQueue → Packet → View → FRes) :
    s.frontWord g f = wentOn s q none := by
  have hguard : p.prog.view.guard g.g g.n = false := (Prog.view_guard ..).trans (Bool.eq_false_of_not_eq_true hg)
  unfold State.frontWord
  simp only [a.cur, a.packet, a.runs, hguard, Bool.not_false, Bool.false_eq_true, if_false, if_true, frontPass_nil]

end

theorem frontSkips_of {i : Instr} {g : Grd} {f : State → Nat → HQueue → Packet → View → FRes}
    (hx : ∀ s, exec i s = .next (s.frontWord g f)) : FrontSkips i g := fun s q p a hg => by
  rw [hx, frontWord_skips a hg]

/-! ## EMLAUNCH and EMLAUNCH.CFG (R373, R376) -/

section
variable {s u : State} {q va : Nat} (d : BitVec 5)

/-- R373: what an EMLAUNCH that has looked its descriptor up in state `u` leaves. -/
theorem emlaunch_opens {i : Instr} (hx : exec i s = .next (leavesFront q ((u.planLaunch q va).to u fun plan =>
      if plan.groups.any fun g => (u.groups.find? g.1).isSome then .wait u .groups
      else .ok (u.openLaunch q plan).1 [.scalar d (BitVec.ofNat 64 (u.openLaunch q plan).2)]))) :
    (∀ st, u.planLaunch q va = .stop st → exec i s = .next ((counted u q).endPacket q st)) ∧
    (∀ v c k, u.planLaunch q va = .fault v c k → exec i s = .next (faulting u q v c k)) ∧
    (u.planLaunch q va = .hold → exec i s = .next u) ∧
    (∀ plan, u.planLaunch q va = .ok plan →
      ((∃ e ∈ plan.groups, (u.groups.find? e.1).isSome = true) → exec i s = .next (suspended u q .groups)) ∧
      ((∀ e ∈ plan.groups, u.groups.find? e.1 = none) →
        exec i s = .next (wentOn (u.openLaunch q plan).1 q (some (d, BitVec.ofNat 64 u.nextLaunch))))) := by
  refine ⟨fun st h => ?_, fun v c k h => ?_, fun h => ?_, fun plan h => ⟨fun hany => ?_, fun hnone => ?_⟩⟩
  all_goals rw [hx, h]
  · rfl
  · rfl
  · rfl
  · rw [FeRes.to, if_pos (by simpa using hany)]
    rfl
  · rw [FeRes.to, if_neg (by simpa using hnone), leavesFront, frontPass_write]
    rfl

end

section
variable {s : State} {q va dva : Nat} {p : Packet} {d : BitVec 5} (h : p.launch = none)
include h

theorem emlaunchRes_eq : emlaunchRes s q p d va = ((s.touchLaunch q va).planLaunch q va).to (s.touchLaunch q va) fun plan =>
    if plan.groups.any fun g => ((s.touchLaunch q va).groups.find? g.1).isSome then .wait (s.touchLaunch q va) .groups
    else .ok ((s.touchLaunch q va).openLaunch q plan).1 [.scalar d (BitVec.ofNat 64 ((s.touchLaunch q va).openLaunch q plan).2)] :=
  if_neg (by simp [h])

theorem emlaunchCfgRes_groups (hw : p.wait = some .groups) : emlaunchCfgRes s q p d va dva = emlaunchRes s q p d va := by
  rw [emlaunchCfgRes, if_neg (by simp [h]), hw]

/-- R376: a turn of the delta, and the launch after its last. -/
theorem emlaunchCfgRes_turn {ps : List Patch} {img : Nat} {tiles : List Nat} {since : Option Nat} (hw : p.wait = some (.delta ps img tiles since)) :
    (∀ t w, s.deltaTurn ps img tiles since = (t, some w) → emlaunchCfgRes s q p d va dva = .wait t w) ∧
    (∀ t, s.deltaTurn ps img tiles since = (t, none) → emlaunchCfgRes s q p d va dva = emlaunchRes t q p d va) := by
  rw [emlaunchCfgRes, if_neg (by simp [h]), hw]
  exact ⟨fun t w ht => by simp only [ht], fun t ht => by simp only [ht]⟩

/-- R375, R376: the descriptor and the delta are read before a tile is touched. -/
theorem emlaunchCfgRes_reads (hw : p.wait = none) {u : State} (hu : (s.touchLaunch q va).feTouch q dva 32 = u) :
    emlaunchCfgRes s q p d va dva = ((u.planLaunch q va).bind fun _ => u.planDelta q dva).to u fun r =>
      .wait (u.extend 3 r.2.2) (.delta r.2.1 r.1 ((List.range 64).filter fun t => r.2.1.any fun e => e.tile == t) none) := by
  rw [emlaunchCfgRes, if_neg (by simp [h]), hw, ← hu]

end

/-! ## EMTASK (R228, R378) -/

/-- A write whose locations are among those that meet no fault meets none. -/
theorem cairnFault_subset {s : State} {l m : List Nat} (h : s.cairnFault l = none) (hsub : m ⊆ l) : s.cairnFault m = none := by
  unfold State.cairnFault at *
  simp only [List.findSome?_eq_none_iff] at *
  exact fun p hp c hc loc hloc => h p hp c hc loc (hsub hloc)

/-- R228: bytes that lie in this package and meet no cairn's fault are written. -/
theorem feWrite_near {s : State} {l : List (Nat × Byte)} (hnear : ∀ e ∈ l, isRemote e.1 = false) (hfault : s.cairnFault (l.map Prod.fst) = none) :
    s.feWrite l = .ok (s.writeLocs l) := by
  have hkept : l.filter (fun p => !isRemote p.1) = l := List.filter_eq_self.2 fun e he => by simp [hnear e he]
  have hfar : l.filter (fun p => isRemote p.1) = [] := List.filter_eq_nil_iff.2 fun e he => by simp [hnear e he]
  unfold State.feWrite
  rw [hkept, hfar]
  simp only [hfault]
  rfl

/-- Records that are ready go on queues; nothing else changes. -/
theorem State.placeBy_eq (s : State) (rd : Nat → Nat → Nat) (loc va asid : Nat) (c : Bool) :
    ∃ r, s.placeBy rd loc va asid c = { s with ready := r } := by
  unfold State.placeBy
  dsimp only
  split
  · exact ⟨s.ready, rfl⟩
  · split
    · split
      · exact ⟨_, rfl⟩
      · exact ⟨s.ready, rfl⟩
    · exact ⟨_, rfl⟩

/-- States that differ in the records that are ready alone. -/
def readyOnly (a b : State) : Prop := ∃ r, b = { a with ready := r }

theorem readyOnly.foldl {α : Type} {f : State → α → State} (h : ∀ s e, readyOnly s (f s e)) (l : List α) (s : State) :
    readyOnly s (l.foldl f s) := by
  induction l generalizing s with
  | nil => exact ⟨s.ready, rfl⟩
  | cons e l ih =>
    obtain ⟨_, he⟩ := h s e
    obtain ⟨r, hl⟩ := ih (f s e)
    exact ⟨r, by rw [List.foldl_cons, hl, he]⟩

/-- Bytes that the front end reaches are at most as many as it names. -/
theorem feReach_length {s : State} {q va n : Nat} {acc : Acc} {locs : List Nat} (h : s.feReach q acc va n = .ok locs) : locs.length ≤ n := by
  have hreach : ∀ ls, s.reach (s.feWho q) copyParts acc (spanOf va n) = .ok ls → ls.length ≤ n := by
    intro ls hls
    unfold State.reach reachBy at hls
    dsimp only at hls
    split at hls
    · cases hls
    split at hls
    · cases hls
    · obtain rfl := Reach.ok.inj hls
      refine (List.length_filterMap_le ..).trans ?_
      simp [spanOf]
  unfold State.feReach at h
  split at h
  · cases h
  · cases h
  · next ls hls =>
    split at h
    · cases h
    · obtain rfl := FeRes.ok.inj h
      simpa using hreach ls hls

/-- R228, R378: the records of an EMTASK whose range lies in this package are written, and those that are ready go on queues. -/
theorem emitRun_near {s : State} {locs : List Nat} {n : Nat} (img : List Byte) (asid ln deadline dst : Nat) (hlen : locs.length ≤ 128 * n)
    (hnear : ∀ x ∈ locs, isRemote x = false) (hfault : s.cairnFault locs = none) :
    ∃ t, s.emitRun locs img asid ln deadline dst 0 n = .ok t ∧ t.launches = s.launches ∧
      t.mem = stored s (locs.zip ((List.range n).flatMap fun j => emitRecord img asid ln deadline (some j))) := by
  have hlocs : (locs.drop (128 * 0)).take (128 * n) = locs := List.take_of_length_le hlen
  have hrange : (List.range n).map (0 + ·) = List.range n := by simp
  have hkept : ∀ u : State, readyOnly (s.writeLocs (locs.zip ((List.range n).flatMap fun j => emitRecord img asid ln deadline (some j)))) u →
      u.launches = s.launches ∧ u.mem = stored s (locs.zip ((List.range n).flatMap fun j => emitRecord img asid ln deadline (some j))) := by
    rintro _ ⟨r, rfl⟩
    obtain ⟨_, _, _, _, _, h⟩ := s.writeLocs_memoryOnly (locs.zip ((List.range n).flatMap fun j => emitRecord img asid ln deadline (some j)))
    exact ⟨(congrArg State.launches h :), (s.writeLocs_keeps _).1⟩
  have hwrite := feWrite_near (s := s) (l := locs.zip ((List.range n).flatMap fun j => emitRecord img asid ln deadline (some j)))
    (fun e he => hnear _ (List.of_mem_zip he).1) (cairnFault_subset hfault fun x hx => by
      obtain ⟨e, he, rfl⟩ := List.mem_map.1 hx
      exact (List.of_mem_zip he).1)
  unfold State.emitRun
  dsimp only
  rw [hlocs, hrange, hwrite]
  refine ⟨_, rfl, hkept _ (readyOnly.foldl (fun u j => ?_) _ _)⟩
  split
  · exact ⟨u.ready, rfl⟩
  · exact State.placeBy_eq ..

section
variable {s : State} {q : Nat} {p : Packet} {dst src n : Nat}

/-- R228: the checks of EMTASK. -/
theorem emtaskRes_wrong (h : p.launch = none ∨ 4096 < n ∨ dst % 128 ≠ 0 ∨ src % 128 ≠ 0) (hq : HQueue) :
    emtaskRes s q hq p dst src n = .stop s 5 := by
  unfold emtaskRes
  split
  · rfl
  · next ln hl => rw [if_pos (by simpa [hl, or_assoc] using h)]

variable {l : Nat} (hl : p.launch = some l) (hok : ¬ (4096 < n ∨ dst % 128 ≠ 0 ∨ src % 128 ≠ 0))
include hl hok

theorem emtaskRes_nothing (h0 : n = 0) (hq : HQueue) : emtaskRes s q hq p dst src n = .ok s [] := by
  unfold emtaskRes
  rw [hl]
  dsimp only
  rw [if_neg (by simpa [or_assoc] using hok), if_pos h0]

variable (h0 : n ≠ 0) (hfirst : p.emitted = 0)
include h0 hfirst

/-- R228: the launch keeps 4,096 ranges, and no more. -/
theorem emtaskRes_full (hfull : 4096 ≤ (s.launch l).ranges.length) (hq : HQueue) : emtaskRes s q hq p dst src n = .stop s 5 := by
  unfold emtaskRes
  rw [hl]
  dsimp only
  rw [if_neg (by simpa [or_assoc] using hok), if_neg h0, if_pos hfirst, Launch.keepRange, if_pos hfull]

variable {L : Launch} (hL : s.launches.find? l = some L) (hroom : L.ranges.length < 4096) (hq : HQueue) {u : State}
  (hu : (s.feTouch q src 128).feTouch q dst (128 * n) = u)
include hL hroom hu

/-- R228: an EMTASK with something to emit first reads its image. -/
theorem emtaskRes_reads :
    (∀ st, u.feRead q src 128 = .stop st → emtaskRes s q hq p dst src n = .stop u st) ∧
    (∀ v c k, u.feRead q src 128 = .fault v c k → emtaskRes s q hq p dst src n = .fault u v c k) ∧
    (u.feRead q src 128 = .hold → emtaskRes s q hq p dst src n = .hold u) := by
  have hlaunch : s.launch l = L := by simp [State.launch, Tab.get, hL]
  refine ⟨fun st h => ?_, fun v c k h => ?_, fun h => ?_⟩
  all_goals
    simp only [emtaskRes, hl, hfirst, hu, h, hlaunch, Launch.keepRange, if_neg h0, if_neg (Nat.not_le.2 hroom), if_true]
    exact (if_neg (by simpa [or_assoc] using hok)).trans rfl

/-- R228, R378, R390: the records of a range in this package: the launch keeps the range, and counts them. -/
theorem emtaskRes_emits {img : List Byte} {locs : List Nat} (hread : u.feRead q src 128 = .ok img)
    (hreach : u.feReach q .write dst (128 * n) = .ok locs) (hnear : ∀ x ∈ locs, isRemote x = false) (hfault : u.cairnFault locs = none) :
    ∃ t, emtaskRes s q hq p dst src n = .ok t [] ∧
      (t.launch l).census = L.census + n ∧ (t.launch l).ranges = L.ranges ++ [(dst % 2 ^ 56, hq.asid, n)] ∧
      t.mem = stored u (locs.zip ((List.range n).flatMap fun j => emitRecord img hq.asid l L.deadline.toNat (some j))) := by
  have hlaunch : s.launch l = L := by simp [State.launch, Tab.get, hL]
  have hlaunches : u.launches = s.launches := by
    obtain ⟨_, _, h⟩ := (s.feTouch_unitsOnly q src 128).trans (State.feTouch_unitsOnly _ q dst (128 * n))
    rw [← hu, h]
  generalize hL' : ({ L with ranges := L.ranges ++ [(dst % 2 ^ 56, hq.asid, n)], census := L.census + n } : Launch) = L'
  have hmod : (u.modLaunch l fun _ => L') = { u with launches := s.launches.set l L' } := by
    simp only [State.modLaunch, hlaunches, hL]
  generalize hw : ({ u with launches := s.launches.set l L' } : State) = w at hmod
  obtain ⟨t, hrun, hlaunchesT, hmem⟩ := emitRun_near (s := w) img hq.asid l L.deadline.toNat dst (feReach_length hreach) hnear
    (by rw [← hw, State.cairnFault_launches, hfault])
  refine ⟨t.modPacket q fun p => { p with emitted := 0, image := [] }, ?_, ?_⟩
  · simp only [emtaskRes, hl, hfirst, hu, hread, hreach, hlaunch, Launch.keepRange, if_neg h0, if_neg (Nat.not_le.2 hroom), if_true]
    rw [if_neg (by simpa [or_assoc] using hok)]
    simp only [FeRes.bind, FeRes.to, hL', hmod, Nat.sub_zero, hrun]
  · have hkept : t.launch l = L' := by
      rw [State.launch, hlaunchesT, ← hw]
      exact Tab.get_set ..
    rw [State.modPacket_eq]
    refine ⟨(congrArg Launch.census hkept).trans ?_, (congrArg Launch.ranges hkept).trans ?_, hmem.trans ?_⟩
    · rw [← hL']
    · rw [← hL']
    · rw [← hw]
      rfl

end

/-- Settles O43: EMTASK, EMLAUNCH and EMLAUNCH.CFG by the outcomes of their checks. -/
theorem launchWords : Obligations.LaunchWords := by
  unfold Obligations.LaunchWords
  intro g d a b
  refine ⟨frontSkips_of fun _ => rfl, frontSkips_of fun _ => rfl, frontSkips_of fun _ => rfl, ?_⟩
  intro s q p at_ hg r dst src n wrong va emt eml emc opens
  have hemt : exec emt s = .next (leavesFront q (emtaskRes s q (s.hqueue q) p dst src n)) :=
    congrArg Host.Outcome.next (frontWord_runs at_ hg _)
  have heml : exec eml s = .next (leavesFront q (emlaunchRes s q p d va)) := congrArg Host.Outcome.next (frontWord_runs at_ hg _)
  have hemc : exec emc s = .next (leavesFront q (emlaunchCfgRes s q p d va (va56 (r b)))) :=
    congrArg Host.Outcome.next (frontWord_runs at_ hg _)
  refine ⟨?wrong, ?nothing, ?full, ?emits, ?opened, ?opens, ?cfgOpened, ?cfgGroups, ?cfgTurn, ?cfgReads⟩
  case wrong => exact fun h => by rw [hemt, emtaskRes_wrong h]; rfl
  case nothing => exact fun l hl hok h0 => by rw [hemt, emtaskRes_nothing hl hok h0, leavesFront, frontPass_nil]
  case full => exact fun l hl hok h0 hfirst hfull => by rw [hemt, emtaskRes_full hl hok h0 hfirst hfull]; rfl
  case emits =>
    intro l L hl hL hok h0 hfirst hroom u
    obtain ⟨hstop, hfault, hhold⟩ := emtaskRes_reads hl hok h0 hfirst hL hroom (s.hqueue q) (u := u) rfl
    refine ⟨fun st h => ?_, fun v c k h => ?_, fun h => ?_, fun img locs hread hreach hnear hclear => ?_⟩
    · rw [hemt, hstop st h]; rfl
    · rw [hemt, hfault v c k h]; rfl
    · rw [hemt, hhold h]; rfl
    · obtain ⟨t, hres, hafter⟩ := emtaskRes_emits hl hok h0 hfirst hL hroom (s.hqueue q) (u := u) rfl hread hreach hnear hclear
      exact ⟨t, by rw [hemt, hres, leavesFront, frontPass_nil], hafter⟩
  case opened => exact fun h => by rw [heml, emlaunchRes, if_pos h]; rfl
  case opens => exact fun h => emlaunch_opens d (by rw [heml, emlaunchRes_eq h])
  case cfgOpened => exact fun h => by rw [hemc, emlaunchCfgRes, if_pos h]; rfl
  case cfgGroups => exact fun h hw => emlaunch_opens d (by rw [hemc, emlaunchCfgRes_groups h hw, emlaunchRes_eq h])
  case cfgTurn =>
    intro ps img tiles since h hw
    obtain ⟨hwait, hgo⟩ := emlaunchCfgRes_turn (s := s) (q := q) (d := d) (va := va) (dva := va56 (r b)) h hw
    exact ⟨fun t w ht => by rw [hemc, hwait t w ht]; rfl, fun t ht => emlaunch_opens d (by rw [hemc, hgo t ht, emlaunchRes_eq h])⟩
  case cfgReads =>
    intro h hw u
    have hres := emlaunchCfgRes_reads (d := d) h hw (u := u) rfl
    refine ⟨fun st hp => ?_, fun v c k hp => ?_, fun plan v c k hp hd => ?_, fun plan st hp hd => ?_, fun plan img ps item hp hd => ?_⟩
    · rw [hemc, hres, hp]; rfl
    · rw [hemc, hres, hp]; rfl
    · rw [hemc, hres, hp, FeRes.bind, hd]; rfl
    · rw [hemc, hres, hp, FeRes.bind, hd]; rfl
    · rw [hemc, hres, hp, FeRes.bind, hd]; rfl

end Sys2Proof.Claims
end
